-- ==== Sys2Proof/Word.lean ====
section
/-! DEFINITION. Word.lean: the word and byte types, the shape of a register field and of a register's descriptor. -/
namespace Sys2Proof

/-- Every register is 64 bits wide (R7). -/
abbrev Word := BitVec 64

abbrev Byte := BitVec 8

/-- A field of a register: its lowest bit and its width. -/
structure Field where
  lo : Nat
  width : Nat
  deriving DecidableEq, Repr

/-- The reset domains of registers (R8): a compute reset, a module reset, and the always-on domain, which neither touches. -/
inductive Domain where
  | compute
  | module
  | aon
  deriving DecidableEq, Repr

/-- What the register tables give of a register that may be repeated: the address of its first copy, the count
and the stride of each repetition (the widest stride first), the bits of each access code of R10 that a write
can act on, the value after reset and the reset domain. -/
structure RegDesc where
  base : Nat
  dims : List (Nat × Nat)
  rw : Nat
  rw1c : Nat
  rwl : Nat
  wo : Nat
  reset : Nat
  dom : Domain
  deriving DecidableEq, Repr

end Sys2Proof
end

