-- ==== Sys2Proof/Syntax.lean ====
section
/-! DEFINITION. Syntax.lean: the commands of the block, one constructor for each row of the opcode table, with the
operands that say which copy of a unit, register, port or stream a command names and what it carries. -/
namespace Sys2Proof

/-- A tile, by its physical number p (R13, R14). -/
abbrev Tile := Fin 256

/-- A byte offset in a tile's operand scratch (R105). -/
abbrev ScratchOff := Fin 0x80000

/-- The units of a tile that firmware halts one by one (R66, R95, R103, R115). -/
inductive UnitId where
  | me
  | vsp
  | su
  | ag (n : Fin 4)
  deriving DecidableEq, Repr

/-- A physical upset in a matrix engine pass (R51, R52): none; `delta` added to the block sum of a column; or one of
the two combine circuits of a column answering with the bits of `mask` inverted. -/
inductive MeUpset where
  | none
  | sum (col : Fin 256) (blk : Fin 4) (delta : Int)
  | combine (col : Fin 256) (mask : BitVec 32)
  deriving DecidableEq, Repr

/-- What a read of a memory word meets: nothing, a correctable error, or an uncorrectable error of the codewords in
`mask` (R130, R131). -/
inductive EccEvent where
  | none
  | ce
  | ue (mask : BitVec 8)
  deriving DecidableEq, Repr

/-- What a flit meets on a link (R153): corrected by its code, replayed and then correct, or a replay that failed. -/
inductive LinkFlit where
  | corrected
  | replayed
  | failed
  deriving DecidableEq, Repr

/-- A place in the mesh: tiles 0 to 255, edge die W 256, edge die E 257, stack controller i at 264 + i. -/
abbrev MeshPlace := Fin 272

/-- A register of the channel block that firmware writes while the endpoint concerned is halted (R186). -/
inductive ChReg where
  | cfg (e : Fin 64)
  | dest (e : Fin 64)
  | nextSeq (e : Fin 64)
  | sender (i : Fin 256)
  deriving DecidableEq, Repr

/-- How a Treup training goes (R322 to R324, R337): whether it fails before CAPS, lane reversal, the lanes of inverted
polarity and the lanes that fail, and what the partner sends in CAPS: its version bitmap, the features 0x03 to 0x07 that it
lists, its MAX_TAGS and MAX_LINES, and its first credits in slots. -/
structure TlTrain where
  fails : Bool
  reversed : Bool
  inverted : BitVec 32
  badLanes : BitVec 32
  versions : BitVec 8
  features : BitVec 5
  maxTags : BitVec 13
  maxLines : BitVec 4
  pw : BitVec 16
  np : BitVec 16
  snp : BitVec 16
  deriving DecidableEq, Repr

/-- What the training of a Lanel port with its partner finds (R356): the lanes that fail and those of inverted polarity. -/
structure LnTrain where
  bad : BitVec 4
  inverted : BitVec 4
  deriving DecidableEq, Repr

/-- The bytes of a Lanel frame as received: header, payload and tag (R369). -/
abbrev LnFrame := List Byte

/-- A Lanel port. -/
abbrev LnPort := Fin 12

/-- The header of a command packet (R345): the tag, the version it is written to, byte 6 and the flags; `tail` says
whether a byte after its last parameter field is not zero. -/
structure CmdHdr where
  tag : BitVec 16
  minor : BitVec 8
  major : BitVec 8
  ctx : BitVec 8
  flags : BitVec 8
  tail : Bool
  deriving DecidableEq, Repr

/-- How a tile test ends (R256, R277, R292): passed, failed in a part at an index, or with one vector lane group found
bad. -/
inductive TestOutcome where
  | pass
  | fail (part : Fin 5) (index : BitVec 8)
  | laneGroup (g : Fin 8)
  deriving DecidableEq, Repr


/-- What the first half of a boot finds (R429, R433): whether the PLL locks, the fuses are good, the store's records check and
LPDDR5X trains; the tiles and ports (8 for each tile: link ports, then channels) that fail the boot self-test, the stacks that
fail training, and the lanes repaired at the training of each stack, 8 bits a stack. -/
structure BootRun where
  pll : Bool
  fuse : Bool
  store : Bool
  lp : Bool
  tiles : BitVec 256
  ports : BitVec 2048
  hbm : BitVec 8
  lanes : BitVec 64
  deriving DecidableEq, Repr

/-- The temperature sensors in °C, 8 bits each (R444): one a tile, four an edge die, one a stack, and the coolant inlet. -/
structure Sensors where
  tiles : BitVec 2048
  edges : BitVec 64
  hbm : BitVec 64
  inlet : BitVec 8
  deriving DecidableEq, Repr

/-- A DEBUG access (R484, R485): the SCU's debug unit, or a read or a write of a register. -/
inductive DebugAccess where
  | scu
  | read (addr : BitVec 52)
  | write (addr : BitVec 52) (v : BitVec 64)
  deriving DecidableEq, Repr
/-- The commands of the block, one constructor for each row of the table. -/
inductive Instr where
  /-- IDENTIFY (R353). -/
  | identify (h : CmdHdr)
  /-- DEVICE_STATUS (R353). -/
  | deviceStatus (h : CmdHdr)
  /-- DEVICE_CONFIG (R353). -/
  | deviceConfig (h : CmdHdr) (ilv : BitVec 8) (drdyMask : BitVec 8) (computeLimit : BitVec 8) (moduleLimit : BitVec 8)
  /-- DEVICE_RESET_COMPUTE (R409). -/
  | deviceResetCompute (h : CmdHdr)
  /-- DEVICE_RESET_MODULE (R419). -/
  | deviceResetModule (h : CmdHdr)
  /-- CTX_CREATE (R353). -/
  | ctxCreate (h : CmdHdr) (hbmMib : BitVec 32) (lpMib : BitVec 32) (spillMib : BitVec 32) (conf : BitVec 8)
  /-- CTX_DESTROY (R221). -/
  | ctxDestroy (h : CmdHdr)
  /-- CTX_TIMING (R353). -/
  | ctxTiming (h : CmdHdr) (drainMs : BitVec 16) (progressUs : BitVec 16) (spillWidth : BitVec 8)
  /-- CTX_START (R216). -/
  | ctxStart (h : CmdHdr) (launch : BitVec 64)
  /-- CTX_STOP (R220). -/
  | ctxStop (h : CmdHdr)
  /-- CTX_QUERY (R353). -/
  | ctxQuery (h : CmdHdr)
  /-- PLATE_LOAD (R206). -/
  | plateLoad (h : CmdHdr) (image : BitVec 64) (length : BitVec 64)
  /-- PLATE_UNLOAD (R215). -/
  | plateUnload (h : CmdHdr)
  /-- PLATE_RECONFIGURE (R222). -/
  | plateReconfigure (h : CmdHdr) (image : BitVec 64) (length : BitVec 64)
  /-- CLASS_SET (R235). -/
  | classSet (h : CmdHdr) (cls : BitVec 8) (admitOn : BitVec 8) (boundUs : BitVec 32) (jitterUs : BitVec 32)
  /-- STREAM_CONFIG (R353). -/
  | streamConfig (h : CmdHdr) (log2Depth : BitVec 8)
  /-- STREAM_OPEN (R236). -/
  | streamOpen (h : CmdHdr) (cls : BitVec 8) (shadow : BitVec 8)
  /-- STREAM_CLOSE (R250). -/
  | streamClose (h : CmdHdr) (id : BitVec 32)
  /-- STREAM_QUERY (R353). -/
  | streamQuery (h : CmdHdr) (id : BitVec 32)
  /-- MEM_ALLOC (R311). -/
  | memAlloc (h : CmdHdr) (kind : BitVec 8) (host : BitVec 8) (pages : BitVec 32)
  /-- MEM_FREE (R311). -/
  | memFree (h : CmdHdr) (address : BitVec 64)
  /-- XE_ASSIGN (R353). -/
  | xeAssign (h : CmdHdr) (engine : BitVec 8) (ringLog2 : BitVec 8) (cplLog2 : BitVec 8) (ring : BitVec 64) (cpl : BitVec 64)
  /-- XE_STOP (R319). -/
  | xeStop (h : CmdHdr) (engine : BitVec 8)
  /-- XE_RESUME (R353). -/
  | xeResume (h : CmdHdr) (engine : BitVec 8)
  /-- MEM_QUERY (R353). -/
  | memQuery (h : CmdHdr)
  /-- HEALTH_READ (R353). -/
  | healthRead (h : CmdHdr) (buffer : BitVec 64)
  /-- LOUPE_REQUEST (R290). -/
  | loupeRequest (h : CmdHdr) (selector : BitVec 8) (count : BitVec 8) (vtile : BitVec 16) (region : BitVec 8) (tiles : BitVec 128)
  /-- LOUPE_STOP (R294). -/
  | loupeStop (h : CmdHdr)
  /-- ROTATION_PAUSE (R280). -/
  | rotationPause (h : CmdHdr)
  /-- ROTATION_RESUME (R280). -/
  | rotationResume (h : CmdHdr)
  /-- TILE_FENCE (R353). -/
  | tileFence (h : CmdHdr) (tile : BitVec 8)
  /-- TILE_RETEST (R264). -/
  | tileRetest (h : CmdHdr) (tile : BitVec 8)
  /-- HEALTH_CONFIG (R353). -/
  | healthConfig (h : CmdHdr) (remapWarn : BitVec 8) (ageAction : BitVec 8) (ageLimit : BitVec 8)
  /-- PROOF_CONFIG (R286). -/
  | proofConfig (h : CmdHdr) (steps : BitVec 16) (ms : BitVec 32) (enable : BitVec 8) (auto : BitVec 8)
  /-- PROOF_ROUND (R286). -/
  | proofRound (h : CmdHdr)
  /-- PROOF_READ (R289). -/
  | proofRead (h : CmdHdr)
  /-- PROOF_REGIONS (R353). -/
  | proofRegions (h : CmdHdr) (buffer : BitVec 64)
  /-- ATTEST (R391). -/
  | attest (h : CmdHdr) (nonce : BitVec 256) (buffer : BitVec 64)
  /-- KEY_IMPORT (R396). -/
  | keyImport (h : CmdHdr) (slot : BitVec 16) (buffer : BitVec 64) (length : BitVec 32)
  /-- KEY_ENROLL (R398). -/
  | keyEnroll (h : CmdHdr) (buffer : BitVec 64) (length : BitVec 32)
  /-- SEC_STATUS (R353). -/
  | secStatus (h : CmdHdr)
  /-- DIAG_OPEN (R353). -/
  | diagOpen (h : CmdHdr) (window : BitVec 8) (tile : BitVec 8)
  /-- DIAG_CLOSE (R353). -/
  | diagClose (h : CmdHdr) (window : BitVec 8) (tile : BitVec 8)
  /-- SHEET_READ (R425). -/
  | sheetRead (h : CmdHdr) (buffer : BitVec 64) (offset : BitVec 64) (length : BitVec 64)
  /-- COUNTERS_READ (R353). -/
  | countersRead (h : CmdHdr) (tile : BitVec 8) (buffer : BitVec 64)
  /-- TB_READ (R452). -/
  | tbRead (h : CmdHdr)
  /-- TB_ALIGN (R453). -/
  | tbAlign (h : CmdHdr) (source : BitVec 8)
  /-- CAL_SET (R456). -/
  | calSet (h : CmdHdr) (seconds : BitVec 64) (ns : BitVec 32)
  /-- CAL_DISCIPLINE (R456). -/
  | calDiscipline (h : CmdHdr) (offset : BitVec 64) (trim : BitVec 32)
  /-- LN_ENABLE (R360). -/
  | lnEnable (h : CmdHdr) (port : BitVec 8) (train : Option LnTrain)
  /-- LN_DISABLE (R364). -/
  | lnDisable (h : CmdHdr) (port : BitVec 8)
  /-- LN_STATUS (R353). -/
  | lnStatus (h : CmdHdr) (port : BitVec 8)
  /-- LN_JOIN (R381). -/
  | lnJoin (h : CmdHdr) (port : BitVec 8) (vid : BitVec 8) (step : BitVec 64)
  /-- PWR_STATE (R448). -/
  | pwrState (h : CmdHdr) (state : BitVec 8) (save : BitVec 64)
  /-- PWR_LIMIT (R443). -/
  | pwrLimit (h : CmdHdr) (limit : BitVec 16)
  /-- PWR_STATUS (R353). -/
  | pwrStatus (h : CmdHdr)
  /-- SUBMISSION_WATCH (R342). -/
  | submissionWatch
  /-- WATCH_POLL (R336). -/
  | watchPoll
  /-- READ (R328). -/
  | read (tag : BitVec 12) (addr : BitVec 52) (lines : Fin 8)
  /-- WRITE (R331). -/
  | write (tag : BitVec 12) (addr : BitVec 52) (lines : Fin 8) (data : BitVec 4096) (poison : Bool)
  /-- WRITE_MASKED (R328). -/
  | writeMasked (tag : BitVec 12) (addr : BitVec 52) (mask : BitVec 64) (data : BitVec 512) (poison : Bool)
  /-- ATOMIC (R328). -/
  | atomic (tag : BitVec 12) (addr : BitVec 52) (kind : BitVec 8) (operands : BitVec 256)
  /-- SHARE (R333). -/
  | share (tag : BitVec 12) (addr : BitVec 52)
  /-- OWN (R334). -/
  | own (tag : BitVec 12) (addr : BitVec 52)
  /-- RETURN (R335). -/
  | returnLine (tag : BitVec 12) (addr : BitVec 52) (dirty : Bool) (data : BitVec 512) (poison : Bool)
  /-- SNOOP_RSP (R334). -/
  | snoopRsp (addr : BitVec 52) (dirty : Bool) (data : BitVec 512) (poison : Bool)
  /-- CPL (R328). -/
  | cpl (tag : BitVec 12) (status : BitVec 4) (data : BitVec 4096) (poison : Bool)
  /-- SNOOP_TIMEOUT (R332). -/
  | snoopTimeout (addr : BitVec 52)
  /-- CPL_TIMEOUT (R332). -/
  | cplTimeout (tag : BitVec 12)
  /-- TL_REPLAY (R325). -/
  | tlReplay (lane : Fin 32) (flit : LinkFlit)
  /-- TL_RECOVERY (R326). -/
  | tlRecovery (late : Bool) (badLanes : BitVec 32)
  /-- TL_TRAINING (R323). -/
  | tlTraining (x : TlTrain)
  /-- TL_DOWN (R339). -/
  | tlDown
  /-- TL_DOWN_RETRY (R323). -/
  | tlDownRetry
  /-- RETRAIN (R323). -/
  | retrain
  /-- FULL_TRAIN (R323). -/
  | fullTrain
  /-- MESSAGE_SEND (R170). -/
  | messageSend (p : Tile) (e : Fin 64)
  /-- ROUTE_LOOKUP (R157). -/
  | routeLookup (p : Tile)
  /-- LINK_RETRY (R153). -/
  | linkRetry (p : Tile) (port : Fin 8) (flit : LinkFlit)
  /-- HOP_DECLARED_FAILED (R154). -/
  | hopDeclaredFailed (p : Tile) (port : Fin 8) (caught : Bool)
  /-- DATA (R166). -/
  | data (at_ : MeshPlace)
  /-- TOKEN (R166). -/
  | token (at_ : MeshPlace)
  /-- COUNTER_ADD (R189). -/
  | counterAdd (at_ : MeshPlace)
  /-- ACK (R170). -/
  | ack (at_ : MeshPlace)
  /-- NACK (R172). -/
  | nack (at_ : MeshPlace)
  /-- RETRY_ROUND (R173). -/
  | retryRound (at_ : MeshPlace) (e : Fin 64)
  /-- ACK_TIMEOUT (R171). -/
  | ackTimeout (at_ : MeshPlace) (e : Fin 64) (i : Fin 4)
  /-- REMOTE_WRITE (R142). -/
  | remoteWrite (at_ : MeshPlace)
  /-- REMOTE_READ (R142). -/
  | remoteRead (at_ : MeshPlace)
  /-- READ_RESP (R142). -/
  | readResp (p : Tile)
  /-- COMBINE (R177). -/
  | combine (at_ : MeshPlace)
  /-- COMBINE_EMIT (R178). -/
  | combineEmit (p : Tile) (e : Fin 64) (index : BitVec 32)
  /-- VCM_CONFIG (R210). -/
  | vcmConfig (p : Tile) (route : BitVec 64) (steps : Fin 32) (writes : List (BitVec 16 × BitVec 64))
  /-- VCM_HEAL (R161). -/
  | vcmHeal (p : Tile) (route : BitVec 64) (steps : Fin 32) (offset : BitVec 16) (v : BitVec 64)
  /-- VCM_MGMT (R161). -/
  | vcmMgmt (p : Tile) (route : BitVec 64) (steps : Fin 32)
  /-- PROGRESS_SAMPLE (R180). -/
  | progressSample
  /-- OVERFLOW_RETURN (R183). -/
  | overflowReturn (p : Tile) (e : Fin 64)
  /-- SELECT (R100). -/
  | selectOp (p : Tile) (j : Fin 8)
  /-- SWITCH (R100). -/
  | switchOp (p : Tile) (j : Fin 8)
  /-- GATE (R100). -/
  | gateOp (p : Tile) (j : Fin 8)
  /-- REPEAT (R100). -/
  | repeatOp (p : Tile) (j : Fin 8)
  /-- MERGE_ARRIVAL (R101). -/
  | mergeArrival (p : Tile) (j : Fin 8)
  /-- END (R100). -/
  | endOp (p : Tile) (j : Fin 8)
  /-- ME_PASS (R43). -/
  | mePass (p : Tile) (vec : ScratchOff) (scale : ScratchOff) (upset : MeUpset)
  /-- WEIGHT_BLOCK_LOAD (R59). -/
  | weightBlockLoad (p : Tile) (addr : ScratchOff)
  /-- SLICE_SET_EMIT (R35). -/
  | sliceSetEmit (p : Tile)
  /-- VSP_VECTOR (R71). -/
  | vspVector (p : Tile)
  /-- AG_ACCESS (R110). -/
  | agAccess (p : Tile) (n : Fin 4) (ecc : EccEvent)
  /-- QUEUE_PUSH (R120). -/
  | queuePush (p : Tile) (r : Fin 64) (hdr : BitVec 128)
  /-- QUEUE_POP (R120). -/
  | queuePop (p : Tile) (r : Fin 64)
  /-- RECORD_RELEASE (R124). -/
  | recordRelease (p : Tile) (r : Fin 64) (off : Fin 0x4000000)
  /-- WAIT_MET (R191). -/
  | waitMet (p : Tile) (u : Fin 8)
  /-- FOLD_QUOTA_EXPIRY (R219). -/
  | foldQuotaExpiry (p : Tile)
  /-- FOLD_SWITCH (R219). -/
  | foldSwitch (p : Tile)
  /-- SCRUB_READ (R132). -/
  | scrubRead (p : Tile) (sc : Bool) (word : Fin 0x100000) (ecc : EccEvent)
  /-- ROWCE_RELEASE (R133). -/
  | rowceRelease (p : Tile)
  /-- REMAP_LOAD (R134). -/
  | remapLoad (p : Tile) (sc : Bool) (bank : Fin 64) (row : Fin 1024) (spare : Fin 16)
  /-- REMAP (R135). -/
  | remap (p : Tile) (sc : Bool) (bank : Fin 64) (row : Fin 1024) (spare : Fin 16)
  /-- REMAP_COMPLETE (R135). -/
  | remapComplete (p : Tile)
  /-- FILL_TILE (R137). -/
  | fillTile (p : Tile)
  /-- FILL_RANGE (R137). -/
  | fillRange (p : Tile) (base : Fin 0x4000) (len : Fin 0x8000)
  /-- FILL_DONE (R137). -/
  | fillDone (p : Tile)
  /-- PROOF_HASH_GO (R285). -/
  | proofHashGo (p : Tile) (r : Fin 64)
  /-- PROOF_HASH_ABANDON (R285). -/
  | proofHashAbandon (p : Tile)
  /-- PROOF_HASH_DONE (R285). -/
  | proofHashDone (p : Tile)
  /-- ME_HALT_REQ (R66). -/
  | meHaltReq (p : Tile) (mode : BitVec 2)
  /-- ME_RESUME (R66). -/
  | meResume (p : Tile)
  /-- INJECT_CHECK (R69). -/
  | injectCheck (p : Tile)
  /-- INJECT_COMBINE (R69). -/
  | injectCombine (p : Tile)
  /-- VSP_HALT_REQ (R95). -/
  | vspHaltReq (p : Tile) (mode : BitVec 2)
  /-- VSP_RESUME (R95). -/
  | vspResume (p : Tile)
  /-- SU_HALT_REQ (R103). -/
  | suHaltReq (p : Tile) (mode : BitVec 2)
  /-- SU_RESUME (R103). -/
  | suResume (p : Tile)
  /-- AG_HALT_REQ (R115). -/
  | agHaltReq (p : Tile) (n : Fin 4) (mode : BitVec 2)
  /-- AG_RESUME (R115). -/
  | agResume (p : Tile) (n : Fin 4)
  /-- AG_RESTART (R114). -/
  | agRestart (p : Tile) (n : Fin 4)
  /-- UNIT_HALT_COMPLETE (R66). -/
  | unitHaltComplete (p : Tile) (u : UnitId)
  /-- UNIT_DRAIN_TIMEOUT (R66). -/
  | unitDrainTimeout (p : Tile) (u : UnitId)
  /-- VSP_LANE_DISABLE (R94). -/
  | vspLaneDisable (p : Tile) (v : BitVec 64)
  /-- AG_HASH_M (R109). -/
  | agHashM (p : Tile) (n : Fin 4) (i : Fin 3) (v : BitVec 64)
  /-- RGN_WRITE (R119). -/
  | rgnWrite (p : Tile) (r : Fin 64) (which : Fin 4) (v : BitVec 64)
  /-- RT_FENCE_REQ (R155). -/
  | rtFenceReq (p : Tile) (target : Fin 16) (caught : Bool)
  /-- RT_UNFENCE (R155). -/
  | rtUnfence (p : Tile) (target : Fin 16)
  /-- RT_ENTRY (R160). -/
  | rtEntry (p : Tile) (i : Fin 1024) (v : BitVec 64)
  /-- CH_EP_HALT_REQ (R185). -/
  | chEpHaltReq (p : Tile) (e : Fin 64) (mode : BitVec 2)
  /-- CH_EP_RESUME (R185). -/
  | chEpResume (p : Tile) (e : Fin 64)
  /-- OVERFLOW_ON (R181). -/
  | overflowOn (p : Tile) (e : Fin 64)
  /-- MARK_ACKED (R181). -/
  | markAcked (p : Tile) (e : Fin 64)
  /-- ENDPOINT_HALT_COMPLETE (R185). -/
  | endpointHaltComplete (p : Tile) (e : Fin 64)
  /-- ENDPOINT_DRAIN_TIMEOUT (R185). -/
  | endpointDrainTimeout (p : Tile) (e : Fin 64)
  /-- CH_CONFIG_WRITE (R186). -/
  | chConfigWrite (p : Tile) (which : ChReg) (v : BitVec 64)
  /-- SYNC_SET_CMD (R187). -/
  | syncSetCmd (p : Tile) (n : Fin 64)
  /-- SYNC_ADD (R189). -/
  | syncAdd (p : Tile) (n : Fin 64) (amount : BitVec 32)
  /-- FORCE_SWITCH (R219). -/
  | forceSwitch (p : Tile)
  /-- TILE_EPOCH_WRITE (R218). -/
  | tileEpochWrite (p : Tile) (v : BitVec 4)
  /-- CFG_CRC_CLEAR (R210). -/
  | cfgCrcClear (p : Tile)
  /-- TILE_FENCE_REQ (R262). -/
  | tileFenceReq (p : Tile) (cause : Fin 16)
  /-- TILE_RESET (R263). -/
  | tileReset (p : Tile)
  /-- TILE_UNFENCE (R262). -/
  | tileUnfence (p : Tile)
  /-- TEST_START (R275). -/
  | testStart (p : Tile) (set_ : Fin 4) (skipRouter : Bool)
  /-- TEST_ABANDON (R280). -/
  | testAbandon (p : Tile)
  /-- TILE_TEST_DONE (R277). -/
  | tileTestDone (p : Tile) (outcome : TestOutcome)
  /-- XE_HALT_REQ (R319). -/
  | xeHaltReq (g : Fin 2) (n : Fin 16) (mode : BitVec 2)
  /-- XE_ENG_RESUME (R319). -/
  | xeEngResume (g : Fin 2) (n : Fin 16)
  /-- XE_DRAIN_TIMEOUT (R319). -/
  | xeDrainTimeout (g : Fin 2) (n : Fin 16)
  /-- XE_DESCRIPTOR_START (R316). -/
  | xeDescriptorStart (g : Fin 2) (n : Fin 16)
  /-- XE_DESCRIPTOR_COMPLETE (R317). -/
  | xeDescriptorComplete (g : Fin 2) (n : Fin 16) (i : Fin 2)
  /-- LN_PORT_ENABLE (R360). -/
  | lnPortEnable (n : LnPort) (train : Option LnTrain)
  /-- LN_DISABLE_REQ (R364). -/
  | lnDisableReq (n : LnPort) (mode : BitVec 2)
  /-- SAMPLER_START (R470). -/
  | samplerStart
  /-- SAMPLER_STOP (R466). -/
  | samplerStop
  /-- SEC_PURGE (R403). -/
  | secPurge (p : Tile)
  /-- BELFRY_COUNT (R416). -/
  | belfryCount
  /-- REGISTER_WRITE (R10). -/
  | registerWrite (addr : BitVec 52) (whole : Bool) (v : BitVec 64)
  /-- INPUT_RING_READ (R230). -/
  | inputRingRead (c : Fin 16) (k : Fin 4096)
  /-- GATHER (R239). -/
  | gather (c : Fin 16)
  /-- SHADOW_COPY (R248). -/
  | shadowCopy (c : Fin 16) (k : Fin 4096)
  /-- COMPLETION (R242). -/
  | completion
  /-- DEADLINE_TIMER (R243). -/
  | deadlineTimer
  /-- OVERFLOW_RECORD (R234). -/
  | overflowRecord (c : Fin 16)
  /-- STREAM_END (R250). -/
  | streamEnd (c : Fin 16) (k : Fin 4096)
  /-- END_TIMEOUT (R252). -/
  | endTimeout (c : Fin 16) (k : Fin 4096)
  /-- CONTEXT_DRAIN_COMPLETE (R220). -/
  | contextDrainComplete (c : Fin 16)
  /-- CONTEXT_DRAIN_TIMEOUT (R220). -/
  | contextDrainTimeout (c : Fin 16)
  /-- DRAIN_FAILED (R220). -/
  | drainFailed (c : Fin 16)
  /-- LOAD_READY (R211). -/
  | loadReady (c : Fin 16)
  /-- ZEROISE_COMPLETE (R405). -/
  | zeroiseComplete (c : Fin 16)
  /-- FAULT_SIGNAL (R260). -/
  | faultSignal
  /-- UNIT_HANG (R261). -/
  | unitHang (p : Tile) (u : Fin 8)
  /-- HEAL (R267). -/
  | heal (c : Fin 16) (v : Fin 256)
  /-- HEAL_COMPLETE (R271). -/
  | healComplete (c : Fin 16)
  /-- ROTATION_SCHEDULE (R273). -/
  | rotationSchedule
  /-- LOUPE_START (R291). -/
  | loupeStart
  /-- TEST_OVERDUE (R279). -/
  | testOverdue
  /-- PROOF_ROUND_END (R288). -/
  | proofRoundEnd (c : Fin 16)
  /-- COMPUTE_RESET (R410). -/
  | computeReset (tiles : BitVec 256) (ports : BitVec 2048)
  /-- MODULE_RESET (R415). -/
  | moduleReset
  /-- WATCHDOG_FIRE (R417). -/
  | watchdogFire (sections : Fin 8) (excerpts : BitVec 16)
  /-- WARM_RESTART (R436). -/
  | warmRestart
  /-- STUB_TIMEOUT (R417). -/
  | stubTimeout
  /-- POWER_ON (R428). -/
  | powerOn (vinA : BitVec 16) (vinB : BitVec 16)
  /-- BOOT_SEQUENCE (R429). -/
  | bootSequence (x : BootRun)
  /-- IMAGE_LOAD_REQUEST (R431). -/
  | imageLoadRequest
  /-- FW_INIT (R434). -/
  | fwInit (baseW : BitVec 12) (svnOk : Bool)
  /-- FW_INIT_TIMEOUT (R433). -/
  | fwInitTimeout
  /-- RESET_N (R478). -/
  | resetN (held : Bool)
  /-- PLL_UNLOCK (R437). -/
  | pllUnlock
  /-- INPUT_RANGE (R438). -/
  | inputRange (vinA : BitVec 16) (vinB : BitVec 16) (iin : BitVec 16)
  /-- INPUT_SHUTDOWN (R438). -/
  | inputShutdown
  /-- VBAT_LOSS (R455). -/
  | vbatLoss
  /-- GATE_STEP_DOWN (R441). -/
  | gateStepDown (watts : BitVec 12)
  /-- GATE_STEP_UP (R441). -/
  | gateStepUp (watts : BitVec 12) (ctxWatts : BitVec 192)
  /-- OVER_LIMIT (R442). -/
  | overLimit
  /-- OVER_LIMIT_CLEAR (R442). -/
  | overLimitClear
  /-- SENSOR_READ (R444). -/
  | sensorRead (x : Sensors)
  /-- THERMAL_EMERGENCY (R445). -/
  | thermalEmergency
  /-- THERMAL_EMERGENCY_END (R445). -/
  | thermalEmergencyEnd
  /-- TB_SLEW_STEP (R453). -/
  | tbSlewStep
  /-- SYNC_IN_EDGE (R454). -/
  | syncInEdge (frac : BitVec 6)
  /-- HBM_ECS_POLL (R303). -/
  | hbmEcsPoll (i : Fin 8) (count : BitVec 32) (bad : Option (Fin 0x50000000))
  /-- MEM_CE_RATE (R321). -/
  | memCeRate (k : Fin 16)
  /-- SAMPLE_INSTANT (R466). -/
  | sampleInstant
  /-- EGRESS_SEND (R376). -/
  | egressSend (die : Fin 2) (proxy : Fin 64)
  /-- INGRESS_FRAME (R377). -/
  | ingressFrame (n : LnPort) (frame : LnFrame)
  /-- TRANSIT_FRAME (R370). -/
  | transitFrame (n : LnPort) (frame : LnFrame)
  /-- PROXY_CREDIT (R376). -/
  | proxyCredit (n : LnPort) (frame : LnFrame)
  /-- LN_REPLAY (R358). -/
  | lnReplay (n : LnPort) (lane : Fin 4) (flit : LinkFlit)
  /-- LN_RETRAIN (R359). -/
  | lnRetrain (n : LnPort) (lockLost : Bool)
  /-- TRAIN_TIMEOUT (R360). -/
  | trainTimeout (n : LnPort)
  /-- DOWN_RETRY (R360). -/
  | downRetry (n : LnPort) (train : Option LnTrain)
  /-- KEEPALIVE_SEND (R361). -/
  | keepaliveSend (n : LnPort)
  /-- KEEPALIVE_TIMEOUT (R361). -/
  | keepaliveTimeout (n : LnPort)
  /-- CREDIT_TIMEOUT (R361). -/
  | creditTimeout (n : LnPort)
  /-- HELLO (R365). -/
  | hello (n : LnPort) (frame : LnFrame)
  /-- KEM (R365). -/
  | kem (n : LnPort) (frame : LnFrame)
  /-- SIGN (R365). -/
  | sign (n : LnPort) (frame : LnFrame)
  /-- FINISHED (R365). -/
  | finished (n : LnPort) (frame : LnFrame)
  /-- HANDSHAKE_TIMEOUT (R363). -/
  | handshakeTimeout (n : LnPort)
  /-- REKEY (R367). -/
  | rekey (n : LnPort) (frame : Option LnFrame)
  /-- REKEY_SWITCH (R367). -/
  | rekeySwitch (n : LnPort) (frame : LnFrame)
  /-- REKEY_TIMEOUT (R367). -/
  | rekeyTimeout (n : LnPort)
  /-- CLOSE (R364). -/
  | close (n : LnPort) (frame : LnFrame)
  /-- LN_DRAIN_TIMEOUT (R364). -/
  | lnDrainTimeout (n : LnPort)
  /-- TB_REQ (R379). -/
  | tbReq (n : LnPort) (frame : LnFrame)
  /-- TB_RSP (R379). -/
  | tbRsp (n : LnPort) (frame : LnFrame)
  /-- JOIN_REQ (R381). -/
  | joinReq (n : LnPort) (frame : LnFrame)
  /-- JOIN_DATA (R381). -/
  | joinData (n : LnPort) (frame : LnFrame)
  /-- JOIN_END (R381). -/
  | joinEnd (n : LnPort) (frame : LnFrame)
  /-- JOIN_STEP_REACHED (R381). -/
  | joinStepReached (c : Fin 16)
  /-- STATUS (R480). -/
  | status
  /-- TELEMETRY (R480). -/
  | telemetry
  /-- HEALTH (R480). -/
  | health
  /-- BOOT (R480). -/
  | boot
  /-- POWER_REQ (R481). -/
  | powerReq (value : BitVec 8) (pec : Bool)
  /-- ESTOP (R482). -/
  | estop (value : BitVec 8) (pec : Bool)
  /-- ESTOP_RELEASE (R482). -/
  | estopRelease (value : BitVec 8) (pec : Bool)
  /-- RESET_REQ (R481). -/
  | resetReq (value : BitVec 8) (pec : Bool)
  /-- BYPASS (R484). -/
  | bypass
  /-- IDCODE (R484). -/
  | idcode
  /-- SAMPLE_PRELOAD (R484). -/
  | samplePreload
  /-- EXTEST (R484). -/
  | extest
  /-- CLAMP (R484). -/
  | clamp
  /-- HIGHZ (R484). -/
  | highz
  /-- DEBUG (R485). -/
  | debug (access : DebugAccess)
  /-- TAP_RESET (R485). -/
  | tapReset
  /-- CONTROLLER_PATROL_SCRUB (R304). -/
  | controllerPatrolScrub (k : Fin 16) (line : Fin 0x80000000) (row : BitVec 32) (spare : Bool) (ecc : EccEvent)
  /-- SIGNING_QUEUE (R389). -/
  | signingQueue (journalOk : Bool)
  /-- NO_SYNC (R454). -/
  | noSync
  /-- CAL_SLEW_STEP (R456). -/
  | calSlewStep
  /-- KEEPALIVE (R361). -/
  | keepalive (n : LnPort) (frame : LnFrame)
  /-- MIRROR_REFRESH (R479). -/
  | mirrorRefresh
  /-- VBAT_LOW (R475). -/
  | vbatLow (low : Bool)
  /-- LVC_CREDIT (R372). -/
  | lvcCredit (n : LnPort) (lvc : Fin 4) (units : BitVec 16)
  /-- TL_CREDIT (R330). -/
  | tlCredit (pw : BitVec 16) (np : BitVec 16) (snp : BitVec 16)
  deriving DecidableEq, Repr

end Sys2Proof
end

