-- ==== Sys2Proof/Config.lean ====
section
/-! DEFINITION. Config.lean: what the spec leaves open. Each constant has no body, so nothing can be proved of its
value: a statement about it holds for every value. -/
namespace Sys2Proof.Config

/-- DESIGN CHOICE (log 8). A fresh value that the spec does not state, drawn by the model's counter. -/
opaque freeNat : Nat → Nat

/-- DESIGN CHOICE (log 10). The result of a transcendental function of stage 4 (R84, R85) where the spec gives an
accuracy and not the value: the operation code and the FP32 code of the argument. -/
opaque transcend : Nat → Nat → Nat

/-- DESIGN CHOICE (log 10). The code that the exit half gives an MXINT8 element of +2.0, which R81 reaches and R37 has
no code for. -/
opaque mxint8Top : Nat → Nat

/-- DESIGN CHOICE (log 9). The verdict of an HSS/LMS verification (R197, R384, RFC 8554): the public key, the digest
and the signature bytes. -/
opaque hssVerify : List Byte → List Byte → List Byte → Bool

/-- DESIGN CHOICE (log 9). The bytes of an HSS signature by the identity key over a digest with leaf `leaf` (R388). -/
opaque hssSign : Nat → List Byte → List Byte

/-- DESIGN CHOICE (log 9). The identity public key (R386), of the part's serial number. -/
opaque identityKey : Nat → List Byte

/-- DESIGN CHOICE (log 9). AES-256-GCM decryption (R205, R396): key, IV, additional data, ciphertext with its tag;
none when the tag fails. -/
opaque gcmOpen : List Byte → List Byte → List Byte → List Byte → Option (List Byte)

/-- DESIGN CHOICE (log 9). ML-KEM-1024 decapsulation with the module's key (R396). -/
opaque kemDecap : Nat → List Byte → List Byte

/-- DESIGN CHOICE (log 9). The module's serial number and the hash of the firmware-signing root key, from fuses (R383). -/
opaque serial : Nat
opaque rootHash : List Byte

/-- DESIGN CHOICE (log 9). The module's certificate chain (R387), and whether a chain certifies a public key. -/
opaque certChain : List Byte
opaque chainOk : List Byte → List Byte → Bool

/-- DESIGN CHOICE (log 9). The device's ML-KEM-1024 encapsulation key (R394). -/
opaque kemKey : List Byte

/-- DESIGN CHOICE (log 9). ML-KEM-1024 for a handshake (R365): the encapsulation key of a seed, the ciphertext and the secret
of an encapsulation to a key with a seed, the secret that the seed's key decapsulates. -/
opaque kemPublic : Nat → List Byte
opaque kemEncap : List Byte → Nat → List Byte
opaque kemSecret : List Byte → Nat → List Byte
opaque kemOpen : Nat → List Byte → List Byte

/-- DESIGN CHOICE (log 9). AES-256-GCM encryption (R366): key, nonce, additional data, plaintext; ciphertext and tag. -/
opaque gcmSeal : List Byte → List Byte → List Byte → List Byte → List Byte

/-- DESIGN CHOICE (log 21). What a firmware image says, whose layout the spec does not give (R384, R385, R433): the length in
its header, its root public key, whether its signature verifies under that key, its svn, commit_svn and its version. -/
opaque imageLength : List Byte → Nat
opaque imageRoot : List Byte → List Byte
opaque imageSigned : List Byte → Bool
opaque imageSvn : List Byte → Nat
opaque imageCommit : List Byte → Bool
opaque imageVersion : List Byte → Nat

/-- DESIGN CHOICE (log 30). The cause codes of POWER events, which the spec does not give (R354): of 0 a change of state, 1
INPUT_RANGE, 2 OVER_LIMIT, 3 and 4 the start and end of a thermal emergency, 5 INLET_HOT, 6 SLUMBER_EXIT, 7 ESTOP, 8 and 9 the
start and end of throttling. -/
opaque powerCause : Nat → Nat

/-- DESIGN CHOICE (log 33). The board revision, in IDCODE and on the label (R484, R486). -/
opaque revision : Nat

end Sys2Proof.Config
end

