-- ==== Sys2Proof/Machine/Bits.lean ====
section
/-! DEFINITION. Machine/Bits.lean: reading and writing a field of a word, masks, and little-endian bytes (R12). -/
namespace Sys2Proof

/-- The ones of a field of width `f.width`, at bit 0. -/
def Field.ones (f : Field) : Word := BitVec.ofNat 64 (2 ^ f.width - 1)

/-- The value of a field. -/
def Field.get (f : Field) (v : Word) : Nat := (v.toNat >>> f.lo) % 2 ^ f.width

/-- `v` with the field holding the low bits of `x`. -/
def Field.set (f : Field) (x : Nat) (v : Word) : Word :=
  (v &&& ~~~ (f.ones <<< f.lo)) ||| (BitVec.ofNat 64 (x % 2 ^ f.width) <<< f.lo)

namespace Machine

/-- Bits `lo` to `lo + w - 1` of a number. -/
def bits (v lo w : Nat) : Nat := (v >>> lo) % 2 ^ w

/-- Bit `i` of a number. -/
def bitOf (v i : Nat) : Bool := bits v i 1 = 1

/-- 1 for true, 0 for false. -/
def b2n (b : Bool) : Nat := if b then 1 else 0

/-- The `n` bytes of `v`, least significant first (R12). -/
def leBytes (n v : Nat) : List Byte :=
  match n with
  | 0 => []
  | k + 1 => BitVec.ofNat 8 v :: leBytes k (v / 256)

/-- The number whose bytes, least significant first, are `l` (R12). -/
def ofBytes (l : List Byte) : Nat :=
  match l with
  | [] => 0
  | b :: t => b.toNat + 256 * ofBytes t

/-- The two's-complement reading of the low `w` bits of `v`. -/
def signed (w v : Nat) : Int :=
  let u := v % 2 ^ w
  if u < 2 ^ (w - 1) then (u : Int) else (u : Int) - (2 ^ w : Int)

/-- `x` in `w` bits of two's complement. -/
def toTwos (w : Nat) (x : Int) : Nat := (x % (2 ^ w : Int)).toNat

/-- The quotient rounded up. -/
def ceilDiv (a b : Nat) : Nat := (a + b - 1) / b

/-- `a` rounded up to a multiple of `b`. -/
def roundUp (a b : Nat) : Nat := ceilDiv a b * b

/-- The serial difference of two free-running 64-bit indexes (R118, R340): how far `a` is ahead of `b`. -/
def ahead (a b : Nat) : Nat := (a + 2 ^ 64 - b % 2 ^ 64) % 2 ^ 64

end Machine
end Sys2Proof
end

