-- ==== Sys2Proof/Machine/RegMap.lean ====
section
/-! DEFINITION. Machine/RegMap.lean: the registers of the module, one address function and one definition for
each field, generated from the register tables that end the chapters of spec/ (chapters 2 to 18, 20), with the
block bases of R29 (tile windows) and R30 (global windows). -/
namespace Sys2Proof.Machine

/-- ME_ID, 02_matrix_engine.md. -/
def ME_ID (p : Nat) : Nat := 0x28000001000 + 0x10000 * p
def ME_ID.rows : Field := ⟨0, 8⟩
def ME_ID.columns : Field := ⟨8, 8⟩
def ME_ID.format_mask : Field := ⟨16, 16⟩
def ME_ID.acc_depth : Field := ⟨32, 16⟩
def ME_ID.revision : Field := ⟨48, 8⟩
/-- ME_CTRL, 02_matrix_engine.md. -/
def ME_CTRL (p : Nat) : Nat := 0x28000001008 + 0x10000 * p
def ME_CTRL.halt_req : Field := ⟨0, 1⟩
def ME_CTRL.halt_mode : Field := ⟨1, 2⟩
def ME_CTRL.resume : Field := ⟨3, 1⟩
def ME_CTRL.inject_check : Field := ⟨4, 1⟩
def ME_CTRL.inject_combine : Field := ⟨5, 1⟩
def ME_CTRL.perf_freeze : Field := ⟨8, 1⟩
def ME_CTRL.drain_timeout_us : Field := ⟨16, 8⟩
/-- ME_STATUS, 02_matrix_engine.md. -/
def ME_STATUS (p : Nat) : Nat := 0x28000001010 + 0x10000 * p
def ME_STATUS.busy : Field := ⟨0, 1⟩
def ME_STATUS.halted : Field := ⟨1, 1⟩
def ME_STATUS.halting : Field := ⟨2, 1⟩
def ME_STATUS.active_slot : Field := ⟨3, 3⟩
def ME_STATUS.shadow_full : Field := ⟨6, 1⟩
def ME_STATUS.active_valid : Field := ⟨7, 1⟩
def ME_STATUS.w_format : Field := ⟨8, 4⟩
def ME_STATUS.a_format : Field := ⟨12, 4⟩
def ME_STATUS.acc_entries_in_use : Field := ⟨16, 9⟩
/-- ME_FAULT, 02_matrix_engine.md. -/
def ME_FAULT (p : Nat) : Nat := 0x28000001018 + 0x10000 * p
def ME_FAULT.check_fault : Field := ⟨0, 1⟩
def ME_FAULT.combine_fault : Field := ⟨1, 1⟩
def ME_FAULT.tol_fault : Field := ⟨2, 1⟩
def ME_FAULT.weight_ecc : Field := ⟨3, 1⟩
def ME_FAULT.config_fault : Field := ⟨4, 1⟩
def ME_FAULT.drain_fallback : Field := ⟨5, 1⟩
/-- ME_FAULT_LOG, 02_matrix_engine.md. -/
def ME_FAULT_LOG (p : Nat) : Nat := 0x28000001020 + 0x10000 * p
def ME_FAULT_LOG.kind : Field := ⟨0, 4⟩
def ME_FAULT_LOG.slot : Field := ⟨4, 3⟩
def ME_FAULT_LOG.row_block : Field := ⟨7, 2⟩
def ME_FAULT_LOG.block_seq : Field := ⟨16, 16⟩
def ME_FAULT_LOG.pass_low : Field := ⟨32, 32⟩
/-- ME_FAULT_TIME, 02_matrix_engine.md. -/
def ME_FAULT_TIME (p : Nat) : Nat := 0x28000001028 + 0x10000 * p
def ME_FAULT_TIME.tb_count : Field := ⟨0, 64⟩
/-- ME_CHECK_FAULTS, 02_matrix_engine.md. -/
def ME_CHECK_FAULTS (p : Nat) : Nat := 0x28000001030 + 0x10000 * p
def ME_CHECK_FAULTS.check_faults : Field := ⟨0, 32⟩
def ME_CHECK_FAULTS.combine_faults : Field := ⟨32, 32⟩
/-- ME_TOL_FAULTS, 02_matrix_engine.md. -/
def ME_TOL_FAULTS (p : Nat) : Nat := 0x28000001038 + 0x10000 * p
def ME_TOL_FAULTS.tol_faults : Field := ⟨0, 32⟩
/-- ME_CHECK_SKIPPED, 02_matrix_engine.md. -/
def ME_CHECK_SKIPPED (p : Nat) : Nat := 0x28000001040 + 0x10000 * p
def ME_CHECK_SKIPPED.resident_unchecked : Field := ⟨0, 16⟩
def ME_CHECK_SKIPPED.passes_unchecked : Field := ⟨32, 32⟩
/-- ME_BUSY_CYCLES, 02_matrix_engine.md. -/
def ME_BUSY_CYCLES (p : Nat) : Nat := 0x28000001048 + 0x10000 * p
def ME_BUSY_CYCLES.count : Field := ⟨0, 48⟩
def ME_BUSY_CYCLES.wrapped : Field := ⟨63, 1⟩
/-- ME_PASS_COUNT, 02_matrix_engine.md. -/
def ME_PASS_COUNT (p : Nat) : Nat := 0x28000001050 + 0x10000 * p
def ME_PASS_COUNT.count : Field := ⟨0, 48⟩
def ME_PASS_COUNT.wrapped : Field := ⟨63, 1⟩
/-- ME_STALL_WEIGHT, 02_matrix_engine.md. -/
def ME_STALL_WEIGHT (p : Nat) : Nat := 0x28000001058 + 0x10000 * p
def ME_STALL_WEIGHT.count : Field := ⟨0, 48⟩
def ME_STALL_WEIGHT.wrapped : Field := ⟨63, 1⟩
/-- ME_STALL_INPUT, 02_matrix_engine.md. -/
def ME_STALL_INPUT (p : Nat) : Nat := 0x28000001060 + 0x10000 * p
def ME_STALL_INPUT.count : Field := ⟨0, 48⟩
def ME_STALL_INPUT.wrapped : Field := ⟨63, 1⟩
/-- ME_STALL_OUTPUT, 02_matrix_engine.md. -/
def ME_STALL_OUTPUT (p : Nat) : Nat := 0x28000001068 + 0x10000 * p
def ME_STALL_OUTPUT.count : Field := ⟨0, 48⟩
def ME_STALL_OUTPUT.wrapped : Field := ⟨63, 1⟩
/-- ME_SLOT_CFG, 02_matrix_engine.md. -/
def ME_SLOT_CFG (p : Nat) (n : Nat) : Nat := 0x28000001100 + 0x10000 * p + 0x10 * n
def ME_SLOT_CFG.w_format : Field := ⟨0, 4⟩
def ME_SLOT_CFG.a_format : Field := ⟨4, 4⟩
def ME_SLOT_CFG.enable : Field := ⟨8, 1⟩
def ME_SLOT_CFG.k_slices : Field := ⟨9, 12⟩
def ME_SLOT_CFG.run_len : Field := ⟨21, 9⟩
def ME_SLOT_CFG.emit_target : Field := ⟨30, 2⟩
def ME_SLOT_CFG.emit_region : Field := ⟨32, 6⟩
def ME_SLOT_CFG.tol_exp : Field := ⟨40, 5⟩
/-- ME_SLOT_ASCALE, 02_matrix_engine.md. -/
def ME_SLOT_ASCALE (p : Nat) (n : Nat) : Nat := 0x28000001108 + 0x10000 * p + 0x10 * n
def ME_SLOT_ASCALE.a_scale : Field := ⟨0, 32⟩
/-- VSP_ID, 03_vector_and_steering.md. -/
def VSP_ID (p : Nat) : Nat := 0x28000002000 + 0x10000 * p
def VSP_ID.lanes : Field := ⟨0, 8⟩
def VSP_ID.stages : Field := ⟨8, 4⟩
def VSP_ID.lane_groups : Field := ⟨12, 4⟩
def VSP_ID.revision : Field := ⟨16, 8⟩
/-- VSP_CTRL, 03_vector_and_steering.md. -/
def VSP_CTRL (p : Nat) : Nat := 0x28000002008 + 0x10000 * p
def VSP_CTRL.halt_req : Field := ⟨0, 1⟩
def VSP_CTRL.halt_mode : Field := ⟨1, 2⟩
def VSP_CTRL.resume : Field := ⟨3, 1⟩
def VSP_CTRL.perf_freeze : Field := ⟨8, 1⟩
def VSP_CTRL.drain_timeout_us : Field := ⟨16, 8⟩
/-- VSP_STATUS, 03_vector_and_steering.md. -/
def VSP_STATUS (p : Nat) : Nat := 0x28000002010 + 0x10000 * p
def VSP_STATUS.busy : Field := ⟨0, 1⟩
def VSP_STATUS.halted : Field := ⟨1, 1⟩
def VSP_STATUS.halting : Field := ⟨2, 1⟩
def VSP_STATUS.active_slot : Field := ⟨3, 3⟩
def VSP_STATUS.half_rate : Field := ⟨6, 1⟩
def VSP_STATUS.groups_enabled : Field := ⟨8, 8⟩
/-- VSP_FAULT, 03_vector_and_steering.md. -/
def VSP_FAULT (p : Nat) : Nat := 0x28000002018 + 0x10000 * p
def VSP_FAULT.config_fault : Field := ⟨0, 1⟩
def VSP_FAULT.carry_fault : Field := ⟨1, 1⟩
def VSP_FAULT.read_ecc : Field := ⟨2, 1⟩
def VSP_FAULT.drain_fallback : Field := ⟨3, 1⟩
/-- VSP_EXC, 03_vector_and_steering.md. -/
def VSP_EXC (p : Nat) : Nat := 0x28000002020 + 0x10000 * p
def VSP_EXC.nan_produced : Field := ⟨0, 32⟩
def VSP_EXC.conv_events : Field := ⟨32, 32⟩
/-- VSP_BUSY_CYCLES, 03_vector_and_steering.md. -/
def VSP_BUSY_CYCLES (p : Nat) : Nat := 0x28000002028 + 0x10000 * p
def VSP_BUSY_CYCLES.count : Field := ⟨0, 48⟩
def VSP_BUSY_CYCLES.wrapped : Field := ⟨63, 1⟩
/-- VSP_STALL_INPUT, 03_vector_and_steering.md. -/
def VSP_STALL_INPUT (p : Nat) : Nat := 0x28000002030 + 0x10000 * p
def VSP_STALL_INPUT.count : Field := ⟨0, 48⟩
def VSP_STALL_INPUT.wrapped : Field := ⟨63, 1⟩
/-- VSP_STALL_OUTPUT, 03_vector_and_steering.md. -/
def VSP_STALL_OUTPUT (p : Nat) : Nat := 0x28000002038 + 0x10000 * p
def VSP_STALL_OUTPUT.count : Field := ⟨0, 48⟩
def VSP_STALL_OUTPUT.wrapped : Field := ⟨63, 1⟩
/-- VSP_STALL_CARRY, 03_vector_and_steering.md. -/
def VSP_STALL_CARRY (p : Nat) : Nat := 0x28000002040 + 0x10000 * p
def VSP_STALL_CARRY.count : Field := ⟨0, 48⟩
def VSP_STALL_CARRY.wrapped : Field := ⟨63, 1⟩
/-- VSP_LANE_DISABLE, 03_vector_and_steering.md. -/
def VSP_LANE_DISABLE (p : Nat) : Nat := 0x28000002048 + 0x10000 * p
def VSP_LANE_DISABLE.group_disable : Field := ⟨0, 8⟩
/-- VSP_SLOT_IO, 03_vector_and_steering.md. -/
def VSP_SLOT_IO (p : Nat) (n : Nat) : Nat := 0x28000002080 + 0x10000 * p + 0x8 * n
def VSP_SLOT_IO.in_src : Field := ⟨0, 3⟩
def VSP_SLOT_IO.in_queue : Field := ⟨3, 6⟩
def VSP_SLOT_IO.out_dst : Field := ⟨9, 1⟩
def VSP_SLOT_IO.out_queue : Field := ⟨10, 6⟩
def VSP_SLOT_IO.out_ag : Field := ⟨16, 2⟩
def VSP_SLOT_IO.out_item_vectors : Field := ⟨18, 6⟩
/-- VSP_SR_SEED, 03_vector_and_steering.md. -/
def VSP_SR_SEED (p : Nat) (n : Nat) : Nat := 0x280000020C0 + 0x10000 * p + 0x8 * n
def VSP_SR_SEED.seed : Field := ⟨0, 64⟩
/-- VSP_STAGE_LO, 03_vector_and_steering.md. -/
def VSP_STAGE_LO (p : Nat) (n : Nat) (s : Nat) : Nat := 0x28000002100 + 0x10000 * p + 0x80 * n + 0x10 * s
def VSP_STAGE_LO.word : Field := ⟨0, 64⟩
/-- VSP_STAGE_HI, 03_vector_and_steering.md. -/
def VSP_STAGE_HI (p : Nat) (n : Nat) (s : Nat) : Nat := 0x28000002108 + 0x10000 * p + 0x80 * n + 0x10 * s
def VSP_STAGE_HI.word : Field := ⟨0, 64⟩
/-- SU_ID, 03_vector_and_steering.md. -/
def SU_ID (p : Nat) : Nat := 0x28000003000 + 0x10000 * p
def SU_ID.ops_per_slot : Field := ⟨0, 4⟩
def SU_ID.slots : Field := ⟨4, 4⟩
def SU_ID.revision : Field := ⟨8, 8⟩
/-- SU_CTRL, 03_vector_and_steering.md. -/
def SU_CTRL (p : Nat) : Nat := 0x28000003008 + 0x10000 * p
def SU_CTRL.halt_req : Field := ⟨0, 1⟩
def SU_CTRL.halt_mode : Field := ⟨1, 2⟩
def SU_CTRL.resume : Field := ⟨3, 1⟩
def SU_CTRL.perf_freeze : Field := ⟨8, 1⟩
def SU_CTRL.drain_timeout_us : Field := ⟨16, 8⟩
/-- SU_STATUS, 03_vector_and_steering.md. -/
def SU_STATUS (p : Nat) : Nat := 0x28000003010 + 0x10000 * p
def SU_STATUS.halted : Field := ⟨0, 1⟩
def SU_STATUS.halting : Field := ⟨1, 1⟩
def SU_STATUS.active_slot : Field := ⟨2, 3⟩
def SU_STATUS.ops_waiting : Field := ⟨8, 8⟩
/-- SU_FAULT, 03_vector_and_steering.md. -/
def SU_FAULT (p : Nat) : Nat := 0x28000003018 + 0x10000 * p
def SU_FAULT.config_fault : Field := ⟨0, 1⟩
def SU_FAULT.queue_fault : Field := ⟨1, 1⟩
def SU_FAULT.drain_fallback : Field := ⟨2, 1⟩
/-- SU_FIRE_COUNT, 03_vector_and_steering.md. -/
def SU_FIRE_COUNT (p : Nat) : Nat := 0x28000003020 + 0x10000 * p
def SU_FIRE_COUNT.count : Field := ⟨0, 48⟩
def SU_FIRE_COUNT.wrapped : Field := ⟨63, 1⟩
/-- SU_DISCARDS, 03_vector_and_steering.md. -/
def SU_DISCARDS (p : Nat) : Nat := 0x28000003028 + 0x10000 * p
def SU_DISCARDS.count : Field := ⟨0, 32⟩
/-- SU_MERGE_DEV, 03_vector_and_steering.md. -/
def SU_MERGE_DEV (p : Nat) : Nat := 0x28000003030 + 0x10000 * p
def SU_MERGE_DEV.count : Field := ⟨0, 64⟩
/-- SU_STALL_OUTPUT, 03_vector_and_steering.md. -/
def SU_STALL_OUTPUT (p : Nat) : Nat := 0x28000003038 + 0x10000 * p
def SU_STALL_OUTPUT.count : Field := ⟨0, 48⟩
def SU_STALL_OUTPUT.wrapped : Field := ⟨63, 1⟩
/-- SU_OP_CFG, 03_vector_and_steering.md. -/
def SU_OP_CFG (p : Nat) (n : Nat) (j : Nat) : Nat := 0x28000003100 + 0x10000 * p + 0x40 * n + 0x8 * j
def SU_OP_CFG.kind : Field := ⟨0, 4⟩
def SU_OP_CFG.ctl : Field := ⟨4, 6⟩
def SU_OP_CFG.in0 : Field := ⟨10, 6⟩
def SU_OP_CFG.in1 : Field := ⟨16, 6⟩
def SU_OP_CFG.out0 : Field := ⟨22, 6⟩
def SU_OP_CFG.out1 : Field := ⟨28, 6⟩
def SU_OP_CFG.end_on_eob : Field := ⟨34, 1⟩
def SU_OP_CFG.end_value : Field := ⟨36, 16⟩
/-- SU_OP_STATE, 03_vector_and_steering.md. -/
def SU_OP_STATE (p : Nat) (n : Nat) (j : Nat) : Nat := 0x28000003300 + 0x10000 * p + 0x40 * n + 0x8 * j
def SU_OP_STATE.repeat_count : Field := ⟨0, 16⟩
def SU_OP_STATE.merge_ref : Field := ⟨16, 1⟩
def SU_OP_STATE.merge_held : Field := ⟨17, 2⟩
/-- MU_ID, 04_tile_memory.md. -/
def MU_ID (p : Nat) : Nat := 0x28000004000 + 0x10000 * p
def MU_ID.ts_banks : Field := ⟨0, 8⟩
def MU_ID.os_banks : Field := ⟨8, 8⟩
def MU_ID.ts_spares : Field := ⟨16, 4⟩
def MU_ID.os_spares : Field := ⟨20, 4⟩
def MU_ID.revision : Field := ⟨24, 8⟩
/-- MU_CTRL, 04_tile_memory.md. -/
def MU_CTRL (p : Nat) : Nat := 0x28000004008 + 0x10000 * p
def MU_CTRL.scrub_en : Field := ⟨0, 1⟩
def MU_CTRL.proof_en : Field := ⟨1, 1⟩
def MU_CTRL.sampler_en : Field := ⟨2, 1⟩
def MU_CTRL.perf_freeze : Field := ⟨8, 1⟩
/-- MU_STATUS, 04_tile_memory.md. -/
def MU_STATUS (p : Nat) : Nat := 0x28000004010 + 0x10000 * p
def MU_STATUS.agents_active : Field := ⟨0, 6⟩
def MU_STATUS.remap_busy : Field := ⟨6, 1⟩
def MU_STATUS.fill_busy : Field := ⟨7, 1⟩
/-- MU_FAULT, 04_tile_memory.md. -/
def MU_FAULT (p : Nat) : Nat := 0x28000004018 + 0x10000 * p
def MU_FAULT.ue_logged : Field := ⟨0, 1⟩
def MU_FAULT.remap_busy : Field := ⟨1, 1⟩
def MU_FAULT.fill_busy : Field := ⟨2, 1⟩
def MU_FAULT.remap_refused : Field := ⟨3, 1⟩
/-- MU_ECC_CE, 04_tile_memory.md. -/
def MU_ECC_CE (p : Nat) : Nat := 0x28000004020 + 0x10000 * p
def MU_ECC_CE.tile_store : Field := ⟨0, 32⟩
def MU_ECC_CE.scratch : Field := ⟨32, 32⟩
/-- MU_ECC_UE, 04_tile_memory.md. -/
def MU_ECC_UE (p : Nat) : Nat := 0x28000004028 + 0x10000 * p
def MU_ECC_UE.tile_store : Field := ⟨0, 32⟩
def MU_ECC_UE.scratch : Field := ⟨32, 32⟩
/-- MU_ECC_LOG, 04_tile_memory.md. -/
def MU_ECC_LOG (p : Nat) : Nat := 0x28000004030 + 0x10000 * p
def MU_ECC_LOG.mem : Field := ⟨0, 1⟩
def MU_ECC_LOG.source : Field := ⟨1, 2⟩
def MU_ECC_LOG.bank : Field := ⟨3, 6⟩
def MU_ECC_LOG.row : Field := ⟨9, 10⟩
def MU_ECC_LOG.word : Field := ⟨19, 4⟩
def MU_ECC_LOG.codeword_mask : Field := ⟨23, 8⟩
/-- MU_ECC_TIME, 04_tile_memory.md. -/
def MU_ECC_TIME (p : Nat) : Nat := 0x28000004038 + 0x10000 * p
def MU_ECC_TIME.tb_count : Field := ⟨0, 64⟩
/-- MU_BG_FORCED, 04_tile_memory.md. -/
def MU_BG_FORCED (p : Nat) : Nat := 0x28000004040 + 0x10000 * p
def MU_BG_FORCED.count : Field := ⟨0, 48⟩
def MU_BG_FORCED.wrapped : Field := ⟨63, 1⟩
/-- MU_STALL_BANK, 04_tile_memory.md. -/
def MU_STALL_BANK (p : Nat) : Nat := 0x28000004048 + 0x10000 * p
def MU_STALL_BANK.count : Field := ⟨0, 48⟩
def MU_STALL_BANK.wrapped : Field := ⟨63, 1⟩
/-- MU_SCRUB_CFG, 04_tile_memory.md. -/
def MU_SCRUB_CFG (p : Nat) : Nat := 0x28000004050 + 0x10000 * p
def MU_SCRUB_CFG.scrub_period_ms : Field := ⟨0, 16⟩
def MU_SCRUB_CFG.row_ce_threshold : Field := ⟨16, 4⟩
/-- MU_SCRUB_STATUS, 04_tile_memory.md. -/
def MU_SCRUB_STATUS (p : Nat) : Nat := 0x28000004058 + 0x10000 * p
def MU_SCRUB_STATUS.passes : Field := ⟨0, 32⟩
def MU_SCRUB_STATUS.position : Field := ⟨32, 20⟩
/-- MU_ROWCE_REQ, 04_tile_memory.md. -/
def MU_ROWCE_REQ (p : Nat) : Nat := 0x28000004060 + 0x10000 * p
def MU_ROWCE_REQ.valid : Field := ⟨0, 1⟩
def MU_ROWCE_REQ.mem : Field := ⟨1, 1⟩
def MU_ROWCE_REQ.bank : Field := ⟨2, 6⟩
def MU_ROWCE_REQ.row : Field := ⟨8, 10⟩
def MU_ROWCE_REQ.count : Field := ⟨18, 4⟩
/-- MU_REMAP_CMD, 04_tile_memory.md. -/
def MU_REMAP_CMD (p : Nat) : Nat := 0x28000004068 + 0x10000 * p
def MU_REMAP_CMD.go : Field := ⟨0, 1⟩
def MU_REMAP_CMD.op : Field := ⟨1, 1⟩
def MU_REMAP_CMD.mem : Field := ⟨2, 1⟩
def MU_REMAP_CMD.bank : Field := ⟨3, 6⟩
def MU_REMAP_CMD.row : Field := ⟨9, 10⟩
def MU_REMAP_CMD.spare : Field := ⟨19, 4⟩
/-- MU_REMAP_STATUS, 04_tile_memory.md. -/
def MU_REMAP_STATUS (p : Nat) : Nat := 0x28000004070 + 0x10000 * p
def MU_REMAP_STATUS.result : Field := ⟨0, 3⟩
def MU_REMAP_STATUS.done : Field := ⟨3, 1⟩
def MU_REMAP_STATUS.remaps : Field := ⟨16, 16⟩
/-- MU_FILL_PATTERN, 04_tile_memory.md. -/
def MU_FILL_PATTERN (p : Nat) : Nat := 0x28000004078 + 0x10000 * p
def MU_FILL_PATTERN.pattern : Field := ⟨0, 64⟩
/-- MU_FILL_CMD, 04_tile_memory.md. -/
def MU_FILL_CMD (p : Nat) : Nat := 0x28000004080 + 0x10000 * p
def MU_FILL_CMD.go : Field := ⟨0, 1⟩
def MU_FILL_CMD.scope : Field := ⟨1, 1⟩
def MU_FILL_CMD.base_4k : Field := ⟨2, 14⟩
def MU_FILL_CMD.len_4k : Field := ⟨16, 15⟩
/-- MU_FILL_STATUS, 04_tile_memory.md. -/
def MU_FILL_STATUS (p : Nat) : Nat := 0x28000004088 + 0x10000 * p
def MU_FILL_STATUS.busy : Field := ⟨0, 1⟩
def MU_FILL_STATUS.done : Field := ⟨1, 1⟩
def MU_FILL_STATUS.refused : Field := ⟨2, 1⟩
def MU_FILL_STATUS.progress_4k : Field := ⟨32, 32⟩
/-- MU_OS_REPAIR, 04_tile_memory.md. -/
def MU_OS_REPAIR (p : Nat) (b : Nat) : Nat := 0x28000004700 + 0x10000 * p + 0x8 * b
def MU_OS_REPAIR.entry0 : Field := ⟨0, 16⟩
def MU_OS_REPAIR.entry1 : Field := ⟨16, 16⟩
/-- MU_REPAIR, 04_tile_memory.md. -/
def MU_REPAIR (p : Nat) (b : Nat) (q : Nat) : Nat := 0x28000004800 + 0x10000 * p + 0x20 * b + 0x8 * q
def MU_REPAIR.entries : Field := ⟨0, 64⟩
/-- AG_CTRL, 04_tile_memory.md. -/
def AG_CTRL (p : Nat) (n : Nat) : Nat := 0x28000005000 + 0x10000 * p + 0x400 * n
def AG_CTRL.halt_req : Field := ⟨0, 1⟩
def AG_CTRL.halt_mode : Field := ⟨1, 2⟩
def AG_CTRL.resume : Field := ⟨3, 1⟩
def AG_CTRL.restart : Field := ⟨4, 1⟩
def AG_CTRL.perf_freeze : Field := ⟨8, 1⟩
def AG_CTRL.drain_timeout_us : Field := ⟨16, 8⟩
/-- AG_STATUS, 04_tile_memory.md. -/
def AG_STATUS (p : Nat) (n : Nat) : Nat := 0x28000005008 + 0x10000 * p + 0x400 * n
def AG_STATUS.busy : Field := ⟨0, 1⟩
def AG_STATUS.halted : Field := ⟨1, 1⟩
def AG_STATUS.halting : Field := ⟨2, 1⟩
def AG_STATUS.active_slot : Field := ⟨3, 3⟩
def AG_STATUS.done : Field := ⟨6, 1⟩
def AG_STATUS.stopped : Field := ⟨7, 1⟩
/-- AG_FAULT, 04_tile_memory.md. -/
def AG_FAULT (p : Nat) (n : Nat) : Nat := 0x28000005010 + 0x10000 * p + 0x400 * n
def AG_FAULT.align_fault : Field := ⟨0, 1⟩
def AG_FAULT.range_fault : Field := ⟨1, 1⟩
def AG_FAULT.config_fault : Field := ⟨2, 1⟩
def AG_FAULT.hash_fault : Field := ⟨3, 1⟩
def AG_FAULT.ue_read : Field := ⟨4, 1⟩
def AG_FAULT.remote_fault : Field := ⟨5, 1⟩
def AG_FAULT.drain_fallback : Field := ⟨6, 1⟩
/-- AG_FAULT_ADDR, 04_tile_memory.md. -/
def AG_FAULT_ADDR (p : Nat) (n : Nat) : Nat := 0x28000005018 + 0x10000 * p + 0x400 * n
def AG_FAULT_ADDR.address : Field := ⟨0, 52⟩
def AG_FAULT_ADDR.slot : Field := ⟨52, 3⟩
def AG_FAULT_ADDR.target : Field := ⟨55, 2⟩
/-- AG_WORDS, 04_tile_memory.md. -/
def AG_WORDS (p : Nat) (n : Nat) : Nat := 0x28000005020 + 0x10000 * p + 0x400 * n
def AG_WORDS.count : Field := ⟨0, 48⟩
def AG_WORDS.wrapped : Field := ⟨63, 1⟩
/-- AG_STALL_BANK, 04_tile_memory.md. -/
def AG_STALL_BANK (p : Nat) (n : Nat) : Nat := 0x28000005028 + 0x10000 * p + 0x400 * n
def AG_STALL_BANK.count : Field := ⟨0, 48⟩
def AG_STALL_BANK.wrapped : Field := ⟨63, 1⟩
/-- AG_STALL_DEST, 04_tile_memory.md. -/
def AG_STALL_DEST (p : Nat) (n : Nat) : Nat := 0x28000005030 + 0x10000 * p + 0x400 * n
def AG_STALL_DEST.count : Field := ⟨0, 48⟩
def AG_STALL_DEST.wrapped : Field := ⟨63, 1⟩
/-- AG_HASH_M0, 04_tile_memory.md. -/
def AG_HASH_M0 (p : Nat) (n : Nat) : Nat := 0x28000005040 + 0x10000 * p + 0x400 * n
def AG_HASH_M0.row_even : Field := ⟨0, 26⟩
def AG_HASH_M0.row_odd : Field := ⟨32, 26⟩
/-- AG_HASH_M1, 04_tile_memory.md. -/
def AG_HASH_M1 (p : Nat) (n : Nat) : Nat := 0x28000005048 + 0x10000 * p + 0x400 * n
def AG_HASH_M1.row_even : Field := ⟨0, 26⟩
def AG_HASH_M1.row_odd : Field := ⟨32, 26⟩
/-- AG_HASH_M2, 04_tile_memory.md. -/
def AG_HASH_M2 (p : Nat) (n : Nat) : Nat := 0x28000005050 + 0x10000 * p + 0x400 * n
def AG_HASH_M2.row_even : Field := ⟨0, 26⟩
def AG_HASH_M2.row_odd : Field := ⟨32, 26⟩
/-- AG_S_CFG, 04_tile_memory.md. -/
def AG_S_CFG (p : Nat) (n : Nat) (s : Nat) : Nat := 0x28000005100 + 0x10000 * p + 0x400 * n + 0x60 * s
def AG_S_CFG.enable : Field := ⟨0, 1⟩
def AG_S_CFG.dir : Field := ⟨1, 1⟩
def AG_S_CFG.target : Field := ⟨2, 2⟩
def AG_S_CFG.mode : Field := ⟨4, 2⟩
def AG_S_CFG.elem : Field := ⟨6, 3⟩
def AG_S_CFG.hash_sel : Field := ⟨9, 3⟩
def AG_S_CFG.region : Field := ⟨12, 6⟩
def AG_S_CFG.index_queue : Field := ⟨18, 6⟩
def AG_S_CFG.idx_shift : Field := ⟨24, 5⟩
def AG_S_CFG.loops : Field := ⟨29, 3⟩
def AG_S_CFG.port : Field := ⟨32, 3⟩
def AG_S_CFG.peer_ag : Field := ⟨35, 2⟩
def AG_S_CFG.endpoint : Field := ⟨37, 6⟩
def AG_S_CFG.remote_vc : Field := ⟨43, 1⟩
/-- AG_S_BASE, 04_tile_memory.md. -/
def AG_S_BASE (p : Nat) (n : Nat) (s : Nat) : Nat := 0x28000005108 + 0x10000 * p + 0x400 * n + 0x60 * s
def AG_S_BASE.base : Field := ⟨0, 48⟩
/-- AG_S_COUNT_LO, 04_tile_memory.md. -/
def AG_S_COUNT_LO (p : Nat) (n : Nat) (s : Nat) : Nat := 0x28000005110 + 0x10000 * p + 0x400 * n + 0x60 * s
def AG_S_COUNT_LO.count0_3 : Field := ⟨0, 64⟩
/-- AG_S_COUNT_HI, 04_tile_memory.md. -/
def AG_S_COUNT_HI (p : Nat) (n : Nat) (s : Nat) : Nat := 0x28000005118 + 0x10000 * p + 0x400 * n + 0x60 * s
def AG_S_COUNT_HI.count4_5 : Field := ⟨0, 32⟩
/-- AG_S_STRIDE, 04_tile_memory.md. -/
def AG_S_STRIDE (p : Nat) (n : Nat) (s : Nat) (j : Nat) : Nat := 0x28000005120 + 0x10000 * p + 0x400 * n + 0x60 * s + 0x8 * j
def AG_S_STRIDE.stride : Field := ⟨0, 49⟩
/-- RGN_CFG, 04_tile_memory.md. -/
def RGN_CFG (p : Nat) (n : Nat) : Nat := 0x28000006000 + 0x10000 * p + 0x40 * n
def RGN_CFG.base_4k : Field := ⟨0, 14⟩
def RGN_CFG.size_4k : Field := ⟨14, 15⟩
def RGN_CFG.mode : Field := ⟨29, 2⟩
def RGN_CFG.resident : Field := ⟨31, 1⟩
def RGN_CFG.hash_sel : Field := ⟨32, 3⟩
def RGN_CFG.max_msg_64 : Field := ⟨35, 8⟩
def RGN_CFG.data_region : Field := ⟨43, 6⟩
def RGN_CFG.ctx : Field := ⟨49, 4⟩
/-- RGN_HEAD, 04_tile_memory.md. -/
def RGN_HEAD (p : Nat) (n : Nat) : Nat := 0x28000006008 + 0x10000 * p + 0x40 * n
def RGN_HEAD.pointer : Field := ⟨0, 64⟩
/-- RGN_TAIL, 04_tile_memory.md. -/
def RGN_TAIL (p : Nat) (n : Nat) : Nat := 0x28000006010 + 0x10000 * p + 0x40 * n
def RGN_TAIL.pointer : Field := ⟨0, 64⟩
/-- RGN_READ, 04_tile_memory.md. -/
def RGN_READ (p : Nat) (n : Nat) : Nat := 0x28000006018 + 0x10000 * p + 0x40 * n
def RGN_READ.pointer : Field := ⟨0, 64⟩
/-- RGN_OFFS, 04_tile_memory.md. -/
def RGN_OFFS (p : Nat) (n : Nat) : Nat := 0x28000006020 + 0x10000 * p + 0x40 * n
def RGN_OFFS.head_off : Field := ⟨0, 26⟩
def RGN_OFFS.tail_off : Field := ⟨26, 26⟩
/-- RGN_STATUS, 04_tile_memory.md. -/
def RGN_STATUS (p : Nat) (n : Nat) : Nat := 0x28000006028 + 0x10000 * p + 0x40 * n
def RGN_STATUS.read_off : Field := ⟨0, 26⟩
def RGN_STATUS.pointer_fault : Field := ⟨26, 1⟩
def RGN_STATUS.cfg_fault : Field := ⟨27, 1⟩
def RGN_STATUS.oversize : Field := ⟨28, 1⟩
def RGN_STATUS.full : Field := ⟨29, 1⟩
def RGN_STATUS.unreleased : Field := ⟨32, 8⟩
/-- RGN_COUNTS, 04_tile_memory.md. -/
def RGN_COUNTS (p : Nat) (n : Nat) : Nat := 0x28000006030 + 0x10000 * p + 0x40 * n
def RGN_COUNTS.refused : Field := ⟨0, 32⟩
def RGN_COUNTS.skips : Field := ⟨32, 16⟩
def RGN_COUNTS.release_stalls : Field := ⟨48, 16⟩
/-- RT_ID, 05_mesh.md. -/
def RT_ID (p : Nat) : Nat := 0x28000008000 + 0x10000 * p
def RT_ID.ports : Field := ⟨0, 4⟩
def RT_ID.vcs : Field := ⟨4, 4⟩
def RT_ID.route_entries : Field := ⟨8, 12⟩
def RT_ID.revision : Field := ⟨20, 8⟩
/-- RT_CTRL, 05_mesh.md. -/
def RT_CTRL (p : Nat) : Nat := 0x28000008008 + 0x10000 * p
def RT_CTRL.fence_req : Field := ⟨0, 1⟩
def RT_CTRL.unfence : Field := ⟨1, 1⟩
def RT_CTRL.target : Field := ⟨2, 4⟩
def RT_CTRL.perf_freeze : Field := ⟨8, 1⟩
/-- RT_STATUS, 05_mesh.md. -/
def RT_STATUS (p : Nat) : Nat := 0x28000008010 + 0x10000 * p
def RT_STATUS.port_fenced : Field := ⟨0, 4⟩
def RT_STATUS.dnc_fenced : Field := ⟨4, 4⟩
def RT_STATUS.local_closed : Field := ⟨8, 1⟩
def RT_STATUS.vcm_stop : Field := ⟨9, 4⟩
/-- RT_FAULT, 05_mesh.md. -/
def RT_FAULT (p : Nat) : Nat := 0x28000008018 + 0x10000 * p
def RT_FAULT.link_fail : Field := ⟨0, 1⟩
def RT_FAULT.route_invalid : Field := ⟨1, 1⟩
def RT_FAULT.no_route : Field := ⟨2, 1⟩
def RT_FAULT.ctx_reject : Field := ⟨3, 1⟩
def RT_FAULT.ttl_expired : Field := ⟨4, 1⟩
def RT_FAULT.write_refused : Field := ⟨5, 1⟩
def RT_FAULT.illegal_inject : Field := ⟨6, 1⟩
def RT_FAULT.vcm_lost : Field := ⟨7, 1⟩
/-- RT_FAULT_LOG, 05_mesh.md. -/
def RT_FAULT_LOG (p : Nat) : Nat := 0x28000008020 + 0x10000 * p
def RT_FAULT_LOG.kind : Field := ⟨0, 4⟩
def RT_FAULT_LOG.port : Field := ⟨4, 3⟩
def RT_FAULT_LOG.route_id : Field := ⟨7, 10⟩
def RT_FAULT_LOG.ctx : Field := ⟨17, 4⟩
def RT_FAULT_LOG.src_tile : Field := ⟨21, 8⟩
def RT_FAULT_LOG.ue_held : Field := ⟨29, 1⟩
/-- RT_FAULT_TIME, 05_mesh.md. -/
def RT_FAULT_TIME (p : Nat) : Nat := 0x28000008028 + 0x10000 * p
def RT_FAULT_TIME.tb_count : Field := ⟨0, 64⟩
/-- RT_LINK_ERR, 05_mesh.md. -/
def RT_LINK_ERR (p : Nat) (i : Nat) : Nat := 0x28000008040 + 0x10000 * p + 0x20 * i
def RT_LINK_ERR.corrected : Field := ⟨0, 32⟩
def RT_LINK_ERR.retries : Field := ⟨32, 24⟩
def RT_LINK_ERR.consec_fail : Field := ⟨56, 4⟩
def RT_LINK_ERR.state : Field := ⟨60, 2⟩
/-- RT_DNC_ERR, 05_mesh.md. -/
def RT_DNC_ERR (p : Nat) (i : Nat) : Nat := 0x28000008050 + 0x10000 * p + 0x20 * i
def RT_DNC_ERR.corrected : Field := ⟨0, 32⟩
def RT_DNC_ERR.retries : Field := ⟨32, 24⟩
def RT_DNC_ERR.consec_fail : Field := ⟨56, 4⟩
def RT_DNC_ERR.state : Field := ⟨60, 2⟩
/-- RT_LINK_FLITS, 05_mesh.md. -/
def RT_LINK_FLITS (p : Nat) (i : Nat) : Nat := 0x28000008048 + 0x10000 * p + 0x20 * i
def RT_LINK_FLITS.count : Field := ⟨0, 48⟩
def RT_LINK_FLITS.wrapped : Field := ⟨63, 1⟩
/-- RT_DNC_FLITS, 05_mesh.md. -/
def RT_DNC_FLITS (p : Nat) (i : Nat) : Nat := 0x28000008058 + 0x10000 * p + 0x20 * i
def RT_DNC_FLITS.count : Field := ⟨0, 48⟩
def RT_DNC_FLITS.wrapped : Field := ⟨63, 1⟩
/-- RT_COUNTS, 05_mesh.md. -/
def RT_COUNTS (p : Nat) : Nat := 0x280000080C0 + 0x10000 * p
def RT_COUNTS.divert_fence : Field := ⟨0, 32⟩
def RT_COUNTS.divert_adapt : Field := ⟨32, 32⟩
/-- RT_DROPS, 05_mesh.md. -/
def RT_DROPS (p : Nat) : Nat := 0x280000080C8 + 0x10000 * p
def RT_DROPS.ctx_reject : Field := ⟨0, 16⟩
def RT_DROPS.nacks_generated : Field := ⟨16, 32⟩
def RT_DROPS.illegal : Field := ⟨48, 16⟩
/-- RT_ADAPT_CFG, 05_mesh.md. -/
def RT_ADAPT_CFG (p : Nat) : Nat := 0x280000080D0 + 0x10000 * p
def RT_ADAPT_CFG.adapt_threshold : Field := ⟨0, 6⟩
def RT_ADAPT_CFG.adapt_en : Field := ⟨6, 1⟩
/-- RT_CTX_DRAINED, 05_mesh.md. -/
def RT_CTX_DRAINED (p : Nat) : Nat := 0x280000080D8 + 0x10000 * p
def RT_CTX_DRAINED.drained : Field := ⟨0, 16⟩
/-- RT_MCAST, 05_mesh.md. -/
def RT_MCAST (p : Nat) (t : Nat) : Nat := 0x28000008100 + 0x10000 * p + 0x8 * t
def RT_MCAST.port_mask : Field := ⟨0, 5⟩
def RT_MCAST.valid : Field := ⟨5, 1⟩
/-- RT_BUDGET, 05_mesh.md. -/
def RT_BUDGET (p : Nat) (c : Nat) (o : Nat) : Nat := 0x28000008200 + 0x10000 * p + 0x20 * c + 0x8 * o
def RT_BUDGET.rate : Field := ⟨0, 9⟩
def RT_BUDGET.burst : Field := ⟨9, 7⟩
/-- RT_ENTRY, 05_mesh.md. -/
def RT_ENTRY (p : Nat) (i : Nat) : Nat := 0x2800000A000 + 0x10000 * p + 0x8 * i
def RT_ENTRY.valid : Field := ⟨0, 1⟩
def RT_ENTRY.ctx : Field := ⟨1, 4⟩
def RT_ENTRY.primary : Field := ⟨5, 3⟩
def RT_ENTRY.alternate : Field := ⟨8, 3⟩
def RT_ENTRY.adapt : Field := ⟨11, 1⟩
def RT_ENTRY.on_alternate : Field := ⟨12, 1⟩
/-- CH_ID, 06_channels_and_sync.md. -/
def CH_ID (p : Nat) : Nat := 0x2800000C000 + 0x10000 * p
def CH_ID.endpoints : Field := ⟨0, 8⟩
def CH_ID.sender_records : Field := ⟨8, 10⟩
def CH_ID.reorder_entries : Field := ⟨18, 8⟩
def CH_ID.revision : Field := ⟨26, 8⟩
/-- CH_CTRL, 06_channels_and_sync.md. -/
def CH_CTRL (p : Nat) : Nat := 0x2800000C008 + 0x10000 * p
def CH_CTRL.ack_timeout : Field := ⟨0, 20⟩
def CH_CTRL.perf_freeze : Field := ⟨20, 1⟩
/-- CH_FAULT, 06_channels_and_sync.md. -/
def CH_FAULT (p : Nat) : Nat := 0x2800000C010 + 0x10000 * p
def CH_FAULT.config_fault : Field := ⟨0, 1⟩
def CH_FAULT.nack_fault : Field := ⟨1, 1⟩
def CH_FAULT.bad_combine : Field := ⟨2, 1⟩
def CH_FAULT.reorder_full : Field := ⟨3, 1⟩
def CH_FAULT.spill_full : Field := ⟨4, 1⟩
def CH_FAULT.drain_fallback : Field := ⟨5, 1⟩
/-- CH_FAULT_LOG, 06_channels_and_sync.md. -/
def CH_FAULT_LOG (p : Nat) : Nat := 0x2800000C018 + 0x10000 * p
def CH_FAULT_LOG.endpoint : Field := ⟨0, 6⟩
def CH_FAULT_LOG.reason : Field := ⟨6, 8⟩
def CH_FAULT_LOG.chan_seq : Field := ⟨14, 32⟩
def CH_FAULT_LOG.held : Field := ⟨46, 1⟩
/-- CH_FAULT_TIME, 06_channels_and_sync.md. -/
def CH_FAULT_TIME (p : Nat) : Nat := 0x2800000C020 + 0x10000 * p
def CH_FAULT_TIME.tb_count : Field := ⟨0, 64⟩
/-- CH_PROGRESS, 06_channels_and_sync.md. -/
def CH_PROGRESS (p : Nat) : Nat := 0x2800000C028 + 0x10000 * p
def CH_PROGRESS.consumed : Field := ⟨0, 32⟩
def CH_PROGRESS.pending : Field := ⟨32, 1⟩
/-- CH_NACKS, 06_channels_and_sync.md. -/
def CH_NACKS (p : Nat) : Nat := 0x2800000C030 + 0x10000 * p
def CH_NACKS.received : Field := ⟨0, 32⟩
def CH_NACKS.sent : Field := ⟨32, 32⟩
/-- CH_NDC, 06_channels_and_sync.md. -/
def CH_NDC (p : Nat) : Nat := 0x2800000C038 + 0x10000 * p
def CH_NDC.count : Field := ⟨0, 64⟩
/-- CH_DUPS, 06_channels_and_sync.md. -/
def CH_DUPS (p : Nat) : Nat := 0x2800000C040 + 0x10000 * p
def CH_DUPS.duplicates : Field := ⟨0, 32⟩
def CH_DUPS.ack_timeouts : Field := ⟨32, 32⟩
/-- CH_EP_CFG, 06_channels_and_sync.md. -/
def CH_EP_CFG (p : Nat) (e : Nat) : Nat := 0x2800000C400 + 0x10000 * p + 0x20 * e
def CH_EP_CFG.role : Field := ⟨0, 2⟩
def CH_EP_CFG.vc : Field := ⟨2, 1⟩
def CH_EP_CFG.dnc : Field := ⟨3, 1⟩
def CH_EP_CFG.dnc_dir : Field := ⟨4, 2⟩
def CH_EP_CFG.ordered : Field := ⟨6, 1⟩
def CH_EP_CFG.queue : Field := ⟨7, 6⟩
def CH_EP_CFG.combine_region : Field := ⟨13, 6⟩
def CH_EP_CFG.combine_op : Field := ⟨19, 2⟩
def CH_EP_CFG.announce : Field := ⟨21, 2⟩
def CH_EP_CFG.announce_vid : Field := ⟨23, 8⟩
def CH_EP_CFG.announce_amount : Field := ⟨32, 32⟩
/-- CH_EP_DEST, 06_channels_and_sync.md. -/
def CH_EP_DEST (p : Nat) (e : Nat) : Nat := 0x2800000C408 + 0x10000 * p + 0x20 * e
def CH_EP_DEST.dest_tile : Field := ⟨0, 8⟩
def CH_EP_DEST.dest_ep : Field := ⟨8, 6⟩
def CH_EP_DEST.route_id : Field := ⟨14, 10⟩
def CH_EP_DEST.sender_index : Field := ⟨24, 6⟩
/-- CH_EP_STATE, 06_channels_and_sync.md. -/
def CH_EP_STATE (p : Nat) (e : Nat) : Nat := 0x2800000C410 + 0x10000 * p + 0x20 * e
def CH_EP_STATE.next_seq : Field := ⟨0, 32⟩
def CH_EP_STATE.outstanding : Field := ⟨32, 3⟩
def CH_EP_STATE.nacked : Field := ⟨35, 4⟩
def CH_EP_STATE.nack_run : Field := ⟨39, 4⟩
def CH_EP_STATE.halted : Field := ⟨43, 1⟩
def CH_EP_STATE.halting : Field := ⟨44, 1⟩
def CH_EP_STATE.stopped : Field := ⟨45, 1⟩
def CH_EP_STATE.overflow : Field := ⟨46, 1⟩
def CH_EP_STATE.refused : Field := ⟨47, 1⟩
def CH_EP_STATE.window_stall : Field := ⟨48, 16⟩
/-- CH_EP_CTRL, 06_channels_and_sync.md. -/
def CH_EP_CTRL (p : Nat) (e : Nat) : Nat := 0x2800000C418 + 0x10000 * p + 0x20 * e
def CH_EP_CTRL.halt_req : Field := ⟨0, 1⟩
def CH_EP_CTRL.halt_mode : Field := ⟨1, 2⟩
def CH_EP_CTRL.resume : Field := ⟨3, 1⟩
def CH_EP_CTRL.overflow_on : Field := ⟨4, 1⟩
def CH_EP_CTRL.mark_acked : Field := ⟨5, 1⟩
def CH_EP_CTRL.drain_timeout_us : Field := ⟨16, 8⟩
/-- CH_SND, 06_channels_and_sync.md. -/
def CH_SND (p : Nat) (i : Nat) : Nat := 0x2800000CC00 + 0x10000 * p + 0x8 * i
def CH_SND.valid : Field := ⟨0, 1⟩
def CH_SND.endpoint : Field := ⟨1, 6⟩
def CH_SND.src_vtile : Field := ⟨7, 12⟩
def CH_SND.src_ep : Field := ⟨19, 6⟩
def CH_SND.sender_index : Field := ⟨25, 6⟩
def CH_SND.expected_seq : Field := ⟨32, 32⟩
/-- CH_OVF_BASE, 06_channels_and_sync.md. -/
def CH_OVF_BASE (p : Nat) (e : Nat) : Nat := 0x2800000D400 + 0x10000 * p + 0x10 * e
def CH_OVF_BASE.base : Field := ⟨0, 52⟩
/-- CH_OVF_STATE, 06_channels_and_sync.md. -/
def CH_OVF_STATE (p : Nat) (e : Nat) : Nat := 0x2800000D408 + 0x10000 * p + 0x10 * e
def CH_OVF_STATE.size_64k : Field := ⟨0, 16⟩
def CH_OVF_STATE.records_held : Field := ⟨16, 24⟩
/-- SYNC_CNT, 06_channels_and_sync.md. -/
def SYNC_CNT (p : Nat) (n : Nat) : Nat := 0x28000007000 + 0x10000 * p + 0x8 * n
def SYNC_CNT.value : Field := ⟨0, 64⟩
/-- SYNC_EN, 06_channels_and_sync.md. -/
def SYNC_EN (p : Nat) : Nat := 0x28000007200 + 0x10000 * p
def SYNC_EN.enable : Field := ⟨0, 64⟩
/-- SYNC_WRAPPED, 06_channels_and_sync.md. -/
def SYNC_WRAPPED (p : Nat) : Nat := 0x28000007208 + 0x10000 * p
def SYNC_WRAPPED.wrapped : Field := ⟨0, 64⟩
/-- SYNC_FAULT, 06_channels_and_sync.md. -/
def SYNC_FAULT (p : Nat) : Nat := 0x28000007210 + 0x10000 * p
def SYNC_FAULT.unmapped : Field := ⟨0, 1⟩
def SYNC_FAULT.counter_off : Field := ⟨1, 1⟩
def SYNC_FAULT.set_refused : Field := ⟨2, 1⟩
/-- SYNC_STATUS, 06_channels_and_sync.md. -/
def SYNC_STATUS (p : Nat) : Nat := 0x28000007218 + 0x10000 * p
def SYNC_STATUS.waiting : Field := ⟨0, 8⟩
def SYNC_STATUS.wait_cycles : Field := ⟨8, 48⟩
/-- SYNC_SET_VALUE, 06_channels_and_sync.md. -/
def SYNC_SET_VALUE (p : Nat) : Nat := 0x28000007220 + 0x10000 * p
def SYNC_SET_VALUE.value : Field := ⟨0, 64⟩
/-- SYNC_SET_CMD, 06_channels_and_sync.md. -/
def SYNC_SET_CMD (p : Nat) : Nat := 0x28000007228 + 0x10000 * p
def SYNC_SET_CMD.counter : Field := ⟨0, 6⟩
/-- SYNC_ADD, 06_channels_and_sync.md. -/
def SYNC_ADD (p : Nat) : Nat := 0x28000007230 + 0x10000 * p
def SYNC_ADD.counter : Field := ⟨0, 6⟩
def SYNC_ADD.amount : Field := ⟨32, 32⟩
/-- SYNC_WAIT_CFG, 06_channels_and_sync.md. -/
def SYNC_WAIT_CFG (p : Nat) (s : Nat) (u : Nat) : Nat := 0x28000007300 + 0x10000 * p + 0x80 * s + 0x10 * u
def SYNC_WAIT_CFG.enable : Field := ⟨0, 1⟩
def SYNC_WAIT_CFG.counter : Field := ⟨1, 6⟩
def SYNC_WAIT_CFG.step : Field := ⟨32, 32⟩
/-- SYNC_WAIT_TGT, 06_channels_and_sync.md. -/
def SYNC_WAIT_TGT (p : Nat) (s : Nat) (u : Nat) : Nat := 0x28000007308 + 0x10000 * p + 0x80 * s + 0x10 * u
def SYNC_WAIT_TGT.target : Field := ⟨0, 64⟩
/-- SYNC_MAP, 06_channels_and_sync.md. -/
def SYNC_MAP (p : Nat) (v : Nat) : Nat := 0x28000007800 + 0x10000 * p + 0x8 * v
def SYNC_MAP.valid : Field := ⟨0, 1⟩
def SYNC_MAP.tile : Field := ⟨1, 8⟩
def SYNC_MAP.counter : Field := ⟨9, 6⟩
def SYNC_MAP.route_id : Field := ⟨15, 10⟩
/-- TILE_ID, 07_plates_and_folding.md. -/
def TILE_ID (p : Nat) : Nat := 0x28000000000 + 0x10000 * p
def TILE_ID.x : Field := ⟨0, 4⟩
def TILE_ID.y : Field := ⟨4, 4⟩
def TILE_ID.p : Field := ⟨8, 8⟩
def TILE_ID.revision : Field := ⟨16, 8⟩
/-- TILE_CTX, 07_plates_and_folding.md. -/
def TILE_CTX (p : Nat) : Nat := 0x28000000008 + 0x10000 * p
def TILE_CTX.ctx : Field := ⟨0, 4⟩
def TILE_CTX.leased : Field := ⟨4, 1⟩
def TILE_CTX.reserve : Field := ⟨5, 1⟩
def TILE_CTX.confidential : Field := ⟨6, 1⟩
def TILE_CTX.vtile : Field := ⟨8, 12⟩
/-- TILE_EPOCH, 07_plates_and_folding.md. -/
def TILE_EPOCH (p : Nat) : Nat := 0x28000000010 + 0x10000 * p
def TILE_EPOCH.epoch : Field := ⟨0, 4⟩
/-- TILE_FAULT, 07_plates_and_folding.md. -/
def TILE_FAULT (p : Nat) : Nat := 0x28000000018 + 0x10000 * p
def TILE_FAULT.stale_token : Field := ⟨0, 1⟩
def TILE_FAULT.epoch_refused : Field := ⟨1, 1⟩
def TILE_FAULT.slot_disabled : Field := ⟨2, 1⟩
def TILE_FAULT.fold_config : Field := ⟨3, 1⟩
/-- TILE_STALE_TOKEN_COUNT, 07_plates_and_folding.md. -/
def TILE_STALE_TOKEN_COUNT (p : Nat) : Nat := 0x28000000020 + 0x10000 * p
def TILE_STALE_TOKEN_COUNT.count : Field := ⟨0, 32⟩
/-- TILE_STALE_LOG, 07_plates_and_folding.md. -/
def TILE_STALE_LOG (p : Nat) : Nat := 0x28000000028 + 0x10000 * p
def TILE_STALE_LOG.seen_epoch : Field := ⟨0, 4⟩
def TILE_STALE_LOG.tile_epoch : Field := ⟨4, 4⟩
def TILE_STALE_LOG.slot : Field := ⟨8, 3⟩
def TILE_STALE_LOG.index : Field := ⟨11, 6⟩
def TILE_STALE_LOG.where : Field := ⟨17, 1⟩
def TILE_STALE_LOG.held : Field := ⟨18, 1⟩
/-- TILE_STALE_TIME, 07_plates_and_folding.md. -/
def TILE_STALE_TIME (p : Nat) : Nat := 0x28000000030 + 0x10000 * p
def TILE_STALE_TIME.tb_count : Field := ⟨0, 64⟩
/-- TILE_FOLD_CTRL, 07_plates_and_folding.md. -/
def TILE_FOLD_CTRL (p : Nat) : Nat := 0x28000000038 + 0x10000 * p
def TILE_FOLD_CTRL.slot_enable : Field := ⟨0, 8⟩
def TILE_FOLD_CTRL.skip_idle : Field := ⟨8, 1⟩
def TILE_FOLD_CTRL.force_switch : Field := ⟨9, 1⟩
def TILE_FOLD_CTRL.hold : Field := ⟨10, 1⟩
def TILE_FOLD_CTRL.perf_freeze : Field := ⟨11, 1⟩
/-- TILE_FOLD_STATUS, 07_plates_and_folding.md. -/
def TILE_FOLD_STATUS (p : Nat) : Nat := 0x28000000040 + 0x10000 * p
def TILE_FOLD_STATUS.active_slot : Field := ⟨0, 3⟩
def TILE_FOLD_STATUS.switch_pending : Field := ⟨3, 1⟩
def TILE_FOLD_STATUS.switching : Field := ⟨4, 1⟩
def TILE_FOLD_STATUS.next_slot : Field := ⟨5, 3⟩
/-- TILE_FOLD_SWITCHES, 07_plates_and_folding.md. -/
def TILE_FOLD_SWITCHES (p : Nat) : Nat := 0x28000000048 + 0x10000 * p
def TILE_FOLD_SWITCHES.count : Field := ⟨0, 48⟩
def TILE_FOLD_SWITCHES.wrapped : Field := ⟨63, 1⟩
/-- TILE_FOLD_SW_CYCLES, 07_plates_and_folding.md. -/
def TILE_FOLD_SW_CYCLES (p : Nat) : Nat := 0x28000000050 + 0x10000 * p
def TILE_FOLD_SW_CYCLES.count : Field := ⟨0, 48⟩
def TILE_FOLD_SW_CYCLES.wrapped : Field := ⟨63, 1⟩
/-- TILE_FOLD_SLOT, 07_plates_and_folding.md. -/
def TILE_FOLD_SLOT (p : Nat) (s : Nat) : Nat := 0x28000000080 + 0x10000 * p + 0x8 * s
def TILE_FOLD_SLOT.quota : Field := ⟨0, 32⟩
def TILE_FOLD_SLOT.eob_switch : Field := ⟨32, 1⟩
def TILE_FOLD_SLOT.eob_units : Field := ⟨33, 7⟩
/-- TILE_CFG_CRC, 07_plates_and_folding.md. -/
def TILE_CFG_CRC (p : Nat) : Nat := 0x280000000C0 + 0x10000 * p
def TILE_CFG_CRC.crc : Field := ⟨0, 32⟩
def TILE_CFG_CRC.clear : Field := ⟨32, 1⟩
/-- SCU_CTX_STATE, 07_plates_and_folding.md. -/
def SCU_CTX_STATE (c : Nat) : Nat := 0x2F000080000 + 0x40 * c
def SCU_CTX_STATE.state : Field := ⟨0, 4⟩
def SCU_CTX_STATE.epoch : Field := ⟨4, 4⟩
def SCU_CTX_STATE.confidential : Field := ⟨8, 1⟩
def SCU_CTX_STATE.reconfiguring : Field := ⟨9, 1⟩
def SCU_CTX_STATE.stop_mode : Field := ⟨10, 1⟩
def SCU_CTX_STATE.tiles : Field := ⟨11, 9⟩
def SCU_CTX_STATE.reserves : Field := ⟨20, 5⟩
def SCU_CTX_STATE.reserves_free : Field := ⟨25, 5⟩
/-- SCU_CTX_REASON, 07_plates_and_folding.md. -/
def SCU_CTX_REASON (c : Nat) : Nat := 0x2F000080008 + 0x40 * c
def SCU_CTX_REASON.code : Field := ⟨0, 8⟩
def SCU_CTX_REASON.section : Field := ⟨8, 16⟩
def SCU_CTX_REASON.vtile : Field := ⟨24, 12⟩
def SCU_CTX_REASON.valid : Field := ⟨36, 1⟩
/-- SCU_CTX_TIMING, 07_plates_and_folding.md. -/
def SCU_CTX_TIMING (c : Nat) : Nat := 0x2F000080010 + 0x40 * c
def SCU_CTX_TIMING.drain_timeout_ms : Field := ⟨0, 16⟩
def SCU_CTX_TIMING.progress_timeout_us : Field := ⟨16, 16⟩
def SCU_CTX_TIMING.spill_width : Field := ⟨32, 5⟩
/-- SCU_CTX_PLATE, 07_plates_and_folding.md. -/
def SCU_CTX_PLATE (c : Nat) : Nat := 0x2F000080018 + 0x40 * c
def SCU_CTX_PLATE.plate_id : Field := ⟨0, 64⟩
/-- SCU_CTX_SPILL, 07_plates_and_folding.md. -/
def SCU_CTX_SPILL (c : Nat) : Nat := 0x2F000080020 + 0x40 * c
def SCU_CTX_SPILL.base_mib : Field := ⟨0, 32⟩
def SCU_CTX_SPILL.size_mib : Field := ⟨32, 24⟩
/-- SCU_CTX_LEASE, 07_plates_and_folding.md. -/
def SCU_CTX_LEASE (c : Nat) (q : Nat) : Nat := 0x2F000081000 + 0x20 * c + 0x8 * q
def SCU_CTX_LEASE.tiles : Field := ⟨0, 64⟩
/-- SCU_CTX_PLACE, 07_plates_and_folding.md. -/
def SCU_CTX_PLACE (c : Nat) (v : Nat) : Nat := 0x2F000084000 + 0x800 * c + 0x8 * v
def SCU_CTX_PLACE.valid : Field := ⟨0, 1⟩
def SCU_CTX_PLACE.tile : Field := ⟨1, 8⟩
def SCU_CTX_PLACE.displaced : Field := ⟨9, 1⟩
/-- SCU_SNT_STATUS, 08_streams_and_deadlines.md. -/
def SCU_SNT_STATUS : Nat := 0x2F0000C0000
def SCU_SNT_STATUS.entries : Field := ⟨0, 23⟩
def SCU_SNT_STATUS.running : Field := ⟨23, 1⟩
def SCU_SNT_STATUS.log_held : Field := ⟨24, 1⟩
/-- SCU_SNT_COMPLETE, 08_streams_and_deadlines.md. -/
def SCU_SNT_COMPLETE : Nat := 0x2F0000C0008
def SCU_SNT_COMPLETE.count : Field := ⟨0, 64⟩
/-- SCU_SNT_LOST, 08_streams_and_deadlines.md. -/
def SCU_SNT_LOST : Nat := 0x2F0000C0010
def SCU_SNT_LOST.count : Field := ⟨0, 64⟩
/-- SCU_SNT_DISCARDS, 08_streams_and_deadlines.md. -/
def SCU_SNT_DISCARDS : Nat := 0x2F0000C0018
def SCU_SNT_DISCARDS.late : Field := ⟨0, 32⟩
def SCU_SNT_DISCARDS.duplicate : Field := ⟨32, 16⟩
def SCU_SNT_DISCARDS.orphan : Field := ⟨48, 16⟩
/-- SCU_SNT_LOG, 08_streams_and_deadlines.md. -/
def SCU_SNT_LOG : Nat := 0x2F0000C0020
def SCU_SNT_LOG.stream_id : Field := ⟨0, 32⟩
def SCU_SNT_LOG.sequence : Field := ⟨32, 32⟩
/-- SCU_SNT_LOG_TIME, 08_streams_and_deadlines.md. -/
def SCU_SNT_LOG_TIME : Nat := 0x2F0000C0028
def SCU_SNT_LOG_TIME.tb_count : Field := ⟨0, 64⟩
/-- SCU_SHADOW, 08_streams_and_deadlines.md. -/
def SCU_SHADOW : Nat := 0x2F0000C0030
def SCU_SHADOW.rate_mbs : Field := ⟨0, 32⟩
def SCU_SHADOW.limit_mbs : Field := ⟨32, 32⟩
/-- SCU_CLASS, 08_streams_and_deadlines.md. -/
def SCU_CLASS (n : Nat) : Nat := 0x2F0000C0100 + 0x8 * n
def SCU_CLASS.bound_us : Field := ⟨0, 26⟩
def SCU_CLASS.jitter_us : Field := ⟨26, 26⟩
def SCU_CLASS.admit_on : Field := ⟨52, 1⟩
def SCU_CLASS.valid : Field := ⟨53, 1⟩
/-- SCU_STR_STATE, 08_streams_and_deadlines.md. -/
def SCU_STR_STATE (c : Nat) : Nat := 0x2F0000C1000 + 0x40 * c
def SCU_STR_STATE.open : Field := ⟨0, 13⟩
def SCU_STR_STATE.slots : Field := ⟨13, 13⟩
def SCU_STR_STATE.admission_open : Field := ⟨26, 1⟩
def SCU_STR_STATE.gather_paused : Field := ⟨27, 1⟩
def SCU_STR_STATE.heal_open : Field := ⟨28, 1⟩
def SCU_STR_STATE.at_risk : Field := ⟨29, 1⟩
def SCU_STR_STATE.last_refusal : Field := ⟨30, 8⟩
/-- SCU_STR_STEP, 08_streams_and_deadlines.md. -/
def SCU_STR_STEP (c : Nat) : Nat := 0x2F0000C1008 + 0x40 * c
def SCU_STR_STEP.step_period : Field := ⟨0, 32⟩
def SCU_STR_STEP.gather : Field := ⟨32, 32⟩
/-- SCU_STR_T0, 08_streams_and_deadlines.md. -/
def SCU_STR_T0 (c : Nat) : Nat := 0x2F0000C1010 + 0x40 * c
def SCU_STR_T0.t0 : Field := ⟨0, 64⟩
/-- SCU_STR_NEED, 08_streams_and_deadlines.md. -/
def SCU_STR_NEED (c : Nat) : Nat := 0x2F0000C1018 + 0x40 * c
def SCU_STR_NEED.need_now : Field := ⟨0, 32⟩
def SCU_STR_NEED.need_degraded : Field := ⟨32, 32⟩
/-- SCU_STR_OUTRING, 08_streams_and_deadlines.md. -/
def SCU_STR_OUTRING (c : Nat) : Nat := 0x2F0000C1020 + 0x40 * c
def SCU_STR_OUTRING.base : Field := ⟨0, 52⟩
def SCU_STR_OUTRING.log2_depth : Field := ⟨52, 5⟩
/-- SCU_STR_COUNTS, 08_streams_and_deadlines.md. -/
def SCU_STR_COUNTS (c : Nat) : Nat := 0x2F0000C1028 + 0x40 * c
def SCU_STR_COUNTS.lost : Field := ⟨0, 32⟩
def SCU_STR_COUNTS.cancelled : Field := ⟨32, 32⟩
/-- SCU_STR_RING, 08_streams_and_deadlines.md. -/
def SCU_STR_RING (c : Nat) : Nat := 0x2F0000C1030 + 0x40 * c
def SCU_STR_RING.unwritten : Field := ⟨0, 32⟩
def SCU_STR_RING.rejected : Field := ⟨32, 32⟩
/-- TILE_FENCE, 09_self_healing.md. -/
def TILE_FENCE (p : Nat) : Nat := 0x28000000200 + 0x10000 * p
def TILE_FENCE.fenced : Field := ⟨0, 1⟩
def TILE_FENCE.fence_req : Field := ⟨1, 1⟩
def TILE_FENCE.tile_reset : Field := ⟨2, 1⟩
def TILE_FENCE.unfence : Field := ⟨3, 1⟩
def TILE_FENCE.cause : Field := ⟨8, 8⟩
/-- TILE_WD_CFG, 09_self_healing.md. -/
def TILE_WD_CFG (p : Nat) : Nat := 0x28000000208 + 0x10000 * p
def TILE_WD_CFG.wd_log2 : Field := ⟨0, 5⟩
def TILE_WD_CFG.wd_en : Field := ⟨5, 1⟩
/-- TILE_WD_STATUS, 09_self_healing.md. -/
def TILE_WD_STATUS (p : Nat) : Nat := 0x28000000210 + 0x10000 * p
def TILE_WD_STATUS.hung_units : Field := ⟨0, 8⟩
/-- TILE_TEST_CTRL, 09_self_healing.md. -/
def TILE_TEST_CTRL (p : Nat) : Nat := 0x28000000218 + 0x10000 * p
def TILE_TEST_CTRL.start : Field := ⟨0, 1⟩
def TILE_TEST_CTRL.abandon : Field := ⟨1, 1⟩
def TILE_TEST_CTRL.set : Field := ⟨2, 2⟩
def TILE_TEST_CTRL.skip_router : Field := ⟨4, 1⟩
/-- TILE_TEST_STATUS, 09_self_healing.md. -/
def TILE_TEST_STATUS (p : Nat) : Nat := 0x28000000220 + 0x10000 * p
def TILE_TEST_STATUS.busy : Field := ⟨0, 1⟩
def TILE_TEST_STATUS.pass : Field := ⟨1, 1⟩
def TILE_TEST_STATUS.done : Field := ⟨2, 1⟩
def TILE_TEST_STATUS.part : Field := ⟨3, 3⟩
def TILE_TEST_STATUS.fail_index : Field := ⟨8, 8⟩
/-- TILE_HEAL_SKIP, 09_self_healing.md. -/
def TILE_HEAL_SKIP (p : Nat) : Nat := 0x28000000228 + 0x10000 * p
def TILE_HEAL_SKIP.skip : Field := ⟨0, 64⟩
/-- TILE_HEAL_DISCARDS, 09_self_healing.md. -/
def TILE_HEAL_DISCARDS (p : Nat) : Nat := 0x28000000230 + 0x10000 * p
def TILE_HEAL_DISCARDS.count : Field := ⟨0, 32⟩
/-- HLTH_ID, 09_self_healing.md. -/
def HLTH_ID : Nat := 0x2F000100000
def HLTH_ID.revision : Field := ⟨0, 8⟩
def HLTH_ID.generation : Field := ⟨32, 32⟩
/-- HLTH_SUMMARY, 09_self_healing.md. -/
def HLTH_SUMMARY : Nat := 0x2F000100008
def HLTH_SUMMARY.good : Field := ⟨0, 9⟩
def HLTH_SUMMARY.degraded : Field := ⟨9, 9⟩
def HLTH_SUMMARY.fenced : Field := ⟨18, 9⟩
def HLTH_SUMMARY.untested : Field := ⟨27, 9⟩
/-- HLTH_CFG, 09_self_healing.md. -/
def HLTH_CFG : Nat := 0x2F000100010
def HLTH_CFG.rotation_en : Field := ⟨0, 1⟩
def HLTH_CFG.paused : Field := ⟨1, 1⟩
def HLTH_CFG.age_action : Field := ⟨2, 1⟩
def HLTH_CFG.test_age_limit_h : Field := ⟨8, 8⟩
def HLTH_CFG.remap_warn : Field := ⟨16, 5⟩
/-- HLTH_ROT_STATUS, 09_self_healing.md. -/
def HLTH_ROT_STATUS : Nat := 0x2F000100018
def HLTH_ROT_STATUS.tile : Field := ⟨0, 8⟩
def HLTH_ROT_STATUS.active : Field := ⟨8, 1⟩
def HLTH_ROT_STATUS.router_bist_skipped : Field := ⟨9, 1⟩
def HLTH_ROT_STATUS.skipped : Field := ⟨10, 8⟩
def HLTH_ROT_STATUS.untested : Field := ⟨18, 9⟩
def HLTH_ROT_STATUS.passes : Field := ⟨32, 32⟩
/-- HLTH_OLDEST, 09_self_healing.md. -/
def HLTH_OLDEST : Nat := 0x2F000100020
def HLTH_OLDEST.tile : Field := ⟨0, 8⟩
def HLTH_OLDEST.age_ms : Field := ⟨8, 56⟩
/-- HLTH_HEAL_STATUS, 09_self_healing.md. -/
def HLTH_HEAL_STATUS : Nat := 0x2F000100028
def HLTH_HEAL_STATUS.open_windows : Field := ⟨0, 16⟩
def HLTH_HEAL_STATUS.heals : Field := ⟨16, 32⟩
def HLTH_HEAL_STATUS.over_8ms : Field := ⟨48, 16⟩
/-- HLTH_HEAL_LAST, 09_self_healing.md. -/
def HLTH_HEAL_LAST : Nat := 0x2F000100030
def HLTH_HEAL_LAST.failed_tile : Field := ⟨0, 8⟩
def HLTH_HEAL_LAST.target_tile : Field := ⟨8, 8⟩
def HLTH_HEAL_LAST.ctx : Field := ⟨16, 4⟩
def HLTH_HEAL_LAST.planned : Field := ⟨20, 1⟩
def HLTH_HEAL_LAST.duration : Field := ⟨32, 32⟩
/-- HLTH_HEAL_TIME, 09_self_healing.md. -/
def HLTH_HEAL_TIME : Nat := 0x2F000100038
def HLTH_HEAL_TIME.tb_count : Field := ⟨0, 64⟩
/-- HLTH_TILE, 09_self_healing.md. -/
def HLTH_TILE (p : Nat) : Nat := 0x2F000101000 + 0x8 * p
def HLTH_TILE.state : Field := ⟨0, 2⟩
def HLTH_TILE.in_test : Field := ⟨2, 1⟩
def HLTH_TILE.permanent : Field := ⟨3, 1⟩
def HLTH_TILE.leased : Field := ⟨4, 1⟩
def HLTH_TILE.reserve : Field := ⟨5, 1⟩
def HLTH_TILE.vsp_group : Field := ⟨8, 4⟩
def HLTH_TILE.cause : Field := ⟨12, 8⟩
def HLTH_TILE.degraded_why : Field := ⟨20, 3⟩
def HLTH_TILE.blocked_ranges : Field := ⟨23, 8⟩
def HLTH_TILE.max_remap : Field := ⟨31, 5⟩
def HLTH_TILE.retests : Field := ⟨36, 4⟩
/-- HLTH_TILE_PASS, 09_self_healing.md. -/
def HLTH_TILE_PASS (p : Nat) : Nat := 0x2F000101800 + 0x8 * p
def HLTH_TILE_PASS.tb_count : Field := ⟨0, 64⟩
/-- HLTH_PORT, 09_self_healing.md. -/
def HLTH_PORT (p : Nat) : Nat := 0x2F000102000 + 0x8 * p
def HLTH_PORT.link_state : Field := ⟨0, 16⟩
def HLTH_PORT.dnc_state : Field := ⟨16, 16⟩
/-- HLTH_BRIDGE, 09_self_healing.md. -/
def HLTH_BRIDGE (e : Nat) : Nat := 0x2F000102800 + 0x8 * e
def HLTH_BRIDGE.pair_fenced : Field := ⟨0, 8⟩
def HLTH_BRIDGE.pair_untested : Field := ⟨8, 8⟩
def HLTH_BRIDGE.fec_corrected : Field := ⟨16, 32⟩
def HLTH_BRIDGE.retries : Field := ⟨48, 16⟩
/-- HLTH_LANE, 09_self_healing.md. -/
def HLTH_LANE (l : Nat) : Nat := 0x2F000102900 + 0x8 * l
def HLTH_LANE.state : Field := ⟨0, 2⟩
def HLTH_LANE.corrected : Field := ⟨8, 32⟩
/-- HLTH_REMAP, 09_self_healing.md. -/
def HLTH_REMAP (p : Nat) (q : Nat) : Nat := 0x2F000104000 + 0x40 * p + 0x8 * q
def HLTH_REMAP.banks : Field := ⟨0, 64⟩
/-- SCU_CTX_SILENT, 10_silent_errors.md. -/
def SCU_CTX_SILENT (c : Nat) : Nat := 0x2F0000D0000 + 0x40 * c
def SCU_CTX_SILENT.arith_faults : Field := ⟨0, 32⟩
def SCU_CTX_SILENT.marked_outputs : Field := ⟨32, 16⟩
def SCU_CTX_SILENT.unchecked_blocks : Field := ⟨48, 16⟩
/-- SCU_CTX_NDC, 10_silent_errors.md. -/
def SCU_CTX_NDC (c : Nat) : Nat := 0x2F0000D0008 + 0x40 * c
def SCU_CTX_NDC.count : Field := ⟨0, 64⟩
/-- SCU_CTX_NDC_STATE, 10_silent_errors.md. -/
def SCU_CTX_NDC_STATE (c : Nat) : Nat := 0x2F0000D0010 + 0x40 * c
def SCU_CTX_NDC_STATE.incomplete : Field := ⟨0, 1⟩
/-- SCU_PROOF_CFG, 10_silent_errors.md. -/
def SCU_PROOF_CFG (c : Nat) : Nat := 0x2F0000D0018 + 0x40 * c
def SCU_PROOF_CFG.interval_steps : Field := ⟨0, 16⟩
def SCU_PROOF_CFG.interval_ms : Field := ⟨16, 32⟩
def SCU_PROOF_CFG.enable : Field := ⟨48, 1⟩
def SCU_PROOF_CFG.auto_loupe : Field := ⟨49, 1⟩
/-- SCU_PROOF_STATUS, 10_silent_errors.md. -/
def SCU_PROOF_STATUS (c : Nat) : Nat := 0x2F0000D0020 + 0x40 * c
def SCU_PROOF_STATUS.rounds : Field := ⟨0, 32⟩
def SCU_PROOF_STATUS.mismatches : Field := ⟨32, 16⟩
def SCU_PROOF_STATUS.overruns : Field := ⟨48, 8⟩
def SCU_PROOF_STATUS.round_active : Field := ⟨56, 1⟩
def SCU_PROOF_STATUS.last_status : Field := ⟨57, 3⟩
/-- SCU_PROOF_LAST, 10_silent_errors.md. -/
def SCU_PROOF_LAST (c : Nat) : Nat := 0x2F0000D0028 + 0x40 * c
def SCU_PROOF_LAST.gather_start : Field := ⟨0, 32⟩
def SCU_PROOF_LAST.gather_end : Field := ⟨32, 32⟩
/-- SCU_PROOF_TIME, 10_silent_errors.md. -/
def SCU_PROOF_TIME (c : Nat) : Nat := 0x2F0000D0030 + 0x40 * c
def SCU_PROOF_TIME.tb_count : Field := ⟨0, 64⟩
/-- MU_PROOF_CMD, 10_silent_errors.md. -/
def MU_PROOF_CMD (p : Nat) : Nat := 0x280000040C0 + 0x10000 * p
def MU_PROOF_CMD.go : Field := ⟨0, 1⟩
def MU_PROOF_CMD.region : Field := ⟨1, 6⟩
def MU_PROOF_CMD.abandon : Field := ⟨7, 1⟩
/-- MU_PROOF_STATUS, 10_silent_errors.md. -/
def MU_PROOF_STATUS (p : Nat) : Nat := 0x280000040C8 + 0x10000 * p
def MU_PROOF_STATUS.busy : Field := ⟨0, 1⟩
def MU_PROOF_STATUS.done : Field := ⟨1, 1⟩
def MU_PROOF_STATUS.ue : Field := ⟨2, 1⟩
def MU_PROOF_STATUS.region : Field := ⟨3, 6⟩
def MU_PROOF_STATUS.progress_4k : Field := ⟨32, 32⟩
/-- MU_PROOF_DIGEST, 10_silent_errors.md. -/
def MU_PROOF_DIGEST (p : Nat) (i : Nat) : Nat := 0x280000040D0 + 0x10000 * p + 0x8 * i
def MU_PROOF_DIGEST.bytes : Field := ⟨0, 64⟩
/-- HLTH_LOUPE_STATUS, 10_silent_errors.md. -/
def HLTH_LOUPE_STATUS : Nat := 0x2F000100040
def HLTH_LOUPE_STATUS.pending : Field := ⟨0, 5⟩
def HLTH_LOUPE_STATUS.running : Field := ⟨5, 3⟩
def HLTH_LOUPE_STATUS.holding_rotation : Field := ⟨8, 1⟩
def HLTH_LOUPE_STATUS.completed : Field := ⟨32, 32⟩
/-- HLTH_LOUPE, 10_silent_errors.md. -/
def HLTH_LOUPE (p : Nat) : Nat := 0x2F000108000 + 0x8 * p
def HLTH_LOUPE.result : Field := ⟨0, 3⟩
def HLTH_LOUPE.part : Field := ⟨3, 3⟩
def HLTH_LOUPE.fail_index : Field := ⟨6, 8⟩
def HLTH_LOUPE.router_skipped : Field := ⟨14, 1⟩
def HLTH_LOUPE.valid : Field := ⟨15, 1⟩
def HLTH_LOUPE.duration_ms : Field := ⟨16, 16⟩
def HLTH_LOUPE.generation : Field := ⟨32, 32⟩
/-- HBM_STATUS, 11_external_memory.md. -/
def HBM_STATUS (i : Nat) : Nat := 0x2F000900000 + 0x10000 * i
def HBM_STATUS.state : Field := ⟨0, 2⟩
def HBM_STATUS.hot : Field := ⟨2, 1⟩
def HBM_STATUS.lanes_repaired : Field := ⟨8, 8⟩
def HBM_STATUS.pages_retired : Field := ⟨16, 16⟩
def HBM_STATUS.sppr_done : Field := ⟨32, 16⟩
/-- HBM_ECC, 11_external_memory.md. -/
def HBM_ECC (i : Nat) : Nat := 0x2F000900008 + 0x10000 * i
def HBM_ECC.corrected : Field := ⟨0, 32⟩
def HBM_ECC.uncorrected : Field := ⟨32, 32⟩
/-- HBM_ECC_LOG, 11_external_memory.md. -/
def HBM_ECC_LOG (i : Nat) : Nat := 0x2F000900010 + 0x10000 * i
def HBM_ECC_LOG.offset : Field := ⟨0, 37⟩
def HBM_ECC_LOG.channel : Field := ⟨37, 4⟩
def HBM_ECC_LOG.pc : Field := ⟨41, 1⟩
def HBM_ECC_LOG.source : Field := ⟨42, 2⟩
def HBM_ECC_LOG.held : Field := ⟨44, 1⟩
/-- HBM_ECC_TIME, 11_external_memory.md. -/
def HBM_ECC_TIME (i : Nat) : Nat := 0x2F000900018 + 0x10000 * i
def HBM_ECC_TIME.tb_count : Field := ⟨0, 64⟩
/-- HBM_ILV, 11_external_memory.md. -/
def HBM_ILV : Nat := 0x2F000980000
def HBM_ILV.mode : Field := ⟨0, 1⟩
def HBM_ILV.failed : Field := ⟨1, 8⟩
/-- LP_STATUS, 11_external_memory.md. -/
def LP_STATUS (n : Nat) : Nat := 0x2F000A00000 + 0x10000 * n
def LP_STATUS.state : Field := ⟨0, 2⟩
def LP_STATUS.xts_ready : Field := ⟨2, 1⟩
/-- LP_ECC, 11_external_memory.md. -/
def LP_ECC (n : Nat) : Nat := 0x2F000A00008 + 0x10000 * n
def LP_ECC.corrected : Field := ⟨0, 32⟩
def LP_ECC.uncorrected : Field := ⟨32, 32⟩
/-- LP_ECC_LOG, 11_external_memory.md. -/
def LP_ECC_LOG (n : Nat) : Nat := 0x2F000A00010 + 0x10000 * n
def LP_ECC_LOG.address : Field := ⟨0, 40⟩
def LP_ECC_LOG.channel : Field := ⟨40, 2⟩
def LP_ECC_LOG.rank : Field := ⟨42, 1⟩
def LP_ECC_LOG.held : Field := ⟨43, 1⟩
/-- LP_ECC_TIME, 11_external_memory.md. -/
def LP_ECC_TIME (n : Nat) : Nat := 0x2F000A00018 + 0x10000 * n
def LP_ECC_TIME.tb_count : Field := ⟨0, 64⟩
/-- LP_XTS_RANGE_BASE, 11_external_memory.md. -/
def LP_XTS_RANGE_BASE (n : Nat) (r : Nat) : Nat := 0x2F000A00100 + 0x10000 * n + 0x10 * r
def LP_XTS_RANGE_BASE.base_4k : Field := ⟨0, 28⟩
/-- LP_XTS_RANGE_LIMIT, 11_external_memory.md. -/
def LP_XTS_RANGE_LIMIT (n : Nat) (r : Nat) : Nat := 0x2F000A00108 + 0x10000 * n + 0x10 * r
def LP_XTS_RANGE_LIMIT.limit_4k : Field := ⟨0, 28⟩
def LP_XTS_RANGE_LIMIT.key_slot : Field := ⟨28, 5⟩
def LP_XTS_RANGE_LIMIT.valid : Field := ⟨33, 1⟩
/-- XE_ENG_CFG, 11_external_memory.md. -/
def XE_ENG_CFG (g : Nat) (n : Nat) : Nat := 0x2F000B00000 + 0x80000 * g + 0x1000 * n
def XE_ENG_CFG.host_engine : Field := ⟨0, 1⟩
def XE_ENG_CFG.assigned : Field := ⟨1, 1⟩
def XE_ENG_CFG.device_use : Field := ⟨2, 1⟩
def XE_ENG_CFG.ctx : Field := ⟨3, 4⟩
def XE_ENG_CFG.drain_timeout_ms : Field := ⟨7, 16⟩
/-- XE_ENG_RING, 11_external_memory.md. -/
def XE_ENG_RING (g : Nat) (n : Nat) : Nat := 0x2F000B00008 + 0x80000 * g + 0x1000 * n
def XE_ENG_RING.base : Field := ⟨0, 52⟩
def XE_ENG_RING.log2_depth : Field := ⟨52, 5⟩
/-- XE_ENG_CPL, 11_external_memory.md. -/
def XE_ENG_CPL (g : Nat) (n : Nat) : Nat := 0x2F000B00010 + 0x80000 * g + 0x1000 * n
def XE_ENG_CPL.base : Field := ⟨0, 52⟩
def XE_ENG_CPL.log2_depth : Field := ⟨52, 5⟩
/-- XE_ENG_CTRL, 11_external_memory.md. -/
def XE_ENG_CTRL (g : Nat) (n : Nat) : Nat := 0x2F000B00018 + 0x80000 * g + 0x1000 * n
def XE_ENG_CTRL.halt_req : Field := ⟨0, 1⟩
def XE_ENG_CTRL.halt_mode : Field := ⟨1, 2⟩
def XE_ENG_CTRL.resume : Field := ⟨3, 1⟩
/-- XE_ENG_STATUS, 11_external_memory.md. -/
def XE_ENG_STATUS (g : Nat) (n : Nat) : Nat := 0x2F000B00020 + 0x80000 * g + 0x1000 * n
def XE_ENG_STATUS.in_progress : Field := ⟨0, 2⟩
def XE_ENG_STATUS.halted : Field := ⟨2, 1⟩
def XE_ENG_STATUS.cpl_full : Field := ⟨3, 1⟩
def XE_ENG_STATUS.drain_fallback : Field := ⟨4, 1⟩
def XE_ENG_STATUS.descriptors : Field := ⟨32, 32⟩
/-- XE_VMAP, 11_external_memory.md. -/
def XE_VMAP (g : Nat) (c : Nat) (v : Nat) : Nat := 0x2F000B40000 + 0x80000 * g + 0x800 * c + 0x8 * v
def XE_VMAP.valid : Field := ⟨0, 1⟩
def XE_VMAP.tile : Field := ⟨1, 8⟩
def XE_VMAP.counter : Field := ⟨9, 6⟩
/-- TL_ID, 12_treup_link.md. -/
def TL_ID : Nat := 0x2F000700000
def TL_ID.versions : Field := ⟨0, 8⟩
def TL_ID.lanes : Field := ⟨8, 8⟩
def TL_ID.revision : Field := ⟨16, 8⟩
/-- TL_CTRL, 12_treup_link.md. -/
def TL_CTRL : Nat := 0x2F000700008
def TL_CTRL.retrain : Field := ⟨0, 1⟩
def TL_CTRL.full_train : Field := ⟨1, 1⟩
def TL_CTRL.down_retry_ms : Field := ⟨2, 14⟩
def TL_CTRL.snoop_timeout_us : Field := ⟨16, 10⟩
def TL_CTRL.cpl_timeout_us : Field := ⟨26, 17⟩
/-- TL_STATUS, 12_treup_link.md. -/
def TL_STATUS : Nat := 0x2F000700010
def TL_STATUS.state : Field := ⟨0, 3⟩
def TL_STATUS.half_width : Field := ⟨3, 1⟩
def TL_STATUS.upper_half : Field := ⟨4, 1⟩
def TL_STATUS.reversed : Field := ⟨5, 1⟩
def TL_STATUS.version : Field := ⟨6, 2⟩
def TL_STATUS.partner_versions : Field := ⟨8, 8⟩
def TL_STATUS.down_reason : Field := ⟨16, 4⟩
/-- TL_FEATURES, 12_treup_link.md. -/
def TL_FEATURES : Nat := 0x2F000700018
def TL_FEATURES.enabled : Field := ⟨0, 5⟩
def TL_FEATURES.max_tags : Field := ⟨5, 13⟩
def TL_FEATURES.max_lines : Field := ⟨18, 4⟩
/-- TL_FLIT_ERR, 12_treup_link.md. -/
def TL_FLIT_ERR : Nat := 0x2F000700020
def TL_FLIT_ERR.fec_corrected : Field := ⟨0, 32⟩
def TL_FLIT_ERR.crc_failed : Field := ⟨32, 32⟩
/-- TL_RECOVERY, 12_treup_link.md. -/
def TL_RECOVERY : Nat := 0x2F000700028
def TL_RECOVERY.recoveries : Field := ⟨0, 16⟩
def TL_RECOVERY.downs : Field := ⟨16, 16⟩
def TL_RECOVERY.replays : Field := ⟨32, 32⟩
/-- TL_ERR_LOG, 12_treup_link.md. -/
def TL_ERR_LOG : Nat := 0x2F000700030
def TL_ERR_LOG.kind : Field := ⟨0, 4⟩
def TL_ERR_LOG.status : Field := ⟨4, 4⟩
def TL_ERR_LOG.tag : Field := ⟨8, 12⟩
def TL_ERR_LOG.held : Field := ⟨20, 1⟩
def TL_ERR_LOG.addr_hi : Field := ⟨24, 40⟩
/-- TL_ERR_TIME, 12_treup_link.md. -/
def TL_ERR_TIME : Nat := 0x2F000700038
def TL_ERR_TIME.tb_count : Field := ⟨0, 64⟩
/-- TL_COH, 12_treup_link.md. -/
def TL_COH : Nat := 0x2F000700040
def TL_COH.filter_used : Field := ⟨0, 20⟩
def TL_COH.evictions : Field := ⟨20, 20⟩
def TL_COH.snoop_timeouts : Field := ⟨40, 12⟩
def TL_COH.lost_lines : Field := ⟨52, 12⟩
/-- TL_DRDY, 12_treup_link.md. -/
def TL_DRDY : Nat := 0x2F000700048
def TL_DRDY.asserted : Field := ⟨0, 1⟩
def TL_DRDY.reply_en : Field := ⟨1, 1⟩
def TL_DRDY.event_en : Field := ⟨2, 1⟩
def TL_DRDY.replies_unread : Field := ⟨3, 11⟩
def TL_DRDY.events_unread : Field := ⟨14, 13⟩
/-- TL_OPEN_BASE, 12_treup_link.md. -/
def TL_OPEN_BASE (r : Nat) : Nat := 0x2F000701000 + 0x10 * r
def TL_OPEN_BASE.base_4k : Field := ⟨0, 40⟩
/-- TL_OPEN_LIMIT, 12_treup_link.md. -/
def TL_OPEN_LIMIT (r : Nat) : Nat := 0x2F000701008 + 0x10 * r
def TL_OPEN_LIMIT.limit_4k : Field := ⟨0, 40⟩
def TL_OPEN_LIMIT.read : Field := ⟨40, 1⟩
def TL_OPEN_LIMIT.write : Field := ⟨41, 1⟩
def TL_OPEN_LIMIT.coherent : Field := ⟨42, 1⟩
def TL_OPEN_LIMIT.valid : Field := ⟨43, 1⟩
/-- TL_LANE, 12_treup_link.md. -/
def TL_LANE (l : Nat) : Nat := 0x2F000700400 + 0x8 * l
def TL_LANE.state : Field := ⟨0, 2⟩
def TL_LANE.inverted : Field := ⟨2, 1⟩
def TL_LANE.logical : Field := ⟨3, 5⟩
def TL_LANE.eye_mv : Field := ⟨8, 8⟩
def TL_LANE.symbol_errors : Field := ⟨16, 32⟩
/-- SCU_CMD_STATUS, 13_command_set.md. -/
def SCU_CMD_STATUS : Nat := 0x2F0000E0000
def SCU_CMD_STATUS.in_progress : Field := ⟨0, 11⟩
def SCU_CMD_STATUS.ring_fault : Field := ⟨11, 1⟩
def SCU_CMD_STATUS.out_of_service : Field := ⟨12, 1⟩
def SCU_CMD_STATUS.refused : Field := ⟨32, 32⟩
/-- SCU_CMD_TAKEN, 13_command_set.md. -/
def SCU_CMD_TAKEN : Nat := 0x2F0000E0008
def SCU_CMD_TAKEN.taken : Field := ⟨0, 64⟩
/-- SCU_EVT_LOST, 13_command_set.md. -/
def SCU_EVT_LOST : Nat := 0x2F0000E0010
def SCU_EVT_LOST.lost : Field := ⟨0, 64⟩
/-- SCU_CMD_VERSION, 13_command_set.md. -/
def SCU_CMD_VERSION : Nat := 0x2F0000E0018
def SCU_CMD_VERSION.minor : Field := ⟨0, 8⟩
def SCU_CMD_VERSION.major : Field := ⟨8, 8⟩
def SCU_CMD_VERSION.fw_version : Field := ⟨16, 32⟩
/-- LN_ID, 14_lanel_links.md. -/
def LN_ID (n : Nat) : Nat := 0x2F000800000 + 0x10000 * n
def LN_ID.lanes : Field := ⟨0, 4⟩
def LN_ID.port : Field := ⟨4, 4⟩
def LN_ID.die : Field := ⟨8, 1⟩
def LN_ID.revision : Field := ⟨16, 8⟩
/-- LN_CTRL, 14_lanel_links.md. -/
def LN_CTRL (n : Nat) : Nat := 0x2F000800008 + 0x10000 * n
def LN_CTRL.enable : Field := ⟨0, 1⟩
def LN_CTRL.disable_req : Field := ⟨1, 1⟩
def LN_CTRL.disable_mode : Field := ⟨2, 2⟩
def LN_CTRL.drain_timeout_ms : Field := ⟨8, 8⟩
/-- LN_TIMERS, 14_lanel_links.md. -/
def LN_TIMERS (n : Nat) : Nat := 0x2F000800010 + 0x10000 * n
def LN_TIMERS.train_timeout_ms : Field := ⟨0, 16⟩
def LN_TIMERS.keepalive_timeout_us : Field := ⟨16, 16⟩
def LN_TIMERS.credit_timeout_ms : Field := ⟨32, 16⟩
def LN_TIMERS.rekey_hours : Field := ⟨48, 5⟩
/-- LN_STATUS, 14_lanel_links.md. -/
def LN_STATUS (n : Nat) : Nat := 0x2F000800018 + 0x10000 * n
def LN_STATUS.state : Field := ⟨0, 3⟩
def LN_STATUS.half_width : Field := ⟨3, 1⟩
def LN_STATUS.upper_pair : Field := ⟨4, 1⟩
def LN_STATUS.initiator : Field := ⟨5, 1⟩
def LN_STATUS.down_reason : Field := ⟨8, 4⟩
def LN_STATUS.fence_cause : Field := ⟨12, 4⟩
/-- LN_PARTNER, 14_lanel_links.md. -/
def LN_PARTNER (n : Nat) (i : Nat) : Nat := 0x2F000800020 + 0x10000 * n + 0x8 * i
def LN_PARTNER.bytes : Field := ⟨0, 64⟩
/-- LN_ERR, 14_lanel_links.md. -/
def LN_ERR (n : Nat) : Nat := 0x2F000800040 + 0x10000 * n
def LN_ERR.fec_corrected : Field := ⟨0, 32⟩
def LN_ERR.fec_uncorrected : Field := ⟨32, 32⟩
/-- LN_RETRY, 14_lanel_links.md. -/
def LN_RETRY (n : Nat) : Nat := 0x2F000800048 + 0x10000 * n
def LN_RETRY.replays : Field := ⟨0, 32⟩
def LN_RETRY.retrains : Field := ⟨32, 16⟩
def LN_RETRY.downs : Field := ⟨48, 16⟩
/-- LN_AUTH, 14_lanel_links.md. -/
def LN_AUTH (n : Nat) : Nat := 0x2F000800050 + 0x10000 * n
def LN_AUTH.auth_failures : Field := ⟨0, 32⟩
def LN_AUTH.last_second : Field := ⟨32, 7⟩
def LN_AUTH.unknown_rch : Field := ⟨40, 24⟩
/-- LN_CRYPTO, 14_lanel_links.md. -/
def LN_CRYPTO (n : Nat) : Nat := 0x2F000800058 + 0x10000 * n
def LN_CRYPTO.rekeys : Field := ⟨0, 16⟩
def LN_CRYPTO.handshakes : Field := ⟨16, 16⟩
def LN_CRYPTO.dropped : Field := ⟨32, 32⟩
/-- LN_TX_CTR, 14_lanel_links.md. -/
def LN_TX_CTR (n : Nat) : Nat := 0x2F000800060 + 0x10000 * n
def LN_TX_CTR.counter : Field := ⟨0, 64⟩
/-- LN_RX_CTR, 14_lanel_links.md. -/
def LN_RX_CTR (n : Nat) : Nat := 0x2F000800068 + 0x10000 * n
def LN_RX_CTR.counter : Field := ⟨0, 64⟩
/-- LN_TB, 14_lanel_links.md. -/
def LN_TB (n : Nat) : Nat := 0x2F000800070 + 0x10000 * n
def LN_TB.offset_ns : Field := ⟨0, 32⟩
def LN_TB.delay_ns : Field := ⟨32, 16⟩
/-- LN_FRAMES_TX, 14_lanel_links.md. -/
def LN_FRAMES_TX (n : Nat) : Nat := 0x2F000800078 + 0x10000 * n
def LN_FRAMES_TX.count : Field := ⟨0, 48⟩
def LN_FRAMES_TX.wrapped : Field := ⟨63, 1⟩
/-- LN_FRAMES_RX, 14_lanel_links.md. -/
def LN_FRAMES_RX (n : Nat) : Nat := 0x2F000800080 + 0x10000 * n
def LN_FRAMES_RX.count : Field := ⟨0, 48⟩
def LN_FRAMES_RX.wrapped : Field := ⟨63, 1⟩
/-- LN_LANE, 14_lanel_links.md. -/
def LN_LANE (n : Nat) (l : Nat) : Nat := 0x2F000800100 + 0x10000 * n + 0x8 * l
def LN_LANE.state : Field := ⟨0, 2⟩
def LN_LANE.inverted : Field := ⟨2, 1⟩
def LN_LANE.eye_mv : Field := ⟨8, 8⟩
def LN_LANE.corrected : Field := ⟨16, 32⟩
/-- LN_EGRESS_W0, 14_lanel_links.md. -/
def LN_EGRESS_W0 (d : Nat) (i : Nat) : Nat := 0x2F000808000 + 0x60000 * d + 0x20 * i
def LN_EGRESS_W0.valid : Field := ⟨0, 1⟩
def LN_EGRESS_W0.ctx : Field := ⟨1, 4⟩
def LN_EGRESS_W0.lvc : Field := ⟨5, 1⟩
def LN_EGRESS_W0.rch : Field := ⟨6, 16⟩
def LN_EGRESS_W0.hop_count : Field := ⟨22, 6⟩
def LN_EGRESS_W0.buffer_kib : Field := ⟨28, 16⟩
/-- LN_EGRESS_W1, 14_lanel_links.md. -/
def LN_EGRESS_W1 (d : Nat) (i : Nat) : Nat := 0x2F000808008 + 0x60000 * d + 0x20 * i
def LN_EGRESS_W1.route : Field := ⟨0, 64⟩
/-- LN_EGRESS_W2, 14_lanel_links.md. -/
def LN_EGRESS_W2 (d : Nat) (i : Nat) : Nat := 0x2F000808010 + 0x60000 * d + 0x20 * i
def LN_EGRESS_W2.route : Field := ⟨0, 64⟩
/-- LN_EGRESS_W3, 14_lanel_links.md. -/
def LN_EGRESS_W3 (d : Nat) (i : Nat) : Nat := 0x2F000808018 + 0x60000 * d + 0x20 * i
def LN_EGRESS_W3.credits : Field := ⟨0, 32⟩
def LN_EGRESS_W3.peer_kib : Field := ⟨32, 16⟩
/-- LN_INGRESS_W0, 14_lanel_links.md. -/
def LN_INGRESS_W0 (d : Nat) (i : Nat) : Nat := 0x2F000809000 + 0x60000 * d + 0x20 * i
def LN_INGRESS_W0.valid : Field := ⟨0, 1⟩
def LN_INGRESS_W0.ctx : Field := ⟨1, 4⟩
def LN_INGRESS_W0.lvc : Field := ⟨5, 1⟩
def LN_INGRESS_W0.rch : Field := ⟨6, 16⟩
def LN_INGRESS_W0.dest_tile : Field := ⟨22, 8⟩
def LN_INGRESS_W0.dest_ep : Field := ⟨30, 6⟩
def LN_INGRESS_W0.route_id : Field := ⟨36, 10⟩
/-- LN_INGRESS_W1, 14_lanel_links.md. -/
def LN_INGRESS_W1 (d : Nat) (i : Nat) : Nat := 0x2F000809008 + 0x60000 * d + 0x20 * i
def LN_INGRESS_W1.buffer_kib : Field := ⟨0, 16⟩
def LN_INGRESS_W1.next_seq : Field := ⟨32, 32⟩
/-- LN_INGRESS_W2, 14_lanel_links.md. -/
def LN_INGRESS_W2 (d : Nat) (i : Nat) : Nat := 0x2F000809010 + 0x60000 * d + 0x20 * i
def LN_INGRESS_W2.return_route : Field := ⟨0, 64⟩
/-- LN_INGRESS_W3, 14_lanel_links.md. -/
def LN_INGRESS_W3 (d : Nat) (i : Nat) : Nat := 0x2F000809018 + 0x60000 * d + 0x20 * i
def LN_INGRESS_W3.return_route_hi : Field := ⟨0, 64⟩
/-- SEC_ID, 15_security.md. -/
def SEC_ID : Nat := 0x2F000600000
def SEC_ID.revision : Field := ⟨0, 8⟩
def SEC_ID.weight_slots : Field := ⟨8, 8⟩
def SEC_ID.enroll_slots : Field := ⟨16, 8⟩
/-- SEC_STATUS, 15_security.md. -/
def SEC_STATUS : Nat := 0x2F000600008
def SEC_STATUS.confidential : Field := ⟨0, 16⟩
def SEC_STATUS.restricted : Field := ⟨16, 1⟩
def SEC_STATUS.keys_low : Field := ⟨17, 1⟩
def SEC_STATUS.exhausted : Field := ⟨18, 1⟩
def SEC_STATUS.sign_queued : Field := ⟨19, 8⟩
def SEC_STATUS.lifecycle : Field := ⟨32, 8⟩
/-- SEC_SVN, 15_security.md. -/
def SEC_SVN : Nat := 0x2F000600010
def SEC_SVN.fused : Field := ⟨0, 7⟩
def SEC_SVN.image : Field := ⟨8, 7⟩
def SEC_SVN.commit_pending : Field := ⟨15, 1⟩
/-- SEC_LEAVES_USED, 15_security.md. -/
def SEC_LEAVES_USED : Nat := 0x2F000600018
def SEC_LEAVES_USED.used : Field := ⟨0, 41⟩
/-- SEC_LEAVES_RESV, 15_security.md. -/
def SEC_LEAVES_RESV : Nat := 0x2F000600020
def SEC_LEAVES_RESV.reserved_end : Field := ⟨0, 41⟩
/-- SEC_SIGN, 15_security.md. -/
def SEC_SIGN : Nat := 0x2F000600028
def SEC_SIGN.signatures : Field := ⟨0, 32⟩
def SEC_SIGN.rebuilds : Field := ⟨32, 16⟩
/-- SEC_FAULT, 15_security.md. -/
def SEC_FAULT : Nat := 0x2F000600030
def SEC_FAULT.fw_copy_mismatch : Field := ⟨0, 1⟩
def SEC_FAULT.svn_fault : Field := ⟨1, 1⟩
def SEC_FAULT.import_refused : Field := ⟨2, 1⟩
def SEC_FAULT.purge : Field := ⟨3, 1⟩
def SEC_FAULT.journal_fault : Field := ⟨4, 1⟩
/-- SEC_AON, 15_security.md. -/
def SEC_AON : Nat := 0x2F000600038
def SEC_AON.dirty : Field := ⟨0, 1⟩
/-- SEC_ID_KEY, 15_security.md. -/
def SEC_ID_KEY (i : Nat) : Nat := 0x2F000600040 + 0x8 * i
def SEC_ID_KEY.bytes : Field := ⟨0, 64⟩
/-- SEC_FW_MEAS, 15_security.md. -/
def SEC_FW_MEAS (i : Nat) : Nat := 0x2F000600060 + 0x8 * i
def SEC_FW_MEAS.bytes : Field := ⟨0, 64⟩
/-- SEC_CFG_MEAS, 15_security.md. -/
def SEC_CFG_MEAS (i : Nat) : Nat := 0x2F000600080 + 0x8 * i
def SEC_CFG_MEAS.bytes : Field := ⟨0, 64⟩
/-- SEC_FW_ROOT, 15_security.md. -/
def SEC_FW_ROOT (i : Nat) : Nat := 0x2F0006000C0 + 0x8 * i
def SEC_FW_ROOT.bytes : Field := ⟨0, 64⟩
/-- SEC_ENROLL_VALID, 15_security.md. -/
def SEC_ENROLL_VALID : Nat := 0x2F0006000A0
def SEC_ENROLL_VALID.valid : Field := ⟨0, 16⟩
/-- SEC_PURGE, 15_security.md. -/
def SEC_PURGE : Nat := 0x2F0006000A8
def SEC_PURGE.tile : Field := ⟨0, 8⟩
def SEC_PURGE.busy : Field := ⟨8, 1⟩
/-- SEC_CTX_KEYS, 15_security.md. -/
def SEC_CTX_KEYS (c : Nat) : Nat := 0x2F000600100 + 0x8 * c
def SEC_CTX_KEYS.weight_slots : Field := ⟨0, 16⟩
def SEC_CTX_KEYS.xts_slot : Field := ⟨16, 5⟩
def SEC_CTX_KEYS.xts_valid : Field := ⟨21, 1⟩
/-- SEC_ENROLL, 15_security.md. -/
def SEC_ENROLL (k : Nat) (i : Nat) : Nat := 0x2F000600200 + 0x20 * k + 0x8 * i
def SEC_ENROLL.bytes : Field := ⟨0, 64⟩
/-- BELFRY_COUNT, 16_reset_and_recovery.md. -/
def BELFRY_COUNT : Nat := 0x2F0000F0000
def BELFRY_COUNT.count : Field := ⟨0, 32⟩
/-- SCU_WDT_STATUS, 16_reset_and_recovery.md. -/
def SCU_WDT_STATUS : Nat := 0x2F0000F0008
def SCU_WDT_STATUS.armed : Field := ⟨0, 1⟩
def SCU_WDT_STATUS.fired : Field := ⟨1, 1⟩
def SCU_WDT_STATUS.stub_active : Field := ⟨2, 1⟩
def SCU_WDT_STATUS.since_write_ms : Field := ⟨3, 5⟩
def SCU_WDT_STATUS.fires : Field := ⟨32, 32⟩
/-- SCU_RESET_STATUS, 16_reset_and_recovery.md. -/
def SCU_RESET_STATUS : Nat := 0x2F0000F0010
def SCU_RESET_STATUS.last_cause : Field := ⟨0, 7⟩
def SCU_RESET_STATUS.last_module : Field := ⟨7, 1⟩
def SCU_RESET_STATUS.step : Field := ⟨8, 3⟩
def SCU_RESET_STATUS.out_of_service : Field := ⟨11, 1⟩
def SCU_RESET_STATUS.compute_resets : Field := ⟨32, 32⟩
/-- SCU_RESET_TIME, 16_reset_and_recovery.md. -/
def SCU_RESET_TIME : Nat := 0x2F0000F0018
def SCU_RESET_TIME.tb_count : Field := ⟨0, 64⟩
/-- SCU_ESC_HIST, 16_reset_and_recovery.md. -/
def SCU_ESC_HIST (i : Nat) : Nat := 0x2F0000F0020 + 0x8 * i
def SCU_ESC_HIST.tb_count : Field := ⟨0, 64⟩
/-- SCU_AON_ESC, 16_reset_and_recovery.md. -/
def SCU_AON_ESC : Nat := 0x2F0000F0038
def SCU_AON_ESC.compute_reset_limit : Field := ⟨0, 2⟩
def SCU_AON_ESC.module_reset_limit : Field := ⟨2, 2⟩
def SCU_AON_ESC.out_of_service : Field := ⟨4, 1⟩
def SCU_AON_ESC.module_resets : Field := ⟨32, 32⟩
/-- SCU_AON_MRST, 16_reset_and_recovery.md. -/
def SCU_AON_MRST (i : Nat) : Nat := 0x2F0000F0040 + 0x8 * i
def SCU_AON_MRST.cal_s : Field := ⟨0, 64⟩
/-- SCU_SHEET_STATUS, 16_reset_and_recovery.md. -/
def SCU_SHEET_STATUS : Nat := 0x2F0000F0050
def SCU_SHEET_STATUS.state : Field := ⟨0, 2⟩
def SCU_SHEET_STATUS.read : Field := ⟨2, 1⟩
def SCU_SHEET_STATUS.later_events : Field := ⟨8, 6⟩
def SCU_SHEET_STATUS.redacted : Field := ⟨16, 16⟩
def SCU_SHEET_STATUS.sequence : Field := ⟨32, 32⟩
/-- SCU_BOOT_STATUS, 17_bring_up.md. -/
def SCU_BOOT_STATUS : Nat := 0x2F000010000
def SCU_BOOT_STATUS.stage : Field := ⟨0, 8⟩
def SCU_BOOT_STATUS.fail : Field := ⟨8, 8⟩
def SCU_BOOT_STATUS.refused : Field := ⟨16, 8⟩
def SCU_BOOT_STATUS.dirty_fill : Field := ⟨24, 1⟩
def SCU_BOOT_STATUS.cold : Field := ⟨25, 1⟩
def SCU_BOOT_STATUS.image_length : Field := ⟨32, 32⟩
/-- SCU_BOOT_READY, 17_bring_up.md. -/
def SCU_BOOT_READY : Nat := 0x2F000010008
def SCU_BOOT_READY.tb_count : Field := ⟨0, 64⟩
/-- CLK_STATUS, 18_power_and_clocks.md. -/
def CLK_STATUS : Nat := 0x2F000200000
def CLK_STATUS.multiplier : Field := ⟨0, 8⟩
def CLK_STATUS.locked : Field := ⟨8, 1⟩
def CLK_STATUS.refclk_ok : Field := ⟨9, 1⟩
/-- PWR_STATUS, 18_power_and_clocks.md. -/
def PWR_STATUS : Nat := 0x2F000300000
def PWR_STATUS.state : Field := ⟨0, 3⟩
def PWR_STATUS.throttled : Field := ⟨3, 1⟩
def PWR_STATUS.emergency : Field := ⟨4, 1⟩
def PWR_STATUS.trip : Field := ⟨5, 1⟩
def PWR_STATUS.over_limit : Field := ⟨6, 1⟩
def PWR_STATUS.inlet_c : Field := ⟨8, 8⟩
def PWR_STATUS.power_w : Field := ⟨16, 12⟩
def PWR_STATUS.need_w : Field := ⟨28, 12⟩
/-- PWR_CFG, 18_power_and_clocks.md. -/
def PWR_CFG : Nat := 0x2F000300008
def PWR_CFG.limit_w : Field := ⟨0, 12⟩
/-- PWR_BASE, 18_power_and_clocks.md. -/
def PWR_BASE : Nat := 0x2F000300010
def PWR_BASE.base_w : Field := ⟨0, 12⟩
/-- PWR_GATE, 18_power_and_clocks.md. -/
def PWR_GATE : Nat := 0x2F000300018
def PWR_GATE.host_gate : Field := ⟨0, 7⟩
def PWR_GATE.unprot_gate : Field := ⟨7, 7⟩
def PWR_GATE.prot_gate_min : Field := ⟨14, 7⟩
def PWR_GATE.throttle_ms : Field := ⟨32, 32⟩
/-- PWR_THERM, 18_power_and_clocks.md. -/
def PWR_THERM : Nat := 0x2F000300020
def PWR_THERM.tj_max_c : Field := ⟨0, 8⟩
def PWR_THERM.tj_tile : Field := ⟨8, 8⟩
def PWR_THERM.hbm_max_c : Field := ⟨16, 8⟩
def PWR_THERM.hbm_stack : Field := ⟨24, 3⟩
def PWR_THERM.emergencies : Field := ⟨32, 16⟩
def PWR_THERM.trips : Field := ⟨48, 16⟩
/-- PWR_INPUT, 18_power_and_clocks.md. -/
def PWR_INPUT : Nat := 0x2F000300028
def PWR_INPUT.vin_mv : Field := ⟨0, 16⟩
def PWR_INPUT.iin_10ma : Field := ⟨16, 16⟩
def PWR_INPUT.uv_warn : Field := ⟨32, 1⟩
def PWR_INPUT.ov_warn : Field := ⟨33, 1⟩
/-- PWR_CTX, 18_power_and_clocks.md. -/
def PWR_CTX (c : Nat) : Nat := 0x2F000300100 + 0x8 * c
def PWR_CTX.p_ctx_w : Field := ⟨0, 12⟩
def PWR_CTX.measured : Field := ⟨12, 1⟩
def PWR_CTX.protected : Field := ⟨13, 1⟩
/-- TB_COUNT, 18_power_and_clocks.md. -/
def TB_COUNT : Nat := 0x2F000400000
def TB_COUNT.count : Field := ⟨0, 64⟩
/-- TB_SLEW, 18_power_and_clocks.md. -/
def TB_SLEW : Nat := 0x2F000400008
def TB_SLEW.remaining_ns : Field := ⟨0, 32⟩
def TB_SLEW.slewing : Field := ⟨32, 1⟩
/-- TB_SYNC_CFG, 18_power_and_clocks.md. -/
def TB_SYNC_CFG : Nat := 0x2F000400010
def TB_SYNC_CFG.enable : Field := ⟨0, 1⟩
def TB_SYNC_CFG.frac : Field := ⟨1, 6⟩
def TB_SYNC_CFG.period_counts : Field := ⟨32, 32⟩
/-- TB_SYNC_EXPECT, 18_power_and_clocks.md. -/
def TB_SYNC_EXPECT : Nat := 0x2F000400018
def TB_SYNC_EXPECT.expect : Field := ⟨0, 64⟩
/-- TB_SYNC_LATCH, 18_power_and_clocks.md. -/
def TB_SYNC_LATCH : Nat := 0x2F000400020
def TB_SYNC_LATCH.latch : Field := ⟨0, 64⟩
/-- CAL_SECONDS, 18_power_and_clocks.md. -/
def CAL_SECONDS : Nat := 0x2F000500000
def CAL_SECONDS.seconds : Field := ⟨0, 64⟩
/-- CAL_NS, 18_power_and_clocks.md. -/
def CAL_NS : Nat := 0x2F000500008
def CAL_NS.ns : Field := ⟨0, 30⟩
def CAL_NS.valid : Field := ⟨30, 1⟩
def CAL_NS.vbat_low : Field := ⟨31, 1⟩
/-- CAL_TRIM, 18_power_and_clocks.md. -/
def CAL_TRIM : Nat := 0x2F000500010
def CAL_TRIM.trim_ppb : Field := ⟨0, 32⟩
def CAL_TRIM.factory_ppb : Field := ⟨32, 32⟩
/-- SMP_ID, 20_performance.md. -/
def SMP_ID : Nat := 0x2F000C00000
def SMP_ID.selections : Field := ⟨0, 9⟩
def SMP_ID.revision : Field := ⟨9, 7⟩
/-- SMP_CTRL, 20_performance.md. -/
def SMP_CTRL : Nat := 0x2F000C00008
def SMP_CTRL.start : Field := ⟨0, 1⟩
def SMP_CTRL.stop : Field := ⟨1, 1⟩
/-- SMP_CFG, 20_performance.md. -/
def SMP_CFG : Nat := 0x2F000C00010
def SMP_CFG.interval : Field := ⟨0, 27⟩
def SMP_CFG.mode : Field := ⟨27, 1⟩
/-- SMP_START, 20_performance.md. -/
def SMP_START : Nat := 0x2F000C00018
def SMP_START.start_tb : Field := ⟨0, 64⟩
/-- SMP_RING, 20_performance.md. -/
def SMP_RING : Nat := 0x2F000C00020
def SMP_RING.base : Field := ⟨0, 52⟩
def SMP_RING.log2_depth : Field := ⟨52, 5⟩
/-- SMP_STATUS, 20_performance.md. -/
def SMP_STATUS : Nat := 0x2F000C00028
def SMP_STATUS.running : Field := ⟨0, 1⟩
def SMP_STATUS.stopped_full : Field := ⟨1, 1⟩
def SMP_STATUS.cfg_refused : Field := ⟨2, 1⟩
/-- SMP_WRITTEN, 20_performance.md. -/
def SMP_WRITTEN : Nat := 0x2F000C00030
def SMP_WRITTEN.count : Field := ⟨0, 64⟩
/-- SMP_LOST, 20_performance.md. -/
def SMP_LOST : Nat := 0x2F000C00038
def SMP_LOST.count : Field := ⟨0, 64⟩
/-- SMP_SEL, 20_performance.md. -/
def SMP_SEL (n : Nat) : Nat := 0x2F000C00100 + 0x8 * n
def SMP_SEL.valid : Field := ⟨0, 1⟩
def SMP_SEL.by_vtile : Field := ⟨1, 1⟩
def SMP_SEL.tile : Field := ⟨2, 8⟩
def SMP_SEL.ctx : Field := ⟨10, 4⟩
def SMP_SEL.vtile : Field := ⟨14, 8⟩
def SMP_SEL.kind : Field := ⟨22, 2⟩
def SMP_SEL.object : Field := ⟨24, 6⟩
def SMP_SEL.moved : Field := ⟨30, 1⟩

/-! ## Descriptors: what a register write may change (R10) and what the register holds after its reset (R8). -/

/-- Descriptors of the global window 0. -/
def regsG0_0 : List RegDesc :=
  [⟨0x2F000080000, [(16, 0x40)], 0x0, 0x0, 0x0, 0x0, 0x0, .module⟩,
   ⟨0x2F000080008, [(16, 0x40)], 0x0, 0x0, 0x0, 0x0, 0x0, .module⟩,
   ⟨0x2F000080010, [(16, 0x40)], 0x0, 0x0, 0x0, 0x0, 0x101000002, .module⟩,
   ⟨0x2F000080018, [(16, 0x40)], 0x0, 0x0, 0x0, 0x0, 0x0, .module⟩,
   ⟨0x2F000080020, [(16, 0x40)], 0x0, 0x0, 0x0, 0x0, 0x0, .module⟩,
   ⟨0x2F000081000, [(16, 0x20), (4, 0x8)], 0x0, 0x0, 0x0, 0x0, 0x0, .module⟩,
   ⟨0x2F000084000, [(16, 0x800), (256, 0x8)], 0x0, 0x0, 0x0, 0x0, 0x0, .module⟩,
   ⟨0x2F0000C0000, [], 0x0, 0x0, 0x0, 0x0, 0x0, .module⟩,
   ⟨0x2F0000C0008, [], 0x0, 0x0, 0x0, 0x0, 0x0, .module⟩,
   ⟨0x2F0000C0010, [], 0x0, 0x0, 0x0, 0x0, 0x0, .module⟩,
   ⟨0x2F0000C0018, [], 0x0, 0x0, 0x0, 0x0, 0x0, .module⟩,
   ⟨0x2F0000C0020, [], 0x0, 0x0, 0x0, 0x0, 0x0, .module⟩,
   ⟨0x2F0000C0028, [], 0x0, 0x0, 0x0, 0x0, 0x0, .module⟩,
   ⟨0x2F0000C0030, [], 0x0, 0x0, 0x0, 0x0, 0xF000000000000, .module⟩,
   ⟨0x2F0000C0100, [(4, 0x8)], 0x0, 0x0, 0x0, 0x0, 0x20000000000000, .module⟩,
   ⟨0x2F0000C1000, [(16, 0x40)], 0x0, 0x0, 0x0, 0x0, 0x0, .module⟩,
   ⟨0x2F0000C1008, [(16, 0x40)], 0x0, 0x0, 0x0, 0x0, 0x0, .module⟩,
   ⟨0x2F0000C1010, [(16, 0x40)], 0x0, 0x0, 0x0, 0x0, 0x0, .module⟩,
   ⟨0x2F0000C1018, [(16, 0x40)], 0x0, 0x0, 0x0, 0x0, 0x0, .module⟩,
   ⟨0x2F0000C1020, [(16, 0x40)], 0x0, 0x0, 0x0, 0x0, 0x0, .module⟩,
   ⟨0x2F0000C1028, [(16, 0x40)], 0x0, 0x0, 0x0, 0x0, 0x0, .module⟩,
   ⟨0x2F0000C1030, [(16, 0x40)], 0x0, 0x0, 0x0, 0x0, 0x0, .module⟩,
   ⟨0x2F0000D0000, [(16, 0x40)], 0x0, 0x0, 0x0, 0x0, 0x0, .module⟩,
   ⟨0x2F0000D0008, [(16, 0x40)], 0x0, 0x0, 0x0, 0x0, 0x0, .module⟩,
   ⟨0x2F0000D0010, [(16, 0x40)], 0x0, 0x0, 0x0, 0x0, 0x0, .module⟩,
   ⟨0x2F0000D0018, [(16, 0x40)], 0x0, 0x0, 0x0, 0x0, 0x3000003E80400, .module⟩,
   ⟨0x2F0000D0020, [(16, 0x40)], 0x0, 0x0, 0x0, 0x0, 0x0, .module⟩,
   ⟨0x2F0000D0028, [(16, 0x40)], 0x0, 0x0, 0x0, 0x0, 0x0, .module⟩,
   ⟨0x2F0000D0030, [(16, 0x40)], 0x0, 0x0, 0x0, 0x0, 0x0, .module⟩,
   ⟨0x2F0000E0000, [], 0x0, 0x0, 0x0, 0x0, 0x0, .module⟩,
   ⟨0x2F0000E0008, [], 0x0, 0x0, 0x0, 0x0, 0x0, .module⟩,
   ⟨0x2F0000E0010, [], 0x0, 0x0, 0x0, 0x0, 0x0, .module⟩,
   ⟨0x2F0000E0018, [], 0x0, 0x0, 0x0, 0x0, 0x100, .module⟩,
   ⟨0x2F0000F0000, [], 0xFFFFFFFF, 0x0, 0x0, 0x0, 0x0, .module⟩,
   ⟨0x2F0000F0008, [], 0x0, 0x2, 0x0, 0x0, 0x0, .module⟩,
   ⟨0x2F0000F0010, [], 0x0, 0x0, 0x0, 0x0, 0x0, .module⟩,
   ⟨0x2F0000F0018, [], 0x0, 0x0, 0x0, 0x0, 0x0, .module⟩,
   ⟨0x2F0000F0020, [(3, 0x8)], 0x0, 0x0, 0x0, 0x0, 0x0, .module⟩,
   ⟨0x2F0000F0038, [], 0x0, 0x0, 0x0, 0x0, 0xB, .module⟩,
   ⟨0x2F0000F0040, [(2, 0x8)], 0x0, 0x0, 0x0, 0x0, 0x0, .module⟩]
def regsG0_1 : List RegDesc :=
  [⟨0x2F0000F0050, [], 0x0, 0x0, 0x0, 0x0, 0x0, .module⟩,
   ⟨0x2F000010000, [], 0x0, 0x0, 0x0, 0x0, 0x1, .module⟩,
   ⟨0x2F000010008, [], 0x0, 0x0, 0x0, 0x0, 0x0, .module⟩]
def regsG0 : List RegDesc := regsG0_0 ++ regsG0_1
/-- Descriptors of the global window 1. -/
def regsG1 : List RegDesc :=
  [⟨0x2F000100000, [], 0x0, 0x0, 0x0, 0x0, 0x1, .module⟩,
   ⟨0x2F000100008, [], 0x0, 0x0, 0x0, 0x0, 0x800000000, .module⟩,
   ⟨0x2F000100010, [], 0x0, 0x0, 0x0, 0x0, 0xC0801, .module⟩,
   ⟨0x2F000100018, [], 0x0, 0x0, 0x0, 0x0, 0x4000000, .module⟩,
   ⟨0x2F000100020, [], 0x0, 0x0, 0x0, 0x0, 0x0, .module⟩,
   ⟨0x2F000100028, [], 0x0, 0x0, 0x0, 0x0, 0x0, .module⟩,
   ⟨0x2F000100030, [], 0x0, 0x0, 0x0, 0x0, 0x0, .module⟩,
   ⟨0x2F000100038, [], 0x0, 0x0, 0x0, 0x0, 0x0, .module⟩,
   ⟨0x2F000101000, [(256, 0x8)], 0x0, 0x0, 0x0, 0x0, 0xF00, .module⟩,
   ⟨0x2F000101800, [(256, 0x8)], 0x0, 0x0, 0x0, 0x0, 0x0, .module⟩,
   ⟨0x2F000102000, [(256, 0x8)], 0x0, 0x0, 0x0, 0x0, 0x0, .module⟩,
   ⟨0x2F000102800, [(24, 0x8)], 0x0, 0x0, 0x0, 0x0, 0xFF00, .module⟩,
   ⟨0x2F000102900, [(48, 0x8)], 0x0, 0x0, 0x0, 0x0, 0x0, .module⟩,
   ⟨0x2F000104000, [(256, 0x40), (8, 0x8)], 0x0, 0x0, 0x0, 0x0, 0x0, .module⟩,
   ⟨0x2F000100040, [], 0x0, 0x0, 0x0, 0x0, 0x0, .module⟩,
   ⟨0x2F000108000, [(256, 0x8)], 0x0, 0x0, 0x0, 0x0, 0x0, .module⟩]
/-- Descriptors of the global window 2. -/
def regsG2 : List RegDesc :=
  [⟨0x2F000200000, [], 0x0, 0x0, 0x0, 0x0, 0x30, .module⟩]
/-- Descriptors of the global window 3. -/
def regsG3 : List RegDesc :=
  [⟨0x2F000300000, [], 0x0, 0x0, 0x0, 0x0, 0x0, .module⟩,
   ⟨0x2F000300008, [], 0xFFF, 0x0, 0x0, 0x0, 0x5DC, .module⟩,
   ⟨0x2F000300010, [], 0x0, 0x0, 0x0, 0x0, 0x0, .module⟩,
   ⟨0x2F000300018, [], 0x0, 0x0, 0x0, 0x0, 0x102040, .module⟩,
   ⟨0x2F000300020, [], 0x0, 0x0, 0x0, 0x0, 0x0, .module⟩,
   ⟨0x2F000300028, [], 0x0, 0x0, 0x0, 0x0, 0x0, .module⟩,
   ⟨0x2F000300100, [(16, 0x8)], 0x0, 0x0, 0x0, 0x0, 0x0, .module⟩]
/-- Descriptors of the global window 4. -/
def regsG4 : List RegDesc :=
  [⟨0x2F000400000, [], 0x0, 0x0, 0x0, 0x0, 0x0, .module⟩,
   ⟨0x2F000400008, [], 0x0, 0x0, 0x0, 0x0, 0x0, .module⟩,
   ⟨0x2F000400010, [], 0xFFFFFFFF00000001, 0x0, 0x0, 0x0, 0x5F5E10000000000, .module⟩,
   ⟨0x2F000400018, [], 0xFFFFFFFFFFFFFFFF, 0x0, 0x0, 0x0, 0x0, .module⟩,
   ⟨0x2F000400020, [], 0x0, 0x0, 0x0, 0x0, 0x0, .module⟩]
/-- Descriptors of the global window 5. -/
def regsG5 : List RegDesc :=
  [⟨0x2F000500000, [], 0x0, 0x0, 0x0, 0x0, 0x0, .aon⟩,
   ⟨0x2F000500008, [], 0x0, 0x0, 0x0, 0x0, 0x0, .aon⟩,
   ⟨0x2F000500010, [], 0x0, 0x0, 0x0, 0x0, 0x0, .aon⟩]
/-- Descriptors of the global window 6. -/
def regsG6 : List RegDesc :=
  [⟨0x2F000600000, [], 0x0, 0x0, 0x0, 0x0, 0x101001, .module⟩,
   ⟨0x2F000600008, [], 0x0, 0x0, 0x0, 0x0, 0x0, .module⟩,
   ⟨0x2F000600010, [], 0x0, 0x0, 0x0, 0x0, 0x0, .module⟩,
   ⟨0x2F000600018, [], 0x0, 0x0, 0x0, 0x0, 0x0, .module⟩,
   ⟨0x2F000600020, [], 0x0, 0x0, 0x0, 0x0, 0x0, .module⟩,
   ⟨0x2F000600028, [], 0x0, 0x0, 0x0, 0x0, 0x0, .module⟩,
   ⟨0x2F000600030, [], 0x0, 0x1F, 0x0, 0x0, 0x0, .module⟩,
   ⟨0x2F000600038, [], 0x0, 0x0, 0x0, 0x0, 0x0, .module⟩,
   ⟨0x2F000600040, [(4, 0x8)], 0x0, 0x0, 0x0, 0x0, 0x0, .module⟩,
   ⟨0x2F000600060, [(4, 0x8)], 0x0, 0x0, 0x0, 0x0, 0x0, .module⟩,
   ⟨0x2F000600080, [(4, 0x8)], 0x0, 0x0, 0x0, 0x0, 0x0, .module⟩,
   ⟨0x2F0006000C0, [(4, 0x8)], 0x0, 0x0, 0x0, 0x0, 0x0, .module⟩,
   ⟨0x2F0006000A0, [], 0x0, 0x0, 0x0, 0x0, 0x0, .module⟩,
   ⟨0x2F0006000A8, [], 0x0, 0x0, 0x0, 0xFF, 0x0, .module⟩,
   ⟨0x2F000600100, [(16, 0x8)], 0x0, 0x0, 0x0, 0x0, 0x0, .module⟩,
   ⟨0x2F000600200, [(16, 0x20), (4, 0x8)], 0x0, 0x0, 0x0, 0x0, 0x0, .module⟩]
/-- Descriptors of the global window 7. -/
def regsG7 : List RegDesc :=
  [⟨0x2F000700000, [], 0x0, 0x0, 0x0, 0x0, 0x12007, .module⟩,
   ⟨0x2F000700008, [], 0x7FFFFFFFFFC, 0x0, 0x0, 0x3, 0xFA0140190, .module⟩,
   ⟨0x2F000700010, [], 0x0, 0x0, 0x0, 0x0, 0x0, .module⟩,
   ⟨0x2F000700018, [], 0x0, 0x0, 0x0, 0x0, 0x0, .module⟩,
   ⟨0x2F000700020, [], 0x0, 0x0, 0x0, 0x0, 0x0, .module⟩,
   ⟨0x2F000700028, [], 0x0, 0x0, 0x0, 0x0, 0x0, .module⟩,
   ⟨0x2F000700030, [], 0x0, 0x100000, 0x0, 0x0, 0x0, .module⟩,
   ⟨0x2F000700038, [], 0x0, 0x0, 0x0, 0x0, 0x0, .module⟩,
   ⟨0x2F000700040, [], 0x0, 0x0, 0x0, 0x0, 0x0, .module⟩,
   ⟨0x2F000700048, [], 0x6, 0x0, 0x0, 0x0, 0x6, .module⟩,
   ⟨0x2F000701000, [(128, 0x10)], 0xFFFFFFFFFF, 0x0, 0x0, 0x0, 0x0, .module⟩,
   ⟨0x2F000701008, [(128, 0x10)], 0xFFFFFFFFFFF, 0x0, 0x0, 0x0, 0x0, .module⟩,
   ⟨0x2F000700400, [(32, 0x8)], 0x0, 0x0, 0x0, 0x0, 0x0, .module⟩]
/-- Descriptors of the global window 8. -/
def regsG8 : List RegDesc :=
  [⟨0x2F000800000, [(12, 0x10000)], 0x0, 0x0, 0x0, 0x0, 0x10004, .module⟩,
   ⟨0x2F000800008, [(12, 0x10000)], 0xFF0C, 0x0, 0x0, 0x3, 0xA00, .module⟩,
   ⟨0x2F000800010, [(12, 0x10000)], 0x1FFFFFFFFFFFFF, 0x0, 0x0, 0x0, 0x18000A03E803E8, .module⟩,
   ⟨0x2F000800018, [(12, 0x10000)], 0x0, 0x0, 0x0, 0x0, 0x0, .module⟩,
   ⟨0x2F000800020, [(12, 0x10000), (4, 0x8)], 0x0, 0x0, 0x0, 0x0, 0x0, .module⟩,
   ⟨0x2F000800040, [(12, 0x10000)], 0x0, 0x0, 0x0, 0x0, 0x0, .module⟩,
   ⟨0x2F000800048, [(12, 0x10000)], 0x0, 0x0, 0x0, 0x0, 0x0, .module⟩,
   ⟨0x2F000800050, [(12, 0x10000)], 0x0, 0x0, 0x0, 0x0, 0x0, .module⟩,
   ⟨0x2F000800058, [(12, 0x10000)], 0x0, 0x0, 0x0, 0x0, 0x0, .module⟩,
   ⟨0x2F000800060, [(12, 0x10000)], 0x0, 0x0, 0x0, 0x0, 0x0, .module⟩,
   ⟨0x2F000800068, [(12, 0x10000)], 0x0, 0x0, 0x0, 0x0, 0x0, .module⟩,
   ⟨0x2F000800070, [(12, 0x10000)], 0x0, 0x0, 0x0, 0x0, 0x0, .module⟩,
   ⟨0x2F000800078, [(12, 0x10000)], 0x0, 0x8000000000000000, 0x0, 0x0, 0x0, .module⟩,
   ⟨0x2F000800080, [(12, 0x10000)], 0x0, 0x8000000000000000, 0x0, 0x0, 0x0, .module⟩,
   ⟨0x2F000800100, [(12, 0x10000), (4, 0x8)], 0x0, 0x0, 0x0, 0x0, 0x0, .module⟩,
   ⟨0x2F000808000, [(2, 0x60000), (64, 0x20)], 0xFFFFFFFFFFF, 0x0, 0x0, 0x0, 0x0, .module⟩,
   ⟨0x2F000808008, [(2, 0x60000), (64, 0x20)], 0xFFFFFFFFFFFFFFFF, 0x0, 0x0, 0x0, 0x0, .module⟩,
   ⟨0x2F000808010, [(2, 0x60000), (64, 0x20)], 0xFFFFFFFFFFFFFFFF, 0x0, 0x0, 0x0, 0x0, .module⟩,
   ⟨0x2F000808018, [(2, 0x60000), (64, 0x20)], 0xFFFF00000000, 0x0, 0x0, 0x0, 0x0, .module⟩,
   ⟨0x2F000809000, [(2, 0x60000), (64, 0x20)], 0x3FFFFFFFFFFF, 0x0, 0x0, 0x0, 0x0, .module⟩,
   ⟨0x2F000809008, [(2, 0x60000), (64, 0x20)], 0xFFFFFFFF0000FFFF, 0x0, 0x0, 0x0, 0x0, .module⟩,
   ⟨0x2F000809010, [(2, 0x60000), (64, 0x20)], 0x0, 0x0, 0x0, 0x0, 0x0, .module⟩,
   ⟨0x2F000809018, [(2, 0x60000), (64, 0x20)], 0x0, 0x0, 0x0, 0x0, 0x0, .module⟩]
/-- Descriptors of the global window 9. -/
def regsG9 : List RegDesc :=
  [⟨0x2F000900000, [(8, 0x10000)], 0x0, 0x0, 0x0, 0x0, 0x0, .module⟩,
   ⟨0x2F000900008, [(8, 0x10000)], 0x0, 0x0, 0x0, 0x0, 0x0, .module⟩,
   ⟨0x2F000900010, [(8, 0x10000)], 0x0, 0x100000000000, 0x0, 0x0, 0x0, .module⟩,
   ⟨0x2F000900018, [(8, 0x10000)], 0x0, 0x0, 0x0, 0x0, 0x0, .module⟩,
   ⟨0x2F000980000, [], 0x0, 0x0, 0x0, 0x0, 0x0, .module⟩]
/-- Descriptors of the global window A. -/
def regsGA : List RegDesc :=
  [⟨0x2F000A00000, [(8, 0x10000)], 0x0, 0x0, 0x0, 0x0, 0x0, .module⟩,
   ⟨0x2F000A00008, [(8, 0x10000)], 0x0, 0x0, 0x0, 0x0, 0x0, .module⟩,
   ⟨0x2F000A00010, [(8, 0x10000)], 0x0, 0x80000000000, 0x0, 0x0, 0x0, .module⟩,
   ⟨0x2F000A00018, [(8, 0x10000)], 0x0, 0x0, 0x0, 0x0, 0x0, .module⟩,
   ⟨0x2F000A00100, [(8, 0x10000), (64, 0x10)], 0x0, 0x0, 0xFFFFFFF, 0x0, 0x0, .module⟩,
   ⟨0x2F000A00108, [(8, 0x10000), (64, 0x10)], 0x0, 0x0, 0x3FFFFFFFF, 0x0, 0x0, .module⟩]
/-- Descriptors of the global window B. -/
def regsGB : List RegDesc :=
  [⟨0x2F000B00000, [(2, 0x80000), (16, 0x1000)], 0x7FFF86, 0x0, 0x78, 0x0, 0x500, .module⟩,
   ⟨0x2F000B00008, [(2, 0x80000), (16, 0x1000)], 0x1FFFFFFFFFFFFFF, 0x0, 0x0, 0x0, 0x0, .module⟩,
   ⟨0x2F000B00010, [(2, 0x80000), (16, 0x1000)], 0x1FFFFFFFFFFFFFF, 0x0, 0x0, 0x0, 0x0, .module⟩,
   ⟨0x2F000B00018, [(2, 0x80000), (16, 0x1000)], 0x6, 0x0, 0x0, 0x9, 0x0, .module⟩,
   ⟨0x2F000B00020, [(2, 0x80000), (16, 0x1000)], 0x0, 0x10, 0x0, 0x0, 0x0, .module⟩,
   ⟨0x2F000B40000, [(2, 0x80000), (16, 0x800), (256, 0x8)], 0x7FFF, 0x0, 0x0, 0x0, 0x0, .module⟩]
/-- Descriptors of the global window C. -/
def regsGC : List RegDesc :=
  [⟨0x2F000C00000, [], 0x0, 0x0, 0x0, 0x0, 0x300, .module⟩,
   ⟨0x2F000C00008, [], 0x0, 0x0, 0x0, 0x3, 0x0, .module⟩,
   ⟨0x2F000C00010, [], 0x0, 0x0, 0xFFFFFFF, 0x0, 0x2710, .module⟩,
   ⟨0x2F000C00018, [], 0x0, 0x0, 0xFFFFFFFFFFFFFFFF, 0x0, 0x0, .module⟩,
   ⟨0x2F000C00020, [], 0x0, 0x0, 0x1FFFFFFFFFFFFFF, 0x0, 0x0, .module⟩,
   ⟨0x2F000C00028, [], 0x0, 0x6, 0x0, 0x0, 0x0, .module⟩,
   ⟨0x2F000C00030, [], 0x0, 0x0, 0x0, 0x0, 0x0, .module⟩,
   ⟨0x2F000C00038, [], 0x0, 0x0, 0x0, 0x0, 0x0, .module⟩,
   ⟨0x2F000C00100, [(256, 0x8)], 0x0, 0x0, 0x3FFFFFFF, 0x0, 0x0, .module⟩]
/-- Descriptors of the tile window page 0. -/
def regsT0 : List RegDesc :=
  [⟨0x28000000000, [(256, 0x10000)], 0x0, 0x0, 0x0, 0x0, 0x10000, .module⟩,
   ⟨0x28000000008, [(256, 0x10000)], 0xFFF3F, 0x0, 0x0, 0x0, 0x0, .compute⟩,
   ⟨0x28000000010, [(256, 0x10000)], 0xF, 0x0, 0x0, 0x0, 0x0, .compute⟩,
   ⟨0x28000000018, [(256, 0x10000)], 0x0, 0xF, 0x0, 0x0, 0x0, .compute⟩,
   ⟨0x28000000020, [(256, 0x10000)], 0x0, 0x0, 0x0, 0x0, 0x0, .compute⟩,
   ⟨0x28000000028, [(256, 0x10000)], 0x0, 0x40000, 0x0, 0x0, 0x0, .compute⟩,
   ⟨0x28000000030, [(256, 0x10000)], 0x0, 0x0, 0x0, 0x0, 0x0, .compute⟩,
   ⟨0x28000000038, [(256, 0x10000)], 0xDFF, 0x0, 0x0, 0x200, 0x1, .compute⟩,
   ⟨0x28000000040, [(256, 0x10000)], 0x0, 0x0, 0x0, 0x0, 0x0, .compute⟩,
   ⟨0x28000000048, [(256, 0x10000)], 0x0, 0x8000000000000000, 0x0, 0x0, 0x0, .compute⟩,
   ⟨0x28000000050, [(256, 0x10000)], 0x0, 0x8000000000000000, 0x0, 0x0, 0x0, .compute⟩,
   ⟨0x28000000080, [(256, 0x10000), (8, 0x8)], 0xFFFFFFFFFF, 0x0, 0x0, 0x0, 0x0, .compute⟩,
   ⟨0x280000000C0, [(256, 0x10000)], 0x0, 0x0, 0x0, 0x100000000, 0x0, .compute⟩,
   ⟨0x28000000200, [(256, 0x10000)], 0x0, 0x0, 0x0, 0xE, 0x0, .compute⟩,
   ⟨0x28000000208, [(256, 0x10000)], 0x3F, 0x0, 0x0, 0x0, 0x30, .compute⟩,
   ⟨0x28000000210, [(256, 0x10000)], 0x0, 0x0, 0x0, 0x0, 0x0, .compute⟩,
   ⟨0x28000000218, [(256, 0x10000)], 0x10, 0x0, 0xC, 0x3, 0x0, .compute⟩,
   ⟨0x28000000220, [(256, 0x10000)], 0x0, 0x4, 0x0, 0x0, 0x0, .compute⟩,
   ⟨0x28000000228, [(256, 0x10000)], 0xFFFFFFFFFFFFFFFF, 0x0, 0x0, 0x0, 0x0, .compute⟩,
   ⟨0x28000000230, [(256, 0x10000)], 0x0, 0x0, 0x0, 0x0, 0x0, .compute⟩]
/-- Descriptors of the tile window page 1. -/
def regsT1 : List RegDesc :=
  [⟨0x28000001000, [(256, 0x10000)], 0x0, 0x0, 0x0, 0x0, 0x101000FFF8080, .module⟩,
   ⟨0x28000001008, [(256, 0x10000)], 0xFF0106, 0x0, 0x30, 0x9, 0xA0000, .compute⟩,
   ⟨0x28000001010, [(256, 0x10000)], 0x0, 0x0, 0x0, 0x0, 0x0, .compute⟩,
   ⟨0x28000001018, [(256, 0x10000)], 0x0, 0x3F, 0x0, 0x0, 0x0, .compute⟩,
   ⟨0x28000001020, [(256, 0x10000)], 0x0, 0x0, 0x0, 0x0, 0x0, .compute⟩,
   ⟨0x28000001028, [(256, 0x10000)], 0x0, 0x0, 0x0, 0x0, 0x0, .compute⟩,
   ⟨0x28000001030, [(256, 0x10000)], 0x0, 0x0, 0x0, 0x0, 0x0, .compute⟩,
   ⟨0x28000001038, [(256, 0x10000)], 0x0, 0x0, 0x0, 0x0, 0x0, .compute⟩,
   ⟨0x28000001040, [(256, 0x10000)], 0x0, 0x0, 0x0, 0x0, 0x0, .compute⟩,
   ⟨0x28000001048, [(256, 0x10000)], 0x0, 0x8000000000000000, 0x0, 0x0, 0x0, .compute⟩,
   ⟨0x28000001050, [(256, 0x10000)], 0x0, 0x8000000000000000, 0x0, 0x0, 0x0, .compute⟩,
   ⟨0x28000001058, [(256, 0x10000)], 0x0, 0x8000000000000000, 0x0, 0x0, 0x0, .compute⟩,
   ⟨0x28000001060, [(256, 0x10000)], 0x0, 0x8000000000000000, 0x0, 0x0, 0x0, .compute⟩,
   ⟨0x28000001068, [(256, 0x10000)], 0x0, 0x8000000000000000, 0x0, 0x0, 0x0, .compute⟩,
   ⟨0x28000001100, [(256, 0x10000), (8, 0x10)], 0x1F3FFFFFFFFF, 0x0, 0x0, 0x0, 0xE0000000000, .compute⟩,
   ⟨0x28000001108, [(256, 0x10000), (8, 0x10)], 0xFFFFFFFF, 0x0, 0x0, 0x0, 0x3F800000, .compute⟩]
/-- Descriptors of the tile window page 2. -/
def regsT2 : List RegDesc :=
  [⟨0x28000002000, [(256, 0x10000)], 0x0, 0x0, 0x0, 0x0, 0x18640, .module⟩,
   ⟨0x28000002008, [(256, 0x10000)], 0xFF0106, 0x0, 0x0, 0x9, 0xA0000, .compute⟩,
   ⟨0x28000002010, [(256, 0x10000)], 0x0, 0x0, 0x0, 0x0, 0xFF00, .compute⟩,
   ⟨0x28000002018, [(256, 0x10000)], 0x0, 0xF, 0x0, 0x0, 0x0, .compute⟩,
   ⟨0x28000002020, [(256, 0x10000)], 0x0, 0x0, 0x0, 0x0, 0x0, .compute⟩,
   ⟨0x28000002028, [(256, 0x10000)], 0x0, 0x8000000000000000, 0x0, 0x0, 0x0, .compute⟩,
   ⟨0x28000002030, [(256, 0x10000)], 0x0, 0x8000000000000000, 0x0, 0x0, 0x0, .compute⟩,
   ⟨0x28000002038, [(256, 0x10000)], 0x0, 0x8000000000000000, 0x0, 0x0, 0x0, .compute⟩,
   ⟨0x28000002040, [(256, 0x10000)], 0x0, 0x8000000000000000, 0x0, 0x0, 0x0, .compute⟩,
   ⟨0x28000002048, [(256, 0x10000)], 0xFF, 0x0, 0x0, 0x0, 0x0, .compute⟩,
   ⟨0x28000002080, [(256, 0x10000), (8, 0x8)], 0xFFFFFF, 0x0, 0x0, 0x0, 0x40000, .compute⟩,
   ⟨0x280000020C0, [(256, 0x10000), (8, 0x8)], 0xFFFFFFFFFFFFFFFF, 0x0, 0x0, 0x0, 0x0, .compute⟩,
   ⟨0x28000002100, [(256, 0x10000), (8, 0x80), (6, 0x10)], 0xFFFFFFFFFFFFFFFF, 0x0, 0x0, 0x0, 0x0, .compute⟩,
   ⟨0x28000002108, [(256, 0x10000), (8, 0x80), (6, 0x10)], 0xFFFFFFFFFFFFFFFF, 0x0, 0x0, 0x0, 0x0, .compute⟩]
/-- Descriptors of the tile window page 3. -/
def regsT3 : List RegDesc :=
  [⟨0x28000003000, [(256, 0x10000)], 0x0, 0x0, 0x0, 0x0, 0x188, .module⟩,
   ⟨0x28000003008, [(256, 0x10000)], 0xFF0106, 0x0, 0x0, 0x9, 0xA0000, .compute⟩,
   ⟨0x28000003010, [(256, 0x10000)], 0x0, 0x0, 0x0, 0x0, 0x0, .compute⟩,
   ⟨0x28000003018, [(256, 0x10000)], 0x0, 0x7, 0x0, 0x0, 0x0, .compute⟩,
   ⟨0x28000003020, [(256, 0x10000)], 0x0, 0x8000000000000000, 0x0, 0x0, 0x0, .compute⟩,
   ⟨0x28000003028, [(256, 0x10000)], 0x0, 0x0, 0x0, 0x0, 0x0, .compute⟩,
   ⟨0x28000003030, [(256, 0x10000)], 0x0, 0x0, 0x0, 0x0, 0x0, .compute⟩,
   ⟨0x28000003038, [(256, 0x10000)], 0x0, 0x8000000000000000, 0x0, 0x0, 0x0, .compute⟩,
   ⟨0x28000003100, [(256, 0x10000), (8, 0x40), (8, 0x8)], 0xFFFF7FFFFFFFF, 0x0, 0x0, 0x0, 0x0, .compute⟩,
   ⟨0x28000003300, [(256, 0x10000), (8, 0x40), (8, 0x8)], 0x0, 0x0, 0x0, 0x0, 0x0, .compute⟩]
/-- Descriptors of the tile window page 4. -/
def regsT4 : List RegDesc :=
  [⟨0x28000004000, [(256, 0x10000)], 0x0, 0x0, 0x0, 0x0, 0x1202040, .module⟩,
   ⟨0x28000004008, [(256, 0x10000)], 0x103, 0x0, 0x4, 0x0, 0x1, .compute⟩,
   ⟨0x28000004010, [(256, 0x10000)], 0x0, 0x0, 0x0, 0x0, 0x0, .compute⟩,
   ⟨0x28000004018, [(256, 0x10000)], 0x0, 0xF, 0x0, 0x0, 0x0, .compute⟩,
   ⟨0x28000004020, [(256, 0x10000)], 0x0, 0x0, 0x0, 0x0, 0x0, .compute⟩,
   ⟨0x28000004028, [(256, 0x10000)], 0x0, 0x0, 0x0, 0x0, 0x0, .compute⟩,
   ⟨0x28000004030, [(256, 0x10000)], 0x0, 0x0, 0x0, 0x0, 0x0, .compute⟩,
   ⟨0x28000004038, [(256, 0x10000)], 0x0, 0x0, 0x0, 0x0, 0x0, .compute⟩,
   ⟨0x28000004040, [(256, 0x10000)], 0x0, 0x8000000000000000, 0x0, 0x0, 0x0, .compute⟩,
   ⟨0x28000004048, [(256, 0x10000)], 0x0, 0x8000000000000000, 0x0, 0x0, 0x0, .compute⟩,
   ⟨0x28000004050, [(256, 0x10000)], 0xFFFFF, 0x0, 0x0, 0x0, 0x203E8, .compute⟩,
   ⟨0x28000004058, [(256, 0x10000)], 0x0, 0x0, 0x0, 0x0, 0x0, .compute⟩,
   ⟨0x28000004060, [(256, 0x10000)], 0x0, 0x1, 0x0, 0x0, 0x0, .compute⟩,
   ⟨0x28000004068, [(256, 0x10000)], 0x0, 0x0, 0x0, 0x7FFFFF, 0x0, .compute⟩,
   ⟨0x28000004070, [(256, 0x10000)], 0x0, 0x8, 0x0, 0x0, 0x0, .compute⟩,
   ⟨0x28000004078, [(256, 0x10000)], 0xFFFFFFFFFFFFFFFF, 0x0, 0x0, 0x0, 0x0, .compute⟩,
   ⟨0x28000004080, [(256, 0x10000)], 0x0, 0x0, 0x0, 0x7FFFFFFF, 0x0, .compute⟩,
   ⟨0x28000004088, [(256, 0x10000)], 0x0, 0x6, 0x0, 0x0, 0x0, .compute⟩,
   ⟨0x28000004700, [(256, 0x10000), (32, 0x8)], 0x0, 0x0, 0x0, 0x0, 0x0, .module⟩,
   ⟨0x28000004800, [(256, 0x10000), (64, 0x20), (4, 0x8)], 0x0, 0x0, 0x0, 0x0, 0x0, .module⟩,
   ⟨0x280000040C0, [(256, 0x10000)], 0x0, 0x0, 0x0, 0xFF, 0x0, .compute⟩,
   ⟨0x280000040C8, [(256, 0x10000)], 0x0, 0x6, 0x0, 0x0, 0x0, .compute⟩,
   ⟨0x280000040D0, [(256, 0x10000), (4, 0x8)], 0x0, 0x0, 0x0, 0x0, 0x0, .compute⟩]
/-- Descriptors of the tile window page 5. -/
def regsT5 : List RegDesc :=
  [⟨0x28000005000, [(256, 0x10000), (4, 0x400)], 0xFF0106, 0x0, 0x0, 0x19, 0xA0000, .compute⟩,
   ⟨0x28000005008, [(256, 0x10000), (4, 0x400)], 0x0, 0x0, 0x0, 0x0, 0x0, .compute⟩,
   ⟨0x28000005010, [(256, 0x10000), (4, 0x400)], 0x0, 0x7F, 0x0, 0x0, 0x0, .compute⟩,
   ⟨0x28000005018, [(256, 0x10000), (4, 0x400)], 0x0, 0x0, 0x0, 0x0, 0x0, .compute⟩,
   ⟨0x28000005020, [(256, 0x10000), (4, 0x400)], 0x0, 0x8000000000000000, 0x0, 0x0, 0x0, .compute⟩,
   ⟨0x28000005028, [(256, 0x10000), (4, 0x400)], 0x0, 0x8000000000000000, 0x0, 0x0, 0x0, .compute⟩,
   ⟨0x28000005030, [(256, 0x10000), (4, 0x400)], 0x0, 0x8000000000000000, 0x0, 0x0, 0x0, .compute⟩,
   ⟨0x28000005040, [(256, 0x10000), (4, 0x400)], 0x3FFFFFF03FFFFFF, 0x0, 0x0, 0x0, 0x0, .compute⟩,
   ⟨0x28000005048, [(256, 0x10000), (4, 0x400)], 0x3FFFFFF03FFFFFF, 0x0, 0x0, 0x0, 0x0, .compute⟩,
   ⟨0x28000005050, [(256, 0x10000), (4, 0x400)], 0x3FFFFFF03FFFFFF, 0x0, 0x0, 0x0, 0x0, .compute⟩,
   ⟨0x28000005100, [(256, 0x10000), (4, 0x400), (8, 0x60)], 0xFFFFFFFFFFF, 0x0, 0x0, 0x0, 0x0, .compute⟩,
   ⟨0x28000005108, [(256, 0x10000), (4, 0x400), (8, 0x60)], 0xFFFFFFFFFFFF, 0x0, 0x0, 0x0, 0x0, .compute⟩,
   ⟨0x28000005110, [(256, 0x10000), (4, 0x400), (8, 0x60)], 0xFFFFFFFFFFFFFFFF, 0x0, 0x0, 0x0, 0x0, .compute⟩,
   ⟨0x28000005118, [(256, 0x10000), (4, 0x400), (8, 0x60)], 0xFFFFFFFF, 0x0, 0x0, 0x0, 0x0, .compute⟩,
   ⟨0x28000005120, [(256, 0x10000), (4, 0x400), (8, 0x60), (6, 0x8)], 0x1FFFFFFFFFFFF, 0x0, 0x0, 0x0, 0x0, .compute⟩]
/-- Descriptors of the tile window page 6. -/
def regsT6 : List RegDesc :=
  [⟨0x28000006000, [(256, 0x10000), (64, 0x40)], 0x1FFFFFFFFFFFF, 0x0, 0x1E000000000000, 0x0, 0x0, .compute⟩,
   ⟨0x28000006008, [(256, 0x10000), (64, 0x40)], 0xFFFFFFFFFFFFFFFF, 0x0, 0x0, 0x0, 0x0, .compute⟩,
   ⟨0x28000006010, [(256, 0x10000), (64, 0x40)], 0xFFFFFFFFFFFFFFFF, 0x0, 0x0, 0x0, 0x0, .compute⟩,
   ⟨0x28000006018, [(256, 0x10000), (64, 0x40)], 0xFFFFFFFFFFFFFFFF, 0x0, 0x0, 0x0, 0x0, .compute⟩,
   ⟨0x28000006020, [(256, 0x10000), (64, 0x40)], 0x0, 0x0, 0x0, 0x0, 0x0, .compute⟩,
   ⟨0x28000006028, [(256, 0x10000), (64, 0x40)], 0x0, 0x1C000000, 0x0, 0x0, 0x0, .compute⟩,
   ⟨0x28000006030, [(256, 0x10000), (64, 0x40)], 0x0, 0x0, 0x0, 0x0, 0x0, .compute⟩]
/-- Descriptors of the tile window page 7. -/
def regsT7 : List RegDesc :=
  [⟨0x28000007000, [(256, 0x10000), (64, 0x8)], 0x0, 0x0, 0x0, 0x0, 0x0, .compute⟩,
   ⟨0x28000007200, [(256, 0x10000)], 0xFFFFFFFFFFFFFFFF, 0x0, 0x0, 0x0, 0x0, .compute⟩,
   ⟨0x28000007208, [(256, 0x10000)], 0x0, 0xFFFFFFFFFFFFFFFF, 0x0, 0x0, 0x0, .compute⟩,
   ⟨0x28000007210, [(256, 0x10000)], 0x0, 0x7, 0x0, 0x0, 0x0, .compute⟩,
   ⟨0x28000007218, [(256, 0x10000)], 0x0, 0x0, 0x0, 0x0, 0x0, .compute⟩,
   ⟨0x28000007220, [(256, 0x10000)], 0xFFFFFFFFFFFFFFFF, 0x0, 0x0, 0x0, 0x0, .compute⟩,
   ⟨0x28000007228, [(256, 0x10000)], 0x0, 0x0, 0x0, 0x3F, 0x0, .compute⟩,
   ⟨0x28000007230, [(256, 0x10000)], 0x0, 0x0, 0x0, 0xFFFFFFFF0000003F, 0x0, .compute⟩,
   ⟨0x28000007300, [(256, 0x10000), (8, 0x80), (8, 0x10)], 0xFFFFFFFF0000007F, 0x0, 0x0, 0x0, 0x0, .compute⟩,
   ⟨0x28000007308, [(256, 0x10000), (8, 0x80), (8, 0x10)], 0xFFFFFFFFFFFFFFFF, 0x0, 0x0, 0x0, 0x0, .compute⟩,
   ⟨0x28000007800, [(256, 0x10000), (256, 0x8)], 0x1FFFFFF, 0x0, 0x0, 0x0, 0x0, .compute⟩]
/-- Descriptors of the tile window page 8. -/
def regsT8 : List RegDesc :=
  [⟨0x28000008000, [(256, 0x10000)], 0x0, 0x0, 0x0, 0x0, 0x140055, .module⟩,
   ⟨0x28000008008, [(256, 0x10000)], 0x13C, 0x0, 0x0, 0x3, 0x0, .compute⟩,
   ⟨0x28000008010, [(256, 0x10000)], 0x0, 0x0, 0x0, 0x0, 0x0, .compute⟩,
   ⟨0x28000008018, [(256, 0x10000)], 0x0, 0xFF, 0x0, 0x0, 0x0, .compute⟩,
   ⟨0x28000008020, [(256, 0x10000)], 0x0, 0x20000000, 0x0, 0x0, 0x0, .compute⟩,
   ⟨0x28000008028, [(256, 0x10000)], 0x0, 0x0, 0x0, 0x0, 0x0, .compute⟩,
   ⟨0x28000008040, [(256, 0x10000), (4, 0x20)], 0x0, 0x0, 0x0, 0x0, 0x0, .compute⟩,
   ⟨0x28000008050, [(256, 0x10000), (4, 0x20)], 0x0, 0x0, 0x0, 0x0, 0x0, .compute⟩,
   ⟨0x28000008048, [(256, 0x10000), (4, 0x20)], 0x0, 0x8000000000000000, 0x0, 0x0, 0x0, .compute⟩,
   ⟨0x28000008058, [(256, 0x10000), (4, 0x20)], 0x0, 0x8000000000000000, 0x0, 0x0, 0x0, .compute⟩,
   ⟨0x280000080C0, [(256, 0x10000)], 0x0, 0x0, 0x0, 0x0, 0x0, .compute⟩,
   ⟨0x280000080C8, [(256, 0x10000)], 0x0, 0x0, 0x0, 0x0, 0x0, .compute⟩,
   ⟨0x280000080D0, [(256, 0x10000)], 0x7F, 0x0, 0x0, 0x0, 0x58, .compute⟩,
   ⟨0x280000080D8, [(256, 0x10000)], 0xFFFF, 0x0, 0x0, 0x0, 0xFFFF, .compute⟩,
   ⟨0x28000008100, [(256, 0x10000), (16, 0x8)], 0x3F, 0x0, 0x0, 0x0, 0x0, .compute⟩,
   ⟨0x28000008200, [(256, 0x10000), (16, 0x20), (4, 0x8)], 0xFFFF, 0x0, 0x0, 0x0, 0x1000, .compute⟩,
   ⟨0x2800000A000, [(256, 0x10000), (1024, 0x8)], 0xFFF, 0x0, 0x0, 0x0, 0x0, .compute⟩]
/-- Descriptors of the tile window page C. -/
def regsTC : List RegDesc :=
  [⟨0x2800000C000, [(256, 0x10000)], 0x0, 0x0, 0x0, 0x0, 0x5010040, .module⟩,
   ⟨0x2800000C008, [(256, 0x10000)], 0x1FFFFF, 0x0, 0x0, 0x0, 0x4000, .compute⟩,
   ⟨0x2800000C010, [(256, 0x10000)], 0x0, 0x3F, 0x0, 0x0, 0x0, .compute⟩,
   ⟨0x2800000C018, [(256, 0x10000)], 0x0, 0x400000000000, 0x0, 0x0, 0x0, .compute⟩,
   ⟨0x2800000C020, [(256, 0x10000)], 0x0, 0x0, 0x0, 0x0, 0x0, .compute⟩,
   ⟨0x2800000C028, [(256, 0x10000)], 0x0, 0x0, 0x0, 0x0, 0x0, .compute⟩,
   ⟨0x2800000C030, [(256, 0x10000)], 0x0, 0x0, 0x0, 0x0, 0x0, .compute⟩,
   ⟨0x2800000C038, [(256, 0x10000)], 0x0, 0x0, 0x0, 0x0, 0x0, .compute⟩,
   ⟨0x2800000C040, [(256, 0x10000)], 0x0, 0x0, 0x0, 0x0, 0x0, .compute⟩,
   ⟨0x2800000C400, [(256, 0x10000), (64, 0x20)], 0xFFFFFFFF7FFFFFFF, 0x0, 0x0, 0x0, 0x0, .compute⟩,
   ⟨0x2800000C408, [(256, 0x10000), (64, 0x20)], 0x3FFFFFFF, 0x0, 0x0, 0x0, 0x0, .compute⟩,
   ⟨0x2800000C410, [(256, 0x10000), (64, 0x20)], 0xFFFFFFFF, 0x800000000000, 0x0, 0x0, 0x0, .compute⟩,
   ⟨0x2800000C418, [(256, 0x10000), (64, 0x20)], 0xFF0006, 0x0, 0x0, 0x39, 0x640000, .compute⟩,
   ⟨0x2800000CC00, [(256, 0x10000), (256, 0x8)], 0xFFFFFFFF7FFFFFFF, 0x0, 0x0, 0x0, 0x0, .compute⟩,
   ⟨0x2800000D400, [(256, 0x10000), (64, 0x10)], 0xFFFFFFFFFFFFF, 0x0, 0x0, 0x0, 0x0, .compute⟩,
   ⟨0x2800000D408, [(256, 0x10000), (64, 0x10)], 0xFFFF, 0x0, 0x0, 0x0, 0x0, .compute⟩]
/-- The descriptors of the page of the tile window that byte offset `o` lies in (R29). -/
def tilePage (pg : Nat) : List RegDesc :=
  match pg with
  | 0x0 => regsT0
  | 0x1 => regsT1
  | 0x2 => regsT2
  | 0x3 => regsT3
  | 0x4 => regsT4
  | 0x5 => regsT5
  | 0x6 => regsT6
  | 0x7 => regsT7
  | 0x8 | 0x9 | 0xA | 0xB => regsT8
  | 0xC | 0xD => regsTC
  | _ => []
/-- The descriptors of a global register window (R30). -/
def globalPage (pg : Nat) : List RegDesc :=
  match pg with
  | 0x0 => regsG0
  | 0x1 => regsG1
  | 0x2 => regsG2
  | 0x3 => regsG3
  | 0x4 => regsG4
  | 0x5 => regsG5
  | 0x6 => regsG6
  | 0x7 => regsG7
  | 0x8 => regsG8
  | 0x9 => regsG9
  | 0xA => regsGA
  | 0xB => regsGB
  | 0xC => regsGC
  | _ => []

end Sys2Proof.Machine
end

