-- ==== Sys2Proof/Machine/Sparse.lean ====
section
/-! DEFINITION. Machine/Sparse.lean: maps with plain data, a list of (key, value) pairs in one canonical form: keys
strictly rising, no entry equal to what an unlisted key reads as. Memory, the register file and the tables that
the module keeps by number are all held so. -/
namespace Sys2Proof.Machine.Sparse

variable {α : Type}

/-- The value at `k`: the first entry of `k`, or what an unlisted key reads as. -/
def get (d : Nat → α) (l : List (Nat × α)) (k : Nat) : α :=
  match l with
  | [] => d k
  | e :: t => if e.1 = k then e.2 else get d t k

/-- `l` with the entries of `k` taken out. -/
def drop (l : List (Nat × α)) (k : Nat) : List (Nat × α) :=
  l.filter (fun e => e.1 != k)

/-- `(k, v)` put in front of the first entry with a greater key. -/
def insert (l : List (Nat × α)) (k : Nat) (v : α) : List (Nat × α) :=
  match l with
  | [] => [(k, v)]
  | e :: t => if k < e.1 then (k, v) :: e :: t else e :: insert t k v

/-- The map after a write of `v` at `k`; writing what an unlisted key reads as takes the entry out. -/
def set [DecidableEq α] (d : Nat → α) (l : List (Nat × α)) (k : Nat) (v : α) : List (Nat × α) :=
  if v = d k then drop l k else insert (drop l k) k v

/-- Every key that satisfies `p` reads as unlisted. -/
def clear (l : List (Nat × α)) (p : Nat → Bool) : List (Nat × α) :=
  l.filter (fun e => !p e.1)

/-- Keys of a list rise strictly. -/
def rising (l : List (Nat × α)) : Bool :=
  match l with
  | [] => true
  | [_] => true
  | e :: f :: t => decide (e.1 < f.1) && rising (f :: t)

/-- The canonical form. -/
def wf [DecidableEq α] (d : Nat → α) (l : List (Nat × α)) : Bool :=
  rising l && l.all (fun e => decide (e.2 ≠ d e.1))

end Sys2Proof.Machine.Sparse
end

