-- ==== Sys2Proof/Machine/State.lean ====
section
/-! DEFINITION. Machine/State.lean: the whole state of the module, plain data, and the machine right after reset. -/
namespace Sys2Proof.Machine

/-- A table of plain data by number: (number, entry) pairs in the canonical form of Machine/Sparse.lean; a number
that is not listed holds the entry type's default. -/
abbrev Tab (α : Type) := List (Nat × α)

/-- A token header (R97). -/
structure Hdr where
  typ : Nat := 0
  slot : Nat := 0
  epoch : Nat := 0
  mark : Bool := false
  itemTag : Nat := 0
  length : Nat := 0
  offVal : Nat := 0
  seqNo : Nat := 0
  deriving DecidableEq, Repr

/-- A mesh message: the fields of its header flit (R141) and its payload. -/
structure Msg where
  kind : Nat := 0
  vc : Nat := 0
  escaped : Bool := false
  adaptive : Bool := false
  hops : Nat := 0
  routeId : Nat := 0
  ctx : Nat := 0
  destTile : Nat := 0
  destEp : Nat := 0
  srcTile : Nat := 0
  srcEp : Nat := 0
  srcVtile : Nat := 0
  chanSeq : Nat := 0
  tok : Hdr := {}
  addr : Nat := 0
  operand : Nat := 0
  vcmRoute : Nat := 0
  payload : List Byte := []
  deriving DecidableEq, Repr

/-- A message in the mesh: where it is (a router 0 to 255, edge die W 256, edge die E 257, stack i at 264 + i), the
input port it came in on (0 to 3, 4 Local, 8 a DNC), whether it stands at its destination's Local port, DNC
receiver or edge unit, and whether its router is the health manager's or the SCU's injection. -/
structure NetMsg where
  msg : Msg := {}
  loc : Nat := 0
  inPort : Nat := 4
  arrived : Bool := false
  deriving DecidableEq, Repr

/-- One entry of the accumulator file (R34): a value for each output column, the fault mark (R54), and whether its
slice set is complete. -/
structure AccEntry where
  vals : List Nat := []
  mark : Bool := false
  done : Bool := false
  deriving DecidableEq, Repr

/-- One item of a vector stream: 256 bytes of lanes or the bytes of an element vector, with its fault mark. -/
structure VecItem where
  data : List Byte := []
  mark : Bool := false
  deriving DecidableEq, Repr

/-- What a matrix engine holds beside its registers (R34, R35, R59): the active block image, the shadow block image,
the position in the slice set, how many of the set's blocks (and of the next set's) were dropped for an ECC error
(R61), the accumulator file and its output port. -/
structure MeUnit where
  active : List Byte := []
  shadow : List Byte := []
  run : Nat := 0
  pass : Nat := 0
  skips : Nat := 0
  nextSkips : Nat := 0
  acc : Tab AccEntry := []
  out : List VecItem := []
  deriving DecidableEq, Repr

/-- A step-scan carry of the LOCAL carry file (R90). -/
structure Carry where
  lanes : List Nat := []
  mark : Bool := false
  deriving DecidableEq, Repr

/-- What a vector stage pipeline holds beside its registers: the item it is reading (its header, the region it came
from, the next byte), the constants of the active slot (R77, R86), the HOLD vectors (R77), the lane-scan carry
(R89), the reduction group (R88), the LOCAL carry file by slot × 4 + entry (R90), the random generator's lanes and
the batch number by slot (R82), the first vector of an MX pair, its elements and its scales (R81), and the output item
under way (R74). -/
structure VspUnit where
  item : Option (Hdr × Nat × Nat) := none
  posInItem : Nat := 0
  lconst : Tab (List Nat) := []
  table : List Byte := []
  constMark : Bool := false
  loaded : Bool := false
  hold2 : List Nat := []
  hold3 : List Nat := []
  laneCarry : Option Nat := none
  group : Option Nat := none
  groupCount : Nat := 0
  groupMark : Bool := false
  carries : Tab Carry := []
  lfsr : Tab (List Nat) := []
  batch : Tab Nat := []
  pair : Option (List Byte × List Byte) := none
  outBytes : List Byte := []
  outCount : Nat := 0
  outMark : Bool := false
  outTag : Nat := 0
  deriving DecidableEq, Repr

/-- The loop position of one slot's program of an address generator (R110, R114), the index in use, the index item it
is reading (header, region, next byte), and whether it awaits a READ_RESP. -/
structure AgProg where
  pos : List Nat := [0, 0, 0, 0, 0, 0]
  started : Bool := false
  ended : Bool := false
  index : Option Nat := none
  idxItem : Option (Hdr × Nat × Nat) := none
  awaiting : Bool := false
  deriving DecidableEq, Repr

/-- A byte on an address generator's port with its fault mark (R113), or an END_OF_BATCH token (R114). -/
structure PortByte where
  b : Byte := 0
  mark : Bool := false
  eob : Bool := false
  deriving DecidableEq, Repr

/-- One unacknowledged message of a sending endpoint (R170): its message, the source record it retains (region and
offset; none for a token or a counter add), and whether it awaits its round (R173). -/
structure WinEntry where
  msg : Msg := {}
  src : Option (Nat × Nat) := none
  nacked : Bool := false
  deriving DecidableEq, Repr

/-- What a channel endpoint holds beside its registers: the retain window, whether this round has had its first NACK
(R173), an announce add that is due (R189), whether its halt was an ABORT and the messages so discarded (R172, R185),
the bytes of the overflow area read and written and the sender record and chan_seq of each record in it (R182, R183)
and, in heal skip mode, the sender records whose first END_OF_BATCH has come (R269). -/
structure EpUnit where
  win : List WinEntry := []
  roundNacked : Bool := false
  announceDue : Bool := false
  aborted : Bool := false
  discarded : Nat := 0
  ovfRead : Nat := 0
  ovfWrite : Nat := 0
  ovf : List (Nat × Nat) := []
  skipDone : List Nat := []
  deriving DecidableEq, Repr

/-- A header held in a tile's reorder store (R167): its endpoint, its sender record, its chan_seq and the header to
push, or the counter and amount of a counter add that waits for earlier messages of its sender. -/
structure Reorder where
  ep : Nat := 0
  snd : Nat := 0
  seq : Nat := 0
  hdr : Hdr := {}
  add : Option (Nat × Nat) := none
  deriving DecidableEq, Repr

/-- One entry of the correctable-error row table (R133). -/
structure RowCount where
  osram : Bool := false
  bank : Nat := 0
  row : Nat := 0
  count : Nat := 0
  waiting : Bool := false
  deriving DecidableEq, Repr

/-- A live remap (R135), a fill (R137) or a region hash (R285) in progress on a tile. -/
structure MuWork where
  remap : Option (Nat × Nat × Nat × Nat) := none
  fill : Option (Nat × Nat × Nat) := none
  hash : Option (Nat × Nat) := none
  rows : List RowCount := []
  deriving DecidableEq, Repr

/-- The health events that a tile signals to the health manager over VCM (R260). -/
inductive SigKind where
  | check
  | combine
  | tolerance
  | weightUe
  | ue
  | rowRepair
  | hopFailed
  | hang
  | note
  | router
  deriving DecidableEq, Repr

/-- One fault signal on its way to the health manager: its kind, its tile, an address, port or unit, a log word and
the time. A `note` is a fault of a context (R223): `arg` is its code and `log` the context (16: none).
A `router` signal has no response in R260. -/
structure Signal where
  kind : SigKind := .note
  tile : Nat := 0
  arg : Nat := 0
  log : Nat := 0
  time : Nat := 0
  deriving DecidableEq, Repr

/-- One virtual tile's PLACEMENT entry (R199). -/
structure PlaceReq where
  refX : Nat := 0
  refY : Nat := 0
  edge : Nat := 0
  stack : Nat := 0
  adj : List Nat := []
  deriving DecidableEq, Repr

/-- One register write of a plate's configuration, in the order in which it is applied (R200). -/
structure PlateWrite where
  vtile : Nat := 0
  offset : Nat := 0
  value : Nat := 0
  reloc : Nat := 0
  relocLo : Nat := 0
  sect : Nat := 0
  deriving DecidableEq, Repr

/-- One route of a plate (R202). -/
structure RouteReq where
  index : Nat := 0
  src : Nat := 0
  dst : Nat := 0
  hMax : Nat := 0
  bMax : Nat := 0
  rate : Nat := 0
  burst : Nat := 0
  adapt : Bool := false
  vc : Nat := 0
  hops : List (Nat × Nat) := []
  deriving DecidableEq, Repr

/-- One region of a plate (R203). -/
structure RegionReq where
  vtile : Nat := 0
  region : Nat := 0
  flags : Nat := 0
  cfg : Nat := 0
  deriving DecidableEq, Repr

/-- One virtual counter of a plate (R203). -/
structure CounterReq where
  vid : Nat := 0
  vtile : Nat := 0
  counter : Nat := 0
  init : Nat := 0
  deriving DecidableEq, Repr

/-- A state entry of the stream map (R226). -/
structure StateEntry where
  vtile : Nat := 0
  region : Nat := 0
  shadowable : Bool := false
  slotBase : Nat := 0
  slotBytes : Nat := 0
  deriving DecidableEq, Repr

/-- The stream map of a plate (R226). -/
structure StreamMap where
  stepPeriod : Nat := 0
  slots : Nat := 0
  inDepth : Nat := 0
  inRecord : Nat := 0
  outRecord : Nat := 0
  ingestVtile : Nat := 0
  ingestRegion : Nat := 0
  egressVtile : Nat := 0
  egressEp : Nat := 0
  shadowBytes : Nat := 0
  entries : List StateEntry := []
  deriving DecidableEq, Repr

/-- A weight section of a plate (R195, R205): where it lies in the image, its digest, and for an encrypted one its
key slot, IV and table entry. -/
structure WeightSec where
  sect : Nat := 0
  vtile : Nat := 0
  region : Nat := 0
  offset : Nat := 0
  length : Nat := 0
  digest : List Byte := []
  encrypted : Bool := false
  entry : List Byte := []
  deriving DecidableEq, Repr

/-- A remote channel of a plate (R374): `role` is 1 EGRESS, 2 INGRESS, 3 EXPORT. -/
structure RemoteReq where
  role : Nat := 0
  die : Nat := 0
  proxy : Nat := 0
  lvc : Nat := 0
  rch : Nat := 0
  routeIx : Nat := 0
  vtile : Nat := 0
  ep : Nat := 0
  hopCount : Nat := 0
  nibbles : Nat := 0
  bufferKib : Nat := 0
  peerKib : Nat := 0
  deriving DecidableEq, Repr

/-- A plate, as firmware has read it from its image (R194 to R205, R226). -/
structure Plate where
  plateId : Nat := 0
  digest : List Byte := []
  vtiles : Nat := 0
  reserveTiles : Nat := 0
  foldSlots : Nat := 0
  tileBytes : Nat := 0
  residentBytes : Nat := 0
  backingBytes : Nat := 0
  spillBytes : Nat := 0
  lpBytes : Nat := 0
  streamSlots : Nat := 0
  flags : Nat := 0
  proof : List Byte := []
  placement : List PlaceReq := []
  writes : List PlateWrite := []
  routes : List RouteReq := []
  regions : List RegionReq := []
  counters : List CounterReq := []
  bSteady : Nat := 0
  bBackground : Nat := 0
  bDegradedAll : Nat := 0
  bDegraded : List Nat := []
  smap : StreamMap := {}
  weights : List WeightSec := []
  remotes : List RemoteReq := []
  excerpts : List (Nat × Nat × Nat × Nat) := []
  signer : List Byte := []
  img : Nat := 0
  deriving DecidableEq, Repr

/-- One stream slot of a context (R224, R225): its generation and, while it is used, its identifier, class, shadowing
and sequence state, how it is being closed, its risk, and how far the ring reader has read its input ring (R230). `phase` is 0 free, 1 open, 2 closing (DRAIN), 3 closing
(ABORT), 4 ended with its token still due (R252, R247). -/
structure StreamSlot where
  gen : Nat := 0
  phase : Nat := 0
  cls : Nat := 0
  shadow : Bool := false
  haveSeq : Bool := false
  expected : Nat := 0
  lastSeq : Nat := 0
  gap : Nat := 0
  atRisk : Bool := false
  endReason : Nat := 0
  eosSent : Bool := false
  eosBack : Bool := false
  closeTb : Nat := 0
  lastDeadline : Nat := 0
  read : Nat := 0
  deriving DecidableEq, Repr

/-- One entry of the deadline sentinel (R241): its frame, the ring record it came from, whether a gather has taken it
and whether it is closed. -/
structure SntEntry where
  ctx : Nat := 0
  slot : Nat := 0
  id : Nat := 0
  seq : Nat := 0
  deadline : Nat := 0
  tVis : Nat := 0
  ringIx : Nat := 0
  launched : Bool := false
  closed : Bool := false
  deriving DecidableEq, Repr

/-- A region of a proof round that has ended (R289): whether its digest matched. -/
structure ProofRegion where
  vtile : Nat := 0
  region : Nat := 0
  matched : Bool := false
  digest : List Byte := []
  deriving DecidableEq, Repr

/-- What follows when a context's stop completes (R215, R220 to R223). -/
inductive AfterStop where
  | ready
  | faulted (code vtile : Nat)
  | zeroise
  | reconfigure
  deriving DecidableEq, Repr

/-- A context's own data beside its SCU_CTX_ registers: its allocations (R212), its plate, the HBM addresses of the
backing images by vtile × 64 + region, what follows its stop, the gather origin and number (R239), the last
progress sums and stalls in a row (R180, R184), its streams (R224) and ring addresses (R227, R231), its proof
rounds (R286: the start of the last one, whether one is due by an interval or queued by a command, how many have begun, the
number, digest, regions and mismatched tiles of the last that ended, the count at which the last MATCH ended), the paths of its routes (route index, route_id, the tiles of the path), the image of a reconfiguration
(R222), the plate it replaces, the CANCELLED records of its stop, how often its load has been placed again (R209), the
proof regions of the running round without a digest, and the regions that Slumber keeps (R449): virtual tile, region,
destination and plate_id. `ndcSeen` holds the NDC counts as last taken by tile (R297), and `progress` the consumed count of
each tile as last sampled (R180). -/
structure Ctx where
  hbmBase : Nat := 0
  hbmBytes : Nat := 0
  lpBase : Nat := 0
  lpBytes : Nat := 0
  plate : Plate := {}
  backing : Tab Nat := []
  loaded : Bool := false
  started : Bool := false
  after : AfterStop := .ready
  drainFrom : Nat := 0
  drainAgain : Bool := false
  placedAgain : Bool := false
  consumed : Nat := 0
  idleSince : Nat := 0
  pendingSeen : Bool := false
  stalls : Nat := 0
  gathers : Nat := 0
  ringsClosed : Bool := false
  inBase : Nat := 0
  inStride : Nat := 0
  configured : Bool := false
  outDepth : Nat := 0
  unwritten : Nat := 0
  outSeen : Nat := 0
  streams : Tab StreamSlot := []
  proofSteps : Nat := 1024
  proofMs : Nat := 1000
  roundStartGather : Nat := 0
  roundStartTb : Nat := 0
  everRound : Bool := false
  roundWanted : Bool := false
  roundQueued : Bool := false
  roundNo : Nat := 0
  lastRound : Nat := 0
  digests : Tab (List Byte) := []
  lastDigest : List Byte := []
  lastRegions : List ProofRegion := []
  lastMismatch : List Nat := []
  lastMatchTb : Nat := 0
  paths : List (Nat × Nat × List Nat) := []
  newImg : Nat := 0
  newLen : Nat := 0
  oldPlate : Plate := {}
  cancels : Nat := 0
  resent : Nat := 0
  pendingHashes : List (Nat × Nat) := []
  saved : List (Nat × Nat × Nat × Nat) := []
  ndcSeen : Tab Nat := []
  progress : Tab Nat := []
  deriving DecidableEq, Repr

/-- A command taken and not replied to whose completion another command brings (R350, R351): its tag, opcode, context
(16: none), the form asked for, whether it asks for a CMD_DONE event, and what it concerns. -/
structure Waiting where
  tag : Nat := 0
  op : Nat := 0
  ctx : Nat := 16
  form : Nat := 0
  event : Bool := false
  obj : Nat := 0
  arg : Nat := 0
  deriving DecidableEq, Repr

/-- An allocation of HBM or LPDDR5X (R311): its owner (16: the device), the TL_OPEN range that its host bits took, and
whether CTX_CREATE made it. -/
structure Alloc where
  addr : Nat := 0
  bytes : Nat := 0
  owner : Nat := 16
  range : Option Nat := none
  created : Bool := false
  deriving DecidableEq, Repr

/-- A weight key in a slot of a context (R396). -/
structure WeightKey where
  key : List Byte := []
  signer : List Byte := []
  plateId : Nat := 0
  deriving DecidableEq, Repr

/-- A re-placement (R267) that a fault event has made due or that has resumed and not yet closed its window: the context
and virtual tile, the tile that failed, the time of the fault event, the target once it has one. -/
structure Heal where
  ctx : Nat := 0
  vtile : Nat := 0
  tile : Nat := 0
  tb : Nat := 0
  target : Option Nat := none
  deriving DecidableEq, Repr

/-- Work that a planned migration has moved off a tile (R274): the context, the virtual tile and where it is now. -/
structure Moved where
  ctx : Nat := 0
  vtile : Nat := 0
  target : Nat := 0
  deriving DecidableEq, Repr

/-- A tile in the loupe queue (R290, R291): its request (0 for a retest, R264, else the number of the request), whether it
is under test, whether its test omits router BIST, the work moved off it and when the test began. -/
structure LoupeTile where
  tile : Nat := 0
  request : Nat := 0
  retest : Bool := false
  running : Bool := false
  skipRouter : Bool := false
  moved : Option Moved := none
  tb : Nat := 0
  deriving DecidableEq, Repr

/-- The rotation test in progress (R273). -/
structure Rotation where
  tile : Nat := 0
  skipRouter : Bool := false
  moved : Option Moved := none
  deriving DecidableEq, Repr

/-- A loupe request whose tiles do not all have a result (R293). -/
structure LoupeReq where
  id : Nat := 0
  tiles : Nat := 0
  failed : Nat := 0
  left : Nat := 0
  deriving DecidableEq, Repr

/-- What firmware's health manager keeps beside the HLTH_ registers: re-placements, the loupe queue and its requests, the
rotation test, the times of the last retest that each tile passed (R264) and of the last uncorrectable error in each
tile-store bank by tile × 64 + bank (R260), both plus 1, the uncorrectable words already answered, row repairs that wait
for a tile's memory unit (tile, scratch, bank, row), rows whose words are rewritten after their repair (tile, bank, row),
rows blocked for want of a spare (tile, row), and the tiles whose TEST_OVERDUE was raised (R279). -/
structure Health where
  heals : List Heal := []
  loupe : List LoupeTile := []
  requests : List LoupeReq := []
  nextRequest : Nat := 1
  rotation : Option Rotation := none
  rotationAt : Nat := 0
  retested : Tab Nat := []
  ueBanks : Tab Nat := []
  ueWords : List Nat := []
  remaps : List (Nat × Bool × Nat × Nat) := []
  rewrites : List (Nat × Nat × Nat) := []
  blocked : List (Nat × Nat) := []
  overdue : List Nat := []
  deriving DecidableEq, Repr

/-- The non-volatile store and the blown fuses (R257, R136, R305, R383, R388): permanent fences as (tile, cause), the end of
the last leaf reservation of the journal, the fused security version count, field row repairs as (tile, scratch, bank, row,
spare), rows of stacks repaired as (stack, row), and the first addresses of retired 2 MiB pages. -/
structure Store where
  fences : List (Nat × Nat) := []
  leafEnd : Nat := 0
  svn : Nat := 0
  hbmRepairs : List (Nat × Nat) := []
  retired : List Nat := []
  repairs : List (Nat × Bool × Nat × Nat × Nat) := []
  deriving DecidableEq, Repr

/-- A signature request (R389): of the handshake of a Lanel port over its transcript hash, or an ATTEST command with its
nonce, buffer and scope. -/
structure SignReq where
  handshake : Bool := false
  port : Nat := 0
  digest : List Byte := []
  cmd : Waiting := {}
  nonce : List Byte := []
  buffer : Nat := 0
  deriving DecidableEq, Repr

/-- What the security engine holds beside its registers (R389, R393): the digests of the last 16 reports, oldest first, the
signing queue in the order of arrival, and the times of the signatures of the last second. -/
structure Sec where
  reports : List (List Byte) := []
  queue : List SignReq := []
  signTimes : List Nat := []
  deriving DecidableEq, Repr

/-- A Lanel handshake or rekey in progress (R365, R367): its random values, the partner's key and chain, the parts of the
partner's HELLO, the frames of the transcript by side and step, the KEM seed and secret, the transcript hash, and what
has been sent and checked. -/
structure Handshake where
  active : Bool := false
  rekey : Bool := false
  tb : Nat := 0
  rand : List Byte := []
  partnerRand : List Byte := []
  partnerKey : List Byte := []
  chain : List Byte := []
  mine : List (List Byte) := []
  parts : Tab (List Byte) := []
  haveHello : Bool := false
  initiator : Bool := false
  seed : Nat := 0
  kem : List (List Byte) := []
  secret : List Byte := []
  digest : List Byte := []
  signed : Bool := false
  verified : Bool := false
  finSent : Bool := false
  finGot : Bool := false
  deriving DecidableEq, Repr

/-- A key of one direction of a Lanel link with its salt (R365, R366). -/
structure LnKey where
  key : List Byte := []
  salt : List Byte := []
  deriving DecidableEq, Repr

/-- A Lanel port beside its registers (R356 to R373): when its state was entered, the lanes that failed their last training,
the times of its retrains, failed replays in a row, link credits by LVC, frames queued as (LVC, clear, header and
payload), a drain, whether its CLOSE is queued and its start, when it last sent and last received an authenticated frame, since when each LVC has held
frames without credits, the times of the authentication failures of the last second, the handshake, the keys with the last retired receive key,
the key that a rekey has ready, since when the keys are in use, failed handshakes in a row, and what it has sent. -/
structure Port where
  since : Nat := 0
  badLanes : Nat := 0
  retrains : List Nat := []
  failedReplays : Nat := 0
  credits : List Nat := [0, 0, 0, 0]
  queue : List (Nat × Bool × List Byte) := []
  draining : Bool := false
  closing : Bool := false
  drainFrom : Nat := 0
  lastSent : Nat := 0
  lastAuth : Nat := 0
  stalled : List (Option Nat) := [none, none, none, none]
  authTimes : List Nat := []
  hs : Handshake := {}
  tx : LnKey := {}
  rx : LnKey := {}
  nextTx : Option LnKey := none
  nextRx : Option LnKey := none
  keyFrom : Nat := 0
  hsFails : Nat := 0
  sent : List (List Byte) := []
  deriving DecidableEq, Repr

/-- An egress proxy (R375, R376): the messages in its buffer, each with the bytes it takes there, the offset of the next record
and the chan_seq that it expects. -/
structure EgProxy where
  buf : List (Msg × Nat) := []
  tail : Nat := 0
  expected : Nat := 0
  deriving DecidableEq, Repr

/-- An ingress proxy (R377): messages in its buffer not yet sent into the mesh, its retain window, whether its round has had
its first NACK, whether a NACK has stopped it, and the hops of its return route (0: not yet known). -/
structure InProxy where
  buf : List Msg := []
  win : List WinEntry := []
  roundNacked : Bool := false
  stopped : Bool := false
  returnHops : Nat := 0
  deriving DecidableEq, Repr

/-- A join in progress (R381, R382): its port, virtual counter and step, whether the import has ended, and the partner's
t0 and step period. -/
structure Join where
  port : Nat := 0
  vid : Nat := 0
  step : Nat := 0
  imported : Bool := false
  t0 : Nat := 0
  period : Nat := 0
  deriving DecidableEq, Repr

/-- A timebase alignment in progress (R379, R454): its source (0 to 11 a port, 16 SYNC_IN), when it began, exchanges done,
the t1 of the exchange under way in 1/64 counts, and round trip and twice the offset of the best exchange in 1/64 counts. -/
structure Align where
  source : Nat := 0
  tb : Nat := 0
  done : Nat := 0
  t1 : Nat := 0
  best : Option (Int × Int) := none
  deriving DecidableEq, Repr

/-- Time beside its registers: an alignment, the timebase slew left in ns and the calendar slew left in ns (R453, R456),
and the counts from which the next step of each is reckoned. -/
structure Time where
  align : Option Align := none
  slew : Int := 0
  slewAt : Nat := 0
  calSlew : Int := 0
  calAt : Nat := 0
  deriving DecidableEq, Repr

/-- The power manager beside its registers (R438 to R451): the gates of the protected tiles that are below 64, by 64 minus
the gate; since when the average exceeds the limit with the unprotected gates at 0, and the protected gates are at 64; since
when every reading is below the thresholds of an emergency, and one is at them; the tiles whose junctions are at 105 °C or
more, the hottest junction being at 95 °C or more, and the inlet above 40 °C; the highest measured watts of each context (R443);
up to when throttle_ms is counted; the voltages of the two blade pairs in mV and since when the input is outside its range;
THERM_ALERT; the entry into a power state that is under way, with its form and the regions that it saves: context,
region, virtual tile, destination, and the contexts that it has begun to drain. -/
structure Power where
  lowGates : Tab Nat := []
  overSince : Option Nat := none
  fullSince : Option Nat := none
  coolSince : Option Nat := none
  hotSince : Option Nat := none
  stackSince : Option Nat := none
  hotTiles : List Nat := []
  warm : Bool := false
  inletHot : Bool := false
  peak : Tab Nat := []
  throttleAt : Nat := 0
  vinA : Nat := 0
  vinB : Nat := 0
  badSince : Option Nat := none
  thermAlert : Bool := false
  target : Option (Nat × Nat) := none
  save : List (Nat × Nat × Nat × Nat) := []
  drained : List Nat := []
  deriving DecidableEq, Repr

/-- The sideband block (R479 to R483): the code and result of the last request, whether SB_ALERT_N is low, the emergency
stop and whether it waits for firmware, the mirror of the health fields with its age, writes with a wrong PEC, the bytes of the
last block read, and power requests in the queue as (state, form). -/
structure Sideband where
  code : Nat := 0
  result : Nat := 0
  alert : Bool := false
  estop : Bool := false
  estopHeld : Bool := false
  mirror : List Nat := []
  mirrorTb : Nat := 0
  pecFaults : Nat := 0
  answer : List Byte := []
  queue : List (Nat × Nat) := []
  deriving DecidableEq, Repr

/-- The boot beside SCU_BOOT_STATUS (R428 to R436): whether the rails are on and power-good released, whether RESET_N is held,
the attempt tag, when the stage was entered, tiles and ports that failed the boot self-test, the mailbox (0 closed, 1 open, 2
open with its request line and load area closed to the host), when FW_INIT began, the cause byte of the last module reset to
report, whether the boot follows Safelight, and the firmware version of the image. -/
structure Boot where
  powered : Bool := true
  resetHeld : Bool := false
  tag : Nat := 0
  tbStage : Nat := 0
  badTiles : Nat := 0
  badPorts : List (Nat × Nat) := []
  mailbox : Nat := 0
  fwFrom : Nat := 0
  cause : Option Nat := none
  version : Nat := 0
  deriving DecidableEq, Repr

/-- The watchdog beside its registers (R416, R417): when BELFRY_COUNT last changed, and when the watchdog fired. -/
structure Wdt where
  lastWrite : Nat := 0
  firedAt : Nat := 0
  deriving DecidableEq, Repr

/-- The sampler beside its registers (R465 to R468): instants taken, the first instant, counter values at the last sample by
selection, the peaks since the last sample by tile × 128 + region or 64 + endpoint, and the consumer index of its ring as
last seen. -/
structure Sampler where
  k : Nat := 0
  t0 : Nat := 0
  prev : Tab Nat := []
  peaks : Tab Nat := []
  seen : Nat := 0
  deriving DecidableEq, Repr

/-- The test access port (R484, R485): the instruction held, and what the last DEBUG access gave on TDO. -/
structure Tap where
  ir : Nat := 1
  tdo : Nat := 0
  deriving DecidableEq, Repr

/-- One entry of the home's snoop filter (R333): a line that the host holds, and whether its copy is writable. -/
structure FilterEntry where
  line : Nat := 0
  m : Bool := false
  deriving DecidableEq, Repr

/-- What waits at the home for a line whose snoop is not yet answered (R334): a write of a module agent, or a read that
comes again of itself. -/
inductive HomeOp where
  | put (addr : Nat) (data : List Byte)
  | look
  deriving DecidableEq, Repr

/-- A SNOOP that the host has not answered (R334): its line, its kind (0 SNP_INV, 1 SNP_SHARE), when it was sent and what
waits. -/
structure Snoop where
  line : Nat := 0
  kind : Nat := 0
  tb : Nat := 0
  waiting : List HomeOp := []
  deriving DecidableEq, Repr

/-- A PW or NP transaction of the host that is not yet applied (R328, R331): reads, writes with their poison flag, a masked
write, an atomic, a request for a copy of a line, and a returned line with its data if dirty. -/
inductive HostOp where
  | read (tag addr lines : Nat)
  | write (tag addr : Nat) (data : List Byte) (poison : Bool)
  | masked (tag addr mask : Nat) (data : List Byte) (poison : Bool)
  | atomic (tag addr op : Nat) (operands : List Byte)
  | grant (tag addr : Nat) (own : Bool)
  | ret (addr : Nat) (data : Option (List Byte)) (poison : Bool)
  deriving DecidableEq, Repr

/-- What the module sends to the host over Treup (R328): completions, errors, snoops, and its own reads. -/
inductive TlOut where
  | cpl (tag status : Nat) (w poison : Bool) (data : List Byte)
  | error (tag status : Nat)
  | snoop (line kind : Nat)
  | read (tag addr lines : Nat)
  | write (addr : Nat) (bytes : Nat)
  | masked (addr : Nat) (bytes : Nat)
  deriving DecidableEq, Repr

/-- A module READ of host memory without its completion (R332): its tag, the host physical address, its lines, the engine
that asks by group × 16 + number, the ring index of the descriptor, and when it was sent. -/
structure HostRead where
  tag : Nat := 0
  addr : Nat := 0
  lines : Nat := 0
  engine : Nat := 0
  ix : Nat := 0
  tb : Nat := 0
  deriving DecidableEq, Repr

/-- A descriptor in progress at a transfer engine (R315, R317): its ring index, its 64 bytes, and how many bytes of a
source in host memory have been asked for. -/
structure XeDesc where
  ix : Nat := 0
  raw : List Byte := []
  asked : Nat := 0
  deriving DecidableEq, Repr

/-- What a transfer engine holds beside its registers (R314, R317, R319): the index of the next descriptor of its ring, the
descriptors in progress, the producer index at which a drain ends and when it began, the descriptors cancelled by the
last stop, completion records that wait for room, the consumer index of the completion ring as last seen, and the last 16 descriptors taken (R423). -/
structure Engine where
  next : Nat := 0
  prog : List XeDesc := []
  goal : Option Nat := none
  drainFrom : Nat := 0
  cancelled : Nat := 0
  due : List (List Byte) := []
  cplSeen : Nat := 0
  last : List (List Byte) := []
  deriving DecidableEq, Repr

/-- What a memory controller counts beside its registers (R305, R321): the start of the hour, the correctable errors in it,
whether it has raised MEM_CE_RATE in it, and the rows with a correctable event and its time. -/
structure MemCtl where
  hourFrom : Nat := 0
  count : Nat := 0
  raised : Bool := false
  rows : List (Nat × Nat) := []
  deriving DecidableEq, Repr

/-- The Treup link beside its registers: the snoop filter oldest grant first (R333), snoops without answer, module
READs without completion, lines whose watch has fired and not been taken (R335), the round-robin place of the
polling of R336, host transactions received and not applied (R331), the consumer indexes of the reply window and the event
ring as last seen (R343), whether a retrain command brought the link to RECOVERY (R324), when it went DOWN, credits the module holds in slots for PW, NP and SNP (R330), what waits for credits, what has been
sent, firmware's own event and reply indexes, whether it has been DOWN since it was last ACTIVE, and counts the registers do not
hold. -/
structure Treup where
  filter : List FilterEntry := []
  snoops : List Snoop := []
  reads : List HostRead := []
  fired : List Nat := []
  pollAt : Nat := 0
  inq : List HostOp := []
  repSeen : Nat := 0
  evtSeen : Nat := 0
  viaRetrain : Bool := false
  downAt : Nat := 0
  creditPW : Nat := 0
  creditNP : Nat := 0
  creditSNP : Nat := 0
  held : List TlOut := []
  sent : List TlOut := []
  nextTag : Nat := 0
  droppedWrites : Nat := 0
  evtIx : Nat := 0
  repIx : Nat := 0
  recoveryTimes : List Nat := []
  failedReplays : Nat := 0
  wasDown : Bool := false
  deriving DecidableEq, Repr

/-- The orderable parts (R2). -/
inductive Part where
  | urk3800
  | urk3100
  | urk2500
  deriving DecidableEq, Repr

/-- Why a step can stop with a fault. No command of this block does: every fault of the spec is state (a fault bit, a
status, a NACK, a record). The one constructor is raised by nothing and stands so that the type has a value. -/
inductive Fault where
  /-- Raised by no command; safe. -/
  | unreachable
  deriving DecidableEq, Repr

/-- Why a command has no meaning. -/
inductive Refusal where
  /-- A command that the model does not model yet: raised by `exec`'s arms alone; safe. -/
  | notModelled (mnemonic : String)
  /-- DEBUG access to the SCU's debug unit, whose behaviour the spec does not give (R485): raised by `execDebug`;
  safe. -/
  | scuDebugUnit
  deriving DecidableEq, Repr

/-- The state of the module. -/
structure State where
  /-- Commands waiting, first in, first out. -/
  pending : List Instr := []
  /-- How many free values have been drawn (the model's own, log 8). -/
  freeCtr : Nat := 0
  part : Part := .urk3800
  /-- Registers by device address; one that is not listed holds its reset value. -/
  regs : Tab Word := []
  /-- Bytes by device physical address. -/
  mem : List Host.Cell := []
  /-- Ranges whose contents are lost: first byte, length, and the number of the free value of the first byte (the model's
  own, log 8). No byte of them is listed in `mem`. -/
  lost : List (Nat × Nat × Nat) := []
  /-- Uncorrectable codewords by word address: the mask of the word's codewords (R131). -/
  ue : Tab Nat := []
  me : Tab MeUnit := []
  vsp : Tab VspUnit := []
  /-- Programs by (tile × 4 + generator) × 8 + slot. -/
  ag : Tab AgProg := []
  /-- Port bytes by (tile × 4 + generator) × 8 + slot. -/
  agFifo : Tab (List PortByte) := []
  mu : Tab MuWork := []
  /-- Positions of entries popped ahead of an older one, by tile × 64 + region (R217). -/
  popped : Tab (List Nat) := []
  /-- Units of a tile that have passed an END_OF_BATCH of the active slot (R219), a mask by tile. -/
  foldEob : Tab Nat := []
  net : List NetMsg := []
  /-- Endpoints by tile × 64 + endpoint. -/
  eps : Tab EpUnit := []
  reorder : Tab (List Reorder) := []
  signals : List Signal := []
  ctxs : Tab Ctx := []
  entries : List SntEntry := []
  tl : Treup := {}
  /-- Packets that SUBMISSION_WATCH has taken and no command has executed (R342). -/
  taken : List (List Byte) := []
  waiting : List Waiting := []
  allocs : List Alloc := []
  enrolled : List (List Byte) := []
  /-- Weight keys by context × 16 + slot. -/
  weightKeys : Tab WeightKey := []
  /-- Transfer engines by group × 16 + number. -/
  engines : Tab Engine := []
  /-- Memory controllers: HBM stack i, LPDDR5X controller 8 + n. -/
  mctl : Tab MemCtl := []
  health : Health := {}
  store : Store := {}
  sec : Sec := {}
  /-- Lanel ports 0 to 11. -/
  ports : Tab Port := []
  /-- Egress and ingress proxies by die × 64 + proxy. -/
  egress : Tab EgProxy := []
  ingress : Tab InProxy := []
  /-- Joins by context. -/
  joins : Tab Join := []
  time : Time := {}
  power : Power := {}
  sb : Sideband := {}
  boot : Boot := {}
  wdt : Wdt := {}
  smp : Sampler := {}
  tap : Tap := {}
  deriving DecidableEq, Repr

/-- The machine right after reset. -/
def State.reset : State := {}

end Sys2Proof.Machine
end

