-- ==== Sys2Proof/Machine/Ops.lean ====
section
/-! DEFINITION. Machine/Ops.lean: the named operations over the register file, memory and the tables of State, and
the operations many commands share: counters, free values, fault signals. -/
namespace Sys2Proof.Machine

/-! ## Registers -/

/-- The indexes of a repeated register that byte offset `o` from its first copy names; none when `o` names no copy. -/
def descIndex (dims : List (Nat × Nat)) (o : Nat) : Option (List Nat) :=
  match dims with
  | [] => if o = 0 then some [] else none
  | (c, st) :: t =>
    if o / st < c then (descIndex t (o % st)).map (fun l => o / st :: l) else none

/-- Whether descriptor `d` covers address `a`. -/
def covers (d : RegDesc) (a : Nat) : Bool :=
  decide (d.base ≤ a) && (descIndex d.dims (a - d.base)).isSome

/-- First address of the tile register windows and of the global register window (R25). -/
def tileRegs : Nat := 0x028000000000
def globalRegs : Nat := 0x02F000000000

/-- The descriptors that can cover address `a`. -/
def descsFor (a : Nat) : List RegDesc :=
  if tileRegs ≤ a ∧ a < tileRegs + 0x1000000 then tilePage ((a % 0x10000) / 0x1000)
  else if globalRegs ≤ a ∧ a < globalRegs + 0x1000000 then globalPage ((a - globalRegs) / 0x100000)
  else []

/-- The descriptor of the register at address `a`; none where no register is (R26). -/
def descOf (a : Nat) : Option RegDesc := (descsFor a).find? (fun d => covers d a)

/-- Row `j` of the matrix of preset 1 (R107). -/
def preset1Row (j : Nat) : Nat :=
  2 ^ (6 + j) + 2 ^ (12 + j) + 2 ^ (18 + j) + (if j < 2 then 2 ^ (24 + j) else 0)

/-- The default bound and jitter of deadline class `c`, in µs (R235). -/
def classDefault (c : Nat) : Nat × Nat :=
  match c with
  | 0 => (30000, 0)
  | 1 => (40000, 0)
  | 2 => (100000, 10000)
  | _ => (1000000, 0)

/-- The reset values that depend on a register's place: coordinates of a tile (R14), preset 1 in every AG_HASH_M
(R107), the class table of R235, the engines that are host engines (R313), the port and die of a Lanel port (R18). -/
def resetAt (a : Nat) (d : RegDesc) : Nat :=
  if d.base = TILE_ID 0 then
    let p := (a - d.base) / 0x10000
    d.reset + p % 16 + (p / 16) * 16 + p * 256
  else if d.base = AG_HASH_M0 0 0 then preset1Row 0 + preset1Row 1 * 2 ^ 32
  else if d.base = AG_HASH_M1 0 0 then preset1Row 2 + preset1Row 3 * 2 ^ 32
  else if d.base = AG_HASH_M2 0 0 then preset1Row 4 + preset1Row 5 * 2 ^ 32
  else if d.base = SCU_CLASS 0 then
    let got := classDefault ((a - d.base) / 8)
    let b := got.1
    let j := got.2
    d.reset + b + j * 2 ^ 26
  else if d.base = XE_ENG_CFG 0 0 then
    if ((a - d.base) % 0x80000) / 0x1000 ≥ 8 then d.reset ||| 2 ^ XE_ENG_CFG.host_engine.lo else d.reset
  else if d.base = LN_ID 0 then
    let n := (a - d.base) / 0x10000
    d.reset + n * 2 ^ LN_ID.port.lo + (if n < 6 then 0 else 2 ^ LN_ID.die.lo)
  else d.reset

/-- What the register at `a` holds after a reset of its domain (R8); 0 where no register is. -/
def resetOf (a : Nat) : Word :=
  match descOf a with
  | some d => BitVec.ofNat 64 (resetAt a d)
  | none => 0

/-- The register at `a`. -/
def State.reg (s : State) (a : Nat) : Word := Sparse.get resetOf s.regs a

/-- `s` with the register at `a` holding `v`. -/
def State.setReg (s : State) (a : Nat) (v : Word) : State :=
  { s with regs := Sparse.set resetOf s.regs a v }

/-- A field of the register at `a`. -/
def State.fld (s : State) (a : Nat) (f : Field) : Nat := f.get (s.reg a)

/-- A one-bit field. -/
def State.bit (s : State) (a : Nat) (f : Field) : Bool := s.fld a f = 1

/-- `s` with a field of the register at `a` holding `x`. -/
def State.setFld (s : State) (a : Nat) (f : Field) (x : Nat) : State := s.setReg a (f.set x (s.reg a))

/-- `s` with a one-bit field set or cleared. -/
def State.setBit (s : State) (a : Nat) (f : Field) (b : Bool) : State := s.setFld a f (b2n b)

/-- A counter field that stops at all ones. -/
def State.addSat (s : State) (a : Nat) (f : Field) (n : Nat) : State :=
  s.setFld a f (min (s.fld a f + n) (2 ^ f.width - 1))

/-- A 48-bit counter that wraps to 0 and then sets its wrapped bit, bit 63. -/
def State.addWrap (s : State) (a : Nat) (n : Nat) : State :=
  let v := s.fld a ⟨0, 48⟩ + n
  let s := s.setFld a ⟨0, 48⟩ v
  if v < 2 ^ 48 then s else s.setFld a ⟨63, 1⟩ 1

/-- A counter field that wraps by design. -/
def State.addMod (s : State) (a : Nat) (f : Field) (n : Nat) : State := s.setFld a f (s.fld a f + n)

/-- Every register that satisfies `p` goes back to its reset value. -/
def State.resetRegs (s : State) (p : Nat → Bool) : State := { s with regs := Sparse.clear s.regs p }

/-- The domain of the register at `a`. -/
def domainOf (a : Nat) : Option Domain := (descOf a).map (fun d => d.dom)

/-! ## Time -/

/-- The timebase count (R452). -/
def State.tb (s : State) : Nat := s.fld (TB_COUNT) TB_COUNT.count

/-! ## Memory -/

/-- What a byte that nothing has written reads as. DESIGN CHOICE (log 4): 0. -/
def memDefault (_ : Nat) : Byte := 0

/-- The canonical form of memory. -/
def Memory.wf (m : List Host.Cell) : Bool := Sparse.wf memDefault m

/-- The number of the free value that a byte of a lost range holds. -/
def lostIx (l : List (Nat × Nat × Nat)) (a : Nat) : Option Nat :=
  (l.find? (fun r => decide (r.1 ≤ a) && decide (a < r.1 + r.2.1))).map (fun r => r.2.2 + (a - r.1))

/-- What is left of the lost ranges without `n` bytes at `a`. -/
def lostWithout (l : List (Nat × Nat × Nat)) (a n : Nat) : List (Nat × Nat × Nat) :=
  if n = 0 then l
  else l.flatMap (fun r =>
    if r.1 + r.2.1 ≤ a ∨ a + n ≤ r.1 then [r]
    else
      (if r.1 < a then [(r.1, a - r.1, r.2.2)] else []) ++
        (if a + n < r.1 + r.2.1 then [(a + n, r.1 + r.2.1 - (a + n), r.2.2 + (a + n - r.1))] else []))

/-- The lost bytes among `n` at `src`, as ranges from `dst` on. -/
def lostCopied (l : List (Nat × Nat × Nat)) (src dst n : Nat) : List (Nat × Nat × Nat) :=
  l.flatMap (fun r =>
    let lo := max r.1 src
    let hi := min (r.1 + r.2.1) (src + n)
    if lo < hi then [(lo - src + dst, hi - lo, r.2.2 + (lo - r.1))] else [])

/-- One byte of memory. -/
def State.byte (s : State) (a : Nat) : Byte :=
  match lostIx s.lost a with
  | some i => BitVec.ofNat 8 (Config.freeNat i)
  | none => Sparse.get memDefault s.mem a

/-- `n` bytes from `a` on. -/
def State.bytes (s : State) (a n : Nat) : List Byte := (List.range n).map (fun i => s.byte (a + i))

/-- The little-endian number in `n` bytes at `a` (R12). -/
def State.num (s : State) (a n : Nat) : Nat := ofBytes (s.bytes a n)

/-- Memory after the bytes `l` are written at `a`. -/
def writeCells (m : List Host.Cell) (a : Nat) (l : List Byte) : List Host.Cell :=
  match l with
  | [] => m
  | b :: t => writeCells (Sparse.set memDefault m a b) (a + 1) t

/-- First address of operand scratch (R25). -/
def scratchFirst : Nat := 0x021000000000

/-- Bytes of an error-protected word at `a`: 32 in operand scratch, 64 elsewhere (R104, R130). -/
def eccWord (a : Nat) : Nat := if scratchFirst ≤ a ∧ a < 0x021008000000 then 32 else 64

/-- `s` with no uncorrectable word among those that lie wholly in `n` bytes at `a`: a word stays uncorrectable until it
is written in full (R131, R305). -/
def State.wordsWritten (s : State) (a n : Nat) : State :=
  { s with ue := Sparse.clear s.ue (fun w => decide (a ≤ w ∧ w + eccWord w ≤ a + n)) }

/-- `s` with the bytes `l` at `a`. -/
def State.setBytes (s : State) (a : Nat) (l : List Byte) : State :=
  { s with mem := writeCells s.mem a l, lost := lostWithout s.lost a l.length }.wordsWritten a l.length

/-- `s` with the `n`-byte little-endian number `v` at `a`. -/
def State.setNum (s : State) (a n v : Nat) : State := s.setBytes a (leBytes n v)

/-- `s` with the `n` bytes from `a` on as if nothing had written them. -/
def State.zeroRange (s : State) (a n : Nat) : State :=
  { s with mem := Sparse.clear s.mem (fun k => decide (a ≤ k ∧ k < a + n)), lost := lostWithout s.lost a n }.wordsWritten a n

/-- `s` with the cells listed in `l` written at `dst` plus their distance from `src`. -/
def copyCells (m : List Host.Cell) (src dst : Nat) (l : List Host.Cell) : List Host.Cell :=
  match l with
  | [] => m
  | c :: t => copyCells (Sparse.set memDefault m (dst + (c.1 - src)) c.2) src dst t

/-- `s` with `n` bytes copied from `src` to `dst`, the source read before anything is written. -/
def State.copyRange (s : State) (src dst n : Nat) : State :=
  let from_ := s.mem.filter (fun c => decide (src ≤ c.1 ∧ c.1 < src + n))
  { s with mem := copyCells (Sparse.clear s.mem (fun k => decide (dst ≤ k ∧ k < dst + n))) src dst from_,
           lost := lostWithout s.lost dst n ++ lostCopied s.lost src dst n }.wordsWritten dst n

/-- The number `pattern`, 8 bytes little-endian, in every 8-byte word of `n` bytes from `a` on. -/
def State.fillRange (s : State) (a n pattern : Nat) : State :=
  if pattern % 2 ^ 64 = 0 then s.zeroRange a n
  else s.setBytes a ((List.range (n / 8)).flatMap (fun _ => leBytes 8 pattern))

/-! ## Addresses (R25, R27) -/

/-- First address of the tile store and of the operand scratch of tile `p`. -/
def tsBase (p : Nat) : Nat := 0x020000000000 + 0x4000000 * p
def osBase (p : Nat) : Nat := scratchFirst + 0x80000 * p

def tsBytes : Nat := 0x4000000
def osBytes : Nat := 0x80000

/-- Whether a byte address is memory that R25 maps outside the register windows. -/
def mappedMem (a : Nat) : Bool :=
  decide (a < 0x00A000000000) || (decide (0x010000000000 ≤ a) && decide (a < 0x020400000000)) ||
    (decide (scratchFirst ≤ a) && decide (a < 0x021008000000)) || (decide (0x030000000000 ≤ a) && decide (a < 2 ^ 52))

/-- Bytes of one HBM stack: 80 GiB (R300). -/
def stackBytes : Nat := 0x1400000000

/-- The stack of an HBM address and the offset in it, as the interleave selects them (R301). -/
def State.hbmSel (s : State) (a : Nat) : Nat × Nat :=
  if s.bit HBM_ILV HBM_ILV.mode then (a / stackBytes, a % stackBytes)
  else (bits a 12 3, (a >>> 15) * 4096 + a % 4096)

/-- The stack of an HBM address. -/
def State.stackOf (s : State) (a : Nat) : Nat := (s.hbmSel a).1

/-- Whether a byte address is memory: the 80 GiB range of a failed stack is unmapped (R302). -/
def State.mapped (s : State) (a : Nat) : Bool :=
  mappedMem a && !(decide (a < 0x00A000000000) && bitOf (s.fld HBM_ILV HBM_ILV.failed) (s.stackOf a))

/-- First address of LPDDR5X and of the host window. -/
def lpFirst : Nat := 0x010000000000
def hostFirst : Nat := 0x030000000000

/-! ## Tables -/

/-- The entry of a table at `k`; the default where nothing is listed. -/
def tget {α : Type} (d : α) (t : Tab α) (k : Nat) : α := Sparse.get (fun _ => d) t k

/-- A table with `v` at `k`. -/
def tset {α : Type} [DecidableEq α] (d : α) (t : Tab α) (k : Nat) (v : α) : Tab α := Sparse.set (fun _ => d) t k v

def State.meU (s : State) (p : Nat) : MeUnit := tget {} s.me p
def State.setMe (s : State) (p : Nat) (u : MeUnit) : State := { s with me := tset {} s.me p u }
def State.vspU (s : State) (p : Nat) : VspUnit := tget {} s.vsp p
def State.setVsp (s : State) (p : Nat) (u : VspUnit) : State := { s with vsp := tset {} s.vsp p u }
def State.agP (s : State) (p n sl : Nat) : AgProg := tget {} s.ag ((p * 4 + n) * 8 + sl)
def State.setAg (s : State) (p n sl : Nat) (u : AgProg) : State :=
  { s with ag := tset {} s.ag ((p * 4 + n) * 8 + sl) u }
/-- The active fold slot of a tile (R219). -/
def State.slot (s : State) (p : Nat) : Nat := s.fld (TILE_FOLD_STATUS p) TILE_FOLD_STATUS.active_slot

/-- The port of generator `n` for the active slot. -/
def State.fifo (s : State) (p n : Nat) : List PortByte := tget [] s.agFifo ((p * 4 + n) * 8 + s.slot p)
def State.setFifo (s : State) (p n : Nat) (l : List PortByte) : State :=
  { s with agFifo := tset [] s.agFifo ((p * 4 + n) * 8 + s.slot p) l }
def State.muW (s : State) (p : Nat) : MuWork := tget {} s.mu p
def State.setMu (s : State) (p : Nat) (u : MuWork) : State := { s with mu := tset {} s.mu p u }
def State.ep (s : State) (p e : Nat) : EpUnit := tget {} s.eps (p * 64 + e)
def State.setEp (s : State) (p e : Nat) (u : EpUnit) : State := { s with eps := tset {} s.eps (p * 64 + e) u }
def State.ror (s : State) (p : Nat) : List Reorder := tget [] s.reorder p
def State.setRor (s : State) (p : Nat) (l : List Reorder) : State := { s with reorder := tset [] s.reorder p l }
def State.ctx (s : State) (c : Nat) : Ctx := tget {} s.ctxs c
def State.setCtx (s : State) (c : Nat) (x : Ctx) : State := { s with ctxs := tset {} s.ctxs c x }

/-! ## Free values -/

/-- A fresh value that the spec does not state, of `w` bits (log 8). -/
def State.draw (s : State) (w : Nat) : Nat × State :=
  (Config.freeNat s.freeCtr % 2 ^ w, { s with freeCtr := s.freeCtr + 1 })

/-- `n` fresh values of `w` bits. -/
def State.drawList (s : State) (n w : Nat) : List Nat × State :=
  let got := s.draw (n * w)
  let v := got.1
  let s := got.2
  ((List.range n).map (fun i => bits v (i * w) w), s)

/-- The contents of `n` bytes from `a` on are lost: each holds a fresh value that the spec does not state. -/
def State.loseRange (s : State) (a n : Nat) : State :=
  { s with mem := Sparse.clear s.mem (fun k => decide (a ≤ k ∧ k < a + n)),
           lost := lostWithout s.lost a n ++ [(a, n, s.freeCtr)], freeCtr := s.freeCtr + n }.wordsWritten a n

/-- `s` with the memory of `u`: what a command that is undone leaves of its writes. -/
def State.withMemoryOf (s u : State) : State :=
  { s with mem := u.mem, lost := u.lost, ue := u.ue, freeCtr := u.freeCtr }

/-! ## Fault signals -/

/-- A signal to the health manager over VCM (R54, R111, R131, R154). -/
def State.signal (s : State) (x : Signal) : State := { s with signals := s.signals ++ [x] }

/-- Writes a log register and its time once, guarded by its held bit: it keeps the first entry until cleared. -/
def State.logOnce (s : State) (log time : Nat) (held : Field) (v : Nat) : State :=
  if s.bit log held then s
  else ((s.setReg log (BitVec.ofNat 64 v)).setBit log held true).setReg time (BitVec.ofNat 64 s.tb)

/-- A count of clock cycles grows by an amount that the model, which has no ACLK, CCLK or FCLK, leaves free (log 6). -/
def State.cycles (s : State) (a : Nat) : State :=
  let got := s.draw 16
  let n := got.1
  let s := got.2
  s.addWrap a n

/-- The running sampler's peak `k` takes a value, where it is a new highest (R465). -/
def State.notePeak (s : State) (k v : Nat) : State :=
  if s.bit SMP_STATUS SMP_STATUS.running && decide (v > tget 0 s.smp.peaks k) then
    { s with smp := { s.smp with peaks := tset 0 s.smp.peaks k v } }
  else s

/-- Folds an operation over a list. -/
def State.each {α : Type} (s : State) (l : List α) (f : State → α → State) : State := l.foldl f s

end Sys2Proof.Machine
end

