-- ==== Sys2Proof/Machine/Region.lean ====
section
/-! DEFINITION. Machine/Region.lean: token headers (R97), the circular regions of a tile (R117 to R125), what a region
presents to a fold slot (R217), and the discard of stale tokens (R218). -/
namespace Sys2Proof.Machine

/-! ## Token headers -/

/-- A token header as a 128-bit number (R97). -/
def encodeHdr (h : Hdr) : Nat :=
  h.typ % 4 + (h.slot % 8) * 2 ^ 2 + (h.epoch % 16) * 2 ^ 5 + b2n h.mark * 2 ^ 9 + (h.itemTag % 2 ^ 16) * 2 ^ 16 +
    (h.length % 2 ^ 14) * 2 ^ 32 + (h.offVal % 2 ^ 32) * 2 ^ 64 + (h.seqNo % 2 ^ 32) * 2 ^ 96

/-- The token header of a 128-bit number (R97). -/
def decodeHdr (v : Nat) : Hdr :=
  { typ := bits v 0 2, slot := bits v 2 3, epoch := bits v 5 4, mark := bitOf v 9, itemTag := bits v 16 16,
    length := bits v 32 14, offVal := bits v 64 32, seqNo := bits v 96 32 }

/-- Token types (R97). -/
def tData : Nat := 0
def tControl : Nat := 1
def tEob : Nat := 2
def tEos : Nat := 3

/-- Whether a token is END_OF_BATCH or END_OF_STREAM. -/
def Hdr.isEnd (h : Hdr) : Bool := h.typ = tEob || h.typ = tEos

/-! ## The tile -/

/-- Whether the tile is fenced (R262). -/
def State.fenced (s : State) (p : Nat) : Bool := s.bit (TILE_FENCE p) TILE_FENCE.fenced

/-- The context of the tile's lease; none when it is in none (R212). -/
def State.lease (s : State) (p : Nat) : Option Nat :=
  if s.bit (TILE_CTX p) TILE_CTX.leased then some (s.fld (TILE_CTX p) TILE_CTX.ctx) else none

/-- A fault of the context that leases tile `p` is signalled with its code (R223). -/
def State.ctxNote (s : State) (p code : Nat) : State :=
  s.signal { kind := .note, tile := p, arg := code, log := (s.lease p).getD 16, time := s.tb }

/-- Whether unit `u` of the active slot is stalled on a counter wait (R191). -/
def State.unitWaiting (s : State) (p u : Nat) : Bool := bitOf (s.fld (SYNC_STATUS p) SYNC_STATUS.waiting) u

/-! ## Region fields -/

def State.rMode (s : State) (p r : Nat) : Nat := s.fld (RGN_CFG p r) RGN_CFG.mode
def State.rBase (s : State) (p r : Nat) : Nat := s.fld (RGN_CFG p r) RGN_CFG.base_4k * 4096
def State.rSize (s : State) (p r : Nat) : Nat := s.fld (RGN_CFG p r) RGN_CFG.size_4k * 4096
def State.rHead (s : State) (p r : Nat) : Nat := s.fld (RGN_HEAD p r) RGN_HEAD.pointer
def State.rTail (s : State) (p r : Nat) : Nat := s.fld (RGN_TAIL p r) RGN_TAIL.pointer
def State.rRead (s : State) (p r : Nat) : Nat := s.fld (RGN_READ p r) RGN_READ.pointer
def State.rHeadOff (s : State) (p r : Nat) : Nat := s.fld (RGN_OFFS p r) RGN_OFFS.head_off
def State.rTailOff (s : State) (p r : Nat) : Nat := s.fld (RGN_OFFS p r) RGN_OFFS.tail_off
def State.rReadOff (s : State) (p r : Nat) : Nat := s.fld (RGN_STATUS p r) RGN_STATUS.read_off

/-- Modes of a region (R117). -/
def mOff : Nat := 0
def mQueue : Nat := 1
def mReceive : Nat := 2
def mState : Nat := 3

/-- Bytes held (R118). -/
def State.rOcc (s : State) (p r : Nat) : Nat := ahead (s.rTail p r) (s.rHead p r)

/-- Bytes free (R118). -/
def State.rFree (s : State) (p r : Nat) : Nat := s.rSize p r - s.rOcc p r

/-- Whether the pointers obey R118. -/
def State.rSound (s : State) (p r : Nat) : Bool :=
  decide (s.rOcc p r ≤ s.rSize p r) && decide (ahead (s.rTail p r) (s.rRead p r) ≤ s.rSize p r) &&
    decide (ahead (s.rRead p r) (s.rHead p r) ≤ s.rSize p r)

/-- An offset after `n` more bytes of a ring of `size` bytes (R118). -/
def wrapOff (off n size : Nat) : Nat := if off + n ≥ size then off + n - size else off + n

/-- tail advances (R118). -/
def State.advTail (s : State) (p r n : Nat) : State :=
  let o := wrapOff (s.rTailOff p r) n (s.rSize p r)
  let s := (s.setFld (RGN_TAIL p r) RGN_TAIL.pointer (s.rTail p r + n)).setFld (RGN_OFFS p r) RGN_OFFS.tail_off o
  s.notePeak (p * 128 + r) (s.rOcc p r)

/-- head advances (R118). -/
def State.advHead (s : State) (p r n : Nat) : State :=
  let o := wrapOff (s.rHeadOff p r) n (s.rSize p r)
  (s.setFld (RGN_HEAD p r) RGN_HEAD.pointer (s.rHead p r + n)).setFld (RGN_OFFS p r) RGN_OFFS.head_off o

/-- read advances (R118). -/
def State.advRead (s : State) (p r n : Nat) : State :=
  let o := wrapOff (s.rReadOff p r) n (s.rSize p r)
  (s.setFld (RGN_READ p r) RGN_READ.pointer (s.rRead p r + n)).setFld (RGN_STATUS p r) RGN_STATUS.read_off o

/-! ## Entries -/

/-- One entry of a region: its pointer position, its offset, its length, its record kind (0 in a QUEUE), its header
and whether it is released. -/
structure Ent where
  pos : Nat := 0
  off : Nat := 0
  len : Nat := 0
  kind : Nat := 0
  hdr : Hdr := {}
  released : Bool := false
  deriving DecidableEq, Repr

/-- The entry at an offset. -/
def State.entAt (s : State) (p r pos off : Nat) : Ent :=
  let a := tsBase p + s.rBase p r + off
  let h := decodeHdr (s.num a 16)
  if s.rMode p r = mQueue then { pos := pos, off := off, len := 16, hdr := h }
  else { pos := pos, off := off, len := s.num (a + 20) 4, kind := s.num (a + 16) 1, hdr := h,
         released := s.num (a + 17) 1 % 2 = 1 }

/-- At most `fuel` entries from a position on, up to tail. -/
def State.walk (s : State) (p r : Nat) (fuel pos off : Nat) : List Ent :=
  match fuel with
  | 0 => []
  | n + 1 =>
    if pos = s.rTail p r then [] else
      let e := s.entAt p r pos off
      if e.len = 0 then [] else
        e :: s.walk p r n ((pos + e.len) % 2 ^ 64) (wrapOff off e.len (s.rSize p r))

/-- The first 64 entries past head (R124, R217). -/
def State.rEnts (s : State) (p r : Nat) : List Ent := s.walk p r 64 (s.rHead p r) (s.rHeadOff p r)

/-- Positions popped out of order. -/
def State.poppedOf (s : State) (p r : Nat) : List Nat := tget [] s.popped (p * 64 + r)

def State.setPopped (s : State) (p r : Nat) (l : List Nat) : State :=
  { s with popped := tset [] s.popped (p * 64 + r) l }

/-- Whether an entry still waits to be popped: not popped, not a skip, and in a RECEIVE region not before read. -/
def State.waitsPop (s : State) (p r : Nat) (e : Ent) : Bool :=
  !(s.poppedOf p r).contains e.pos && e.kind != 3 &&
    (s.rMode p r = mQueue || decide (ahead e.pos (s.rRead p r) < 2 ^ 63))

/-- The oldest entry of slot `sl` that the region presents (R217). -/
def State.present (s : State) (p r sl : Nat) : Option Ent :=
  (s.rEnts p r).find? (fun e => s.waitsPop p r e && e.hdr.slot == sl)

/-- The data region of the entries of a region (R125): a QUEUE names it; a RECEIVE region is its own. -/
def State.dataRegion (s : State) (p r : Nat) : Nat :=
  if s.rMode p r = mQueue then s.fld (RGN_CFG p r) RGN_CFG.data_region else r

/-- Whether some receiving or combining endpoint feeds region `r`: directly, or through a queue whose data region it
is (R164, R180). -/
def State.fedByChannel (s : State) (p r : Nat) : Bool :=
  (List.range 64).any (fun e =>
    let c := CH_EP_CFG p e
    (s.fld c CH_EP_CFG.role = 2 || s.fld c CH_EP_CFG.role = 3) &&
      (s.fld c CH_EP_CFG.queue = r || s.dataRegion p (s.fld c CH_EP_CFG.queue) = r))

/-- head passes the released run at its position (R124). -/
def State.sweepHead (s : State) (p r : Nat) (fuel : Nat) : State :=
  match fuel with
  | 0 => s
  | n + 1 =>
    if s.rHead p r = s.rTail p r then s
    else
      let e := s.entAt p r (s.rHead p r) (s.rHeadOff p r)
      if (e.kind = 3 || e.released) && e.len ≠ 0 && decide (ahead e.pos (s.rRead p r) ≥ 2 ^ 63)
      then (s.advHead p r e.len).sweepHead p r n
      else s

/-- read passes popped records and skips at its position (R124). -/
def State.sweepRead (s : State) (p r : Nat) (fuel : Nat) : State :=
  match fuel with
  | 0 => s
  | n + 1 =>
    if s.rRead p r = s.rTail p r then s
    else
      let e := s.entAt p r (s.rRead p r) (s.rReadOff p r)
      if e.len = 0 then s
      else if e.kind = 3 then (s.advRead p r e.len).sweepRead p r n
      else if (s.poppedOf p r).contains e.pos then
        ((s.setPopped p r ((s.poppedOf p r).filter (fun x => x != e.pos))).advRead p r e.len).sweepRead p r n
      else s

/-- head of a QUEUE passes the popped run at its position (R217). -/
def State.sweepQueue (s : State) (p r : Nat) (fuel : Nat) : State :=
  match fuel with
  | 0 => s
  | n + 1 =>
    if s.rHead p r = s.rTail p r then s
    else if (s.poppedOf p r).contains (s.rHead p r) then
      ((s.setPopped p r ((s.poppedOf p r).filter (fun x => x != s.rHead p r))).advHead p r 16).sweepQueue p r n
    else s

/-- Records between head and read that are not released (RGN_STATUS). -/
def State.countUnreleased (s : State) (p r : Nat) : State :=
  let n := (s.rEnts p r).countP (fun e => e.kind != 3 && !e.released && decide (ahead e.pos (s.rRead p r) ≥ 2 ^ 63))
  s.setFld (RGN_STATUS p r) RGN_STATUS.unreleased n

/-- Releases the record at offset `off` of a RECEIVE region: its released bit is set and head passes what it can; a
record beyond the 64 that follow head stalls its releaser, which is counted (R124). A release in a region that a
channel feeds is a consumption (R180). -/
def State.release (s : State) (p r off : Nat) : State :=
  match (s.rEnts p r).find? (fun e => e.off == off && e.kind != 3) with
  | none => s.addSat (RGN_COUNTS p r) RGN_COUNTS.release_stalls 1
  | some e =>
    if e.released then s else
      let a := tsBase p + s.rBase p r + off + 17
      let s := s.setBytes a [BitVec.ofNat 8 (s.num a 1 ||| 1)]
      let s := if s.fedByChannel p r then s.addMod (CH_PROGRESS p) CH_PROGRESS.consumed 1 else s
      (s.sweepHead p r 64).countUnreleased p r

/-- Pops an entry that a region presents: a QUEUE's head, or a RECEIVE region's read, passes what it can; a record of
a typed or CONTROL token is released by its pop (R120, R124). -/
def State.pop (s : State) (p r : Nat) (e : Ent) : State :=
  let s := s.setPopped p r (s.poppedOf p r ++ [e.pos])
  if s.rMode p r = mQueue then s.sweepQueue p r 64
  else
    let s := s.sweepRead p r 64
    if e.hdr.typ = tData then (s.sweepHead p r 64).countUnreleased p r else s.release p r e.off

/-- The record that a DATA header names is released by its consumer (R124). -/
def State.releaseItem (s : State) (p r : Nat) (h : Hdr) : State :=
  if h.typ = tData then s.release p (s.dataRegion p r) (h.offVal - 64) else s

/-! ## Stale tokens (R217, R218) -/

/-- A token of the wrong epoch, or of a disabled slot, is counted and logged and signalled; `place` is the endpoint or
region, `atRegion` says which. -/
def State.staleNote (s : State) (p : Nat) (h : Hdr) (place : Nat) (atRegion : Bool) : State :=
  let te := s.fld (TILE_EPOCH p) TILE_EPOCH.epoch
  let s := s.addSat (TILE_STALE_TOKEN_COUNT p) TILE_STALE_TOKEN_COUNT.count 1
  let s := if h.epoch = te then s.setBit (TILE_FAULT p) TILE_FAULT.slot_disabled true
    else s.setBit (TILE_FAULT p) TILE_FAULT.stale_token true
  let s := s.logOnce (TILE_STALE_LOG p) (TILE_STALE_TIME p) TILE_STALE_LOG.held
    (h.epoch + te * 2 ^ 4 + h.slot * 2 ^ 8 + place * 2 ^ 11 + b2n atRegion * 2 ^ 17)
  s.ctxNote p 0x47

/-- Whether a token is stale at tile `p` (R217, R218). -/
def State.stale (s : State) (p : Nat) (h : Hdr) : Bool :=
  h.epoch != s.fld (TILE_EPOCH p) TILE_EPOCH.epoch ||
    !bitOf (s.fld (TILE_FOLD_CTRL p) TILE_FOLD_CTRL.slot_enable) h.slot

/-- Discards every stale entry that a region would present (R218). -/
def State.purge (s : State) (p r : Nat) : State :=
  ((s.rEnts p r).filter (fun e => s.waitsPop p r e && s.stale p e.hdr)).foldl
    (fun s e => ((s.pop p r e).releaseItem p r e.hdr).staleNote p e.hdr r true) s

/-! ## Pushing and placing -/

/-- Pushes a header into a QUEUE region; none where it has no room (R120). -/
def State.pushQ (s : State) (p r : Nat) (h : Hdr) : Option State :=
  if s.rMode p r = mQueue ∧ s.rSound p r ∧ 16 ≤ s.rFree p r then
    let s := s.setBytes (tsBase p + s.rBase p r + s.rTailOff p r) (leBytes 16 (encodeHdr h))
    some ((s.advTail p r 16).setBit (RGN_STATUS p r) RGN_STATUS.full false)
  else none

/-- The 64-byte record header (R121). -/
def recordHeader (h : Hdr) (kind srcVtile len : Nat) : List Byte :=
  leBytes 16 (encodeHdr h) ++ leBytes 1 kind ++ [0] ++ leBytes 2 srcVtile ++ leBytes 4 len ++ List.replicate 40 0

/-- What R122 answers. -/
inductive Placed where
  | ok (s : State) (off : Nat)
  | noRoom (s : State)
  | oversize (s : State)

/-- Writes one record at tail: its header, its payload and zeros up to its length. A DATA header with a payload
takes the region offset of that payload (R121). -/
def State.writeRecord (s : State) (p r kind srcVtile : Nat) (h : Hdr) (payload : List Byte) (need : Nat) : State :=
  let off := s.rTailOff p r
  let h := if h.typ = tData ∧ payload ≠ [] then { h with offVal := off + 64, length := payload.length } else h
  let a := tsBase p + s.rBase p r + off
  let pad := List.replicate (need - 64 - payload.length) (0 : Byte)
  (s.setBytes a (recordHeader h kind srcVtile need ++ payload ++ pad)).advTail p r need

/-- The largest payload a RECEIVE region takes. -/
def State.maxMsg (s : State) (p r : Nat) : Nat := s.fld (RGN_CFG p r) RGN_CFG.max_msg_64 * 64

/-- Places a message or a local item in a RECEIVE region (R122). -/
def State.place (s : State) (p r kind srcVtile : Nat) (h : Hdr) (payload : List Byte) : Placed :=
  let need := 64 + roundUp payload.length 64
  let toEnd := s.rSize p r - s.rTailOff p r
  if s.rMode p r ≠ mReceive ∨ !s.rSound p r then
    .noRoom (if s.rSound p r then s else s.setBit (RGN_STATUS p r) RGN_STATUS.pointer_fault true)
  else if payload.length > s.maxMsg p r then
    .oversize ((s.setBit (RGN_STATUS p r) RGN_STATUS.oversize true).setBit (RGN_STATUS p r) RGN_STATUS.full true)
  else if need ≤ toEnd ∧ need ≤ s.rFree p r then
    let off := s.rTailOff p r
    .ok ((s.writeRecord p r kind srcVtile h payload need).setBit (RGN_STATUS p r) RGN_STATUS.full false) off
  else if need > toEnd ∧ toEnd + need ≤ s.rFree p r then
    let a := tsBase p + s.rBase p r + s.rTailOff p r
    let s := s.setBytes a (recordHeader {} 3 0 toEnd)
    let s := (s.advTail p r toEnd).addSat (RGN_COUNTS p r) RGN_COUNTS.skips 1
    .ok ((s.writeRecord p r kind srcVtile h payload need).setBit (RGN_STATUS p r) RGN_STATUS.full false) 0
  else .noRoom (s.setBit (RGN_STATUS p r) RGN_STATUS.full true)

/-- Pushes an item into a region that serves as a queue: a header into a QUEUE region, a token's record into a RECEIVE
region; none where it has no room. -/
def State.pushItem (s : State) (p r : Nat) (h : Hdr) : Option State :=
  if s.rMode p r = mQueue then s.pushQ p r h
  else match s.place p r 2 0 h [] with
    | .ok s _ => some s
    | _ => none

/-- Whether a queue has room for one header (R100). -/
def State.hasRoom (s : State) (p r : Nat) : Bool := (s.pushItem p r {}).isSome

/-- The payload bytes of a DATA header of a queue. -/
def State.payloadOf (s : State) (p r : Nat) (h : Hdr) : List Byte :=
  s.bytes (tsBase p + s.rBase p (s.dataRegion p r) + h.offVal) h.length

/-- Whether any word of `n` bytes at `a` is uncorrectable (R131). -/
def State.ueIn (s : State) (a n : Nat) : Bool :=
  s.ue.any (fun e => decide (e.2 ≠ 0) && decide (e.1 < a + n) && decide (a < e.1 + eccWord e.1))

end Sys2Proof.Machine
end

