-- ==== Sys2Proof/Machine/Units.lean ====
section
/-! DEFINITION. Machine/Units.lean: what the units of a tile share: reads of the SRAMs with their error log (R107,
R108, R131), waits on counters (R187 to R193), fold triggers (R219), local items (R74, R125) and halts (R66, R95,
R103, R115). -/
namespace Sys2Proof.Machine

/-! ## Banks (R107, R108) -/

/-- Whether a number has an odd count of ones among its low `n` bits. -/
def oddOnes (n v : Nat) : Bool :=
  match n with
  | 0 => false
  | k + 1 => xor (v % 2 = 1) (oddOnes k (v / 2))

/-- Row `j` of hash `sel` on tile `p` (R107). -/
def State.hashRow (s : State) (p sel j : Nat) : Nat :=
  match sel with
  | 0 => 2 ^ (6 + j)
  | 1 => preset1Row j
  | 2 => 2 ^ (6 + j) + 2 ^ (12 + j)
  | 3 => 2 ^ (6 + j) + 2 ^ (20 + j)
  | _ =>
    let a := if j / 2 = 0 then AG_HASH_M0 p (sel - 4) else if j / 2 = 1 then AG_HASH_M1 p (sel - 4)
      else AG_HASH_M2 p (sel - 4)
    s.fld a (if j % 2 = 0 then ⟨0, 26⟩ else ⟨32, 26⟩)

/-- The bank of a tile-store offset under hash `sel`. -/
def State.bankUnder (s : State) (p sel off : Nat) : Nat :=
  (List.range 6).foldl (fun b j => b + b2n (oddOnes 26 (Nat.land (s.hashRow p sel j) off)) * 2 ^ j) 0

/-- The region that holds a tile-store offset. -/
def State.regionAt (s : State) (p off : Nat) : Option Nat :=
  (List.range 64).find? (fun r =>
    s.rMode p r != mOff && decide (s.rBase p r ≤ off) && decide (off < s.rBase p r + s.rSize p r))

/-- The hash of a tile-store offset: its region's, or preset 0 (R108). -/
def State.hashAt (s : State) (p off : Nat) : Nat :=
  match s.regionAt p off with
  | some r => s.fld (RGN_CFG p r) RGN_CFG.hash_sel
  | none => 0

/-! ## Uncorrectable errors (R131) -/

/-- An uncorrectable word at scratch or tile-store address `w` is met by `source` (0 foreground, 1 scrub, 2 remap
copy, 3 other; 4 is a weight block load, logged as foreground): counted, logged once and signalled. -/
def State.ueMet (s : State) (p w mask source : Nat) : State :=
  let sc := decide (osBase p ≤ w)
  let off := if sc then w - osBase p else w - tsBase p
  let bank := if sc then bits off 5 5 else s.bankUnder p (s.hashAt p off) off
  let row := if sc then bits off 14 5 else bits off 16 10
  let word := if sc then bits off 10 4 else bits off 12 4
  let s := s.addSat (MU_ECC_UE p) (if sc then MU_ECC_UE.scratch else MU_ECC_UE.tile_store) 1
  let s :=
    if s.bit (MU_FAULT p) MU_FAULT.ue_logged then s
    else
      let s := s.setReg (MU_ECC_LOG p) (BitVec.ofNat 64 (b2n sc + (source % 4) * 2 ^ 1 + bank * 2 ^ 3 + row * 2 ^ 9 +
        word * 2 ^ 19 + (mask % 256) * 2 ^ 23))
      (s.setReg (MU_ECC_TIME p) (BitVec.ofNat 64 s.tb)).setBit (MU_FAULT p) MU_FAULT.ue_logged true
  s.signal { kind := if source = 4 then .weightUe else .ue, tile := p, arg := w, log := mask, time := s.tb }

/-- A read of `n` bytes at `a` of tile `p` by `source`: each uncorrectable word is reported; whether there was one. -/
def State.readUe (s : State) (p a n source : Nat) : Bool × State :=
  let l := s.ue.filter (fun e => decide (e.2 ≠ 0) && decide (e.1 < a + n) && decide (a < e.1 + eccWord e.1))
  (!l.isEmpty, l.foldl (fun s e => s.ueMet p e.1 e.2 source) s)

/-- A correctable error in a row: counted (R131) and entered in the row table; at row_ce_threshold the row's repair is
requested and signalled, or waits while an earlier request is held (R133). -/
def State.rowCe (s : State) (p : Nat) (sc : Bool) (bank row : Nat) : State :=
  let s := s.addSat (MU_ECC_CE p) (if sc then MU_ECC_CE.scratch else MU_ECC_CE.tile_store) 1
  let u := s.muW p
  let same := fun (x : RowCount) => x.osram == sc && x.bank == bank && x.row == row
  let rows : List RowCount :=
    match u.rows.find? same with
    | some _ => u.rows.map (fun x => if same x then { x with count := x.count + 1 } else x)
    | none =>
      let l := if u.rows.length < 64 then u.rows
        else
          let least := (u.rows.map (fun (x : RowCount) => x.count)).foldl min (2 ^ 32)
          match u.rows.findIdx? (fun (x : RowCount) => x.count == least) with
          | some i => u.rows.eraseIdx i
          | none => u.rows
      l ++ [{ osram := sc, bank := bank, row := row, count := 1 }]
  let th := max 1 (s.fld (MU_SCRUB_CFG p) MU_SCRUB_CFG.row_ce_threshold)
  match rows.find? (fun x => same x && decide (x.count ≥ th)) with
  | none => s.setMu p { u with rows := rows }
  | some x =>
    if s.bit (MU_ROWCE_REQ p) MU_ROWCE_REQ.valid then
      s.setMu p { u with rows := rows.map (fun y => if same y then { y with waiting := true } else y) }
    else
      let s := s.setMu p { u with rows := rows.map (fun y => if same y then { y with count := 0 } else y) }
      let s := s.setReg (MU_ROWCE_REQ p) (BitVec.ofNat 64 (1 + b2n sc * 2 + bank * 2 ^ 2 + row * 2 ^ 8 +
        (x.count % 16) * 2 ^ 18))
      s.signal { kind := .rowRepair, tile := p, arg := b2n sc + bank * 2 + row * 128, time := s.tb }

/-- Bank and row of a word of a tile's SRAMs, by its device address: in scratch, bank, row. -/
def State.bankRow (s : State) (p w : Nat) : Bool × Nat × Nat :=
  if osBase p ≤ w then (true, bits (w - osBase p) 5 5, bits (w - osBase p) 14 5)
  else
    let off := w - tsBase p
    (false, s.bankUnder p (s.hashAt p off) off, bits off 16 10)

/-- A read of the word at device address `a` meets `ecc`: a correctable error is counted; a word with an uncorrectable
one is so until it is written in full (R131, R133). -/
def State.eccAt (s : State) (p a : Nat) (ecc : EccEvent) : State :=
  let w := a - a % eccWord a
  match ecc with
  | .none => s
  | .ce =>
    let row := s.bankRow p w
    s.rowCe p row.1 row.2.1 row.2.2
  | .ue m => if m = 0 then s else { s with ue := tset 0 s.ue w m.toNat }

/-! ## Waits (R191) -/

/-- Units of a tile in the numbering of SYNC_WAIT_CFG. -/
def uMe : Nat := 0
def uVsp : Nat := 1
def uSu : Nat := 2
def uAg (n : Nat) : Nat := 3 + n
def uEp : Nat := 7

/-- Whether counter `n` has reached `tgt`. -/
def State.reached (s : State) (p n tgt : Nat) : Bool :=
  decide (ahead (s.fld (SYNC_CNT p n) SYNC_CNT.value) tgt < 2 ^ 63)

/-- Whether the wait of unit `u` of slot `sl` is met. -/
def State.waitMet (s : State) (p sl u : Nat) : Bool :=
  s.reached p (s.fld (SYNC_WAIT_CFG p sl u) SYNC_WAIT_CFG.counter) (s.fld (SYNC_WAIT_TGT p sl u) SYNC_WAIT_TGT.target)

/-- The target grows by the step: the wait has been met. -/
def State.waitDone (s : State) (p sl u : Nat) : State :=
  s.addMod (SYNC_WAIT_TGT p sl u) SYNC_WAIT_TGT.target (s.fld (SYNC_WAIT_CFG p sl u) SYNC_WAIT_CFG.step)

/-- Sets or clears bit `u` of the waiting mask. -/
def State.setWaiting (s : State) (p u : Nat) (b : Bool) : State :=
  s.setFld (SYNC_STATUS p) ⟨SYNC_STATUS.waiting.lo + u, 1⟩ (b2n b)

/-- A batch of the active slot starts for unit `u`. -/
def State.batchStart (s : State) (p u : Nat) : State :=
  let sl := s.slot p
  if s.bit (SYNC_WAIT_CFG p sl u) SYNC_WAIT_CFG.enable then
    if s.waitMet p sl u then s.waitDone p sl u else s.setWaiting p u true
  else s

/-! ## Fold triggers (R219) -/

/-- How many slots are enabled. -/
def State.enabledSlots (s : State) (p : Nat) : Nat :=
  (List.range 8).countP (fun k => bitOf (s.fld (TILE_FOLD_CTRL p) TILE_FOLD_CTRL.slot_enable) k)

/-- The next enabled slot above the active one, wrapping past 7. -/
def State.nextSlot (s : State) (p : Nat) : Nat :=
  let a := s.slot p
  match ((List.range 7).map (fun i => (a + i + 1) % 8)).find?
      (fun k => bitOf (s.fld (TILE_FOLD_CTRL p) TILE_FOLD_CTRL.slot_enable) k) with
  | some k => k
  | none => a

/-- A switch is requested, unless one slot alone is enabled or hold is set. -/
def State.requestSwitch (s : State) (p : Nat) : State :=
  if s.enabledSlots p ≤ 1 ∨ s.bit (TILE_FOLD_CTRL p) TILE_FOLD_CTRL.hold then s
  else (s.setBit (TILE_FOLD_STATUS p) TILE_FOLD_STATUS.switch_pending true).setFld (TILE_FOLD_STATUS p)
    TILE_FOLD_STATUS.next_slot (s.nextSlot p)

/-- Unit `u` (1 to 7) has passed an END_OF_BATCH token of the active slot: the eob_switch trigger, whose mask counts
units from the vector stage pipeline up, and its next batch starts. -/
def State.eobPassed (s : State) (p u : Nat) : State :=
  let seen := Nat.lor (tget 0 s.foldEob p) (2 ^ (u - 1))
  let s := { s with foldEob := tset 0 s.foldEob p seen }
  let r := TILE_FOLD_SLOT p (s.slot p)
  let mask := s.fld r TILE_FOLD_SLOT.eob_units
  let s := if s.bit r TILE_FOLD_SLOT.eob_switch && decide (Nat.land mask seen = mask) then s.requestSwitch p else s
  s.batchStart p u

/-! ## Whether a unit takes work -/

/-- Whether tile `p` is protected: leased to a context that holds an admitted stream (R440). -/
def State.protected_ (s : State) (p : Nat) : Bool :=
  match s.lease p with
  | some c => s.bit (PWR_CTX c) PWR_CTX.protected
  | none => false

/-- Whether a hardware trip or an emergency stop holds every gate at 0 (R444, R482). -/
def State.gatesShut (s : State) : Bool := s.bit PWR_STATUS PWR_STATUS.trip || s.sb.estop

/-- The gate of tile `p` (R441, R442, R445). -/
def State.tileGate (s : State) (p : Nat) : Nat :=
  if s.gatesShut then 0
  else if s.protected_ p then 64 - tget 0 s.power.lowGates p
  else s.fld PWR_GATE PWR_GATE.unprot_gate

/-- The gate of the host transfer engines (R441). -/
def State.hostGate (s : State) : Nat := if s.gatesShut then 0 else s.fld PWR_GATE PWR_GATE.host_gate

/-- Whether unit `u` may start: the tile not fenced, no wait unmet, and the gate of a matrix engine or vector stage pipeline
not at 0. -/
def State.mayStart (s : State) (p u : Nat) : Bool :=
  !s.fenced p && !s.unitWaiting p u && (decide (u > 1) || decide (s.tileGate p > 0))

/-- A slot that cannot start: the config fault of its unit, which is a fault of its context when it appears (R223). -/
def State.unitConfig (s : State) (p fault : Nat) (f : Field) : State :=
  if s.bit fault f then s else (s.setBit fault f true).ctxNote p 0x45

/-! ## Local items -/

/-- A header of the active slot and epoch of tile `p`. -/
def State.localHdr (s : State) (p typ tag : Nat) (mark : Bool) : Hdr :=
  { typ := typ, slot := s.slot p, epoch := s.fld (TILE_EPOCH p) TILE_EPOCH.epoch, mark := mark, itemTag := tag }

/-- A DATA item with its payload enters region `r` as a local record; for a QUEUE region the record goes to its data
region and its header to the queue (R74, R125). None while there is no room. -/
def State.emitItem (s : State) (p r : Nat) (h : Hdr) (payload : List Byte) : Option State :=
  if s.rMode p r = mQueue then
    if 16 ≤ s.rFree p r then
      match s.place p (s.dataRegion p r) 2 0 h payload with
      | .ok t off => t.pushQ p r { h with offVal := off + 64, length := payload.length }
      | _ => none
    else none
  else if s.rMode p r = mReceive then
    match s.place p r 2 0 h payload with
    | .ok t _ => some t
    | _ => none
  else none

/-- Whether a header of type `typ` can be pushed to every region of a list. -/
def State.roomAll (s : State) (p : Nat) (l : List Nat) : Bool := l.all (fun r => s.hasRoom p r)

/-- Pushes a header that is known to have room. -/
def State.pushIn (s : State) (p r : Nat) (h : Hdr) : State :=
  match s.pushItem p r h with
  | some t => t
  | none => s

/-- The active slot's program of generator `n` restarts at iteration 0 (R114). -/
def State.agRestart (s : State) (p n : Nat) : State :=
  let sl := s.slot p
  let s := s.setAg p n sl { s.agP p n sl with pos := [0, 0, 0, 0, 0, 0], started := false, ended := false, index := none }
  (s.setBit (AG_STATUS p n) AG_STATUS.done false).setBit (AG_STATUS p n) AG_STATUS.stopped false

/-! ## Halts (R66, R95, R103, R115) -/

/-- What the halt of one unit touches: its status register with the fields halted and halting, and its fault register
with drain_fallback. -/
structure HaltRegs where
  status : Nat
  halted : Field
  halting : Field
  fault : Nat
  fallback : Field

def haltMe (p : Nat) : HaltRegs := ⟨ME_STATUS p, ME_STATUS.halted, ME_STATUS.halting, ME_FAULT p, ME_FAULT.drain_fallback⟩
def haltVsp (p : Nat) : HaltRegs :=
  ⟨VSP_STATUS p, VSP_STATUS.halted, VSP_STATUS.halting, VSP_FAULT p, VSP_FAULT.drain_fallback⟩
def haltSu (p : Nat) : HaltRegs := ⟨SU_STATUS p, SU_STATUS.halted, SU_STATUS.halting, SU_FAULT p, SU_FAULT.drain_fallback⟩
def haltAg (p n : Nat) : HaltRegs :=
  ⟨AG_STATUS p n, AG_STATUS.halted, AG_STATUS.halting, AG_FAULT p n, AG_FAULT.drain_fallback⟩

def State.isHalted (s : State) (h : HaltRegs) : Bool := s.bit h.status h.halted
def State.isHalting (s : State) (h : HaltRegs) : Bool := s.bit h.status h.halting

/-- Whether a unit takes new work: neither halted nor halting. -/
def State.running (s : State) (h : HaltRegs) : Bool := !s.isHalted h && !s.isHalting h

/-- The unit is halted. -/
def State.halt (s : State) (h : HaltRegs) : State := (s.setBit h.status h.halting false).setBit h.status h.halted true

/-- The unit is halting by DRAIN. -/
def State.startDrain (s : State) (h : HaltRegs) : State := s.setBit h.status h.halting true

/-- resume clears halted. -/
def State.resume (s : State) (h : HaltRegs) : State := s.setBit h.status h.halted false

/-- The matrix engine discards its passes and accumulator entries at once. -/
def State.abortMe (s : State) (p : Nat) : State :=
  let s := s.setMe p { s.meU p with run := 0, pass := 0, skips := 0, nextSkips := 0, acc := [] }
  ((s.setFld (ME_STATUS p) ME_STATUS.acc_entries_in_use 0).setBit (ME_STATUS p) ME_STATUS.busy false).halt (haltMe p)

/-- The vector stage pipeline discards every vector in flight; carries and generators are kept. -/
def State.abortVsp (s : State) (p : Nat) : State :=
  let s := s.setVsp p { s.vspU p with group := none, groupCount := 0, groupMark := false, pair := none }
  (s.setBit (VSP_STATUS p) VSP_STATUS.busy false).halt (haltVsp p)

/-- The steering unit stops; queue contents stay. -/
def State.abortSu (s : State) (p : Nat) : State := s.halt (haltSu p)

/-- An address generator discards what is not yet granted; loop positions are kept. -/
def State.abortAg (s : State) (p n : Nat) : State :=
  (s.setBit (AG_STATUS p n) AG_STATUS.busy false).halt (haltAg p n)

/-- ABORT of every unit of a tile but its endpoints. -/
def State.abortUnits (s : State) (p : Nat) : State :=
  (List.range 4).foldl (fun s n => s.abortAg p n) (((s.abortMe p).abortVsp p).abortSu p)

end Sys2Proof.Machine
end

