-- ==== Sys2Proof/Machine/AddressGen.lean ====
section
/-! DEFINITION. Machine/AddressGen.lean: the address generators (R107 to R116, R28). -/
namespace Sys2Proof.Machine

/-! ## Descriptors -/

def State.agCfg (s : State) (p n : Nat) (f : Field) : Nat := s.fld (AG_S_CFG p n (s.slot p)) f

/-- Bytes of one access. -/
def State.agElem (s : State) (p n : Nat) : Nat := 4 * 2 ^ s.agCfg p n AG_S_CFG.elem

/-- The count of loop `j`: 1 above the loops in use (R110). -/
def State.agCount (s : State) (p n j : Nat) : Nat :=
  if j > s.agCfg p n AG_S_CFG.loops then 1
  else
    let sl := s.slot p
    1 + (if j < 4 then bits (s.reg (AG_S_COUNT_LO p n sl)).toNat (16 * j) 16
      else bits (s.reg (AG_S_COUNT_HI p n sl)).toNat (16 * (j - 4)) 16)

/-- The signed stride of loop `j`. -/
def State.agStride (s : State) (p n j : Nat) : Int := signed 49 (s.reg (AG_S_STRIDE p n (s.slot p) j)).toNat

/-- Bits of a target's addresses. -/
def targetBits (t : Nat) : Nat := if t = 0 then 26 else if t = 1 then 19 else 48

/-- Whether the active slot's descriptor is valid (R116 and the field tables). -/
def State.agValid (s : State) (p n : Nat) : Bool :=
  let g := fun f => s.agCfg p n f
  decide (g AG_S_CFG.target ≤ 2) && decide (g AG_S_CFG.port ≤ 4) && decide (g AG_S_CFG.loops ≤ 5) &&
    decide (g AG_S_CFG.idx_shift ≤ 25) && !(g AG_S_CFG.mode == 2 && g AG_S_CFG.dir == 1) &&
    !(g AG_S_CFG.mode == 3 && g AG_S_CFG.dir == 0) &&
    decide (s.fld (AG_S_BASE p n (s.slot p)) AG_S_BASE.base < 2 ^ targetBits (g AG_S_CFG.target))

/-! ## Faults -/

/-- An access is not made: its fault, its address, the program stopped and the context's fault signalled (R111). -/
def State.agFault (s : State) (p n : Nat) (f : Field) (addr : Int) : State :=
  let first := !(s.bit (AG_FAULT p n) AG_FAULT.align_fault || s.bit (AG_FAULT p n) AG_FAULT.range_fault ||
    s.bit (AG_FAULT p n) AG_FAULT.remote_fault)
  let s := s.setBit (AG_FAULT p n) f true
  let s := if first then s.setReg (AG_FAULT_ADDR p n) (BitVec.ofNat 64 (toTwos 52 addr + s.slot p * 2 ^ 52 +
      s.agCfg p n AG_S_CFG.target * 2 ^ 55)) else s
  let s := (s.setBit (AG_STATUS p n) AG_STATUS.stopped true).setBit (AG_STATUS p n) AG_STATUS.busy false
  s.ctxNote p 0x40

/-- A count of the generator grows by free cycles, unless frozen. -/
def State.agStall (s : State) (p n a : Nat) : State :=
  if s.bit (AG_CTRL p n) AG_CTRL.perf_freeze then s else s.cycles a

/-! ## The loop nest (R110) -/

/-- The next position after `pos`; none after the last. -/
def nextPos (counts pos : List Nat) : Option (List Nat) :=
  match counts, pos with
  | c :: cs, i :: is =>
    if i + 1 < c then some ((i + 1) :: is)
    else (nextPos cs is).map (fun l => 0 :: l)
  | _, _ => none

/-- The counts of the six loops. -/
def State.agCounts (s : State) (p n : Nat) : List Nat := (List.range 6).map (fun j => s.agCount p n j)

/-- Whether the program uses an index stream. -/
def State.agIndexed (s : State) (p n : Nat) : Bool := decide (s.agCfg p n AG_S_CFG.mode ≥ 2)

/-- The sum of the loops' contributions. -/
def State.agOff (s : State) (p n : Nat) (pos : List Nat) : Int :=
  (List.range (if s.agIndexed p n then 5 else 6)).foldl
    (fun a j => a + (pos.getD j 0 : Int) * s.agStride p n j) 0

/-- The address of the access at `pos` (R110). -/
def State.agAddr (s : State) (p n : Nat) (pos : List Nat) (index : Nat) : Int :=
  let base : Int := (s.fld (AG_S_BASE p n (s.slot p)) AG_S_BASE.base : Nat)
  let off := s.agOff p n pos
  match s.agCfg p n AG_S_CFG.mode with
  | 0 => base + off
  | 1 =>
    let r := s.agCfg p n AG_S_CFG.region
    (s.rBase p r : Int) + (base + off) % (s.rSize p r : Int)
  | _ => base + ((index * 2 ^ s.agCfg p n AG_S_CFG.idx_shift : Nat) : Int) + off

/-- Whether an address generator reaches `n` bytes at remote address `a` (R28). -/
def remoteReach (a n : Nat) : Bool :=
  decide (a + n ≤ 0x00A000000000) || (decide (0x010000000000 ≤ a) && decide (a + n ≤ 0x020400000000)) ||
    (decide (hostFirst ≤ a) && decide (a + n ≤ hostFirst + 0xFD0000000000))

/-- The fault of an access, if it has one (R111, R28). -/
def State.agCheck (s : State) (p n : Nat) (addr : Int) : Option Field :=
  let e := s.agElem p n
  let r := s.agCfg p n AG_S_CFG.region
  if addr % (e : Int) ≠ 0 then some AG_FAULT.align_fault
  else if addr < 0 then some AG_FAULT.range_fault
  else
    let a := addr.toNat
    let inside :=
      match s.agCfg p n AG_S_CFG.target with
      | 0 => decide (a + e ≤ tsBytes)
      | 1 => decide (a + e ≤ osBytes)
      | _ => remoteReach a e
    let inRegion := s.agCfg p n AG_S_CFG.mode != 1 ||
      (s.rSize p r != 0 && decide (s.rBase p r ≤ a) && decide (a + e ≤ s.rBase p r + s.rSize p r))
    if inside && inRegion then none else some AG_FAULT.range_fault

/-- The device address of a local access. -/
def State.agDevice (s : State) (p n a : Nat) : Nat :=
  match s.agCfg p n AG_S_CFG.target with
  | 0 => tsBase p + a
  | 1 => osBase p + a
  | _ => a

/-! ## Progress -/

/-- The program ends: it stays idle until it restarts (R114). -/
def State.agEnd (s : State) (p n : Nat) : State :=
  let sl := s.slot p
  let s := s.setAg p n sl { s.agP p n sl with ended := true, index := none }
  (s.setBit (AG_STATUS p n) AG_STATUS.done true).setBit (AG_STATUS p n) AG_STATUS.busy false

/-- The iteration is done: the position advances, or the program ends. -/
def State.agAdvance (s : State) (p n : Nat) : State :=
  let sl := s.slot p
  let u := s.agP p n sl
  let words := max 1 (s.agElem p n / (if s.agCfg p n AG_S_CFG.target = 1 then 32 else 64))
  let s := if s.bit (AG_CTRL p n) AG_CTRL.perf_freeze then s else s.addWrap (AG_WORDS p n) words
  match nextPos (s.agCounts p n) u.pos with
  | none => s.agEnd p n
  | some q =>
    let same := q.getD 5 0 == u.pos.getD 5 0
    (s.setAg p n sl { u with pos := q, started := true, awaiting := false, index := (if same then u.index else none) }).setBit
      (AG_STATUS p n) AG_STATUS.busy true

/-- What taking the next index answers. -/
inductive IndexRes where
  | none_ (s : State)
  | ended (s : State)
  | ix (i : Nat) (s : State)

/-- The index of the current i5: held, or the next 32-bit value of the index stream (R110). -/
def State.agIndex (s : State) (p n : Nat) : IndexRes :=
  let sl := s.slot p
  let u := s.agP p n sl
  let r := s.agCfg p n AG_S_CFG.index_queue
  match u.index with
  | some i => .ix i s
  | none =>
    let s := s.purge p r
    let item := match u.idxItem with
      | some it => some (it, s)
      | none =>
        match s.present p r sl with
        | some e => if e.hdr.typ = tData then some ((e.hdr, r, 0), s.pop p r e) else none
        | none => none
    match item with
    | some ((h, q, at_), s) =>
      let a := tsBase p + s.rBase p (s.dataRegion p q) + h.offVal + at_
      let i := s.num a 4
      let got := s.readUe p a 4 0
      let s := got.2
      let more := decide (at_ + 8 ≤ h.length)
      let s := s.setAg p n sl { u with index := some i, idxItem := if more then some (h, q, at_ + 4) else none }
      .ix i (if more then s else s.releaseItem p q h)
    | none =>
      match s.present p r sl with
      | some e =>
        let s := s.pop p r e
        if e.hdr.typ = tEob then .ended ((s.agEnd p n).eobPassed p (uAg n)) else .none_ s
      | none => .none_ s

/-- Bytes read go to the port: the vector stage pipeline's stream or the copy partner's port; none while the port has
no room, or is one that takes no data. -/
def State.agDeliver (s : State) (p n : Nat) (l : List PortByte) : Option State :=
  let dst := match s.agCfg p n AG_S_CFG.port with
    | 0 => some n
    | 1 => some n
    | 3 => some (s.agCfg p n AG_S_CFG.peer_ag)
    | _ => none
  match dst with
  | none => none
  | some q =>
    if (s.fifo p q).length + l.length ≤ 1024 then some (s.setFifo p q (s.fifo p q ++ l)) else none

/-- The place that a remote access goes to: a tile, the stack of an HBM address, or the edge die that serves the
address (R17, R22, R25). -/
def State.remotePlace (s : State) (a : Nat) : Nat :=
  if tsBase 0 ≤ a ∧ a < tsBase 256 then (a - tsBase 0) / tsBytes
  else if a < lpFirst then 264 + s.stackOf a
  else if a < 0x018000000000 then 256
  else if a < 0x020000000000 then 257
  else 256

/-- A message of an address generator: its agent number is 64 + n, and it goes by its destination (log 13). -/
def State.agMsg (s : State) (p n kind addr operand : Nat) (payload : List Byte) : State :=
  let m : Msg :=
    { kind := kind, vc := s.agCfg p n AG_S_CFG.remote_vc, ctx := (s.lease p).getD 0,
      destTile := s.remotePlace addr, srcTile := p, srcEp := 64 + n, srcVtile := s.fld (TILE_CTX p) TILE_CTX.vtile,
      addr := addr, operand := operand, payload := payload }
  { s with net := s.net ++ [{ msg := m, loc := p }] }

/-- A read access. -/
def State.agRead (s : State) (p n a : Nat) : State :=
  let e := s.agElem p n
  let sl := s.slot p
  if s.agCfg p n AG_S_CFG.target = 2 then
    if (s.agP p n sl).awaiting then s
    else (s.agMsg p n 0x07 a e []).setAg p n sl { s.agP p n sl with awaiting := true }
  else
    let d := s.agDevice p n a
    let got := s.readUe p d e 0
    let ue := got.1
    let t := got.2
    let t := if ue then t.setBit (AG_FAULT p n) AG_FAULT.ue_read true else t
    match t.agDeliver p n ((s.bytes d e).map (fun b => { b := b, mark := ue })) with
    | some t => t.agAdvance p n
    | none => s.agStall p n (AG_STALL_DEST p n)

/-- A write access, with the bytes its port supplies; an END_OF_BATCH token at the port restarts the program. -/
def State.agWrite (s : State) (p n a : Nat) : State :=
  let e := s.agElem p n
  let f := s.fifo p n
  if s.agCfg p n AG_S_CFG.port ≠ 2 ∧ s.agCfg p n AG_S_CFG.port ≠ 3 then s.agStall p n (AG_STALL_DEST p n)
  else if (f.take e).any (fun b => b.eob) then
    ((s.setFifo p n ((f.dropWhile (fun b => !b.eob)).drop 1)).agRestart p n).eobPassed p (uAg n)
  else if f.length < e then s.agStall p n (AG_STALL_DEST p n)
  else
    let l := (f.take e).map (fun b => b.b)
    let s := s.setFifo p n (f.drop e)
    let s := if s.agCfg p n AG_S_CFG.target = 2 then s.agMsg p n 0x06 a e l
      else s.setBytes (s.agDevice p n a) l
    s.agAdvance p n

/-- One iteration of the active slot's program. -/
def State.agStep (s : State) (p n : Nat) : State :=
  let sl := s.slot p
  let go := fun (s : State) (i : Nat) =>
    let addr := s.agAddr p n (s.agP p n sl).pos i
    match s.agCheck p n addr with
    | some f => s.agFault p n f addr
    | none => if s.agCfg p n AG_S_CFG.dir = 1 then s.agWrite p n addr.toNat else s.agRead p n addr.toNat
  if s.agIndexed p n then
    match s.agIndex p n with
    | .ix i t => go t i
    | .ended t => t
    | .none_ t => t.agStall p n (AG_STALL_DEST p n)
  else go s 0

/-- Whether a write program has ended with an END_OF_BATCH waiting at its port. -/
def State.agEobWaits (s : State) (p n : Nat) : Bool :=
  s.agCfg p n AG_S_CFG.dir = 1 && (s.fifo p n).any (fun b => b.eob)

/-! ## Commands -/

/-- The word that a local read of generator `n` is about to meet takes the error that the command carries. -/
def State.agEcc (s : State) (p n : Nat) (ecc : EccEvent) : State :=
  let addr := s.agAddr p n (s.agP p n (s.slot p)).pos ((s.agP p n (s.slot p)).index.getD 0)
  if s.agCfg p n AG_S_CFG.target = 2 ∨ s.agCfg p n AG_S_CFG.dir = 1 ∨ (s.agCheck p n addr).isSome then s
  else s.eccAt p (s.agDevice p n addr.toNat) ecc

/-- AG_ACCESS: generator `n` issues the next access of the active slot's loop nest; `ecc` is what a local read meets in
its word. -/
def execAgAccess (p : Tile) (n : Fin 4) (ecc : EccEvent) (s : State) : Host.Outcome State Fault Refusal :=
  let sl := s.slot p
  .next (
    if !(s.mayStart p (uAg n) && s.running (haltAg p n)) || s.agCfg p n AG_S_CFG.enable = 0 then s
    else if !s.agValid p n then s.unitConfig p (AG_FAULT p n) AG_FAULT.config_fault
    else if s.bit (AG_STATUS p n) AG_STATUS.stopped then s
    else if (s.agP p n sl).ended then
      if s.agEobWaits p n then
        ((s.setFifo p n (((s.fifo p n).dropWhile (fun b => !b.eob)).drop 1)).agRestart p n).eobPassed p (uAg n)
      else s
    else ((s.agEcc p n ecc).setFld (AG_STATUS p n) AG_STATUS.active_slot sl).agStep p n)

/-- AG_HALT_REQ (R115). -/
def execAgHaltReq (p : Tile) (n : Fin 4) (mode : BitVec 2) (s : State) : Host.Outcome State Fault Refusal :=
  let s := s.setFld (AG_CTRL p n) AG_CTRL.halt_mode mode.toNat
  .next (
    if s.isHalted (haltAg p n) then s
    else if mode = 0 then s.startDrain (haltAg p n)
    else if mode = 1 then s.abortAg p n
    else s)

/-- AG_RESUME (R115). -/
def execAgResume (p : Tile) (n : Fin 4) (s : State) : Host.Outcome State Fault Refusal :=
  .next (if s.fenced p then s else s.resume (haltAg p n))

/-- AG_RESTART: the active slot's program restarts at iteration 0 (R114). -/
def execAgRestart (p : Tile) (n : Fin 4) (s : State) : Host.Outcome State Fault Refusal := .next (s.agRestart p n)

/-! ## The programmable hash (R107, R109) -/

/-- Row `j` of six matrix columns 6 to 11: the row's bits there. -/
def lowSix (row : Nat) : Nat := bits row 6 6

/-- Gaussian elimination over GF(2) of rows of `k` bits: whether they are independent. -/
def independent (k : Nat) (rows : List Nat) : Bool :=
  match k with
  | 0 => rows.isEmpty
  | j + 1 =>
    match rows.find? (fun r => bitOf r j) with
    | none => false
    | some pv =>
      independent j (((rows.erase pv).map (fun r => if bitOf r j then Nat.xor r pv else r)))

/-- Whether a matrix obeys R107: zero columns 0 to 5 and an invertible submatrix on columns 6 to 11. -/
def hashOk (rows : List Nat) : Bool := rows.all (fun r => r % 64 == 0) && independent 6 (rows.map lowSix)

/-- Rows of the programmable matrix of generator `n`. -/
def State.agRows (s : State) (p n : Nat) : List Nat := (List.range 6).map (fun j => s.hashRow p (4 + n) j)

/-- AG_HASH_M: a write of register M`i` of generator `n`, discarded with hash_fault when the matrix would break R107
or a region that is not OFF names it (R109). -/
def execAgHashM (p : Tile) (n : Fin 4) (i : Fin 3) (v : BitVec 64) (s : State) : Host.Outcome State Fault Refusal :=
  let a := if i.val = 0 then AG_HASH_M0 p n else if i.val = 1 then AG_HASH_M1 p n else AG_HASH_M2 p n
  let e := bits v.toNat 0 26
  let o := bits v.toNat 32 26
  let rows := ((s.agRows p n).set (2 * i.val) e).set (2 * i.val + 1) o
  let named := (List.range 64).any (fun r =>
    s.rMode p r != mOff && s.fld (RGN_CFG p r) RGN_CFG.hash_sel == 4 + n.val)
  .next (
    if hashOk rows && !named then s.setReg a (BitVec.ofNat 64 (e + o * 2 ^ 32))
    else s.setBit (AG_FAULT p n) AG_FAULT.hash_fault true)

end Sys2Proof.Machine
end

