-- ==== Sys2Proof/Machine/Float.lean ====
section
/-! DEFINITION. Machine/Float.lean: the element formats of R37, exact values of their codes, rounding to any of
their grids, and IEEE 754 binary32 arithmetic with round to nearest even (R45, R46, R47, R75). -/
namespace Sys2Proof.Machine

/-- What a code stands for. A finite value is (-1)^neg · m · 2^e. -/
inductive FVal where
  | nan
  | inf (neg : Bool)
  | fin (neg : Bool) (m : Nat) (e : Int)
  deriving DecidableEq, Repr

/-- The grid of a format: precision in bits, exponent of its smallest step, and its largest magnitude as
`maxM · 2^maxE`. -/
structure Grid where
  prec : Nat
  qmin : Int
  maxM : Nat
  maxE : Int
  deriving DecidableEq, Repr

/-- The grids of the format codes of R37. -/
def gridOf (code : Nat) : Grid :=
  match code with
  | 0x0 => ⟨2, -1, 6, 0⟩
  | 0x1 => ⟨4, -3, 15, -1⟩
  | 0x2 => ⟨3, -4, 28, 0⟩
  | 0x3 => ⟨4, -9, 448, 0⟩
  | 0x4 => ⟨3, -16, 57344, 0⟩
  | 0x5 => ⟨64, -6, 2, 0⟩
  | 0x6 => ⟨4, -9, 448, 0⟩
  | 0x7 => ⟨3, -16, 57344, 0⟩
  | 0x8 => ⟨64, 0, 127, 0⟩
  | 0x9 => ⟨64, 0, 7, 0⟩
  | 0xA => ⟨8, -133, 255, 120⟩
  | _ => ⟨11, -24, 65504, 0⟩

/-- The grid of FP32. -/
def gridFP32 : Grid := ⟨24, -149, 16777215, 104⟩

/-- Width of an element in bits (R37). -/
def fmtBits (code : Nat) : Nat :=
  match code with
  | 0x0 => 4
  | 0x1 => 6
  | 0x2 => 6
  | 0x9 => 4
  | 0xA => 16
  | 0xB => 16
  | _ => 8

/-- Bytes that `n` elements take: 4-bit elements two to a byte, MXFP6 one to a byte (R39). -/
def fmtBytes (code n : Nat) : Nat :=
  if fmtBits code = 4 then n / 2 else if fmtBits code = 16 then 2 * n else n

/-- Exponent of the LSB of a format (R37). -/
def fmtLsb (code : Nat) : Int := (gridOf code).qmin

/-- Whether a format carries E8M0 scales (R37). -/
def fmtIsMx (code : Nat) : Bool := code ≤ 0x5

/-- A sign, exponent and fraction code with `eb` exponent bits and `mb` fraction bits whose subnormal step is 2^q. -/
def decodeSEM (eb mb : Nat) (q : Int) (v : Nat) : FVal :=
  let neg := bitOf v (eb + mb)
  let ex := bits v mb eb
  let fr := bits v 0 mb
  if ex = 0 then .fin neg fr q else .fin neg (fr + 2 ^ mb) (q + (ex : Int) - 1)

/-- The value of an integer `i` times 2^q. -/
def ofIntVal (i : Int) (q : Int) : FVal := .fin (decide (i < 0)) i.natAbs q

/-- The value of an IEEE code. -/
def decodeIEEE (eb mb : Nat) (q : Int) (v : Nat) : FVal :=
  if bits v mb eb = 2 ^ eb - 1 then
    if bits v 0 mb = 0 then .inf (bitOf v (eb + mb)) else .nan
  else decodeSEM eb mb q v

/-- The value of an element code of format `code` (R37). -/
def decodeElem (code v : Nat) : FVal :=
  match code with
  | 0x0 => decodeSEM 2 1 (-1) (v % 16)
  | 0x1 => decodeSEM 2 3 (-3) (v % 64)
  | 0x2 => decodeSEM 3 2 (-4) (v % 64)
  | 0x3 => if v % 128 = 127 then .nan else decodeSEM 4 3 (-9) v
  | 0x4 => decodeIEEE 5 2 (-16) v
  | 0x5 => ofIntVal (signed 8 v) (-6)
  | 0x6 => if v % 128 = 127 then .nan else decodeSEM 4 3 (-9) v
  | 0x7 => decodeIEEE 5 2 (-16) v
  | 0x8 => ofIntVal (signed 8 v) 0
  | 0x9 => ofIntVal (signed 4 v) 0
  | 0xA => decodeIEEE 8 7 (-133) v
  | _ => decodeIEEE 5 10 (-24) v

/-- The value of an FP32 code. -/
def fp32 (v : Nat) : FVal := decodeIEEE 8 23 (-149) v

/-- The value of an E8M0 scale code (R38). -/
def e8m0 (v : Nat) : FVal := if v % 256 = 255 then .nan else .fin false 1 ((v % 256 : Nat) - 127 : Int)

/-- The canonical quiet NaN (R46, R75). -/
def qnan : Nat := 0x7FC00000

/-- 2^k for a non-negative `k`, 1 otherwise. -/
def pow2 (k : Int) : Nat := 2 ^ k.toNat

/-- floor(log2(n / d · 2^e)) for a positive quotient. -/
def floorLog2 (n d : Nat) (e : Int) : Int :=
  let k : Int := (Nat.log2 n : Int) - (Nat.log2 d : Int)
  if n * pow2 (-k) ≥ d * pow2 k then k + e else k + e - 1

/-- How a value between two grid points is rounded (R78). The stochastic form carries its 32-bit random word. -/
inductive Rnd where
  | rne
  | zero
  | stoch (r : Nat)
  deriving DecidableEq, Repr

/-- Rounds the positive number n / d · 2^e to an integer multiple of 2^u: the multiple. -/
def roundUnit (md : Rnd) (n d : Nat) (e u : Int) : Nat :=
  let nn := n * pow2 (e - u)
  let dd := d * pow2 (u - e)
  let q := nn / dd
  let r := nn % dd
  match md with
  | .rne => if 2 * r > dd ∨ (2 * r = dd ∧ q % 2 = 1) then q + 1 else q
  | .zero => q
  | .stoch w => (nn * 2 ^ 32 + w * dd) / (dd * 2 ^ 32)

/-- The spacing exponent of a grid at the positive number n / d · 2^e. -/
def gridStep (g : Grid) (n d : Nat) (e : Int) : Int :=
  max (floorLog2 n d e - (g.prec : Int) + 1) g.qmin

/-- The grid point of n / d · 2^e, with no bound on its exponent: a multiple and its step. -/
def roundGrid (g : Grid) (md : Rnd) (n d : Nat) (e : Int) : Nat × Int :=
  if n = 0 then (0, g.qmin) else
    let u := gridStep g n d e
    (roundUnit md n d e u, u)

/-- Whether m · 2^e is above the grid's largest magnitude. -/
def overGrid (g : Grid) (m : Nat) (e : Int) : Bool :=
  decide (m * pow2 (e - g.maxE) > g.maxM * pow2 (g.maxE - e))

/-- The code of sign, exponent and fraction of the grid point m · 2^e. -/
def encodeSEM (eb mb : Nat) (q : Int) (neg : Bool) (m : Nat) (e : Int) : Nat :=
  let s := b2n neg * 2 ^ (eb + mb)
  if m = 0 then s else
    let k := floorLog2 m 1 e
    let ex := k - q - (mb : Int) + 1
    if ex ≤ 0 then s + m * pow2 (e - q) / pow2 (q - e)
    else s + ex.toNat * 2 ^ mb + (m * pow2 (e - (k - mb)) / pow2 (k - mb - e) - 2 ^ mb)

/-- The FP32 code of a rounded value; overflow gives an infinity. -/
def packFP32 (md : Rnd) (neg : Bool) (n d : Nat) (e : Int) : Nat :=
  let (m, u) := roundGrid gridFP32 md n d e
  if overGrid gridFP32 m u then b2n neg * 2 ^ 31 + 0x7F800000
  else encodeSEM 8 23 (-149) neg m u

/-- RN(V) as an FP32 code, for V = (-1)^neg · m · 2^e. -/
def rnFP32 (neg : Bool) (m : Nat) (e : Int) : Nat := packFP32 .rne neg m 1 e

/-- The FP32 code of a value, rounded to nearest even. -/
def toFP32 (v : FVal) : Nat :=
  match v with
  | .nan => qnan
  | .inf neg => b2n neg * 2 ^ 31 + 0x7F800000
  | .fin neg m e => rnFP32 neg m e

/-- Exact sum of two finite values. A zero sum of operands of opposite sign is +0. -/
def addFin (n1 : Bool) (m1 : Nat) (e1 : Int) (n2 : Bool) (m2 : Nat) (e2 : Int) : FVal :=
  let e := min e1 e2
  let a : Int := (m1 * pow2 (e1 - e) : Nat)
  let b : Int := (m2 * pow2 (e2 - e) : Nat)
  let t := (if n1 then -a else a) + (if n2 then -b else b)
  if t = 0 then .fin (n1 && n2) 0 e else .fin (decide (t < 0)) t.natAbs e

/-- The exact sum of two values. -/
def addVal (x y : FVal) : FVal :=
  match x, y with
  | .nan, _ => .nan
  | _, .nan => .nan
  | .inf a, .inf b => if a = b then .inf a else .nan
  | .inf a, .fin _ _ _ => .inf a
  | .fin _ _ _, .inf b => .inf b
  | .fin n1 m1 e1, .fin n2 m2 e2 => addFin n1 m1 e1 n2 m2 e2

/-- The exact product of two values. -/
def mulVal (x y : FVal) : FVal :=
  match x, y with
  | .nan, _ => .nan
  | _, .nan => .nan
  | .inf a, .inf b => .inf (xor a b)
  | .inf a, .fin b m _ => if m = 0 then .nan else .inf (xor a b)
  | .fin b m _, .inf a => if m = 0 then .nan else .inf (xor a b)
  | .fin n1 m1 e1, .fin n2 m2 e2 => .fin (xor n1 n2) (m1 * m2) (e1 + e2)

/-- The value with its sign changed. -/
def negVal (x : FVal) : FVal :=
  match x with
  | .nan => .nan
  | .inf a => .inf (!a)
  | .fin a m e => .fin (!a) m e

/-- The magnitude of a value. -/
def absVal (x : FVal) : FVal :=
  match x with
  | .nan => .nan
  | .inf _ => .inf false
  | .fin _ m e => .fin false m e

/-- Whether a value is a NaN. -/
def FVal.isNan (x : FVal) : Bool := match x with | .nan => true | _ => false

/-- Whether a value is finite. -/
def FVal.isFin (x : FVal) : Bool := match x with | .fin _ _ _ => true | _ => false

/-- Whether x < y; false when either is a NaN; -0 and +0 are equal. -/
def ltVal (x y : FVal) : Bool :=
  match x, y with
  | .nan, _ => false
  | _, .nan => false
  | .inf a, .inf b => a && !b
  | .inf a, .fin _ _ _ => a
  | .fin _ _ _, .inf b => !b
  | .fin n1 m1 e1, .fin n2 m2 e2 =>
    let e := min e1 e2
    let a : Int := (m1 * pow2 (e1 - e) : Nat)
    let b : Int := (m2 * pow2 (e2 - e) : Nat)
    decide ((if n1 then -a else a) < (if n2 then -b else b))

/-- Whether x = y in IEEE 754: a NaN equals nothing, -0 equals +0. -/
def eqVal (x y : FVal) : Bool := !x.isNan && !y.isNan && !ltVal x y && !ltVal y x

/-- FP32 addition, round to nearest even (R47). -/
def fpAdd (a b : Nat) : Nat := toFP32 (addVal (fp32 a) (fp32 b))

/-- FP32 multiplication, round to nearest even. -/
def fpMul (a b : Nat) : Nat := toFP32 (mulVal (fp32 a) (fp32 b))

/-- FP32 fused multiply-add, one rounding (R75). -/
def fpFma (a b c : Nat) : Nat := toFP32 (addVal (mulVal (fp32 a) (fp32 b)) (fp32 c))

/-- The FP32 code with its sign changed. -/
def fpNeg (a : Nat) : Nat := if bitOf a 31 then a - 2 ^ 31 else a + 2 ^ 31

/-- The FP32 code without its sign. -/
def fpAbs (a : Nat) : Nat := a % 2 ^ 31

/-- Whether an FP32 code is a NaN. -/
def fpIsNan (a : Nat) : Bool := (fp32 a).isNan

/-- MIN of R75: NaN if either operand is NaN; -0 below +0. -/
def fpMin (a b : Nat) : Nat :=
  if fpIsNan a || fpIsNan b then qnan
  else if eqVal (fp32 a) (fp32 b) then (if bitOf a 31 then a else b)
  else if ltVal (fp32 a) (fp32 b) then a else b

/-- MAX of R75. -/
def fpMax (a b : Nat) : Nat :=
  if fpIsNan a || fpIsNan b then qnan
  else if eqVal (fp32 a) (fp32 b) then (if bitOf a 31 then b else a)
  else if ltVal (fp32 a) (fp32 b) then b else a

/-- RECIP, correctly rounded (R85). -/
def fpRecip (a : Nat) : Nat :=
  match fp32 a with
  | .nan => qnan
  | .inf neg => b2n neg * 2 ^ 31
  | .fin neg m e =>
    if m = 0 then b2n neg * 2 ^ 31 + 0x7F800000 else packFP32 .rne neg 1 m (-e)

/-- BF16 rounding of an FP32 code, to nearest even, given back as an FP32 code (R72). -/
def roundBF16 (a : Nat) : Nat :=
  match fp32 a with
  | .nan => qnan
  | .inf neg => b2n neg * 2 ^ 31 + 0x7F800000
  | .fin neg m e =>
    let (m', u) := roundGrid (gridOf 0xA) .rne m 1 e
    if overGrid (gridOf 0xA) m' u then b2n neg * 2 ^ 31 + 0x7F800000
    else encodeSEM 8 23 (-149) neg m' u

/-- The elements packed in a list of bytes (R39). -/
def elems (code : Nat) (l : List Byte) : List FVal :=
  if fmtBits code = 4 then
    l.flatMap (fun b => [decodeElem code (b.toNat % 16), decodeElem code (b.toNat / 16)])
  else if fmtBits code = 16 then
    (List.range (l.length / 2)).map (fun i => decodeElem code (ofBytes ((l.drop (2 * i)).take 2)))
  else l.map (fun b => decodeElem code b.toNat)

/-- Zero. -/
def fzero : FVal := .fin false 0 0

/-- Whether a value is a zero. -/
def FVal.isZero (v : FVal) : Bool := match v with | .fin _ m _ => m = 0 | _ => false

end Sys2Proof.Machine
end

