-- ==== Sys2Proof/Machine/Home.lean ====
section
/-! DEFINITION. Machine/Home.lean: the coherent home of the Treup link (R333 to R336), what the module sends to the
host with its credits (R330), DRDY_N (R338), event records (R344, R354) and the control lines of chapter 13. -/
namespace Sys2Proof.Machine

/-! ## Opened ranges -/

/-- The opened range `r` (R333): first byte, last byte and the attributes read, write, coherent; none when closed. -/
def State.openRange (s : State) (r : Nat) : Option (Nat × Nat × Bool × Bool × Bool) :=
  let l := TL_OPEN_LIMIT r
  if s.bit l TL_OPEN_LIMIT.valid then
    some (s.fld (TL_OPEN_BASE r) TL_OPEN_BASE.base_4k * 4096, s.fld l TL_OPEN_LIMIT.limit_4k * 4096 + 4095,
      s.bit l TL_OPEN_LIMIT.read, s.bit l TL_OPEN_LIMIT.write, s.bit l TL_OPEN_LIMIT.coherent)
  else none

/-- The opened range that holds all of `n` bytes at `a`. -/
def State.rangeOf (s : State) (a n : Nat) : Option (Nat × Nat × Bool × Bool × Bool) :=
  ((List.range 128).filterMap (fun r => s.openRange r)).find? (fun x => decide (x.1 ≤ a ∧ a + n ≤ x.2.1 + 1))

/-- The lines and the load area of the boot mailbox (R430). -/
def statusLine : Nat := lpFirst + 0x1000
def requestLine : Nat := lpFirst + 0x1040
def loadArea : Nat := lpFirst + 0x1000000
def loadBytes : Nat := 0x4000000

/-- Whether the boot mailbox lets the host read, or write, `n` bytes at `a`; its ranges are finer than TL_OPEN's 4 KiB
(log 31). -/
def State.mailRead (s : State) (a n : Nat) : Bool :=
  decide (s.boot.mailbox ≠ 0) && decide (statusLine ≤ a) && decide (a + n ≤ statusLine + 64)
def State.mailWrite (s : State) (a n : Nat) : Bool :=
  decide (s.boot.mailbox = 1) && ((decide (requestLine ≤ a) && decide (a + n ≤ requestLine + 64)) ||
    (decide (loadArea ≤ a) && decide (a + n ≤ loadArea + loadBytes)))

/-- Whether the line at `a` lies in a coherent range (R333). -/
def State.coherent (s : State) (a : Nat) : Bool :=
  if s.boot.mailbox = 1 ∧ a = requestLine then true else
  match s.rangeOf a 64 with
  | some (_, _, _, _, c) => c
  | none => false

/-- `s` with range `r` open from byte `a` for `n` bytes. -/
def State.openAs (s : State) (r a n : Nat) (rd wr coh : Bool) : State :=
  let s := s.setFld (TL_OPEN_BASE r) TL_OPEN_BASE.base_4k (a / 4096)
  let l := TL_OPEN_LIMIT r
  let s := s.setFld l TL_OPEN_LIMIT.limit_4k ((a + n - 1) / 4096)
  let s := s.setBit l TL_OPEN_LIMIT.read rd
  let s := s.setBit l TL_OPEN_LIMIT.write wr
  let s := s.setBit l TL_OPEN_LIMIT.coherent coh
  s.setBit l TL_OPEN_LIMIT.valid true

/-- `s` with range `r` closed. -/
def State.closeRange (s : State) (r : Nat) : State :=
  (s.setReg (TL_OPEN_BASE r) 0).setReg (TL_OPEN_LIMIT r) 0

/-- The lowest closed range from `lo` up to `hi - 1`. -/
def State.freeRange (s : State) (lo hi : Nat) : Option Nat :=
  (List.range (hi - lo)).map (fun i => lo + i) |>.find? (fun r => !s.bit (TL_OPEN_LIMIT r) TL_OPEN_LIMIT.valid)

/-! ## What the module sends -/

/-- Slots that a transaction takes of its class's credits (R327, R330); 0 for the CPL class. -/
def outSlots (o : TlOut) : Nat × Nat :=
  match o with
  | .cpl _ _ _ _ _ => (0, 0)
  | .error _ _ => (0, 0)
  | .snoop _ _ => (3, 1)
  | .read _ _ _ => (2, 1)
  | .write _ n => (1, 1 + 4 * ((n + 63) / 64))
  | .masked _ _ => (1, 6)

/-- Whether the link takes transactions now: ACTIVE. -/
def State.linkActive (s : State) : Bool := s.fld TL_STATUS TL_STATUS.state = 4

/-- Whether the link is DOWN. -/
def State.linkDown (s : State) : Bool := s.fld TL_STATUS TL_STATUS.state = 6

/-- Whether the credits of a transaction's class suffice. -/
def Treup.hasCredit (t : Treup) (o : TlOut) : Bool :=
  match outSlots o with
  | (0, _) => true
  | (1, n) => decide (n ≤ t.creditPW)
  | (2, n) => decide (n ≤ t.creditNP)
  | (_, n) => decide (n ≤ t.creditSNP)

/-- Takes a transaction's credits. -/
def Treup.takeCredit (t : Treup) (o : TlOut) : Treup :=
  match outSlots o with
  | (0, _) => t
  | (1, n) => { t with creditPW := t.creditPW - n }
  | (2, n) => { t with creditNP := t.creditNP - n }
  | (_, n) => { t with creditSNP := t.creditSNP - n }

/-- TL_ERR_LOG keeps the first entry (R329, R332): kind, status, tag and address. -/
def State.tlLog (s : State) (kind status tag addr : Nat) : State :=
  s.logOnce TL_ERR_LOG TL_ERR_TIME TL_ERR_LOG.held
    (kind % 16 + (status % 16) * 2 ^ 4 + (tag % 4096) * 2 ^ 8 + ((addr / 4096) % 2 ^ 40) * 2 ^ 24)

/-- A posted write that a DOWN link drops (R339). -/
def State.dropWrite (s : State) (a : Nat) : State :=
  ({ s with tl := { s.tl with droppedWrites := s.tl.droppedWrites + 1 } } : State).tlLog 5 0 0 a

/-- Sends a transaction, or holds it until the link is ACTIVE and its class has credits (R330); transactions of one
class stay in order. A posted write on a DOWN link is dropped and counted (R339). -/
def State.sendTl (s : State) (o : TlOut) : State :=
  if s.linkDown then
    match o with
    | .write a _ => s.dropWrite a
    | .masked a _ => s.dropWrite a
    | _ => s
  else if s.linkActive && s.tl.hasCredit o && !(s.tl.held.any (fun h => (outSlots h).1 == (outSlots o).1)) then
    { s with tl := { (s.tl.takeCredit o) with sent := s.tl.sent ++ [o] } }
  else { s with tl := { s.tl with held := s.tl.held ++ [o] } }

/-- Sends what was held, in order, as far as credits go. -/
def drainHeld (t : Treup) (todo : List TlOut) : Treup :=
  match todo with
  | [] => t
  | o :: r =>
    if t.hasCredit o && !(t.held.any (fun h => (outSlots h).1 == (outSlots o).1)) then
      drainHeld { (t.takeCredit o) with sent := t.sent ++ [o] } r
    else drainHeld { t with held := t.held ++ [o] } r

/-- Sends every held transaction whose class has credits, the link being ACTIVE. -/
def State.sendHeld (s : State) : State :=
  if s.linkActive then { s with tl := drainHeld { s.tl with held := [] } s.tl.held } else s

/-! ## The home -/

/-- The line that holds byte `a`. -/
def lineOf (a : Nat) : Nat := a - a % 64

/-- The host's copy of a line. -/
def State.hostCopy (s : State) (line : Nat) : Option FilterEntry := s.tl.filter.find? (fun e => e.line == line)

/-- The filter without a line. -/
def State.dropCopy (s : State) (line : Nat) : State :=
  { s with tl := { s.tl with filter := s.tl.filter.filter (fun e => e.line != line) } }

/-- Control lines of the command area (R340). -/
def subLine : Nat := lpFirst
def cmdConsLine : Nat := lpFirst + 0x40
def repProdLine : Nat := lpFirst + 0x80
def repConsLine : Nat := lpFirst + 0xC0
def evtProdLine : Nat := lpFirst + 0x100
def evtConsLine : Nat := lpFirst + 0x140
def cmdWindow : Nat := lpFirst + 0x10000
def repWindow : Nat := lpFirst + 0x30000
def evtRing : Nat := lpFirst + 0x40000

/-- How far an index lies ahead of a consumer index; 0 where it lies behind it. -/
def unread (prod cons : Nat) : Nat := if ahead prod cons < 2 ^ 63 then ahead prod cons else 0

/-- DRDY_N follows the unread records and the enables (R338). -/
def State.drdy (s : State) : State :=
  let r := unread (s.num repProdLine 8) s.tl.repSeen
  let e := unread (s.num evtProdLine 8) s.tl.evtSeen
  let s := s.setFld TL_DRDY TL_DRDY.replies_unread r
  let s := s.setFld TL_DRDY TL_DRDY.events_unread e
  s.setBit TL_DRDY TL_DRDY.asserted
    ((decide (r ≠ 0) && s.bit TL_DRDY TL_DRDY.reply_en) || (decide (e ≠ 0) && s.bit TL_DRDY TL_DRDY.event_en))

/-- A consumer index that the host wrote, as the module takes it: never ahead of the producer, never behind the value last
seen (R343). -/
def seenIndex (v prod last : Nat) : Nat :=
  if 1 ≤ ahead v prod ∧ ahead v prod < 2 ^ 63 then prod
  else if ahead v last ≥ 2 ^ 63 then last
  else v

/-- The lines that firmware watches (R335): of the command area, of each configured context's rings and of each
assigned host engine's rings. -/
def State.watchedLines (s : State) : List Nat :=
  [subLine, repConsLine, evtConsLine] ++ (if s.boot.mailbox = 1 then [requestLine] else []) ++
  (List.range 16).flatMap (fun c =>
    let x := s.ctx c
    if x.configured then
      (s.fld (SCU_STR_OUTRING c) SCU_STR_OUTRING.base + 64) ::
        (List.range x.plate.smap.slots).map (fun k => x.inBase + k * x.inStride)
    else []) ++
  (List.range 2).flatMap (fun g => (List.range 16).flatMap (fun n =>
    if s.fld (XE_ENG_RING g n) XE_ENG_RING.base ≠ 0 then
      [s.fld (XE_ENG_RING g n) XE_ENG_RING.base, s.fld (XE_ENG_CPL g n) XE_ENG_CPL.base + 64]
    else []))

/-- Whether a line is watched. -/
def State.watched (s : State) (line : Nat) : Bool := (s.watchedLines).contains line

/-- The watch of a line fires, where it has one (R335): it stays until its agent takes it, and DRDY_N follows the
consumer lines (R338). -/
def State.fire (s : State) (line : Nat) : State :=
  let s := if line = repConsLine then
      ({ s with tl := { s.tl with repSeen := seenIndex (s.num repConsLine 8) s.tl.repIx s.tl.repSeen } } : State).drdy
    else if line = evtConsLine then
      ({ s with tl := { s.tl with evtSeen := seenIndex (s.num evtConsLine 8) s.tl.evtIx s.tl.evtSeen } } : State).drdy
    else s
  if s.watched line && !(s.tl.fired.contains line) then
    { s with tl := { s.tl with fired := s.tl.fired ++ [line] } }
  else s

/-- An agent takes a fired watch. -/
def State.unfire (s : State) (line : Nat) : State :=
  { s with tl := { s.tl with fired := s.tl.fired.filter (fun l => l != line) } }

/-- Whether a line's snoop is unanswered. -/
def State.snooping (s : State) (line : Nat) : Bool := s.tl.snoops.any (fun x => x.line == line)

/-- Sends a SNOOP for a line and keeps `op` until it is answered (R334); an unanswered snoop of the line keeps it. -/
def State.snoop (s : State) (line kind : Nat) (op : HomeOp) : State :=
  if s.snooping line then
    { s with tl := { s.tl with snoops := s.tl.snoops.map (fun x =>
        if x.line = line then { x with waiting := x.waiting ++ [op] } else x) } }
  else
    let s := { s with tl := { s.tl with snoops := s.tl.snoops ++ [({ line := line, kind := kind, tb := s.tb, waiting := [op] } : Snoop)] } }
    s.sendTl (.snoop line kind)

/-- A module agent writes bytes that lie in one line (R334): a line that the host holds is snooped first, and the write
waits for the answer. -/
def State.putLine (s : State) (a : Nat) (l : List Byte) : State :=
  let line := lineOf a
  if s.snooping line || (s.hostCopy line).isSome then s.snoop line 0 (.put a l) else s.setBytes a l

/-- A module agent writes bytes, line by line. `fuel` bounds the lines. -/
def State.putLines (s : State) (fuel a : Nat) (l : List Byte) : State :=
  match fuel with
  | 0 => s
  | n + 1 =>
    if l.isEmpty then s
    else
      let k := 64 - a % 64
      (s.putLine a (l.take k)).putLines n (a + k) (l.drop k)

/-- A module agent writes bytes through the home. -/
def State.put (s : State) (a : Nat) (l : List Byte) : State := s.putLines (l.length / 64 + 2) a l

/-- A module agent writes an `n`-byte number through the home. -/
def State.putNum (s : State) (a n v : Nat) : State := s.put a (leBytes n v)

/-- Lines of `n` bytes at `a` that a module agent must ask the host for before it reads (the host holds them M) or, with
`wr`, writes (the host holds a copy); a line whose snoop is unanswered is among them (R334). -/
def State.homeBusy (s : State) (a n : Nat) (wr : Bool) : List Nat :=
  let inside := fun (l : Nat) => decide (l < a + n) && decide (a < l + 64)
  ((s.tl.filter.filter (fun e => (e.m || wr) && inside e.line)).map (fun e => e.line) ++
    (s.tl.snoops.filter (fun x => inside x.line)).map (fun x => x.line)).eraseDups

/-- Snoops the lines whose snoop has not been sent. -/
def State.askLines (s : State) (kind : Nat) (l : List Nat) : State :=
  (l.filter (fun x => !s.snooping x)).foldl (fun s x => s.snoop x kind .look) s

/-- Kind of the snoop for a read: SNP_SHARE, or SNP_INV where SNOOP_SHARE is not negotiated (R334). -/
def State.readKind (s : State) : Nat := if bitOf (s.fld TL_FEATURES TL_FEATURES.enabled) 4 then 1 else 0

/-- Lines that one READ or WRITE may carry (R337). -/
def State.maxLines (s : State) : Nat := max 1 (s.fld TL_FEATURES TL_FEATURES.max_lines)

/-- The posted writes that carry `n` bytes to host memory at `a`: whole lines up to MAX_LINES, and masked parts of lines. -/
def State.postWrites (s : State) (fuel a n : Nat) : State :=
  match fuel with
  | 0 => s
  | f + 1 =>
    if n = 0 then s
    else if a % 64 ≠ 0 ∨ n < 64 then
      let k := min n (64 - a % 64)
      (s.sendTl (.masked a k)).postWrites f (a + k) (n - k)
    else
      let k := 64 * min (n / 64) s.maxLines
      (s.sendTl (.write a k)).postWrites f (a + k) (n - k)

/-- A module agent writes bytes into host memory; on a DOWN link the writes are dropped (R339). -/
def State.hostPut (s : State) (a : Nat) (l : List Byte) : State :=
  (if s.linkDown then s else s.setBytes a l).postWrites (l.length / 64 + 3) a l.length

/-- A module agent writes bytes at a device address: through the home, or into the host window. -/
def State.agentPut (s : State) (a : Nat) (l : List Byte) : State := if a ≥ hostFirst then s.hostPut a l else s.put a l

/-- What a module agent reads at `a` of what module agents wrote: a write that waits for its snoop counts as made. -/
def State.modByte (s : State) (a : Nat) : Byte :=
  match s.tl.snoops.find? (fun x => x.line == lineOf a) with
  | none => s.byte a
  | some x => x.waiting.foldl (fun b op =>
      match op with
      | .put p l => if p ≤ a ∧ a < p + l.length then l.getD (a - p) 0 else b
      | .look => b) (s.byte a)

/-- The `n`-byte number that module agents wrote at `a`. -/
def State.modNum (s : State) (a n : Nat) : Nat := ofBytes ((List.range n).map (fun i => s.modByte (a + i)))

/-! ## Event records (R344, R354) -/

/-- The 32 bytes of an event record. -/
def eventBytes (typ ctx index tb : Nat) (data : List Byte) : List Byte :=
  leBytes 2 typ ++ leBytes 1 ctx ++ [0] ++ leBytes 4 index ++ leBytes 8 tb ++
    (data ++ List.replicate 16 0).take 16

/-- Whether firmware is serving: booted and not in the dump stub (R435, R417). -/
def State.fwUp (s : State) : Bool :=
  (s.fld SCU_BOOT_STATUS SCU_BOOT_STATUS.stage = 0x09 || s.fld SCU_BOOT_STATUS SCU_BOOT_STATUS.stage = 0x0A) &&
    !s.bit SCU_WDT_STATUS SCU_WDT_STATUS.stub_active

/-- Posts an event record with its own time: it never waits for room, and an overwritten unread record is counted
(R344). -/
def State.eventAt (s : State) (typ ctx tb : Nat) (data : List Byte) : State :=
  let i := s.tl.evtIx
  let s := { s with tl := { s.tl with evtIx := i + 1 } }
  let lost := unread i s.tl.evtSeen ≥ 4096
  let s := s.put (evtRing + (i % 4096) * 32) (eventBytes typ ctx i tb data)
  let s := if lost then (s.addMod SCU_EVT_LOST SCU_EVT_LOST.lost 1) else s
  let s := s.put evtProdLine (leBytes 8 (i + 1) ++ leBytes 8 (s.fld SCU_EVT_LOST SCU_EVT_LOST.lost))
  s.drdy

/-- Posts an event record. -/
def State.event (s : State) (typ ctx : Nat) (data : List Byte) : State := s.eventAt typ ctx s.tb data

/-- Data of an event, field by field: (size, value), each aligned to its size from byte 16 of the record (R347). -/
def fieldsFrom (at_ : Nat) (l : List (Nat × Nat)) : List Byte :=
  match l with
  | [] => []
  | (n, v) :: t =>
    let al := if n ≥ 16 then 8 else n
    let pad := (al - at_ % al) % al
    List.replicate pad 0 ++ leBytes n v ++ fieldsFrom (at_ + pad + n) t

/-- The counts of HLTH_SUMMARY and HLTH_ROT_STATUS follow the tile records. -/
def State.summaryView (s : State) : State :=
  let n := fun (k : Nat) => (List.range 256).countP (fun p => s.fld (HLTH_TILE p) HLTH_TILE.state == k)
  let a := HLTH_SUMMARY
  let s' := s.setFld a HLTH_SUMMARY.good (n 1)
  let s' := s'.setFld a HLTH_SUMMARY.degraded (n 2)
  let s' := s'.setFld a HLTH_SUMMARY.fenced (n 3)
  let s' := s'.setFld a HLTH_SUMMARY.untested (n 0)
  s'.setFld HLTH_ROT_STATUS HLTH_ROT_STATUS.untested (n 0)

/-- A HEALTH_CHANGED event follows each published change of the health map, whose generation advances (R254). -/
def State.publish (s : State) : State :=
  let s := s.summaryView
  let g := s.fld HLTH_ID HLTH_ID.generation + 1
  let s := s.setFld HLTH_ID HLTH_ID.generation g
  s.event 0x0002 0xFF (fieldsFrom 0 [(4, g)])

/-- A LINK_ERROR event (R332, R354): link, kind, tag, address. -/
def State.linkError (s : State) (link kind tag addr : Nat) : State :=
  s.event 0x000B 0xFF (fieldsFrom 0 [(1, link), (1, kind), (2, tag), (8, addr)])

end Sys2Proof.Machine
end

