-- ==== Sys2Proof/Machine/Mesh.lean ====
section
/-! DEFINITION. Machine/Mesh.lean: routers, links and messages in transit (R138 to R163). -/
namespace Sys2Proof.Machine

/-! ## The grid (R14, R17, R19, R138) -/

/-- The place behind port 0 N, 1 E, 2 S, 3 W of tile `p`. -/
def neighbour (p port : Nat) : Nat :=
  let x := p % 16
  let y := p / 16
  match port with
  | 0 => if y = 15 then 264 + x / 4 else p + 16
  | 1 => if x = 15 then 257 else p + 1
  | 2 => if y = 0 then 268 + x / 4 else p - 16
  | _ => if x = 0 then 256 else p - 1

/-- The port at the other end of a link. -/
def opposite (port : Nat) : Nat := (port + 2) % 4

/-- The bridge record and tile pair of a link that crosses a die edge (R15, HLTH_BRIDGE). -/
def bridgeOf (p port : Nat) : Option (Nat × Nat) :=
  let x := p % 16
  let y := p / 16
  match port with
  | 0 => if y % 4 = 3 ∧ y < 15 then some (12 + 4 * (y / 4) + x / 4, x % 4) else none
  | 1 => if x % 4 = 3 ∧ x < 15 then some (3 * (y / 4) + x / 4, y % 4) else none
  | 2 => if y % 4 = 0 ∧ y > 0 then some (12 + 4 * (y / 4 - 1) + x / 4, x % 4) else none
  | _ => if x % 4 = 0 ∧ x > 0 then some (3 * (y / 4) + (x / 4 - 1), y % 4) else none

/-! ## Kinds and virtual channels (R142, R144) -/

def kData : Nat := 0x01
def kToken : Nat := 0x02
def kAdd : Nat := 0x03
def kAck : Nat := 0x04
def kNack : Nat := 0x05
def kRemoteWrite : Nat := 0x06
def kRemoteRead : Nat := 0x07
def kReadResp : Nat := 0x08
def kCombine : Nat := 0x09

/-- Whether a kind may travel on a virtual channel. -/
def vcAllowed (kind vc : Nat) : Bool :=
  match kind with
  | 0x01 => vc == 0 || vc == 1 || vc == 3
  | 0x02 => vc == 1 || vc == 3
  | 0x03 => vc == 0 || vc == 1 || vc == 3
  | 0x04 => vc == 2
  | 0x05 => vc == 2
  | 0x06 => vc == 0 || vc == 1 || vc == 3
  | 0x07 => vc == 0 || vc == 1 || vc == 3
  | 0x08 => vc == 0 || vc == 1 || vc == 3
  | 0x09 => vc == 1 || vc == 3
  | 0x0A => vc == 4
  | 0x0B => vc == 4
  | 0x0C => vc == 4
  | _ => false

/-- Flits of a message: its header and its payload. -/
def Msg.flits (m : Msg) : Nat := 1 + ceilDiv m.payload.length 128

/-- Flits that a buffer of a virtual channel takes before its sender stops (R144 to R146). -/
def vcRoom (vc : Nat) : Nat :=
  match vc with
  | 1 => 32
  | 2 => 8
  | 4 => 12
  | _ => 24

/-- Flits held for one virtual channel of one input port of a place. -/
def State.occupancy (s : State) (loc inPort vc : Nat) : Nat :=
  ((s.net.filter (fun m => m.loc == loc && m.inPort == inPort && m.msg.vc == vc && !m.arrived)).map (fun m => m.msg.flits)).sum

/-- Whether a flit can go out on a port on a virtual channel. -/
def State.vcCredit (s : State) (p port vc : Nat) : Bool :=
  neighbour p port ≥ 256 || decide (s.occupancy (neighbour p port) (opposite port) vc < vcRoom vc)

/-! ## Fences -/

def State.portFenced (s : State) (p port : Nat) : Bool := bitOf (s.fld (RT_STATUS p) RT_STATUS.port_fenced) port
def State.dncFenced (s : State) (p d : Nat) : Bool := bitOf (s.fld (RT_STATUS p) RT_STATUS.dnc_fenced) d
def State.localClosed (s : State) (p : Nat) : Bool := s.bit (RT_STATUS p) RT_STATUS.local_closed

/-- on_alternate of every valid entry follows the fences of its primary port. -/
def State.onAlternate (s : State) (p : Nat) : State :=
  (List.range 1024).foldl (fun s i =>
    if s.bit (RT_ENTRY p i) RT_ENTRY.valid then
      let o := s.fld (RT_ENTRY p i) RT_ENTRY.primary
      s.setBit (RT_ENTRY p i) RT_ENTRY.on_alternate (decide (o < 4) && s.portFenced p o)
    else s) s

/-- Fences or lifts port `t`: 0 to 3 link ports, 4 to 7 DNCs. -/
def State.setFence (s : State) (p t : Nat) (b : Bool) : State :=
  if t < 4 then
    let s := s.setFld (RT_STATUS p) ⟨RT_STATUS.port_fenced.lo + t, 1⟩ (b2n b)
    (s.setFld (RT_LINK_ERR p t) RT_LINK_ERR.state (if b then 2 else 0)).onAlternate p
  else
    let s := s.setFld (RT_STATUS p) ⟨RT_STATUS.dnc_fenced.lo + (t - 4), 1⟩ (b2n b)
    s.setFld (RT_DNC_ERR p (t - 4)) RT_DNC_ERR.state (if b then 2 else 0)

/-! ## Router faults -/

/-- A router fault: its bit, and the log with its time unless it holds an entry. -/
def State.rtFault (s : State) (p : Nat) (f : Field) (port : Nat) (m : Msg) : State :=
  (s.setBit (RT_FAULT p) f true).logOnce (RT_FAULT_LOG p) (RT_FAULT_TIME p) RT_FAULT_LOG.ue_held
    (f.lo + 1 + (port % 8) * 2 ^ 4 + (m.routeId % 1024) * 2 ^ 7 + (m.ctx % 16) * 2 ^ 17 + (m.srcTile % 256) * 2 ^ 21)

/-- A NACK from router `p` to the sender of a message, for the kinds that an endpoint or an address generator sends. -/
def State.rtNack (s : State) (p : Nat) (m : Msg) (reason : Nat) : State :=
  if m.kind = kAck ∨ m.kind = kNack ∨ m.kind = kReadResp ∨ m.vc = 4 then s
  else
    let n : Msg :=
      { kind := kNack, vc := 2, ctx := m.ctx, destTile := m.srcTile, destEp := m.srcEp, srcTile := p,
        srcVtile := m.srcVtile, chanSeq := m.chanSeq, addr := m.addr, operand := reason }
    let s := s.addSat (RT_DROPS p) RT_DROPS.nacks_generated 1
    { s with net := s.net ++ [({ msg := n, loc := p } : NetMsg)] }

/-- Takes message `i` out of the mesh. -/
def State.netDrop (s : State) (i : Nat) : State := { s with net := s.net.eraseIdx i }

/-- Counts flits sent on a link port. -/
def State.linkFlits (s : State) (p port n : Nat) : State :=
  if s.bit (RT_CTRL p) RT_CTRL.perf_freeze then s else s.addWrap (RT_LINK_FLITS p port) n

/-- Message `i` goes out on a link port. -/
def State.netHop (s : State) (p port i : Nat) (m : Msg) : State :=
  let q := neighbour p port
  let e : NetMsg := { msg := { m with hops := m.hops + 1 }, loc := q, inPort := opposite port, arrived := decide (q ≥ 256) }
  ({ s with net := s.net.set i e }).linkFlits p port m.flits

/-- Message `i` stands at the Local port of tile `p`, or is refused there (R151, R162). -/
def State.netLocal (s : State) (p i inPort : Nat) (m : Msg) : State :=
  if m.vc = 4 then { s with net := s.net.set i { msg := m, loc := p, inPort := inPort, arrived := true } }
  else if s.localClosed p then (s.netDrop i).rtNack p m 0x14
  else
    let owner := if m.kind = kRemoteWrite ∨ m.kind = kRemoteRead then
        match s.regionAt p (m.addr - tsBase p) with
        | some r => some (s.fld (RGN_CFG p r) RGN_CFG.ctx)
        | none => s.lease p
      else s.lease p
    if m.kind = kAck ∨ m.kind = kNack ∨ owner = some m.ctx then
      { s with net := s.net.set i { msg := m, loc := p, inPort := inPort, arrived := true } }
    else
      let s := ((s.netDrop i).addSat (RT_DROPS p) RT_DROPS.ctx_reject 1).rtFault p RT_FAULT.ctx_reject inPort m
      s.signal { kind := .note, tile := p, arg := 0x41, log := m.ctx, time := s.tb }

/-! ## Routing without a route entry (log 13) -/

/-- The next port from tile `p` to a place, first along x, then along y, then outward. -/
def orderPort (p dest : Nat) : Nat :=
  let x := p % 16
  let y := p / 16
  let tx := if dest < 256 then dest % 16 else if dest = 256 then 0 else if dest = 257 then 15 else 4 * ((dest - 264) % 4) + x % 4
  let ty := if dest < 256 then dest / 16 else if dest ≤ 257 then y else if dest < 268 then 15 else 0
  if x < tx then 1 else if tx < x then 3
  else if y < ty then 0 else if ty < y then 2
  else if dest < 256 then 4
  else if dest = 256 then 3 else if dest = 257 then 1 else if dest < 268 then 0 else 2

/-- Whether a message travels without a route_id of its own: acknowledgements, and remote accesses with their
responses. -/
def Msg.byDest (m : Msg) : Bool := m.kind == kAck || m.kind == kNack || decide (kRemoteWrite ≤ m.kind ∧ m.kind ≤ kReadResp)

/-! ## Lookup (R143, R147, R156 to R162) -/

/-- What a lookup decides. -/
inductive Route where
  /-- Discarded; a NACK reason (0: none). -/
  | drop (f : Field) (reason : Nat)
  /-- Out on a port, or to Local (4), with the message as changed. -/
  | out (port : Nat) (m : Msg)
  /-- A copy on each port of a mask. -/
  | copies (mask : Nat)
  /-- Waits for a credit. -/
  | wait

/-- Whether a message that enters the mesh at a Local port may do so (R144, R147). -/
def injectOk (inPort : Nat) (m : Msg) : Bool :=
  inPort != 4 || (m.vc != 3 && m.vc != 4 && !(m.vc == 2 && decide (m.srcEp ≥ 64) && m.kind != kNack))

/-- The decision for a management message (R161). -/
def State.routeVcm (s : State) (p : Nat) (m : Msg) : Route :=
  if bitOf m.vcmRoute 63 then
    let e := RT_MCAST p (m.vcmRoute % 16)
    .copies (if s.bit e RT_MCAST.valid then s.fld e RT_MCAST.port_mask else 0)
  else if m.destEp = 0 then .out 4 m
  else
    let port := m.vcmRoute % 4
    if s.portFenced p port then .drop RT_FAULT.vcm_lost 0
    else if !s.vcCredit p port 4 then .wait
    else .out port { m with vcmRoute := m.vcmRoute / 4, destEp := m.destEp - 1 }

/-- The decision for a message with a route entry (R157). -/
def State.routeEntry (s : State) (p : Nat) (m : Msg) : Route :=
  let e := RT_ENTRY p m.routeId
  let pri := s.fld e RT_ENTRY.primary
  let alt := s.fld e RT_ENTRY.alternate
  let fenced := fun o => decide (o < 4) && s.portFenced p o
  if !s.bit e RT_ENTRY.valid || s.fld e RT_ENTRY.ctx != m.ctx || decide (pri > 4) || decide (alt > 4) then
    .drop RT_FAULT.route_invalid 0x12
  else
    let adapt := s.bit e RT_ENTRY.adapt && s.bit (RT_ADAPT_CFG p) RT_ADAPT_CFG.adapt_en && decide (m.vc ≤ 1) &&
      decide (pri < 4) && decide (s.occupancy (neighbour p pri) (opposite pri) m.vc ≥
        max 1 (s.fld (RT_ADAPT_CFG p) RT_ADAPT_CFG.adapt_threshold)) &&
      !fenced alt && (alt == 4 || s.vcCredit p alt 3)
    let (o, m') :=
      if m.escaped then (alt, m)
      else if fenced pri then (alt, { m with escaped := true, vc := 3 })
      else if adapt then (alt, { m with escaped := true, adaptive := true, vc := 3 })
      else (pri, m)
    if fenced o then .drop RT_FAULT.no_route 0x13
    else if o < 4 && !s.vcCredit p o m'.vc then .wait
    else .out o m'

/-- The decision for any message at router `p`. -/
def State.route (s : State) (p inPort : Nat) (m : Msg) : Route :=
  if !vcAllowed m.kind m.vc || !injectOk inPort m then .drop RT_FAULT.illegal_inject 0
  else if m.hops ≥ 63 then .drop RT_FAULT.ttl_expired 0x10
  else if m.vc = 4 then s.routeVcm p m
  else if m.byDest then
    let o := orderPort p m.destTile
    if o = 4 then .out 4 m
    else if s.portFenced p o then .drop RT_FAULT.no_route 0x13
    else if !s.vcCredit p o m.vc then .wait
    else .out o m
  else s.routeEntry p m

/-- Copies of a multicast message, one for each port of the mask; a copy that meets a fenced port is lost (R161). -/
def State.netCopies (s : State) (p mask : Nat) (m : Msg) : State :=
  (List.range 5).foldl (fun s o =>
    if !bitOf mask o then s
    else if o = 4 then
      let e : NetMsg := { msg := m, loc := p, arrived := true }
      { s with net := s.net ++ [e] }
    else if s.portFenced p o then (s.rtFault p RT_FAULT.vcm_lost o m).signal { kind := .router, tile := p, arg := o, time := s.tb }
    else
      let q := neighbour p o
      let e : NetMsg :=
        { msg := { m with hops := m.hops + 1 }, loc := q, inPort := opposite o, arrived := decide (q ≥ 256) }
      ({ s with net := s.net ++ [e] }).linkFlits p o m.flits) s

/-- Carries out the decision for message `i`. -/
def State.routeDo (s : State) (p i inPort : Nat) (m : Msg) (d : Route) : State :=
  match d with
  | .wait => s
  | .copies mask => (s.netDrop i).netCopies p mask m
  | .drop f reason =>
    let t := (s.netDrop i).rtFault p f inPort m
    let t := if f = RT_FAULT.illegal_inject then t.addSat (RT_DROPS p) RT_DROPS.illegal 1 else t
    let t := if f = RT_FAULT.no_route ∨ f = RT_FAULT.vcm_lost then t.signal { kind := .router, tile := p, arg := inPort, time := s.tb } else t
    if reason = 0 then t else t.rtNack p m reason
  | .out o m' =>
    let s := if m'.escaped && !m.escaped then
        s.addSat (RT_COUNTS p) (if m'.adaptive then RT_COUNTS.divert_adapt else RT_COUNTS.divert_fence) 1
      else s
    if o = 4 then s.netLocal p i inPort m' else s.netHop p o i m'

/-- Rank of a virtual channel at an output port (R148). -/
def vcRank (vc : Nat) : Nat :=
  match vc with
  | 4 => 0
  | 2 => 1
  | 0 => 3
  | _ => 2

/-- Indexes of the messages in transit at router `p`, in the order of R148 and then of age. -/
def State.atRouter (s : State) (p : Nat) : List (Nat × NetMsg) :=
  let l := ((List.range s.net.length).zip s.net).filter (fun e => e.2.loc == p && !e.2.arrived)
  (List.range 4).flatMap (fun k => l.filter (fun e => vcRank e.2.msg.vc == k))

/-- The first message at router `p` that does not wait for a credit goes on. -/
def State.routeFirst (s : State) (p : Nat) (l : List (Nat × NetMsg)) : State :=
  match l with
  | [] => s
  | e :: t =>
    match s.route p e.2.inPort e.2.msg with
    | .wait => s.routeFirst p t
    | d => s.routeDo p e.1 e.2.inPort e.2.msg d

/-- ROUTE_LOOKUP: router `p` forwards the first message that it can. -/
def execRouteLookup (p : Tile) (s : State) : Host.Outcome State Fault Refusal :=
  .next (s.routeFirst p (s.atRouter p))

/-! ## Links (R153 to R155) -/

/-- The error register of port `t`, with its fields. -/
def errReg (p t : Nat) : Nat := if t < 4 then RT_LINK_ERR p t else RT_DNC_ERR p (t - 4)

/-- LINK_RETRY: what a flit on port `port` (4 to 7: DNCs) of tile `p` meets. -/
def execLinkRetry (p : Tile) (port : Fin 8) (flit : LinkFlit) (s : State) : Host.Outcome State Fault Refusal :=
  let a := errReg p port
  let br := bridgeOf p (port % 4)
  let s' : State :=
    match flit with
    | .corrected =>
      let s := s.addSat a RT_LINK_ERR.corrected 1
      let s := s.setFld a RT_LINK_ERR.consec_fail 0
      match br with
      | some (e, _) => s.addSat (HLTH_BRIDGE e) HLTH_BRIDGE.fec_corrected 1
      | none => s
    | .replayed =>
      let s := (s.addSat a RT_LINK_ERR.retries 1).setFld a RT_LINK_ERR.consec_fail 0
      let s := s.setFld a RT_LINK_ERR.state 0
      match br with
      | some (e, _) => s.addSat (HLTH_BRIDGE e) HLTH_BRIDGE.retries 1
      | none => s
    | .failed =>
      let s := s.addSat a RT_LINK_ERR.retries 1
      let s := s.setFld a RT_LINK_ERR.consec_fail (min 8 (s.fld a RT_LINK_ERR.consec_fail + 1))
      let s := s.setFld a RT_LINK_ERR.state 1
      match br with
      | some (e, _) => s.addSat (HLTH_BRIDGE e) HLTH_BRIDGE.retries 1
      | none => s
  .next (if (if port < 4 then s.portFenced p port else s.dncFenced p (port - 4)) then s else s')

/-- A message caught half-way over link port `port` of `p` when its fence falls: the newest that came in from `p` at
the other end is discarded there, and `p` returns LINK_FENCED (R155). -/
def State.caughtAt (s : State) (p port : Nat) : State :=
  let q := neighbour p port
  match (((List.range s.net.length).zip s.net).filter (fun e => e.2.loc == q && e.2.inPort == opposite port && !e.2.arrived)).getLast? with
  | some e => (s.netDrop e.1).rtNack p e.2.msg 0x11
  | none => s

/-- One end declares its hop failed: fence, fault, signal. -/
def State.hopEnd (s : State) (p t : Nat) : State :=
  ((s.setFence p t true).rtFault p RT_FAULT.link_fail t {}).signal { kind := .hopFailed, tile := p, arg := t, time := s.tb }

/-- The hop of port `t` of tile `p` is declared failed at both ends (R154). -/
def State.hopFailed (s : State) (p t : Nat) (caught : Bool) : State :=
  let q := neighbour p (t % 4)
  let s := if caught && decide (t < 4) then s.caughtAt p t else s
  let s := s.hopEnd p t
  if q < 256 then s.hopEnd q (opposite (t % 4) + (if t < 4 then 0 else 4)) else s

/-- HOP_DECLARED_FAILED: after eight consecutive failed retries of port `port`, both ends fence it. -/
def execHopDeclaredFailed (p : Tile) (port : Fin 8) (caught : Bool) (s : State) : Host.Outcome State Fault Refusal :=
  .next (if s.fld (errReg p port) RT_LINK_ERR.consec_fail ≥ 8 then s.hopFailed p port caught else s)

/-- RT_FENCE_REQ: fence_req fences the port or DNC named by target; targets above 7 are reserved (R155). -/
def execRtFenceReq (p : Tile) (target : Fin 16) (caught : Bool) (s : State) : Host.Outcome State Fault Refusal :=
  let s := s.setFld (RT_CTRL p) RT_CTRL.target target
  .next (
    if target.val < 8 then
      let s := if caught && decide (target.val < 4) then s.caughtAt p target else s
      s.setFence p target true
    else s)

/-- State of the health record of port `t` of a tile: 1 is GOOD (R259). -/
def State.portHealth (s : State) (p t : Nat) : Nat :=
  if t < 4 then s.fld (HLTH_PORT p) ⟨HLTH_PORT.link_state.lo + 4 * t, 2⟩
  else s.fld (HLTH_PORT p) ⟨HLTH_PORT.dnc_state.lo + 4 * (t - 4), 2⟩

/-- RT_UNFENCE: accepted when the records of both ends are GOOD (R155). -/
def execRtUnfence (p : Tile) (target : Fin 16) (s : State) : Host.Outcome State Fault Refusal :=
  let s := s.setFld (RT_CTRL p) RT_CTRL.target target
  let t := target.val
  let q := neighbour p (t % 4)
  let far := decide (q ≥ 256) || s.portHealth q (opposite (t % 4) + (if t < 4 then 0 else 4)) == 1
  .next (
    if t < 8 ∧ s.portHealth p t = 1 ∧ far then (s.setFence p t false).setFld (errReg p t) RT_LINK_ERR.consec_fail 0
    else s)

/-- A write of route entry `i`, while its owning context is drained alone (R160). -/
def State.setRoute (s : State) (p i : Nat) (v : BitVec 64) : State :=
  let a := RT_ENTRY p i
  let drained := fun c => bitOf (s.fld (RT_CTX_DRAINED p) RT_CTX_DRAINED.drained) c
  if (!s.bit a RT_ENTRY.valid || drained (s.fld a RT_ENTRY.ctx)) && drained (RT_ENTRY.ctx.get v) then
    let s := s.setReg a (BitVec.ofNat 64 (v.toNat % 2 ^ 12))
    let o := RT_ENTRY.primary.get v
    s.setBit a RT_ENTRY.on_alternate (decide (o < 4) && s.portFenced p o)
  else s.rtFault p RT_FAULT.write_refused 4 { routeId := i, ctx := RT_ENTRY.ctx.get v, srcTile := p }

/-- RT_ENTRY. -/
def execRtEntry (p : Tile) (i : Fin 1024) (v : BitVec 64) (s : State) : Host.Outcome State Fault Refusal :=
  .next (s.setRoute p i v)

/-! ## Remote accesses (R142) -/

/-- The first message of a kind that has arrived at a place. -/
def State.arrivedAt (s : State) (loc : Nat) (kinds : List Nat) : Option (Nat × NetMsg) :=
  ((List.range s.net.length).zip s.net).find? (fun e => e.2.loc == loc && e.2.arrived && kinds.contains e.2.msg.kind)

/-- The first message of a kind that has arrived at a place and satisfies `f`. -/
def State.arrivedFor (s : State) (loc : Nat) (kinds : List Nat) (f : Msg → Bool) : Option (Nat × NetMsg) :=
  ((List.range s.net.length).zip s.net).find? (fun e => e.2.loc == loc && e.2.arrived && kinds.contains e.2.msg.kind && f e.2.msg)

/-- REMOTE_WRITE: the first one arrived writes its payload at its address. -/
def execRemoteWrite (at_ : MeshPlace) (s : State) : Host.Outcome State Fault Refusal :=
  .next (match s.arrivedAt at_ [kRemoteWrite] with
    | none => s
    | some (i, e) =>
      let s := s.netDrop i
      if s.mapped e.msg.addr then s.agentPut e.msg.addr e.msg.payload else s)

/-- REMOTE_READ: the first one arrived is answered with a READ_RESP on its channel; a poisoned or uncorrectable word
gives the response its mark, an unmapped address an empty response. A line that the host holds M is asked for first (R334). -/
def execRemoteRead (at_ : MeshPlace) (s : State) : Host.Outcome State Fault Refusal :=
  .next (match s.arrivedAt at_ [kRemoteRead] with
    | none => s
    | some (i, e) =>
      let m := e.msg
      if s.homeBusy m.addr m.operand false ≠ [] then s.askLines s.readKind (s.homeBusy m.addr m.operand false)
      else
      let s := s.netDrop i
      let bad := s.ue.any (fun w => decide (w.2 ≠ 0) && decide (w.1 < m.addr + m.operand) && decide (m.addr < w.1 + eccWord w.1))
      let r : Msg :=
        { kind := kReadResp, vc := m.vc, ctx := m.ctx, destTile := m.srcTile, destEp := m.srcEp, srcTile := m.destTile,
          srcVtile := m.srcVtile, addr := m.addr, operand := m.operand, tok := { mark := bad },
          payload := if s.mapped m.addr then s.bytes m.addr m.operand else [] }
      let loc := if at_.val < 256 then at_.val else m.destTile
      let o : NetMsg := { msg := r, loc := loc, inPort := if at_.val < 256 then 4 else e.inPort }
      { s with net := s.net ++ [o] })

/-- READ_RESP: the first one arrived at tile `p` delivers its data to the generator that asked; a response without data
is an access fault (R26, R28, R113). -/
def execReadResp (p : Tile) (s : State) : Host.Outcome State Fault Refusal :=
  .next (match s.arrivedAt p [kReadResp] with
    | none => s
    | some (i, e) =>
      let m := e.msg
      let n := m.destEp % 4
      let sl := s.slot p
      if !(s.agP p n sl).awaiting then s.netDrop i
      else if m.payload.isEmpty then
        (((s.netDrop i).setAg p n sl { s.agP p n sl with awaiting := false }).agFault p n AG_FAULT.remote_fault m.addr)
      else
        match s.agDeliver p n (m.payload.map (fun b => { b := b, mark := m.tok.mark })) with
        | none => s.agStall p n (AG_STALL_DEST p n)
        | some t =>
          let t := if m.tok.mark then t.setBit (AG_FAULT p n) AG_FAULT.ue_read true else t
          (t.netDrop i).agAdvance p n)

end Sys2Proof.Machine
end

