-- ==== Sys2Proof/Machine/Channels.lean ====
section
/-! DEFINITION. Machine/Channels.lean: channel endpoints, combining queues, overflow areas and synchronisation
counters (R164 to R193). -/
namespace Sys2Proof.Machine

/-! ## Counters (R187 to R193) -/

/-- An add to counter `n` of tile `p`: mod 2^64, the wrapped bit on passing 2^64; one to a disabled counter is
discarded. -/
def State.addCounter (s : State) (p n amount : Nat) : State :=
  if bitOf (s.fld (SYNC_EN p) SYNC_EN.enable) n then
    let v := s.fld (SYNC_CNT p n) SYNC_CNT.value + amount
    let s := s.setFld (SYNC_CNT p n) SYNC_CNT.value v
    if v < 2 ^ 64 then s else s.setFld (SYNC_WRAPPED p) ⟨n, 1⟩ 1
  else s.setBit (SYNC_FAULT p) SYNC_FAULT.counter_off true

/-- SYNC_ADD. -/
def execSyncAdd (p : Tile) (n : Fin 64) (amount : BitVec 32) (s : State) : Host.Outcome State Fault Refusal :=
  .next (s.addCounter p n amount.toNat)

/-- Sets a disabled counter to SYNC_SET_VALUE; one on an enabled counter is discarded. -/
def State.setCounter (s : State) (p n : Nat) : State :=
  if bitOf (s.fld (SYNC_EN p) SYNC_EN.enable) n then s.setBit (SYNC_FAULT p) SYNC_FAULT.set_refused true
  else s.setFld (SYNC_CNT p n) SYNC_CNT.value (s.fld (SYNC_SET_VALUE p) SYNC_SET_VALUE.value)

/-- SYNC_SET_CMD. -/
def execSyncSetCmd (p : Tile) (n : Fin 64) (s : State) : Host.Outcome State Fault Refusal := .next (s.setCounter p n)

/-- WAIT_MET: unit `u` of the active slot, stalled on a wait, resumes once its counter has reached the target. -/
def execWaitMet (p : Tile) (u : Fin 8) (s : State) : Host.Outcome State Fault Refusal :=
  let sl := s.slot p
  .next (
    if s.unitWaiting p u && s.waitMet p sl u then
      let s := (s.waitDone p sl u).setWaiting p u false
      let got := s.draw 16
      let n := got.1
      let s := got.2
      s.addMod (SYNC_STATUS p) SYNC_STATUS.wait_cycles n
    else s)

/-! ## Endpoint state -/

def State.epRole (s : State) (p e : Nat) : Nat := s.fld (CH_EP_CFG p e) CH_EP_CFG.role
def State.epQueue (s : State) (p e : Nat) : Nat := s.fld (CH_EP_CFG p e) CH_EP_CFG.queue
def State.epBit (s : State) (p e : Nat) (f : Field) : Bool := s.bit (CH_EP_STATE p e) f
def State.epOrdered (s : State) (p e : Nat) : Bool :=
  s.epRole p e = 2 && s.bit (CH_EP_CFG p e) CH_EP_CFG.ordered

/-- A saturating count of the channel block, unless frozen. -/
def State.chCount (s : State) (p a : Nat) (f : Field) : State :=
  if s.bit (CH_CTRL p) CH_CTRL.perf_freeze then s else s.addSat a f 1

/-- A fault of an endpoint: its bit, and the log unless it holds an entry. -/
def State.chFault (s : State) (p e : Nat) (f : Field) (reason seq : Nat) : State :=
  (s.setBit (CH_FAULT p) f true).logOnce (CH_FAULT_LOG p) (CH_FAULT_TIME p) CH_FAULT_LOG.held
    (e + (reason % 256) * 2 ^ 6 + (seq % 2 ^ 32) * 2 ^ 14)

/-- The endpoint takes a window; outstanding and nacked follow it. -/
def State.setEpWin (s : State) (p e : Nat) (u : EpUnit) : State :=
  let n := u.win.length
  let mask := ((List.range n).zip u.win).foldl (fun a x => a + (if x.2.nacked then 2 ^ x.1 else 0)) 0
  let s := ((s.setEp p e u).setFld (CH_EP_STATE p e) CH_EP_STATE.outstanding n).setFld (CH_EP_STATE p e) CH_EP_STATE.nacked mask
  s.notePeak (p * 128 + 64 + e) n

/-- Whether tile `p` has work pending (R180). -/
def State.chPending (s : State) (p : Nat) : Bool :=
  (List.range 64).any (fun e =>
    (s.epRole p e == 1 && !(s.ep p e).win.isEmpty) ||
    (s.epRole p e ≥ 2 &&
      (let r := s.dataRegion p (s.epQueue p e)
       s.rMode p r == mReceive && s.rHead p r != s.rTail p r)))

/-! ## Sending (R164, R166, R170, R189, R190) -/

/-- The message's destination as CH_EP_DEST has it now, before its first hop. -/
def State.addressed (s : State) (p e : Nat) (m : Msg) : Msg :=
  let d := CH_EP_DEST p e
  let cfg := CH_EP_CFG p e
  let vc := if m.kind = kToken ∨ m.kind = kCombine then 1 else s.fld cfg CH_EP_CFG.vc
  { m with vc := vc, escaped := false, adaptive := false, hops := 0, routeId := s.fld d CH_EP_DEST.route_id,
           destTile := s.fld d CH_EP_DEST.dest_tile, destEp := s.fld d CH_EP_DEST.dest_ep }

/-- Injects a message of endpoint `e`: at the Local port, or over the endpoint's DNC. -/
def State.chInject (s : State) (p e : Nat) (m : Msg) : State :=
  let m := s.addressed p e m
  let cfg := CH_EP_CFG p e
  let x : NetMsg :=
    if s.bit cfg CH_EP_CFG.dnc then
      { msg := m, loc := neighbour p (s.fld cfg CH_EP_CFG.dnc_dir), inPort := 8, arrived := true }
    else { msg := m, loc := p }
  { s with net := s.net ++ [x] }

/-- Sends one message and retains it. -/
def State.chSend (s : State) (p e : Nat) (m : Msg) (src : Option (Nat × Nat)) : State :=
  let a := CH_EP_STATE p e
  let seq := s.fld a CH_EP_STATE.next_seq
  let m := { m with ctx := (s.lease p).getD 0, srcTile := p, srcEp := e, srcVtile := s.fld (TILE_CTX p) TILE_CTX.vtile,
                    chanSeq := seq }
  let s := s.setFld a CH_EP_STATE.next_seq (seq + 1)
  let u := s.ep p e
  (s.setEpWin p e { u with win := u.win ++ [{ msg := s.addressed p e m, src := src }] }).chInject p e m

/-- Whether a sending endpoint's channel ends at an egress proxy (R374, R375). -/
def State.isRemote (s : State) (p e : Nat) : Bool :=
  match s.lease p with
  | none => false
  | some c => (s.ctx c).plate.remotes.any (fun r => r.role == 1 && r.vtile == s.fld (TILE_CTX p) TILE_CTX.vtile && r.ep == e)

/-- Sends the announce add of an endpoint (R190); towards an egress proxy it names the virtual counter of the far context
(R375). -/
def State.chAnnounce (s : State) (p e : Nat) : State :=
  let cfg := CH_EP_CFG p e
  let vid := s.fld cfg CH_EP_CFG.announce_vid
  let v := SYNC_MAP p vid
  let u := s.ep p e
  if s.bit v SYNC_MAP.valid || s.isRemote p e then
    if u.win.length < 4 then
      (s.setEp p e { u with announceDue := false }).chSend p e
        { kind := kAdd, addr := if s.isRemote p e then vid else s.fld v SYNC_MAP.counter,
          operand := s.fld cfg CH_EP_CFG.announce_amount } none
    else s.setEp p e { u with announceDue := true }
  else ((s.setEp p e { u with announceDue := false }).setBit (SYNC_FAULT p) SYNC_FAULT.unmapped true).ctxNote p 0x46

/-- Sends header `h` of queue `q` as one message: DATA with its payload, a COMBINE where the channel combines, or a
TOKEN. The combine index of a COMBINE is free (log 14). -/
def State.chSendHdr (s : State) (p e q : Nat) (h : Hdr) : State :=
  let d := CH_EP_DEST p e
  let combines := !s.isRemote p e && s.epRole (s.fld d CH_EP_DEST.dest_tile) (s.fld d CH_EP_DEST.dest_ep) == 3
  if h.typ = tData then
    let r := s.dataRegion p q
    let pay := s.payloadOf p q h
    let got := s.readUe p (tsBase p + s.rBase p r + h.offVal) h.length 0
    let ue := got.1
    let s := got.2
    let h := if ue then { h with mark := true } else h
    let src := some (r, h.offVal - 64)
    if combines then
      let got := s.draw 32
      let i := got.1
      let s := got.2
      s.chSend p e { kind := kCombine, tok := h, addr := i, payload := pay } src
    else s.chSend p e { kind := kData, tok := h, payload := pay } src
  else s.chSend p e { kind := kToken, tok := h } none

/-- After a message: its announce add, and the end of a batch. -/
def State.chAfter (s : State) (p e : Nat) (h : Hdr) : State :=
  let an := s.fld (CH_EP_CFG p e) CH_EP_CFG.announce
  let s := if an = 1 ∨ (an = 2 ∧ h.typ = tEob) then s.chAnnounce p e else s
  if h.typ = tEob then s.eobPassed p uEp else s

/-- Whether an endpoint may send: SEND, neither halted, halting nor stopped, its slot not waiting, its DNC in
service. -/
def State.chMaySend (s : State) (p e : Nat) : Bool :=
  let a := CH_EP_STATE p e
  let cfg := CH_EP_CFG p e
  s.epRole p e == 1 && s.mayStart p uEp && !s.bit a CH_EP_STATE.halted && !s.bit a CH_EP_STATE.halting &&
    !s.bit a CH_EP_STATE.stopped &&
    (!s.bit cfg CH_EP_CFG.dnc || (!s.dncFenced p (s.fld cfg CH_EP_CFG.dnc_dir) &&
      decide (neighbour p (s.fld cfg CH_EP_CFG.dnc_dir) < 256)))

/-- MESSAGE_SEND: endpoint `e` sends an announce add that is due, or the next header of its source queue. -/
def execMessageSend (p : Tile) (e : Fin 64) (s : State) : Host.Outcome State Fault Refusal :=
  let cfg := CH_EP_CFG p e
  let q := s.epQueue p e
  .next (
    if !s.chMaySend p e then s
    else if s.fld cfg CH_EP_CFG.announce ≠ 0 ∧ s.fld cfg CH_EP_CFG.announce_amount = 0 then
      s.unitConfig p (CH_FAULT p) CH_FAULT.config_fault
    else if (s.ep p e).win.length ≥ 4 then
      if s.bit (CH_CTRL p) CH_CTRL.perf_freeze then s
      else
        let got := s.draw 6
        let n := got.1
        let s := got.2
        s.addSat (CH_EP_STATE p e) CH_EP_STATE.window_stall n
    else if (s.ep p e).announceDue then s.chAnnounce p e
    else
      let s := s.purge p q
      match s.present p q (s.slot p) with
      | some x => ((s.chSendHdr p e q x.hdr).pop p q x).chAfter p e x.hdr
      | none => s)

/-! ## Replies (R169, R172) -/

/-- Answers a message with an ACK or NACK: through the mesh, or back over its DNC. -/
def State.chReply (s : State) (p inPort : Nat) (m : Msg) (kind operand : Nat) : State :=
  let r : Msg :=
    { kind := kind, vc := 2, ctx := m.ctx, destTile := m.srcTile, destEp := m.srcEp, srcTile := p, srcEp := m.destEp,
      srcVtile := m.srcVtile, chanSeq := m.chanSeq, operand := operand }
  let x : NetMsg := if inPort = 8 then { msg := r, loc := m.srcTile, inPort := 8, arrived := true } else { msg := r, loc := p }
  { s with net := s.net ++ [x] }

/-- A message is accepted: its ACK, and an adaptive delivery is counted (R159). -/
def State.chAck (s : State) (p inPort : Nat) (m : Msg) : State :=
  let s := if m.adaptive then s.addMod (CH_NDC p) CH_NDC.count 1 else s
  s.chReply p inPort m kAck 0

/-- A message is refused. A refusal for room is remembered for the spill choice (R181). -/
def State.chNack (s : State) (p e inPort : Nat) (m : Msg) (reason : Nat) : State :=
  let s := s.chCount p (CH_NACKS p) CH_NACKS.sent
  let s := if reason = 0x01 ∨ reason = 0x05 then s.setBit (CH_EP_STATE p e) CH_EP_STATE.refused true else s
  let s := if reason = 0x01 then
      let r := s.dataRegion p (s.epQueue p e)
      s.addSat (RGN_COUNTS p r) RGN_COUNTS.refused 1
    else s
  s.chReply p inPort m kNack reason

/-! ## Sender records (R165, R166) -/

/-- How far a 32-bit number is ahead of another (R166). -/
def ahead32 (a b : Nat) : Nat := (a + 2 ^ 32 - b % 2 ^ 32) % 2 ^ 32

/-- Whether `a` lies before `b`. -/
def before32 (a b : Nat) : Bool := decide (2 ^ 31 ≤ ahead32 a b)

/-- The sender record of a message at endpoint `e`. -/
def State.senderOf (s : State) (p e : Nat) (m : Msg) : Option Nat :=
  (List.range 256).find? (fun i =>
    s.bit (CH_SND p i) CH_SND.valid && s.fld (CH_SND p i) CH_SND.endpoint == e &&
      s.fld (CH_SND p i) CH_SND.src_vtile == m.srcVtile && s.fld (CH_SND p i) CH_SND.src_ep == m.srcEp)

def State.sndExpected (s : State) (p i : Nat) : Nat := s.fld (CH_SND p i) CH_SND.expected_seq
def State.sndAdvance (s : State) (p i : Nat) : State := s.addMod (CH_SND p i) CH_SND.expected_seq 1

/-- Sender records of an endpoint. -/
def State.sendersOf (s : State) (p e : Nat) : List Nat :=
  (List.range 256).filter (fun i => s.bit (CH_SND p i) CH_SND.valid && s.fld (CH_SND p i) CH_SND.endpoint == e)

/-! ## The reorder store (R167) -/

/-- Whether an entry of the reorder store can be presented: no earlier message of its sender is outstanding. -/
def State.rorReady (s : State) (p : Nat) (x : Reorder) : Bool :=
  let d := ahead32 x.seq (s.sndExpected p x.snd)
  (d == 0 || decide (d ≥ 2 ^ 31)) &&
    !(s.ep p x.ep).ovf.any (fun o => o.1 == x.snd && before32 o.2 x.seq) &&
    (x.add.isSome || s.hasRoom p (s.epQueue p x.ep))

/-- Presents one entry: its add takes effect, or its header is pushed. -/
def State.rorPresent (s : State) (p : Nat) (x : Reorder) : State :=
  let s := s.setRor p ((s.ror p).erase x)
  let s := if x.seq = s.sndExpected p x.snd then s.sndAdvance p x.snd else s
  match x.add with
  | some (n, a) => s.addCounter p n a
  | none => s.pushIn p (s.epQueue p x.ep) x.hdr

/-- Presents every entry of the tile's store that can be. -/
def State.rorFlush (s : State) (p fuel : Nat) : State :=
  match fuel with
  | 0 => s
  | n + 1 =>
    match (s.ror p).find? (fun x => s.rorReady p x) with
    | some x => (s.rorPresent p x).rorFlush p n
    | none => s

/-- Puts an entry in the store and presents what can be presented. -/
def State.rorAdd (s : State) (p : Nat) (x : Reorder) : State := (s.setRor p (s.ror p ++ [x])).rorFlush p 65

def State.rorFull (s : State) (p : Nat) : Bool := decide ((s.ror p).length ≥ 64)

/-! ## Overflow areas (R182 to R184) -/

/-- Bytes of the overflow area of an endpoint. -/
def State.ovfSize (s : State) (p e : Nat) : Nat := s.fld (CH_OVF_STATE p e) CH_OVF_STATE.size_64k * 0x10000

/-- The overflow areas of a context: base and size. -/
def State.ovfAreas (s : State) (c : Nat) : List (Nat × Nat) :=
  ((List.range 256).filter (fun p => s.lease p == some c)).flatMap (fun p =>
    ((List.range 64).filter (fun e => s.epBit p e CH_EP_STATE.overflow)).map (fun e =>
      (s.fld (CH_OVF_BASE p e) CH_OVF_BASE.base, s.ovfSize p e)))

/-- Whether two ranges of bytes meet. -/
def meets (a n b m : Nat) : Bool := decide (a < b + m) && decide (b < a + n)

def mib : Nat := 0x100000

/-- The spill area of a context: first address and bytes. -/
def State.spillOf (s : State) (c : Nat) : Nat × Nat :=
  (s.fld (SCU_CTX_SPILL c) SCU_CTX_SPILL.base_mib * mib, s.fld (SCU_CTX_SPILL c) SCU_CTX_SPILL.size_mib * mib)

/-- The lowest `n` bytes of a context's spill area, on a 1 MiB boundary of it, that no area takes. -/
def State.ovfFree (s : State) (c n : Nat) : Option Nat :=
  let got := s.spillOf c
  let base := got.1
  let size := got.2
  let areas := s.ovfAreas c
  ((List.range (size / mib)).map (fun i => base + i * mib)).find? (fun b =>
    decide (b + n ≤ base + size) && !areas.any (fun a => meets b n a.1 a.2))

/-- Firmware adds 1 MiB to an overflow area: behind it, or by moving it where a run is free; the spill has failed where
there is none (R182, R184). -/
def State.ovfGrow (s : State) (p e : Nat) : State :=
  match s.lease p with
  | none => s
  | some c =>
    let got := s.spillOf c
    let base := got.1
    let size := got.2
    let b := s.fld (CH_OVF_BASE p e) CH_OVF_BASE.base
    let n := s.ovfSize p e
    let inPlace := decide (b + n + mib ≤ base + size) &&
      !(s.ovfAreas c).any (fun a => meets (b + n) mib a.1 a.2)
    if inPlace && decide (n ≠ 0) then s.addMod (CH_OVF_STATE p e) CH_OVF_STATE.size_64k 16
    else match s.ovfFree c (n + mib) with
      | some d =>
        ((s.copyRange b d n).setFld (CH_OVF_BASE p e) CH_OVF_BASE.base d).addMod (CH_OVF_STATE p e)
          CH_OVF_STATE.size_64k 16
      | none => s.ctxNote p 0x44

/-- Writes a record into the overflow area; none where it does not fit. -/
def State.ovfPut (s : State) (p e snd seq srcVtile : Nat) (h : Hdr) (payload : List Byte) : Option State :=
  let need := 64 + roundUp payload.length 64
  let u := s.ep p e
  if u.ovfWrite + need ≤ s.ovfSize p e then
    let h := if payload.isEmpty then h else { h with length := payload.length }
    let pad := List.replicate (need - 64 - payload.length) (0 : Byte)
    let s := s.setBytes (s.fld (CH_OVF_BASE p e) CH_OVF_BASE.base + u.ovfWrite)
      (recordHeader h 1 srcVtile need ++ payload ++ pad)
    some ((s.setEp p e { u with ovfWrite := u.ovfWrite + need, ovf := u.ovf ++ [(snd, seq)] }).addMod
      (CH_OVF_STATE p e) CH_OVF_STATE.records_held 1)
  else none

/-- Whether the endpoint's overflow area holds a record. -/
def State.ovfHolds (s : State) (p e : Nat) : Bool :=
  s.epBit p e CH_EP_STATE.overflow && !(s.ep p e).ovf.isEmpty

/-- The endpoint leaves overflow: an event, and its area is freed. -/
def State.ovfLeave (s : State) (p e : Nat) : State :=
  let s := s.setBit (CH_EP_STATE p e) CH_EP_STATE.overflow false
  let s := s.setEp p e { s.ep p e with ovfRead := 0, ovfWrite := 0 }
  let s := (s.setReg (CH_OVF_BASE p e) 0).setReg (CH_OVF_STATE p e) 0
  s.event 0x000D ((s.lease p).getD 0xFF) (fieldsFrom 0 [(1, p), (1, e)])

/-! ## Receiving (R166 to R169, R182) -/

/-- Whether a message is a duplicate: before the expected one, or already placed and not yet presented. -/
def State.chIsDup (s : State) (p e i : Nat) (seq : Nat) : Bool :=
  before32 seq (s.sndExpected p i) || (s.ror p).any (fun x => x.snd == i && x.seq == seq) ||
    (s.epOrdered p e && (s.ep p e).ovf.any (fun o => o.1 == i && o.2 == seq))

/-- Skip mode of a heal (R269): sender `i` has sent its first END_OF_BATCH; the bit clears when all have. -/
def State.skipPassed (s : State) (p e i : Nat) : State :=
  let u := s.ep p e
  let l := i :: u.skipDone
  if (s.sendersOf p e).all (fun k => l.contains k) then
    (s.setEp p e { u with skipDone := [] }).setFld (TILE_HEAL_SKIP p) ⟨e, 1⟩ 0
  else s.setEp p e { u with skipDone := l }

/-- Whether skip mode discards what sender `i` sends. -/
def State.skipping (s : State) (p e i : Nat) : Bool :=
  bitOf (s.fld (TILE_HEAL_SKIP p) TILE_HEAL_SKIP.skip) e && !(s.ep p e).skipDone.contains i

/-- What presenting a message in its ring answers. -/
inductive Taken where
  | ok (s : State)
  | noRoom (s : State)
  | oversize (s : State)

/-- A message in sequence of sender `i` is placed (R167): a DIRECT endpoint's record, or an ORDERED endpoint's record
in the data region and its header in the reorder store. Of a message already acknowledged, expected_seq has passed. -/
def State.chPlace (s : State) (p e i seq srcVtile : Nat) (h : Hdr) (payload : List Byte) : Taken :=
  let q := s.epQueue p e
  let next := fun (s : State) => if seq = s.sndExpected p i then s.sndAdvance p i else s
  if s.epRole p e = 3 then
    match s.pushItem p q h with
    | some t => .ok (next t)
    | none => .noRoom s
  else if s.epOrdered p e then
    if h.typ = tData then
      match s.place p (s.dataRegion p q) 1 srcVtile h payload with
      | .ok t off => .ok (t.rorAdd p { ep := e, snd := i, seq := seq, hdr := { h with offVal := off + 64, length := payload.length } })
      | .noRoom t => .noRoom t
      | .oversize t => .oversize t
    else .ok (s.rorAdd p { ep := e, snd := i, seq := seq, hdr := h })
  else
    match s.place p q 1 srcVtile h payload with
    | .ok t _ => .ok (next t)
    | .noRoom t => .noRoom t
    | .oversize t => .oversize t

/-- Puts a message into the overflow area and acknowledges it, or refuses it with SPILL_FULL and lets firmware add
room. -/
def State.chOverflow (s : State) (p e i inPort : Nat) (m : Msg) : State :=
  match s.ovfPut p e i m.chanSeq m.srcVtile m.tok m.payload with
  | some t => (if s.epOrdered p e then t else t.sndAdvance p i).chAck p inPort m
  | none => ((s.chFault p e CH_FAULT.spill_full 0x05 m.chanSeq).chNack p e inPort m 0x05).ovfGrow p e

/-- Takes a DATA or TOKEN message of sender `i` that is no duplicate. -/
def State.chTake (s : State) (p e i inPort : Nat) (m : Msg) : State :=
  let early := m.chanSeq != s.sndExpected p i
  let ord := s.epOrdered p e
  if early && !ord then s.chNack p e inPort m 0x03
  else if m.payload.length > s.maxMsg p (s.dataRegion p (s.epQueue p e)) ∧ m.kind = kData then
    (s.setBit (RGN_STATUS p (s.dataRegion p (s.epQueue p e))) RGN_STATUS.oversize true).chNack p e inPort m 0x02
  else if s.ovfHolds p e then s.chOverflow p e i inPort m
  else if s.skipping p e i && m.tok.typ != tEob then
    if early then s.chNack p e inPort m 0x03
    else ((s.sndAdvance p i).addSat (TILE_HEAL_DISCARDS p) TILE_HEAL_DISCARDS.count 1).chAck p inPort m
  else if ord && s.rorFull p then
    (s.setBit (CH_FAULT p) CH_FAULT.reorder_full true).chNack p e inPort m 0x03
  else
    let t := if s.skipping p e i && !early then s.skipPassed p e i else s
    match t.chPlace p e i m.chanSeq m.srcVtile m.tok m.payload with
    | .ok t => t.chAck p inPort m
    | .oversize t => t.chNack p e inPort m 0x02
    | .noRoom t =>
      if s.epBit p e CH_EP_STATE.overflow then s.chOverflow p e i inPort m
      else (if s.skipping p e i then s else t).chNack p e inPort m 0x01

/-- An arrived message of a sender that the endpoint does not know (R165). -/
def State.chUnknown (s : State) (p e : Nat) (m : Msg) : State :=
  (s.chFault p e CH_FAULT.config_fault 0xFF m.chanSeq).ctxNote p 0x42

/-- What an endpoint does with arrived message `i` of the mesh before its kind matters: a fenced tile, a stale token, a
closed endpoint, an unknown sender, a duplicate; else `take`. -/
def State.chArrived (s : State) (p i : Nat) (x : NetMsg) (roles : List Nat) (take : State → Nat → State) : State :=
  let m := x.msg
  let e := m.destEp % 64
  let s := (s.netDrop i).rorFlush p 65
  if s.fenced p then s.rtNack p m 0x14
  else if m.kind ≠ kAdd ∧ s.stale p m.tok then s.staleNote p m.tok e false
  else if !roles.contains (s.epRole p e) || (s.ep p e).aborted then s.chNack p e x.inPort m 0x06
  else match s.senderOf p e m with
    | none => s.chUnknown p e m
    | some k =>
      if s.chIsDup p e k m.chanSeq then
        (s.chCount p (CH_DUPS p) CH_DUPS.duplicates).chReply p x.inPort m kAck 0
      else take s k

/-- The first arrived message of a kind at tile `p` is taken. -/
def State.chFirst (s : State) (p kind : Nat) (roles : List Nat) (take : Msg → Nat → State → Nat → State) : State :=
  match s.arrivedAt p [kind] with
  | none => s
  | some (i, x) => s.chArrived p i x roles (take x.msg x.inPort)

/-- DATA at a tile. -/
def State.dataAt (s : State) (p : Nat) : State :=
  s.chFirst p kData [2] (fun m inPort s k => s.chTake p (m.destEp % 64) k inPort m)

/-- TOKEN at a tile. -/
def State.tokenAt (s : State) (p : Nat) : State :=
  s.chFirst p kToken [2, 3] (fun m inPort s k => s.chTake p (m.destEp % 64) k inPort m)

/-- Takes a counter add of sender `k` (R189, R190). -/
def State.chTakeAdd (s : State) (p inPort : Nat) (m : Msg) (k : Nat) : State :=
  let e := m.destEp % 64
  let early := m.chanSeq != s.sndExpected p k
  let wait := (s.ep p e).ovf.any (fun o => o.1 == k)
  if early && !s.epOrdered p e then s.chNack p e inPort m 0x03
  else if early || wait then
    if s.rorFull p then (s.setBit (CH_FAULT p) CH_FAULT.reorder_full true).chNack p e inPort m 0x03
    else
      let s := if early || s.epOrdered p e then s else s.sndAdvance p k
      (s.rorAdd p { ep := e, snd := k, seq := m.chanSeq, add := some (m.addr % 64, m.operand) }).chAck p inPort m
  else (((s.sndAdvance p k).addCounter p (m.addr % 64) m.operand).rorFlush p 65).chAck p inPort m

/-- COUNTER_ADD at a tile. -/
def State.addAt (s : State) (p : Nat) : State := s.chFirst p kAdd [2, 3] (fun m inPort s k => s.chTakeAdd p inPort m k)

/-- The oldest overflow record of endpoint `e` is returned to the ring, if the ring has room for it. -/
def State.ovfReturn (s : State) (p e : Nat) : State :=
  let u := s.ep p e
  match u.ovf with
  | [] => s.ovfLeave p e
  | (i, seq) :: rest =>
    let a := s.fld (CH_OVF_BASE p e) CH_OVF_BASE.base + u.ovfRead
    let len := s.num (a + 20) 4
    let h := decodeHdr (s.num a 16)
    let pay := if h.typ = tData then s.bytes (a + 64) h.length else []
    let gone := fun (s : State) =>
      let s := (s.setEp p e { s.ep p e with ovfRead := u.ovfRead + len, ovf := rest }).setFld (CH_OVF_STATE p e)
        CH_OVF_STATE.records_held rest.length
      let s := s.rorFlush p 65
      if rest.isEmpty then s.ovfLeave p e else s
    if s.skipping p e i && h.typ != tEob then
      gone (s.addSat (TILE_HEAL_DISCARDS p) TILE_HEAL_DISCARDS.count 1)
    else if s.epOrdered p e && s.rorFull p then s
    else
      let t := if s.skipping p e i then s.skipPassed p e i else s
      match t.chPlace p e i seq (s.num (a + 18) 2) h pay with
      | .ok t => gone t
      | _ => s

/-- OVERFLOW_RETURN. -/
def execOverflowReturn (p : Tile) (e : Fin 64) (s : State) : Host.Outcome State Fault Refusal :=
  .next (if s.epBit p e CH_EP_STATE.overflow then s.ovfReturn p e else s)

/-! ## Acknowledgements and retries (R170 to R173) -/

/-- Whether the record that a window entry retains can be released now (R124). -/
def State.canRelease (s : State) (p : Nat) (src : Option (Nat × Nat)) : Bool :=
  match src with
  | none => true
  | some (r, off) => (s.rEnts p r).any (fun x => x.off == off && x.kind != 3)

/-- Releases the record that a window entry retains. -/
def State.releaseSrc (s : State) (p : Nat) (src : Option (Nat × Nat)) : State :=
  match src with
  | none => s
  | some (r, off) => s.release p r off

/-- The window entry of a chan_seq. -/
def EpUnit.entry (u : EpUnit) (seq : Nat) : Option WinEntry := u.win.find? (fun w => w.msg.chanSeq == seq)

/-- An entry leaves the window, its record released. -/
def State.winOut (s : State) (p e : Nat) (w : WinEntry) : State :=
  let u := s.ep p e
  (s.setEpWin p e { u with win := u.win.erase w }).releaseSrc p w.src

/-- ACK at a tile: the first arrived one releases its message's source record and sets nack_run to 0. -/
def State.ackAt (s : State) (p : Nat) : State :=
  match s.arrivedAt p [kAck] with
  | none => s
  | some (i, x) =>
    let e := x.msg.destEp % 64
    match (s.ep p e).entry x.msg.chanSeq with
    | none => s.netDrop i
    | some w =>
      if s.canRelease p w.src then
        ((s.netDrop i).winOut p e w).setFld (CH_EP_STATE p e) CH_EP_STATE.nack_run 0
      else s.releaseSrc p w.src

/-- Whether a NACK reason asks for a retry (R172). -/
def retryReason (r : Nat) : Bool := [0x01, 0x03, 0x04, 0x05, 0x11, 0x13, 0x14].contains r

/-- A NACK reaches a sending endpoint. -/
def State.chNacked (s : State) (p e : Nat) (w : WinEntry) (reason : Nat) : State :=
  let u := s.ep p e
  if retryReason reason then
    let s := s.setEpWin p e { u with roundNacked := true, win := u.win.map (fun x => if x = w then { x with nacked := true } else x) }
    if u.roundNacked then s
    else s.setFld (CH_EP_STATE p e) CH_EP_STATE.nack_run (min 15 (s.fld (CH_EP_STATE p e) CH_EP_STATE.nack_run + 1))
  else if reason = 0x06 then (s.setEp p e { u with discarded := u.discarded + 1 }).winOut p e w
  else
    let s := s.setBit (CH_EP_STATE p e) CH_EP_STATE.stopped true
    (s.chFault p e CH_FAULT.nack_fault reason w.msg.chanSeq).ctxNote p 0x43

/-- A NACK of a remote access of an address generator: an access fault (R28). -/
def State.agNacked (s : State) (p n : Nat) (m : Msg) : State :=
  let sl := s.slot p
  (s.setAg p n sl { s.agP p n sl with awaiting := false }).agFault p n AG_FAULT.remote_fault m.addr

/-- NACK at a tile: the first arrived one. -/
def State.nackAt (s : State) (p : Nat) : State :=
  match s.arrivedAt p [kNack] with
  | none => s
  | some (i, x) =>
    let t := s.netDrop i
    if x.msg.destEp ≥ 64 then t.agNacked p (x.msg.destEp % 4) x.msg
    else
      let e := x.msg.destEp
      let t := t.chCount p (CH_NACKS p) CH_NACKS.received
      match (t.ep p e).entry x.msg.chanSeq with
      | none => t
      | some w => t.chNacked p e w (x.msg.operand % 256)

/-- Whether an endpoint sends again. -/
def State.chMayResend (s : State) (p e : Nat) : Bool :=
  s.epRole p e == 1 && !s.fenced p && !(s.ep p e).aborted && !s.epBit p e CH_EP_STATE.stopped

/-- RETRY_ROUND of an endpoint: its wait ends, and every NACKed message of its window is sent again in chan_seq order. -/
def State.retryRound (s : State) (p e : Nat) : State :=
  let u := s.ep p e
  if s.chMayResend p e && u.roundNacked then
    let again := u.win.filter (fun w => w.nacked)
    let s := s.setEpWin p e { u with roundNacked := false, win := u.win.map (fun w => { w with nacked := false }) }
    again.foldl (fun s w => s.chInject p e w.msg) s
  else s

/-- ACK_TIMEOUT of an endpoint: entry `i` of the window, with neither ACK nor NACK for ack_timeout, is sent again without
back-off. -/
def State.ackTimeout (s : State) (p e i : Nat) : State :=
  match (s.ep p e).win[i]? with
  | none => s
  | some w =>
    if s.chMayResend p e && !w.nacked then (s.chCount p (CH_DUPS p) CH_DUPS.ack_timeouts).chInject p e w.msg
    else s

/-! ## Combining queues (R176 to R179) -/

/-- Bytes of the accumulated values for a contribution of `n` bytes. -/
def accBytes (op n : Nat) : Nat := if op = 1 then 2 * n else n

/-- Bytes of an entry. -/
def entryBytes (op n : Nat) : Nat := 64 + roundUp (accBytes op n) 64

/-- Address of entry `i` of endpoint `e`'s combining region; none beyond the region. -/
def State.combineAt (s : State) (p e i : Nat) : Option Nat :=
  let r := s.fld (CH_EP_CFG p e) CH_EP_CFG.combine_region
  let op := s.fld (CH_EP_CFG p e) CH_EP_CFG.combine_op
  let b := tsBase p + s.rBase p r
  let step := entryBytes op (s.num (b + 4) 4)
  if s.rMode p r = mState ∧ (i + 1) * step ≤ s.rSize p r then some (b + i * step) else none

/-- The 32-bit numbers in a list of bytes. -/
def words32 (l : List Byte) : List Nat := (List.range (l.length / 4)).map (fun i => ofBytes ((l.drop (4 * i)).take 4))

/-- Contribution elements as accumulator words. -/
def combineElems (op : Nat) (l : List Byte) : List Nat :=
  if op = 1 then (List.range (l.length / 2)).map (fun i => ofBytes ((l.drop (2 * i)).take 2) * 2 ^ 16) else words32 l

/-- One fold of an element (R177). -/
def combineFold (op : Nat) (first : Bool) (acc v : Nat) : Nat :=
  match op with
  | 2 => (acc + v) % 2 ^ 32
  | 3 => fpMax acc v
  | _ => if first then v else fpAdd acc v

/-- The identity of an operation: +0 for the adds, -Inf for MAX. -/
def combineId (op : Nat) : Nat := if op = 3 then 0xFF800000 else 0

/-- Folds a contribution of sender index `ix` into the entry at `a`. -/
def State.combineIn (s : State) (op a ix : Nat) (m : Msg) : State :=
  let got := s.num (a + 2) 1
  let n := accBytes op m.payload.length
  let acc := (words32 (s.bytes (a + 64) n)).zip (combineElems op m.payload)
  let s := s.setBytes (a + 64) (acc.flatMap (fun x => leBytes 4 (combineFold op (got = 0) x.1 x.2)))
  let s := if got = 0 then s.setBytes (a + 16) (leBytes 16 (encodeHdr m.tok)) else s
  let fl := Nat.lor (s.num (a + 3) 1) (b2n (ix != got) + 4 * b2n m.tok.mark + 2 * b2n (got + 1 == s.num a 2))
  let s := (s.setBytes (a + 2) (leBytes 1 (got + 1))).setBytes (a + 3) (leBytes 1 fl)
  s.setBytes (a + 8) (leBytes 8 (Nat.lor (s.num (a + 8) 8) (2 ^ ix)))

/-- Takes a contribution of sender record `k`. -/
def State.chTakeCombine (s : State) (p inPort : Nat) (m : Msg) (k : Nat) : State :=
  let e := m.destEp % 64
  let op := s.fld (CH_EP_CFG p e) CH_EP_CFG.combine_op
  let ix := s.fld (CH_SND p k) CH_SND.sender_index
  let bad := fun (s : State) =>
    (s.chFault p e CH_FAULT.bad_combine 0x07 m.chanSeq).chNack p e inPort m 0x07
  if m.chanSeq ≠ s.sndExpected p k then s.chNack p e inPort m 0x03
  else if s.skipping p e k then
    ((s.sndAdvance p k).addSat (TILE_HEAL_DISCARDS p) TILE_HEAL_DISCARDS.count 1).chAck p inPort m
  else match s.combineAt p e m.addr with
    | none => bad s
    | some a =>
      if m.payload.length ≠ s.num (a + 4) 4 ∨ ix ≥ s.num a 2 then bad s
      else if bitOf (s.num (a + 3) 1) 1 then s.chNack p e inPort m 0x04
      else if bitOf (s.num (a + 8) 8) ix then
        ((s.sndAdvance p k).chCount p (CH_DUPS p) CH_DUPS.duplicates).chReply p inPort m kAck 0
      else ((s.sndAdvance p k).combineIn op a ix m).chAck p inPort m

/-- COMBINE at a tile. -/
def State.combineMsg (s : State) (p : Nat) : State := s.chFirst p kCombine [3] (fun m inPort s k => s.chTakeCombine p inPort m k)

/-- The result of an entry whose accumulated values are `l`. -/
def combineResult (op : Nat) (l : List Nat) : List Byte :=
  if op = 1 then l.flatMap (fun v => leBytes 2 (roundBF16 v)) else l.flatMap (fun v => leBytes 4 v)

/-- The entry at `a` is reset for its next round. -/
def State.combineReset (s : State) (op a n : Nat) : State :=
  let s := (s.setBytes (a + 2) [0, 0]).setBytes (a + 8) (List.replicate 24 0)
  s.setBytes (a + 64) ((List.range (n / 4)).flatMap (fun _ => leBytes 4 (combineId op)))

/-- COMBINE_EMIT: entry `index`, complete, writes its result once its output has room (R178, R179). -/
def execCombineEmit (p : Tile) (e : Fin 64) (index : BitVec 32) (s : State) : Host.Outcome State Fault Refusal :=
  let op := s.fld (CH_EP_CFG p e) CH_EP_CFG.combine_op
  .next (
    if s.epRole p e ≠ 3 then s
    else match s.combineAt p e index.toNat with
      | none => s
      | some a =>
        let fl := s.num (a + 3) 1
        let n := accBytes op (s.num (a + 4) 4)
        let st := decodeHdr (s.num (a + 16) 16)
        let h : Hdr := { typ := tData, slot := st.slot, epoch := st.epoch, mark := bitOf fl 2, itemTag := st.itemTag }
        if !bitOf fl 1 then s
        else match s.emitItem p (s.epQueue p e) h (combineResult op (words32 (s.bytes (a + 64) n))) with
          | none => s
          | some t =>
            let t := if bitOf fl 0 then t.addMod (CH_NDC p) CH_NDC.count 1 else t
            t.combineReset op a n)

/-! ## Halts (R185, R186) -/

/-- ABORT of an endpoint: a sending one releases its retained messages unsent and counts them; a receiving one refuses
what comes. -/
def State.epAbort (s : State) (p e : Nat) : State :=
  let u := s.ep p e
  let s := u.win.foldl (fun s w => s.releaseSrc p w.src) s
  let s := s.setEpWin p e { u with win := [], roundNacked := false, announceDue := false, aborted := true,
                                   discarded := u.discarded + u.win.length }
  (s.setBit (CH_EP_STATE p e) CH_EP_STATE.halting false).setBit (CH_EP_STATE p e) CH_EP_STATE.halted true

/-- Starts a halt of an endpoint. -/
def State.epHalt (s : State) (p e mode : Nat) : State :=
  if s.epBit p e CH_EP_STATE.halted then s
  else if mode = 0 then s.setBit (CH_EP_STATE p e) CH_EP_STATE.halting true
  else if mode = 1 then s.epAbort p e
  else s

/-- CH_EP_HALT_REQ. -/
def execChEpHaltReq (p : Tile) (e : Fin 64) (mode : BitVec 2) (s : State) : Host.Outcome State Fault Refusal :=
  .next ((s.setFld (CH_EP_CTRL p e) CH_EP_CTRL.halt_mode mode.toNat).epHalt p e mode.toNat)

/-- resume clears halted. -/
def State.epResume (s : State) (p e : Nat) : State :=
  (s.setEp p e { s.ep p e with aborted := false }).setBit (CH_EP_STATE p e) CH_EP_STATE.halted false

/-- CH_EP_RESUME. -/
def execChEpResume (p : Tile) (e : Fin 64) (s : State) : Host.Outcome State Fault Refusal :=
  .next (if s.fenced p then s else s.epResume p e)

/-- The tile of a virtual tile of the context that leases `p`. -/
def State.tileOfV (s : State) (p v : Nat) : Option Nat :=
  (List.range 256).find? (fun t => s.lease t == s.lease p && s.fld (TILE_CTX t) TILE_CTX.vtile == v &&
    !s.bit (TILE_CTX t) TILE_CTX.reserve)

/-- Whether a sending endpoint has drained. -/
def State.sendDrained (s : State) (p e : Nat) : Bool :=
  (s.ep p e).win.isEmpty && (s.epBit p e CH_EP_STATE.halted || s.epBit p e CH_EP_STATE.halting)

/-- Whether a halting endpoint has drained: its window is empty, or every sender of its channel has drained and no
message of theirs is on its way. -/
def State.epDrained (s : State) (p e : Nat) : Bool :=
  if s.epRole p e = 1 then s.sendDrained p e
  else
    (s.sendersOf p e).all (fun i =>
      match s.tileOfV p (s.fld (CH_SND p i) CH_SND.src_vtile) with
      | some t => s.sendDrained t (s.fld (CH_SND p i) CH_SND.src_ep)
      | none => true) &&
    !s.net.any (fun x => x.msg.destTile == p && x.msg.destEp == e && x.msg.kind != kAck && x.msg.kind != kNack && x.msg.vc != 4)

/-- ENDPOINT_HALT_COMPLETE: a halting endpoint that has drained is halted. -/
def execEndpointHaltComplete (p : Tile) (e : Fin 64) (s : State) : Host.Outcome State Fault Refusal :=
  .next (
    if s.epBit p e CH_EP_STATE.halting && s.epDrained p e then
      (s.setBit (CH_EP_STATE p e) CH_EP_STATE.halting false).setBit (CH_EP_STATE p e) CH_EP_STATE.halted true
    else s)

/-- ENDPOINT_DRAIN_TIMEOUT: a DRAIN that has not ended proceeds as ABORT. -/
def execEndpointDrainTimeout (p : Tile) (e : Fin 64) (s : State) : Host.Outcome State Fault Refusal :=
  .next (
    if s.epBit p e CH_EP_STATE.halting then (s.epAbort p e).setBit (CH_FAULT p) CH_FAULT.drain_fallback true
    else s)

/-- Puts a halted receiving endpoint into overflow. -/
def State.overflowOn (s : State) (p e : Nat) : State :=
  if s.epRole p e = 2 ∧ s.epBit p e CH_EP_STATE.halted ∧ !s.epBit p e CH_EP_STATE.overflow then
    (s.setEp p e { s.ep p e with ovfRead := 0, ovfWrite := 0, ovf := [] }).setBit (CH_EP_STATE p e)
      CH_EP_STATE.overflow true
  else s

/-- OVERFLOW_ON. -/
def execOverflowOn (p : Tile) (e : Fin 64) (s : State) : Host.Outcome State Fault Refusal := .next (s.overflowOn p e)

/-- Marks a halted sending endpoint's window acknowledged and releases it. -/
def State.markAcked (s : State) (p e : Nat) : State :=
  if s.epRole p e = 1 ∧ s.epBit p e CH_EP_STATE.halted then
    let u := s.ep p e
    let s := u.win.foldl (fun s w => s.releaseSrc p w.src) s
    (s.setEpWin p e { u with win := [], roundNacked := false }).setFld (CH_EP_STATE p e) CH_EP_STATE.nack_run 0
  else s

/-- MARK_ACKED. -/
def execMarkAcked (p : Tile) (e : Fin 64) (s : State) : Host.Outcome State Fault Refusal := .next (s.markAcked p e)

/-- A write of a register of the channel block that needs its endpoint halted; any other is discarded with
config_fault (R186). -/
def State.chConfig (s : State) (p : Nat) (w : ChReg) (v : BitVec 64) : State :=
  let halted := fun e => s.epBit p e CH_EP_STATE.halted
  let no := s.setBit (CH_FAULT p) CH_FAULT.config_fault true
  match w with
  | .cfg e => if halted e then s.setReg (CH_EP_CFG p e) (v &&& ~~~ (1#64 <<< 31)) else no
  | .dest e => if halted e then s.setReg (CH_EP_DEST p e) (BitVec.ofNat 64 (v.toNat % 2 ^ 30)) else no
  | .nextSeq e => if halted e then s.setFld (CH_EP_STATE p e) CH_EP_STATE.next_seq v.toNat else no
  | .sender i =>
    let old := !s.bit (CH_SND p i) CH_SND.valid || halted (s.fld (CH_SND p i) CH_SND.endpoint)
    if old && halted (CH_SND.endpoint.get v) then s.setReg (CH_SND p i) (v &&& ~~~ (1#64 <<< 31)) else no

/-- CH_CONFIG_WRITE. -/
def execChConfigWrite (p : Tile) (which : ChReg) (v : BitVec 64) (s : State) : Host.Outcome State Fault Refusal :=
  .next (s.chConfig p which v)

end Sys2Proof.Machine
end

