-- ==== Sys2Proof/Machine/Streams.lean ====
section
/-! DEFINITION. Machine/Streams.lean: stream slots, input and output rings, the deadline sentinel, admission, gathering
and closing (R224 to R253). -/
namespace Sys2Proof.Machine

/-! ## Contexts: what streams need of them -/

/-- State of context `c` (R215): 0 FREE, 1 IDLE, 2 LOADING, 3 READY, 4 RUNNING, 5 STOPPING, 6 FAULTED, 7 ZEROISING. -/
def State.cState (s : State) (c : Nat) : Nat := s.fld (SCU_CTX_STATE c) SCU_CTX_STATE.state
def State.setCState (s : State) (c v : Nat) : State := s.setFld (SCU_CTX_STATE c) SCU_CTX_STATE.state v

def State.smap (s : State) (c : Nat) : StreamMap := (s.ctx c).plate.smap

/-- Physical tile of a placed virtual tile (R214). -/
def State.placed (s : State) (c v : Nat) : Option Nat :=
  if s.bit (SCU_CTX_PLACE c v) SCU_CTX_PLACE.valid then some (s.fld (SCU_CTX_PLACE c v) SCU_CTX_PLACE.tile) else none

/-- Tiles of a context's lease. -/
def State.leaseTiles (s : State) (c : Nat) : List Nat := (List.range 256).filter (fun p => s.lease p == some c)

/-! ## Slots and identifiers (R224, R225) -/

def State.slotOf (s : State) (c k : Nat) : StreamSlot := tget {} (s.ctx c).streams k
def State.setSlot (s : State) (c k : Nat) (x : StreamSlot) : State :=
  let y := s.ctx c
  s.setCtx c { y with streams := tset {} y.streams k x }

def streamId (c k gen : Nat) : Nat := k % 4096 + (gen % 2 ^ 16) * 2 ^ 12 + (c % 16) * 2 ^ 28

/-- A slot of no stream: what its last stream came to is kept until the slot is opened again. -/
def StreamSlot.ended (x : StreamSlot) : StreamSlot := { x with phase := 0, atRisk := false }

/-- The current identifier of a slot: its stream's until its STREAM_END is written. -/
def State.currentId (s : State) (c k : Nat) : Option Nat :=
  let x := s.slotOf c k
  if x.phase = 1 ∨ x.phase = 2 ∨ x.phase = 3 then some (streamId c k x.gen) else none

/-- Slots of the plate in use. -/
def State.usedSlots (s : State) (c : Nat) : List Nat :=
  (List.range (s.smap c).slots).filter (fun k => (s.slotOf c k).phase != 0)

/-- Streams that hold a slot and whose STREAM_END is not written. -/
def State.openSlots (s : State) (c : Nat) : List Nat := (List.range (s.smap c).slots).filter (fun k => (s.currentId c k).isSome)

/-- Bandwidth of one shadowed stream in bytes a second (R248). -/
def State.shadowCost (s : State) (c : Nat) : Nat :=
  let m := s.smap c
  if m.stepPeriod = 0 then 0 else m.shadowBytes * 100000000 / m.stepPeriod

/-- Total shadow rate in bytes a second. -/
def State.shadowRate (s : State) : Nat :=
  ((List.range 16).map (fun c => ((s.openSlots c).filter (fun k => (s.slotOf c k).shadow)).length * s.shadowCost c)).sum

/-! ## Power (R443) -/

/-- Nominal power of a tile in tenths of a watt, and the power limit in watts (R2, R443). -/
def Part.tilePower (p : Part) : Nat :=
  match p with
  | .urk3800 => 46
  | .urk3100 => 35
  | .urk2500 => 24

def Part.limitW (p : Part) : Nat :=
  match p with
  | .urk3800 => 1500
  | .urk3100 => 1150
  | .urk2500 => 800

/-- The nominal figure of P_ctx in tenths of a watt (R443). -/
def State.pNominal (s : State) (c : Nat) : Nat := s.part.tilePower * (s.leaseTiles c).length

/-- P_ctx in tenths of a watt: the nominal figure or the highest measured one (R443). -/
def State.pCtx (s : State) (c : Nat) : Nat := max (s.pNominal c) (tget 0 s.power.peak c * 10)

/-- Whether a context holds an admitted stream. -/
def State.holdsStream (s : State) (c : Nat) : Bool := !(s.openSlots c).isEmpty

/-- P_base + Σ P_ctx in tenths of a watt, over the contexts that hold streams and `also`. -/
def State.powerNeed (s : State) (also : Option Nat) : Nat :=
  s.fld PWR_BASE PWR_BASE.base_w * 10 +
    (((List.range 16).filter (fun c => s.holdsStream c || also == some c)).map (fun c => s.pCtx c)).sum

/-- PWR_CTX and need_w follow the leases, the streams and the measured figures; watts are rounded up (log 30). -/
def State.powerView (s : State) : State :=
  let s := (List.range 16).foldl (fun s c =>
    let s := s.setFld (PWR_CTX c) PWR_CTX.p_ctx_w (min 4095 (ceilDiv (s.pCtx c) 10))
    s.setBit (PWR_CTX c) PWR_CTX.measured (decide (tget 0 s.power.peak c * 10 > s.pNominal c))) s
  s.setFld PWR_STATUS PWR_STATUS.need_w (min 4095 (ceilDiv (s.powerNeed none) 10))

/-- The registers that follow the streams of a context. -/
def State.streamView (s : State) (c : Nat) : State :=
  let l := s.openSlots c
  let s := s.setFld (SCU_STR_STATE c) SCU_STR_STATE.open l.length
  let s := s.setBit (SCU_STR_STATE c) SCU_STR_STATE.at_risk (l.any (fun k => (s.slotOf c k).atRisk))
  let s := s.setBit (PWR_CTX c) PWR_CTX.protected (!l.isEmpty)
  (s.setFld SCU_SHADOW SCU_SHADOW.rate_mbs (s.shadowRate / 1000000)).powerView

/-! ## Output records (R231 to R234) -/

/-- The consumer index of an output ring as the module takes it (R343): never ahead of the producer, never back. -/
def State.outSeen (s : State) (c : Nat) : Nat :=
  let b := s.fld (SCU_STR_OUTRING c) SCU_STR_OUTRING.base
  seenIndex (s.num (b + 64) 8) (s.modNum b 8) (s.ctx c).outSeen

def State.outDepth (s : State) (c : Nat) : Nat := 2 ^ s.fld (SCU_STR_OUTRING c) SCU_STR_OUTRING.log2_depth

/-- Free records of the output ring; none where no ring is configured. -/
def State.outFree (s : State) (c : Nat) : Nat :=
  let b := s.fld (SCU_STR_OUTRING c) SCU_STR_OUTRING.base
  if (s.ctx c).configured then s.outDepth c - ahead (s.modNum b 8) (s.outSeen c) else 0

/-- The 64-byte header of an output record (R232). -/
structure OutRec where
  id : Nat := 0
  seq : Nat := 0
  kind : Nat := 0
  reason : Nat := 0
  mark : Bool := false
  deadline : Nat := 0
  tVis : Nat := 0
  app : List Byte := []
  extra : Nat := 0
  payload : List Byte := []
  deriving DecidableEq, Repr

def OutRec.bytes (r : OutRec) (tb : Nat) : List Byte :=
  leBytes 4 r.id ++ leBytes 4 r.seq ++ leBytes 1 r.kind ++ leBytes 1 r.reason ++ leBytes 1 (b2n r.mark) ++ [0] ++
    leBytes 2 r.payload.length ++ [0, 0] ++ leBytes 8 r.deadline ++ leBytes 8 r.tVis ++ leBytes 8 tb ++
    (r.app ++ List.replicate 16 0).take 16 ++ leBytes 8 r.extra ++ r.payload

/-- Writes one record and advances the producer index. -/
def State.putRec (s : State) (c : Nat) (r : OutRec) : State :=
  let b := s.fld (SCU_STR_OUTRING c) SCU_STR_OUTRING.base
  let prod := s.modNum b 8
  let seen := s.outSeen c
  let s := s.setCtx c { s.ctx c with outSeen := seen }
  let s := s.put (b + 128 + (prod % s.outDepth c) * (s.smap c).outRecord) (r.bytes s.tb)
  s.put b (leBytes 8 (prod + 1))

/-- Writes the OVERFLOW record that is due, where the ring has room (R234). -/
def State.overflowRec (s : State) (c : Nat) : State :=
  let x := s.ctx c
  if x.unwritten = 0 ∨ s.outFree c = 0 then s
  else (s.setCtx c { x with unwritten := 0 }).putRec c { kind := 0x06, extra := x.unwritten }

/-- Posts a record: written where the ring has room, else counted (R234). Whether it was written. -/
def State.post (s : State) (c : Nat) (r : OutRec) : Bool × State :=
  let s := s.overflowRec c
  if s.outFree c = 0 then
    (false, (s.setCtx c { s.ctx c with unwritten := (s.ctx c).unwritten + 1 }).addSat (SCU_STR_RING c) SCU_STR_RING.unwritten 1)
  else (true, s.putRec c r)

/-- OVERFLOW_RECORD: the ring of context `c` has room for the OVERFLOW record that is due. -/
def execOverflowRecord (c : Fin 16) (s : State) : Host.Outcome State Fault Refusal :=
  .next ((s.overflowRec c).unfire (s.fld (SCU_STR_OUTRING c) SCU_STR_OUTRING.base + 64))

/-! ## The sentinel (R241 to R244) -/

/-- Open entries. -/
def State.snt (s : State) : State :=
  let n := (s.entries.filter (fun e => !e.closed)).length
  s.setFld SCU_SNT_STATUS SCU_SNT_STATUS.entries n

/-- The consumer index of a slot's input ring passes its run of closed records (R230). -/
def State.consumeRun (s : State) (c k fuel : Nat) : State :=
  match fuel with
  | 0 => s
  | n + 1 =>
    let x := s.ctx c
    let b := x.inBase + k * x.inStride
    let cons := s.modNum (b + 64) 8
    if s.entries.any (fun e => e.ctx == c && e.slot == k && e.ringIx == cons && e.closed) && cons != (s.slotOf c k).read then
      (s.put (b + 64) (leBytes 8 (cons + 1))).consumeRun c k n
    else s

/-- Closes an entry and counts its closure by kind. -/
def State.closeEntry (s : State) (e : SntEntry) (kind reason : Nat) (mark : Bool) (app payload : List Byte) : State :=
  let s := { s with entries := s.entries.map (fun x => if x = e then { x with closed := true } else x) }
  let got := s.post e.ctx
    { id := e.id, seq := e.seq, kind := kind, reason := reason, mark := mark, deadline := e.deadline, tVis := e.tVis,
      app := app, payload := payload }
  let written := got.1
  let s := got.2
  let s := match kind with
    | 0x01 =>
      let s := s.addMod SCU_SNT_COMPLETE SCU_SNT_COMPLETE.count 1
      if mark && written then s.addSat (SCU_CTX_SILENT e.ctx) SCU_CTX_SILENT.marked_outputs 1 else s
    | 0x02 => (s.addMod SCU_SNT_LOST SCU_SNT_LOST.count 1).addSat (SCU_STR_COUNTS e.ctx) SCU_STR_COUNTS.lost 1
    | 0x03 =>
      let x := s.ctx e.ctx
      let s := s.setCtx e.ctx { x with cancels := x.cancels + b2n written }
      s.addSat (SCU_STR_COUNTS e.ctx) SCU_STR_COUNTS.cancelled 1
    | _ => s
  (s.consumeRun e.ctx e.slot 64).snt

/-- Closes an entry without an output. -/
def State.dropEntry (s : State) (e : SntEntry) (kind reason : Nat) : State := s.closeEntry e kind reason false [] []

/-- Open entries of a context that satisfy a condition. -/
def State.openEntries (s : State) (c : Nat) (f : SntEntry → Bool) : List SntEntry :=
  s.entries.filter (fun e => e.ctx == c && !e.closed && f e)

/-- Closes all of a list. -/
def State.dropAll (s : State) (l : List SntEntry) (kind reason : Nat) : State := l.foldl (fun s e => s.dropEntry e kind reason) s

/-- DEADLINE_TIMER: every open entry at or past its deadline less 40 counts is closed as LOST (R243). -/
def execDeadlineTimer (s : State) : Host.Outcome State Fault Refusal :=
  .next (s.dropAll (s.entries.filter (fun e => !e.closed && decide (e.deadline ≤ s.tb + 40))) 0x02 0x01)

/-- Firmware logs the first orphan or oversized output (SCU_SNT_LOG). -/
def State.sntLog (s : State) (id seq : Nat) : State :=
  if s.bit SCU_SNT_STATUS SCU_SNT_STATUS.log_held then s
  else
    let s := s.setReg SCU_SNT_LOG (BitVec.ofNat 64 (id % 2 ^ 32 + (seq % 2 ^ 32) * 2 ^ 32))
    (s.setReg SCU_SNT_LOG_TIME (BitVec.ofNat 64 s.tb)).setBit SCU_SNT_STATUS SCU_SNT_STATUS.log_held true

/-- An output item reaches the sentinel (R240, R242). -/
def State.completion (s : State) (c : Nat) (mark : Bool) (item : List Byte) : State :=
  let id := ofBytes (item.take 4)
  let seq := ofBytes ((item.drop 4).take 4)
  let len := ofBytes ((item.drop 8).take 2)
  let app := (item.drop 12).take 16
  match s.entries.find? (fun e => e.ctx == c && e.id == id && e.seq == seq) with
  | none => (s.addSat SCU_SNT_DISCARDS SCU_SNT_DISCARDS.orphan 1).sntLog id seq
  | some e =>
    if s.tb + 40 > e.deadline then
      let s := if e.closed then s else s.dropEntry e 0x02 0x01
      s.addSat SCU_SNT_DISCARDS SCU_SNT_DISCARDS.late 1
    else if e.closed then s.addSat SCU_SNT_DISCARDS SCU_SNT_DISCARDS.duplicate 1
    else if len + 64 > (s.smap c).outRecord then (s.dropEntry e 0x02 0x05).sntLog id seq
    else s.closeEntry e 0x01 0 mark app ((item.drop 64).take len)

/-- An END_OF_STREAM token of slot `k` reaches the sentinel: a slot that waited only for it is free (R247, R252). -/
def State.eosBack (s : State) (c k : Nat) : State :=
  let x := s.slotOf c k
  if x.phase = 4 then s.setSlot c k x.ended
  else s.setSlot c k { x with eosBack := true }

/-- Whether a message comes from the egress endpoint of its context's stream map (R226, R240). -/
def State.isOutput (s : State) (m : Msg) : Bool := m.srcVtile == (s.smap m.ctx).egressVtile && m.srcEp == (s.smap m.ctx).egressEp

/-- COMPLETION: the first message of an egress endpoint that has arrived at edge die W is acknowledged; an output item
reaches the sentinel, an END_OF_STREAM token is noted. -/
def execCompletion (s : State) : Host.Outcome State Fault Refusal :=
  .next (match s.arrivedFor 256 [kData, kToken] (fun m => s.isOutput m) with
    | none => s
    | some (i, x) =>
      let m := x.msg
      let a : Msg := { kind := kAck, vc := 2, ctx := m.ctx, destTile := m.srcTile, destEp := m.srcEp, srcVtile := m.srcVtile,
                       chanSeq := m.chanSeq }
      let s := s.netDrop i
      let s := { s with net := s.net ++ [({ msg := a, loc := m.srcTile / 16 * 16, inPort := 3 } : NetMsg)] }
      if m.kind = kData then s.completion m.ctx m.tok.mark m.payload
      else if m.tok.typ = tEos then s.eosBack m.ctx m.tok.itemTag
      else s)

/-! ## Admission (R235 to R238) -/

/-- PLL multiplier of the part (R23). -/
def Part.mult (p : Part) : Nat :=
  match p with
  | .urk3800 => 48
  | .urk3100 => 40
  | .urk2500 => 32

/-- A certificate bound in TBCLK counts (R204): FCLK runs at a third of the root clock. -/
def State.tbOf (s : State) (b : Nat) : Nat := ceilDiv (b * 3) s.part.mult

/-- Displaced virtual tiles of a context. -/
def State.displaced (s : State) (c : Nat) : List Nat :=
  (List.range 256).filter (fun v => s.bit (SCU_CTX_PLACE c v) SCU_CTX_PLACE.valid && s.bit (SCU_CTX_PLACE c v) SCU_CTX_PLACE.displaced)

/-- The certificate bound that admission uses (R237), with `also` displaced too. -/
def State.certBound (s : State) (c : Nat) (degraded : Bool) (also : List Nat) : Option Nat :=
  let pl := (s.ctx c).plate
  let d := (s.displaced c ++ also).eraseDups
  if d.length > pl.reserveTiles then none
  else
    let now := match d with
      | [] => pl.bSteady
      | [v] => pl.bDegraded.getD v 0
      | _ => pl.bDegradedAll
    some (if degraded then max now pl.bDegradedAll else now)

/-- need of R236; none where there is no bound. -/
def State.need (s : State) (c : Nat) (degraded : Bool) (also : List Nat) : Option Nat :=
  (s.certBound c degraded also).map (fun b =>
    (s.smap c).stepPeriod + s.tbOf b + s.tbOf (s.ctx c).plate.bBackground + 800000)

/-- What a class leaves of its bound, in TBCLK counts. -/
def State.classRoom (s : State) (k : Nat) : Nat :=
  (s.fld (SCU_CLASS k) SCU_CLASS.bound_us - s.fld (SCU_CLASS k) SCU_CLASS.jitter_us) * 100

def State.classDegraded (s : State) (k : Nat) : Bool := s.bit (SCU_CLASS k) SCU_CLASS.admit_on

/-- Whether a class fits a context with `also` displaced too. -/
def State.classFits (s : State) (c k : Nat) (also : List Nat) : Bool :=
  match s.need c (s.classDegraded k) also with
  | none => false
  | some n => decide (n ≤ s.classRoom k)

/-- power_sustains of R236 (R442, R443, R445, R482). -/
def State.powerSustains (s : State) (c : Nat) : Bool :=
  !s.bit PWR_STATUS PWR_STATUS.emergency && !s.bit PWR_STATUS PWR_STATUS.over_limit && !s.sb.estop &&
    decide (s.powerNeed (some c) ≤ s.fld PWR_CFG PWR_CFG.limit_w * 10)

/-- SCU_STR_NEED follows the bounds. -/
def State.needView (s : State) (c : Nat) : State :=
  let s := s.setFld (SCU_STR_NEED c) SCU_STR_NEED.need_now ((s.need c false []).getD (2 ^ 32 - 1))
  s.setFld (SCU_STR_NEED c) SCU_STR_NEED.need_degraded ((s.need c true []).getD (2 ^ 32 - 1))

/-- The slot's ring of shadow images: address of slot `k`'s image, behind the backing image (R312). -/
def State.shadowAt (s : State) (c k : Nat) : Nat :=
  let x := s.ctx c
  x.hbmBase + roundUp x.plate.backingBytes 4096 + k * x.plate.smap.shadowBytes

/-- The refusal code of an open, or the slot and the need (R236). -/
def State.admission (s : State) (c k : Nat) (shadow : Bool) : Nat ⊕ (Nat × Nat) :=
  let st := SCU_STR_STATE c
  if s.cState c ≠ 4 ∨ !(s.ctx c).configured then .inl 0x01
  else if !s.bit (SCU_CLASS k) SCU_CLASS.valid then .inl 0x02
  else if s.bit st SCU_STR_STATE.heal_open then .inl 0x03
  else match (List.range (s.smap c).slots).find? (fun i => (s.slotOf c i).phase == 0) with
    | none => .inl 0x04
    | some i =>
      match s.need c (s.classDegraded k) [] with
      | none => .inl 0x05
      | some n =>
        if n > s.classRoom k then .inl 0x06
        else if !s.powerSustains c then .inl 0x07
        else if shadow && decide (s.shadowRate + s.shadowCost c > s.fld SCU_SHADOW SCU_SHADOW.limit_mbs * 1000000) then .inl 0x08
        else .inr (i, n)

/-- Opens slot `k` for a stream of class `cls`: its generation advances and skips 0. -/
def State.openStream (s : State) (c k cls : Nat) (shadow : Bool) : State :=
  let x := s.slotOf c k
  let g := (x.gen + 1) % 2 ^ 16
  let s := s.setSlot c k { gen := if g = 0 then 1 else g, phase := 1, cls := cls, shadow := shadow, read := x.read }
  let s := if shadow then s.zeroRange (s.shadowAt c k) (s.smap c).shadowBytes else s
  s.streamView c

/-- Firmware rechecks every admitted class of a context: AT_RISK and CLEARED notices (R238). -/
def State.recheck (s : State) (c : Nat) : State :=
  let s := s.needView c
  let s := (s.openSlots c).foldl (fun s k =>
    let x := s.slotOf c k
    let fits := s.classFits c x.cls []
    let note := fun (r : Nat) => (s.post c { id := streamId c k x.gen, seq := x.lastSeq, kind := 0x07, reason := r }).2
    if !fits && !x.atRisk then (note 0x40).setSlot c k { x with atRisk := true }
    else if fits && x.atRisk then (note 0x41).setSlot c k { x with atRisk := false }
    else s) s
  s.streamView c

/-! ## Closing (R247, R250 to R253) -/

/-- A stream begins to close: phase 2 by DRAIN, 3 by ABORT, with the reason its STREAM_END will carry. -/
def State.beginClose (s : State) (c k : Nat) (abort : Bool) (reason : Nat) : State :=
  let x := s.slotOf c k
  let s := s.setSlot c k { x with phase := if abort then 3 else 2, endReason := reason,
                                  closeTb := if x.phase = 1 then s.tb else x.closeTb }
  if abort then s.dropAll (s.openEntries c (fun e => e.slot == k)) 0x03 0x10 else s

/-- Writes a slot's STREAM_END record. -/
def State.endRecord (s : State) (c k reason : Nat) : State :=
  let x := s.slotOf c k
  (s.post c { id := streamId c k x.gen, seq := x.lastSeq, kind := 0x05, reason := reason, extra := x.gap }).2

/-- Frees a slot: its generation and ring position stay. -/
def State.freeSlot (s : State) (c k : Nat) : State :=
  let x := s.slotOf c k
  (s.setSlot c k x.ended).streamView c

/-- Whether every entry of slot `k` is closed. -/
def State.slotClosed (s : State) (c k : Nat) : Bool := (s.openEntries c (fun e => e.slot == k)).isEmpty

/-- STREAM_END: the stream's END_OF_STREAM token has come back and every entry of it is closed. -/
def execStreamEnd (c : Fin 16) (k : Fin 4096) (s : State) : Host.Outcome State Fault Refusal :=
  let x := s.slotOf c k
  .next (
    if (x.phase = 2 ∨ x.phase = 3) ∧ x.eosBack ∧ s.slotClosed c k then (s.endRecord c k x.endReason).freeSlot c k
    else s)

/-- The limit of R252: the latest registered deadline, or the close, plus the context's drain_timeout. -/
def State.endLimit (s : State) (c k : Nat) : Nat :=
  let x := s.slotOf c k
  (if x.haveSeq then x.lastDeadline else x.closeTb) + s.fld (SCU_CTX_TIMING c) SCU_CTX_TIMING.drain_timeout_ms * 100000

/-- END_TIMEOUT: the END_OF_STREAM token has not come back in time; the slot stays out of use until it does. -/
def execEndTimeout (c : Fin 16) (k : Fin 4096) (s : State) : Host.Outcome State Fault Refusal :=
  let x := s.slotOf c k
  .next (
    if (x.phase = 2 ∨ x.phase = 3) ∧ !x.eosBack ∧ s.tb ≥ s.endLimit c k ∧ s.slotClosed c k then
      ((s.endRecord c k 0x33).setSlot c k { x with phase := 4 }).streamView c
    else s)

/-- A stream is ended because its state is lost (R247, R413): its slot waits for the END_OF_STREAM token. -/
def State.loseStream (s : State) (c k : Nat) : State :=
  let s := s.dropAll (s.openEntries c (fun e => e.slot == k)) 0x02 0x04
  ((s.endRecord c k 0x30).setSlot c k { s.slotOf c k with phase := 4 }).streamView c

/-- Whether a slot's state lies in state entries on virtual tile `v` that no shadow keeps. -/
def State.stateLostAt (s : State) (c k : Nat) (f : StateEntry → Bool) : Bool :=
  (s.smap c).entries.any (fun e => f e && (!(s.slotOf c k).shadow || !e.shadowable))

/-- A context stop closes every stream: what was registered and is still open is CANCELLED, each stream gets its
STREAM_END, every slot is free (R253). -/
def State.stopStreams (s : State) (c : Nat) : State :=
  let s := s.dropAll (s.openEntries c (fun _ => true)) 0x03 0x11
  let s := (s.openSlots c).foldl (fun s k => s.endRecord c k 0x32) s
  let s := (s.usedSlots c).foldl (fun s k => let x := s.slotOf c k; s.setSlot c k x.ended) s
  s.streamView c

/-! ## The ring reader (R227 to R230) -/

/-- A new entry; closed entries beyond the slot's last 64 go (R241). -/
def State.addEntry (s : State) (e : SntEntry) : State :=
  let mine := s.entries.filter (fun x => x.ctx == e.ctx && x.slot == e.slot)
  let s := if mine.length ≥ 64 then
      match mine.find? (fun x => x.closed) with
      | some x => { s with entries := s.entries.erase x }
      | none => s
    else s
  { s with entries := s.entries ++ [e] }

/-- A frame that has no identity of its own in the sentinel is rejected. -/
def State.rejectFrame (s : State) (e : SntEntry) (reason : Nat) : State :=
  let s := s.addEntry { e with id := 2 ^ 32, closed := true }
  let s := (s.post e.ctx { id := e.id, seq := e.seq, kind := 0x04, reason := reason, deadline := e.deadline, tVis := e.tVis }).2
  (s.addSat (SCU_STR_RING e.ctx) SCU_STR_RING.rejected 1).consumeRun e.ctx e.slot 64

/-- Reads the frame header at ring index `ix` of slot `k` and registers or rejects it (R230). -/
def State.readFrame (s : State) (c k ix : Nat) : State :=
  let m := s.smap c
  let x := s.slotOf c k
  let y := s.ctx c
  let a := y.inBase + k * y.inStride + 128 + (ix % m.inDepth) * m.inRecord
  let e : SntEntry :=
    { ctx := c, slot := k, id := s.num a 4, seq := s.num (a + 4) 4, deadline := s.num (a + 8) 8, tVis := s.tb, ringIx := ix }
  let s := s.setSlot c k { x with read := (ix + 1) % 2 ^ 64 }
  let x := s.slotOf c k
  let diff := ahead32 e.seq x.expected
  if x.phase ≠ 1 ∨ s.currentId c k ≠ some e.id then s.rejectFrame e 0x20
  else if s.num (a + 16) 2 + 64 > m.inRecord then s.rejectFrame e 0x21
  else if x.haveSeq && decide (diff ≥ 2 ^ 31) then s.rejectFrame e 0x22
  else
    let x := { x with haveSeq := true, gap := x.gap + (if x.haveSeq then diff else 0), expected := (e.seq + 1) % 2 ^ 32 }
    if e.deadline < s.tb + 40 then
      ((s.setSlot c k x).addEntry e).dropEntry e 0x02 0x03
    else
      let s := ((s.setSlot c k { x with lastSeq := e.seq, lastDeadline := max x.lastDeadline e.deadline }).addEntry e).snt
      let s := if y.ringsClosed then s.dropEntry e 0x03 0x11 else s
      if bitOf (s.num (a + 18) 1) 0 && !y.ringsClosed then s.beginClose c k false 0 else s

/-- The input ring of slot `k` has run over: the stream ends as an ABORT close (R228). -/
def State.ringFault (s : State) (c k prod : Nat) : State :=
  let y := s.ctx c
  let s := if (s.slotOf c k).phase = 1 ∨ (s.slotOf c k).phase = 2 then s.beginClose c k true 0x31 else s
  let s := s.setSlot c k { s.slotOf c k with read := prod }
  s.put (y.inBase + k * y.inStride + 64) (leBytes 8 prod)

/-- The ring reader takes what the producer line of slot `k` of context `c` shows. -/
def State.ringRead (s : State) (c k : Nat) : State :=
  let y := s.ctx c
  let m := s.smap c
  let b := y.inBase + k * y.inStride
  if !y.configured ∨ k ≥ m.slots then s
  else
    let s := s.unfire b
    let prod := s.num b 8
    let cons := s.modNum (b + 64) 8
    if ahead prod cons > m.inDepth then s.ringFault c k prod
    else
      let from_ := (s.slotOf c k).read
      (List.range (min m.inDepth (ahead prod from_))).foldl (fun s i => s.readFrame c k ((from_ + i) % 2 ^ 64)) s

/-- INPUT_RING_READ. -/
def execInputRingRead (c : Fin 16) (k : Fin 4096) (s : State) : Host.Outcome State Fault Refusal := .next (s.ringRead c k)

/-! ## Gathering (R239) -/

/-- The lowest enabled fold slot of a tile: the slot of what the gather sends (log 16). -/
def State.ingestSlot (s : State) (p : Nat) : Nat :=
  ((List.range 8).find? (fun k => bitOf (s.fld (TILE_FOLD_CTRL p) TILE_FOLD_CTRL.slot_enable) k)).getD 0

/-- One record for the ingest region; none while it has no room. -/
def State.ingest (s : State) (c p typ tag seq : Nat) (payload : List Byte) : Option State :=
  let h : Hdr :=
    { typ := typ, slot := s.ingestSlot p, epoch := s.fld (SCU_CTX_STATE c) SCU_CTX_STATE.epoch, itemTag := tag, seqNo := seq }
  match s.place p (s.smap c).ingestRegion 1 0 h payload with
  | .ok t _ => some t
  | _ => none

/-- The instant of a context's next gather. -/
def State.gatherInstant (s : State) (c : Nat) : Nat :=
  s.fld (SCU_STR_T0 c) SCU_STR_T0.t0 + (s.ctx c).gathers * (s.smap c).stepPeriod

/-- The oldest frame of slot `k` that this gather launches. -/
def State.launchable (s : State) (c k : Nat) : Option SntEntry :=
  (s.openEntries c (fun e => e.slot == k && !e.launched && decide (e.tVis ≤ s.gatherInstant c))).head?

/-- What slot `k` sends in a gather: its oldest frame, and its END_OF_STREAM token when it is due (R250). -/
def State.gatherSlot (s : State) (c p k : Nat) : Option State :=
  let x := s.slotOf c k
  let y := s.ctx c
  let m := s.smap c
  let sent : Option State := match s.launchable c k with
    | none => some s
    | some e =>
      let a := y.inBase + k * y.inStride + 128 + (e.ringIx % m.inDepth) * m.inRecord
      (s.ingest c p tData k 0 (s.bytes a (64 + s.num (a + 16) 2))).map (fun (t : State) =>
        ({ t with entries := t.entries.map (fun z => if z = e then { z with launched := true } else z) } : State))
  match sent with
  | none => none
  | some t =>
    if x.phase ≥ 2 ∧ !x.eosSent ∧ (t.openEntries c (fun e => e.slot == k && !e.launched)).isEmpty then
      (t.ingest c p tEos k x.lastSeq []).map (fun (t : State) => t.setSlot c k { t.slotOf c k with eosSent := true })
    else some t

/-- The gather of a context: every slot in order, then END_OF_BATCH with the gather's number; none while the ingest
region has no room. -/
def State.gatherAll (s : State) (c p : Nat) : Option State :=
  let k := (s.ctx c).gathers
  let all := (s.usedSlots c).foldl (fun (r : Option State) i => r.bind (fun t => t.gatherSlot c p i)) (some s)
  all.bind (fun t => (t.ingest c p tEob 0 (k % 2 ^ 32) []).map (fun (t : State) =>
    (t.setCtx c { t.ctx c with gathers := k + 1 }).setFld (SCU_STR_STEP c) SCU_STR_STEP.gather k))

/-- The ingest tile of a context that may gather now: RUNNING, not paused, its rings not closed, and its next gather due. -/
def State.gatherDue (s : State) (c : Nat) : Option Nat :=
  if s.cState c = 4 ∧ !s.bit (SCU_STR_STATE c) SCU_STR_STATE.gather_paused ∧ !(s.ctx c).ringsClosed ∧
      s.gatherInstant c ≤ s.tb then
    s.placed c (s.smap c).ingestVtile
  else none

/-! ## Shadowed state (R248, R249) -/

/-- Copies between a slot's shadow image and its state on the tiles, entry by entry; `out` towards the shadow; `only`
restricts a restore to one virtual tile. -/
def State.shadowMove (s : State) (c k : Nat) (out : Bool) (only : Option Nat) : State :=
  let m := s.smap c
  (m.entries.foldl (fun (st : State × Nat) e =>
    let got := st
    let s := got.1
    let at_ := got.2
    if !e.shadowable then (s, at_)
    else
      let n := min e.slotBytes (m.shadowBytes - at_)
      let s' := match s.placed c e.vtile with
        | some p =>
          let a := tsBase p + s.rBase p e.region + e.slotBase + k * e.slotBytes
          if out then s.copyRange a (s.shadowAt c k + at_) n
          else if only.isNone || only == some e.vtile then s.copyRange (s.shadowAt c k + at_) a n
          else s
        | none => s
      (s', at_ + n)) (s, 0)).1

/-- SHADOW_COPY: after a step's state updates for slot `k` are final, its shadow takes them. -/
def execShadowCopy (c : Fin 16) (k : Fin 4096) (s : State) : Host.Outcome State Fault Refusal :=
  .next (
    if s.cState c = 4 ∧ (s.currentId c k).isSome ∧ (s.slotOf c k).shadow then s.shadowMove c k true none else s)

end Sys2Proof.Machine
end

