-- ==== Sys2Proof/Machine/Place.lean ====
section
/-! DEFINITION. Machine/Place.lean: where firmware places a plate's virtual tiles and reserves (R207, R265), what is
displaced (R204), and the paths of its routes (R208, R158). -/
namespace Sys2Proof.Machine

/-! ## Edge values and adjacency (R199) -/

/-- Whether a tile meets an edge value. -/
def edgeOk (edge stack p : Nat) : Bool :=
  let x := p % 16
  let y := p / 16
  match edge with
  | 0 => true
  | 1 => x == 0
  | 2 => x == 15
  | _ => x / 4 == stack % 4 && y == (if stack < 4 then 15 else 0)

/-- The tile next to `p` on side `d` (0 N, 1 E, 2 S, 3 W), where the grid has one. -/
def gridNext (p d : Nat) : Option Nat := if neighbour p d < 256 then some (neighbour p d) else none

/-- |dx| + |dy| of two tiles. -/
def tileDist (p q : Nat) : Nat :=
  let d := fun a b : Nat => (a - b) + (b - a)
  d (p % 16) (q % 16) + d (p / 16) (q / 16)

def refTile (e : PlaceReq) : Nat := e.refY * 16 + e.refX

/-- Neighbours that a virtual tile requires: side and virtual tile. -/
def partnersOf (l : List PlaceReq) (v : Nat) : List (Nat × Nat) :=
  ((List.range 4).zip (l.getD v {}).adj).filter (fun e => decide (e.2 < l.length) && e.2 != v)

/-- Whether every required neighbour of `v`, placed on `p`, lies on its side of `p`. -/
def keepsAdj (l : List PlaceReq) (v p : Nat) (placed : Nat → Option Nat) : Bool :=
  (partnersOf l v).all (fun e =>
    match placed e.2 with
    | some q => gridNext p e.1 == some q
    | none => false)

/-- The placement of a partial list of (virtual tile, tile) pairs. -/
def lookupIn (l : List (Nat × Nat)) (v : Nat) : Option Nat := (l.find? (fun e => e.1 == v)).map (fun e => e.2)

/-! ## Groups (R207 step 2) -/

/-- Virtual tiles that `g` joins in at most `fuel` rounds of adjacency. -/
def growGroup (l : List PlaceReq) (fuel : Nat) (g : List Nat) : List Nat :=
  match fuel with
  | 0 => g
  | n + 1 =>
    let more := (List.range l.length).filter (fun v => !g.contains v &&
      ((partnersOf l v).any (fun e => g.contains e.2) || g.any (fun u => (partnersOf l u).any (fun e => e.2 == v))))
    if more.isEmpty then g else growGroup l n (g ++ more)

/-- The group of a virtual tile, in ascending order. -/
def groupOf (l : List PlaceReq) (v : Nat) : List Nat :=
  let g := growGroup l l.length [v]
  (List.range l.length).filter (fun u => g.contains u)

/-- All groups, largest first, ties by lowest virtual number. -/
def groupsOf (l : List PlaceReq) : List (List Nat) :=
  let gs := (List.range l.length).filterMap (fun v =>
    let g := groupOf l v
    if g.head? = some v then some g else none)
  (List.range (l.length + 1)).reverse.flatMap (fun n => gs.filter (fun g => g.length == n))

/-- Offsets in ascending |dx| + |dy|, then dy, then dx. -/
def offsets : List (Int × Int) :=
  (List.range 31).flatMap (fun n =>
    (List.range 31).flatMap (fun (i : Nat) =>
      let dy : Int := (i : Int) - 15
      (List.range 31).filterMap (fun (j : Nat) =>
        let dx : Int := (j : Int) - 15
        if dx.natAbs + dy.natAbs = n then some (dx, dy) else none)))

/-- The tile at a reference position moved by an offset. -/
def movedRef (e : PlaceReq) (o : Int × Int) : Option Nat :=
  let x := (e.refX : Int) + o.1
  let y := (e.refY : Int) + o.2
  if 0 ≤ x ∧ x < 16 ∧ 0 ≤ y ∧ y < 16 then some (y.toNat * 16 + x.toNat) else none

/-- Places a group by one offset; none where it does not fit. -/
def groupAt (l : List PlaceReq) (avail : List Nat) (g : List Nat) (o : Int × Int) : Option (List (Nat × Nat)) :=
  let at_ := g.filterMap (fun v => (movedRef (l.getD v {}) o).map (fun p => (v, p)))
  let tiles := at_.map (fun e => e.2)
  if at_.length = g.length ∧ tiles.eraseDups.length = g.length ∧
      at_.all (fun e => avail.contains e.2 && edgeOk (l.getD e.1 {}).edge (l.getD e.1 {}).stack e.2 &&
        keepsAdj l e.1 e.2 (lookupIn at_))
  then some at_ else none

/-- The element of a list with the smallest key; the first among equals. -/
def minBy (key : Nat → Nat) (l : List Nat) : Option Nat :=
  l.foldl (fun (b : Option Nat) p =>
    match b with
    | none => some p
    | some q => if key p < key q then some p else some q) none

/-- A number put in front of the first one with a greater key. -/
def insertBy (key : Nat → Nat) (p : Nat) (l : List Nat) : List Nat :=
  match l with
  | [] => [p]
  | q :: t => if key p < key q then p :: q :: t else q :: insertBy key p t

/-- A list in ascending order of a key, equal ones as they stood. -/
def sortBy (key : Nat → Nat) (l : List Nat) : List Nat := l.foldl (fun a p => insertBy key p a) []

/-- Places one group on the free tiles `avail` (in ascending order). -/
def placeGroup (l : List PlaceReq) (avail g : List Nat) : Option (List (Nat × Nat)) :=
  match g with
  | [v] =>
    let e := l.getD v {}
    (minBy (fun p => tileDist p (refTile e)) (avail.filter (fun p => edgeOk e.edge e.stack p))).map (fun p => [(v, p)])
  | _ => offsets.findSome? (groupAt l avail g)

/-- Places the groups in turn; the first that does not fit is answered by its lowest virtual tile. -/
def placeGroups (l : List PlaceReq) (avail : List Nat) (gs : List (List Nat)) : Nat ⊕ List (Nat × Nat) :=
  match gs with
  | [] => .inr []
  | g :: t =>
    match placeGroup l avail g with
    | none => .inl (g.headD 0xFFF)
    | some at_ =>
      match placeGroups l (avail.filter (fun p => !(at_.map (fun e => e.2)).contains p)) t with
      | .inl v => .inl v
      | .inr r => .inr (at_ ++ r)

/-- R207 steps 1 and 2. -/
def placeAll (l : List PlaceReq) (avail : List Nat) : Nat ⊕ List (Nat × Nat) :=
  let refs := l.map refTile
  if refs.eraseDups.length = l.length ∧
      l.all (fun e => avail.contains (refTile e) && edgeOk e.edge e.stack (refTile e)) then
    .inr ((List.range l.length).zip refs)
  else placeGroups l avail (groupsOf l)

/-! ## Reserves (R207 step 3) -/

/-- Placed neighbours of a tile. -/
def placedNbrs (tiles : List Nat) (p : Nat) : Nat :=
  ((List.range 4).filterMap (fun d => gridNext p d)).countP (fun q => tiles.contains q)

/-- The next reserve, `chosen` being those so far. -/
def nextReserve (l : List PlaceReq) (tiles avail chosen : List Nat) : Option Nat :=
  let pool := avail.filter (fun p => !tiles.contains p && !chosen.contains p)
  let unmet := l.filter (fun e => e.edge != 0 && !chosen.any (fun r => edgeOk e.edge e.stack r))
  let narrow := (unmet.map (fun e => pool.filter (fun p => edgeOk e.edge e.stack p))).find? (fun q => !q.isEmpty)
  minBy (fun p => 4 - placedNbrs tiles p) (narrow.getD pool)

/-- `n` further reserves. -/
def pickReserves (l : List PlaceReq) (tiles avail chosen : List Nat) (n : Nat) : List Nat :=
  match n with
  | 0 => chosen
  | k + 1 =>
    match nextReserve l tiles avail chosen with
    | some p => pickReserves l tiles avail (chosen ++ [p]) k
    | none => chosen

/-! ## Health and leases -/

/-- State of a tile's health record (R255): 0 UNTESTED, 1 GOOD, 2 DEGRADED, 3 FENCED. -/
def State.hState (s : State) (p : Nat) : Nat := s.fld (HLTH_TILE p) HLTH_TILE.state

/-- GOOD tiles in no lease (R212). -/
def State.freeGood (s : State) : List Nat := (List.range 256).filter (fun p => s.hState p == 1 && s.lease p == none)

/-- GOOD tiles of a context's lease. -/
def State.leaseGood (s : State) (c : Nat) : List Nat := (s.leaseTiles c).filter (fun p => s.hState p == 1)

/-- Tiles of a context's reserves, in use or not. -/
def State.reserveTiles (s : State) (c : Nat) : List Nat :=
  (s.leaseTiles c).filter (fun p => s.bit (TILE_CTX p) TILE_CTX.reserve)

/-- Whether a tile holds a virtual tile of context `c`: SCU_CTX_PLACE names it. -/
def State.placedOn (s : State) (c p : Nat) : Option Nat :=
  (List.range 256).find? (fun v => s.placed c v == some p)

/-- Reserves that hold no virtual tile and are GOOD. -/
def State.freeReserves (s : State) (c : Nat) : List Nat :=
  (s.reserveTiles c).filter (fun p => (s.placedOn c p).isNone && s.hState p == 1)

/-- The target of a re-placement of virtual tile `v` (R265 steps 1 to 3; a planned migration takes reserves alone,
R274). -/
def State.healTarget (s : State) (c v : Nat) (reservesOnly : Bool) : Option Nat :=
  let l := (s.ctx c).plate.placement
  let e := l.getD v {}
  let at_ := fun u => s.placed c u
  let key := fun p => ((partnersOf l v).filterMap (fun x => at_ x.2)).foldl (fun n q => n + tileDist p q) 0
  let choose := fun (cands : List Nat) =>
    let ok := cands.filter (fun p => edgeOk e.edge e.stack p)
    match minBy key (ok.filter (fun p => keepsAdj l v p at_)) with
    | some p => some p
    | none => minBy key ok
  match choose (s.freeReserves c) with
  | some p => some p
  | none => if reservesOnly then none else choose s.freeGood

/-! ## Displacement (R204, R270) -/

/-- Whether a direct neighbour channel from tile `p` on side `d` is out of service at either end. -/
def State.dncOut (s : State) (p d : Nat) : Bool :=
  s.dncFenced p d || (match gridNext p d with
    | some q => s.dncFenced q (opposite d)
    | none => true)

/-- Whether virtual tile `v` of a plate is displaced under a placement. -/
def State.isDisplaced (s : State) (l : List PlaceReq) (placed : Nat → Option Nat) (v : Nat) : Bool :=
  match placed v with
  | none => false
  | some p =>
    (partnersOf l v).any (fun e =>
      match placed e.2 with
      | some q => gridNext p e.1 != some q || s.dncOut p e.1
      | none => true) ||
    s.fld (HLTH_TILE p) HLTH_TILE.vsp_group != 0xF

/-- The displaced bits of a context's placement follow it; a virtual tile that has fallen back stays displaced until it
is placed again. -/
def State.markDisplaced (s : State) (c : Nat) : State :=
  let l := (s.ctx c).plate.placement
  let at_ := fun v => s.placed c v
  (List.range l.length).foldl (fun s v =>
    s.setBit (SCU_CTX_PLACE c v) SCU_CTX_PLACE.displaced (s.isDisplaced l at_ v)) s

/-! ## Paths (R158, R208; log 17) -/

/-- One router of a path: the tile, its primary and its alternate port. -/
abbrev Hop := Nat × Nat × Nat

/-- The path from tile `p` to a place in dimension order: (tile, port), its last port leaving to the place. -/
def orderPath (fuel p dest : Nat) : List (Nat × Nat) :=
  match fuel with
  | 0 => []
  | n + 1 =>
    let o := orderPort p dest
    if o = 4 ∨ neighbour p o ≥ 256 then [(p, o)] else (p, o) :: orderPath n (neighbour p o) dest

/-- The die boundaries that a path crosses. -/
def bridgesOn (l : List (Nat × Nat)) : Nat := l.countP (fun h => decide (h.2 < 4) && (bridgeOf h.1 h.2).isSome)

/-- Whether a path has a fenced port. -/
def State.pathFenced (s : State) (l : List (Nat × Nat)) : Bool := l.any (fun h => decide (h.2 < 4) && s.portFenced h.1 h.2)

/-- The detour from a router whose primary port is `d`: across to the side row of an x segment, or round one hop of a y
segment, and then in dimension order. -/
def detour (p d dest side : Nat) : Option (List (Nat × Nat)) :=
  match gridNext p side with
  | none => none
  | some q =>
    if d = 1 ∨ d = 3 then some ((p, side) :: orderPath 64 q dest)
    else
      match gridNext q d with
      | none => none
      | some r => some ((p, side) :: (q, d) :: orderPath 64 r dest)

/-- The alternate of one router of a primary path, with the routers that it passes off the path: none where the side
taken, by order of preference, has no sound detour within the bounds. -/
def State.alternateAt (s : State) (hMax bMax : Nat) (before : List (Nat × Nat)) (p d dest : Nat) (sides : List Nat) :
    Option (List (Nat × Nat)) :=
  sides.findSome? (fun side =>
    match detour p d dest side with
    | none => none
    | some l =>
      if s.pathFenced l ∨ before.length + l.length > hMax ∨ bridgesOn (before ++ l) > bMax then none else some l)

/-- Sides of a detour: towards the destination's row first on an x segment, east first on a y segment. -/
def sidesOf (p d dest : Nat) : List Nat :=
  if d = 1 ∨ d = 3 then
    let ty := if dest < 256 then dest / 16 else if dest ≤ 257 then p / 16 else if dest < 268 then 15 else 0
    if ty < p / 16 then [2, 0] else [0, 2]
  else [1, 3]

/-- The entries of a route along a primary path: (tile, primary, alternate). An x-segment router diverts wherever a sound
detour exists, a y-segment router only round a fenced port. None where a fenced port has no detour. -/
def State.routeHops (s : State) (hMax bMax dest : Nat) (before todo : List (Nat × Nat)) : Option (List Hop) :=
  match todo with
  | [] => some []
  | (p, d) :: t =>
    let bad := decide (d < 4) && s.portFenced p d
    let alt := if d ≥ 4 ∨ (!bad ∧ (d = 0 ∨ d = 2)) ∨ neighbour p d ≥ 256 then none
      else s.alternateAt hMax bMax before p d dest (sidesOf p d dest)
    if bad && alt.isNone then none
    else
      (s.routeHops hMax bMax dest (before ++ [(p, d)]) t).map (fun r =>
        match alt with
        | none => (p, d, d) :: r
        | some l => (p, d, (l.headD (p, d)).2) :: r ++ (l.drop 1).map (fun h => (h.1, h.2, h.2)))

/-- One entry for each router: the first listed stands. -/
def oncePerTile (l : List Hop) : List Hop :=
  l.foldl (fun a h => if a.any (fun x => x.1 == h.1) then a else a ++ [h]) []

/-- The tile at which a route enters the mesh: its source tile, or from an edge die the edge tile of the destination's
row. -/
def entryTile (src dest : Nat) : Nat :=
  if src < 256 then src
  else
    let row := if dest < 256 then dest / 16 else if dest < 268 then 15 else 0
    row * 16 + (if src = 257 then 15 else 0)

/-- The entries of a computed route from `src` to `dest`, both places of the mesh; none where no path avoids the fenced
ports or the bounds are exceeded. -/
def State.computeRoute (s : State) (hMax bMax src dest : Nat) : Option (List Hop) :=
  let pri := orderPath 64 (entryTile src dest) dest
  if pri.length > hMax ∨ bridgesOn pri > bMax then none
  else (s.routeHops hMax bMax dest [] pri).map (fun l => oncePerTile (pri.filterMap (fun h => l.find? (fun x => x.1 == h.1)) ++ l))

/-- The entries of a reference hop list from tile `p`: (primary, alternate) of each router in order. -/
def refHops (p : Nat) (l : List (Nat × Nat)) : List Hop :=
  match l with
  | [] => []
  | (o, a) :: t => (p, o, a) :: (if o < 4 ∧ neighbour p o < 256 then refHops (neighbour p o) t else [])

/-- Place of a route end: the tile of a virtual tile, an edge die, or a stack (R202). -/
def endOf (placed : Nat → Option Nat) (v : Nat) : Option Nat :=
  if v = 0xFF00 then some 256 else if v = 0xFF01 then some 257
  else if 0xFF10 ≤ v ∧ v < 0xFF18 then some (264 + (v - 0xFF10))
  else placed v

/-- Whether a route end stands at its reference position. -/
def endAtRef (l : List PlaceReq) (placed : Nat → Option Nat) (v : Nat) : Bool :=
  decide (v ≥ 0xFF00) || placed v == some (refTile (l.getD v {}))

/-- The entries of one route of a plate (R208); none for ROUTE_BOUND. -/
def State.planRoute (s : State) (l : List PlaceReq) (placed : Nat → Option Nat) (r : RouteReq) : Option (List Hop) :=
  match endOf placed r.src, endOf placed r.dst with
  | some a, some b =>
    let ref := refHops (entryTile a b) r.hops
    if endAtRef l placed r.src && endAtRef l placed r.dst && !ref.isEmpty &&
        !s.pathFenced (ref.map (fun h => (h.1, h.2.1))) then some ref
    else s.computeRoute r.hMax r.bMax a b
  | _, _ => none

/-! ## Route entries and budgets (R150, R156) -/

/-- Marks context `c` drained, or not, in every router. -/
def State.setDrained (s : State) (c : Nat) (b : Bool) : State :=
  (List.range 256).foldl (fun s p => s.setFld (RT_CTX_DRAINED p) ⟨c, 1⟩ (b2n b)) s

/-- The lowest route_id that is free in every router of a path, `taken` aside. -/
def State.freeRouteId (s : State) (l : List Hop) : Option Nat :=
  (List.range 1024).find? (fun i => l.all (fun h => !s.bit (RT_ENTRY h.1 i) RT_ENTRY.valid))

/-- Writes the entries of one route. -/
def State.writeRoute (s : State) (c id : Nat) (adapt : Bool) (l : List Hop) : State :=
  l.foldl (fun s h =>
    s.setRoute h.1 id (BitVec.ofNat 64 (1 + c * 2 + h.2.1 * 2 ^ 5 + h.2.2 * 2 ^ 8 + b2n adapt * 2 ^ 11))) s

/-- Adds a route's load to the budgets of its context at the primary ports of its path. -/
def State.addBudget (s : State) (c rate burst : Nat) (l : List Hop) : State :=
  l.foldl (fun s h =>
    if h.2.1 < 4 then
      let a := RT_BUDGET h.1 c h.2.1
      (s.setFld a RT_BUDGET.rate (min 256 (s.fld a RT_BUDGET.rate + rate))).setFld a RT_BUDGET.burst
        (min 64 (s.fld a RT_BUDGET.burst + burst))
    else s) s

/-- Sets every budget of a context to 0. -/
def State.clearBudgets (s : State) (c : Nat) : State :=
  (List.range 256).foldl (fun s p => (List.range 4).foldl (fun s o => s.setReg (RT_BUDGET p c o) 0) s) s

/-- Whether every output port keeps the sum of rates at 224 or less (R150). -/
def State.budgetsOk (s : State) : Bool :=
  (List.range 256).all (fun p => (List.range 4).all (fun o =>
    decide (((List.range 16).map (fun c => s.fld (RT_BUDGET p c o) RT_BUDGET.rate)).sum ≤ 224)))

/-- Frees every route entry of a context. -/
def State.clearRoutes (s : State) (c : Nat) : State :=
  s.resetRegs (fun a =>
    decide (tileRegs ≤ a ∧ a < tileRegs + 0x1000000) &&
      decide (0xA000 ≤ (a - tileRegs) % 0x10000 ∧ (a - tileRegs) % 0x10000 < 0xC000) &&
      decide (RT_ENTRY.ctx.get (s.reg a) = c))

end Sys2Proof.Machine
end

