-- ==== Sys2Proof/Machine/Plate.lean ====
section
/-! DEFINITION. Machine/Plate.lean: reading a plate image in host memory and the checks of R206 that its image alone and
the context decide (R194 to R206, R226). -/
namespace Sys2Proof.Machine

/-! ## The image -/

/-- A section table entry (R195) with its index. -/
structure Sect where
  ix : Nat := 0
  typ : Nat := 0
  vtile : Nat := 0
  region : Nat := 0
  offset : Nat := 0
  length : Nat := 0
  digest : List Byte := []
  deriving DecidableEq, Repr

def sRESOURCES : Nat := 1
def sPLACEMENT : Nat := 2
def sCOMMON : Nat := 3
def sTILE : Nat := 4
def sROUTES : Nat := 5
def sREGIONS : Nat := 6
def sCOUNTERS : Nat := 7
def sCERT : Nat := 8
def sWEIGHTS : Nat := 9
def sWEIGHTS_ENC : Nat := 0xA
def sSTREAM : Nat := 0xB
def sSIGNATURE : Nat := 0xFF
def sREMOTE : Nat := 0x8001
def sSHEET : Nat := 0x8002

/-- Entry `i` of the section table of the image at `img`. -/
def State.sectAt (s : State) (img i : Nat) : Sect :=
  let a := img + 0x80 + 64 * i
  { ix := i, typ := s.num a 2, vtile := s.num (a + 4) 2, region := s.num (a + 6) 1, offset := s.num (a + 8) 8,
    length := s.num (a + 0x10) 8, digest := s.bytes (a + 0x18) 32 }

def State.sections (s : State) (img : Nat) : List Sect := (List.range (s.num (img + 0x20) 2)).map (fun i => s.sectAt img i)

/-- The first section of a type; an empty one where there is none. -/
def sectOf (l : List Sect) (t : Nat) : Sect := (l.find? (fun x => x.typ == t)).getD {}
def hasSect (l : List Sect) (t : Nat) : Bool := l.any (fun x => x.typ == t)

/-- The bytes of a section. -/
def State.sectBytes (s : State) (img : Nat) (x : Sect) : List Byte := s.bytes (img + x.offset) x.length

def isWeight (x : Sect) : Bool := x.typ == sWEIGHTS || x.typ == sWEIGHTS_ENC

/-- Bytes of the region image that a weight section holds. -/
def imageLen (x : Sect) : Nat := if x.typ = sWEIGHTS then x.length else x.length - 32

/-! ## Reading the sections -/

def State.readPlacement (s : State) (a n : Nat) : List PlaceReq :=
  (List.range n).map (fun v =>
    let e := a + 16 * v
    { refX := s.num e 1 % 16, refY := s.num (e + 1) 1 % 16, edge := s.num (e + 2) 1, stack := s.num (e + 3) 1,
      adj := (List.range 4).map (fun d => s.num (e + 4 + 2 * d) 2) })

/-- Register writes of a sequence of records (R200); none where a record does not end with the sequence. -/
def State.readRecords (s : State) (sect vtile : Nat) (fuel a n : Nat) : Option (List PlateWrite) :=
  match fuel with
  | 0 => none
  | k + 1 =>
    if n = 0 then some []
    else
      let off := s.num a 2
      let count := s.num (a + 2) 2
      let len := 8 + 8 * count
      if n < len ∨ off % 8 ≠ 0 then none
      else
        let here := (List.range count).map (fun i =>
          ({ vtile := vtile, offset := off + 8 * i, value := s.num (a + 8 + 8 * i) 8, reloc := s.num (a + 4) 1,
             relocLo := s.num (a + 5) 1, sect := sect } : PlateWrite))
        (s.readRecords sect vtile k (a + len) (n - len)).map (fun t => here ++ t)

/-- Chunks of a COMMON_CONFIG section: id, first record, bytes; none where they do not fill it. -/
def State.readChunks (s : State) (fuel a n : Nat) : Option (List (Nat × Nat × Nat)) :=
  match fuel with
  | 0 => none
  | k + 1 =>
    if n = 0 then some []
    else
      let len := s.num (a + 4) 4
      if n < 8 + len then none
      else (s.readChunks k (a + 8 + len) (n - 8 - len)).map (fun t => (s.num a 2, a + 8, len) :: t)

/-- The writes of one TILE_CONFIG section: its chunks in order, then its records; none where it is malformed. -/
def State.readTileConfig (s : State) (img : Nat) (common : Sect) (x : Sect) : Option (List PlateWrite) :=
  let a := img + x.offset
  let n := s.num a 2
  if x.length < 2 + 2 * n then none
  else
    match s.readChunks (common.length + 1) (img + common.offset) common.length,
        s.readRecords x.ix x.vtile (x.length + 1) (a + 2 + 2 * n) (x.length - 2 - 2 * n) with
    | some chunks, some own =>
      let named := (List.range n).map (fun i => chunks.find? (fun c => c.1 == s.num (a + 2 + 2 * i) 2))
      let parts := named.map (fun c => c.bind (fun c => s.readRecords common.ix x.vtile (c.2.2 + 1) c.2.1 c.2.2))
      if parts.all (fun r => r.isSome) then some ((parts.flatMap (fun r => r.getD [])) ++ own) else none
    | _, _ => none

/-- Routes of a ROUTES section; none where its entries do not fill it. -/
def State.readRoutes (s : State) (fuel a n : Nat) : Option (List RouteReq) :=
  match fuel with
  | 0 => none
  | k + 1 =>
    if n = 0 then some []
    else
      let hops := s.num (a + 12) 1
      let len := 16 + roundUp hops 8
      if n < len then none
      else
        let r : RouteReq :=
          { index := s.num a 2, src := s.num (a + 2) 2, dst := s.num (a + 4) 2, hMax := s.num (a + 6) 1,
            bMax := s.num (a + 7) 1, rate := s.num (a + 8) 2, burst := s.num (a + 10) 1, adapt := bitOf (s.num (a + 11) 1) 0,
            vc := b2n (bitOf (s.num (a + 11) 1) 1),
            hops := (List.range hops).map (fun i => (s.num (a + 16 + i) 1 % 8, s.num (a + 16 + i) 1 / 8 % 8)) }
        (s.readRoutes k (a + len) (n - len)).map (fun t => r :: t)

def State.readRegions (s : State) (a n : Nat) : List RegionReq :=
  (List.range (n / 16)).map (fun i =>
    let e := a + 16 * i
    { vtile := s.num e 2, region := s.num (e + 2) 1, flags := s.num (e + 3) 1, cfg := s.num (e + 4) 8 })

def State.readCounters (s : State) (a n : Nat) : List CounterReq :=
  (List.range (n / 16)).map (fun i =>
    let e := a + 16 * i
    { vid := s.num e 1, vtile := s.num (e + 2) 2, counter := s.num (e + 4) 1, init := s.num (e + 8) 8 })

def State.readStreamMap (s : State) (a : Nat) : StreamMap :=
  { stepPeriod := s.num a 4, slots := s.num (a + 4) 2, inDepth := s.num (a + 6) 1, inRecord := s.num (a + 8) 4,
    outRecord := s.num (a + 0xC) 4, ingestVtile := s.num (a + 0x10) 2, ingestRegion := s.num (a + 0x12) 1,
    egressVtile := s.num (a + 0x14) 2, egressEp := s.num (a + 0x16) 1, shadowBytes := s.num (a + 0x18) 4,
    entries := (List.range (s.num (a + 0x1C) 2)).map (fun i =>
      let e := a + 0x20 + 16 * i
      { vtile := s.num e 2, region := s.num (e + 2) 1, shadowable := bitOf (s.num (e + 3) 1) 0,
        slotBase := s.num (e + 4) 4, slotBytes := s.num (e + 8) 4 }) }

def State.readRemotes (s : State) (a : Nat) : List RemoteReq :=
  (List.range (s.num a 2)).map (fun i =>
    let e := a + 8 + 64 * i
    { role := s.num e 1, die := s.num (e + 1) 1, proxy := s.num (e + 2) 1, lvc := s.num (e + 3) 1, rch := s.num (e + 4) 2,
      routeIx := s.num (e + 6) 2, vtile := s.num (e + 8) 2, ep := s.num (e + 10) 1, hopCount := s.num (e + 11) 1,
      nibbles := s.num (e + 12) 16, bufferKib := s.num (e + 28) 2, peerKib := s.num (e + 30) 2 })

/-- Entries of a SHEET_EXCERPTS section (R424): virtual tile, region, offset, length. -/
def State.readExcerpts (s : State) (a : Nat) : List (Nat × Nat × Nat × Nat) :=
  (List.range (s.num a 2)).map (fun i =>
    let e := a + 8 + 16 * i
    (s.num e 2, s.num (e + 2) 1, s.num (e + 4) 4, s.num (e + 8) 4))

/-- A weight section as the plate keeps it. -/
def weightOf (x : Sect) (entry : List Byte) : WeightSec :=
  { sect := x.ix, vtile := x.vtile, region := x.region, offset := x.offset, length := x.length, digest := x.digest,
    encrypted := x.typ == sWEIGHTS_ENC, entry := entry }

/-- The plate at `img`, whose sections are `l`; none where a ROUTES, COMMON_CONFIG or TILE_CONFIG section is malformed,
with that section. -/
def State.readPlate (s : State) (img : Nat) (l : List Sect) : Nat ⊕ Plate :=
  let res := img + (sectOf l sRESOURCES).offset
  let at_ := fun t => img + (sectOf l t).offset
  let len := fun t => (sectOf l t).length
  let vt := s.num res 2
  let cert := at_ sCERT
  let tiles := l.filter (fun x => x.typ == sTILE)
  let cfgs := tiles.map (fun x => (x.ix, s.readTileConfig img (sectOf l sCOMMON) x))
  match cfgs.find? (fun c => c.2.isNone), s.readRoutes (len sROUTES + 1) (at_ sROUTES) (len sROUTES) with
  | some c, _ => .inl c.1
  | none, none => .inl (sectOf l sROUTES).ix
  | none, some routes =>
    .inr { plateId := s.num (img + 0x10) 8, digest := sha256 (s.sectBytes img (sectOf l sSIGNATURE)), vtiles := vt,
           reserveTiles := s.num (res + 2) 1, foldSlots := s.num (res + 3) 1, tileBytes := s.num (res + 4) 4,
           residentBytes := s.num (res + 8) 8, backingBytes := s.num (res + 0x10) 8, spillBytes := s.num (res + 0x18) 8,
           lpBytes := s.num (res + 0x20) 8, streamSlots := s.num (res + 0x30) 2, flags := s.num (res + 0x32) 1,
           proof := s.bytes (res + 0x40) 32, placement := s.readPlacement (at_ sPLACEMENT) vt,
           writes := (List.range vt).flatMap (fun v =>
             (cfgs.zip tiles).flatMap (fun c => if c.2.vtile = v then c.1.2.getD [] else [])),
           routes := routes, regions := s.readRegions (at_ sREGIONS) (len sREGIONS),
           counters := if hasSect l sCOUNTERS then s.readCounters (at_ sCOUNTERS) (len sCOUNTERS) else [],
           bSteady := s.num (cert + 8) 8, bBackground := s.num (cert + 0x10) 8, bDegradedAll := s.num (cert + 0x18) 8,
           bDegraded := (List.range vt).map (fun v => s.num (cert + 0x20 + 8 * v) 8),
           smap := s.readStreamMap (at_ sSTREAM),
           weights := (l.filter isWeight).map (fun x => weightOf x (s.bytes (img + 0x80 + 64 * x.ix) 64)),
           remotes := if hasSect l sREMOTE then s.readRemotes (at_ sREMOTE) else [],
           excerpts := if hasSect l sSHEET then s.readExcerpts (at_ sSHEET) else [],
           signer := s.bytes (img + 0x28) 32, img := img }

/-! ## The format checks (R206, code 0x01) -/

/-- A refusal: code, section table index, virtual tile. -/
abbrev Refuse := Nat × Nat × Nat

def noSect : Nat := 0xFFFF
def noVtile : Nat := 0xFFF

/-- The first refusal of a list. -/
def firstBad (l : List (Bool × Refuse)) : Option Refuse := (l.find? (fun e => e.1)).map (fun e => e.2)

/-- How often a section type may stand in a plate of `vt` virtual tiles. -/
def countOk (l : List Sect) (vt t : Nat) : Bool :=
  let n := l.countP (fun x => x.typ == t)
  if t = sCOMMON ∨ t = sCOUNTERS ∨ t = sREMOTE ∨ t = sSHEET then n ≤ 1
  else if t = sTILE then n == vt && (List.range vt).all (fun v => l.any (fun x => x.typ == sTILE && x.vtile == v))
  else if t = sWEIGHTS ∨ t = sWEIGHTS_ENC then true
  else n == 1

def knownTypes : List Nat :=
  [sRESOURCES, sPLACEMENT, sCOMMON, sTILE, sROUTES, sREGIONS, sCOUNTERS, sCERT, sWEIGHTS, sWEIGHTS_ENC, sSTREAM, sSIGNATURE]

/-- The header and the section table. -/
def State.tableBad (s : State) (img len : Nat) (l : List Sect) : Bool :=
  let n := l.length
  let vt := s.num (img + (sectOf l sRESOURCES).offset) 2
  decide (s.bytes img 8 ≠ [0x55, 0x52, 0x4B, 0x50, 0x4C, 0x41, 0x54, 0x45]) || decide (s.num (img + 0x18) 8 ≠ len) ||
  decide (n < 2) || decide (0x80 + 64 * n > len) ||
  l.any (fun x => decide (x.offset % 64 ≠ 0) || decide (x.offset < 0x80 + 64 * n) || decide (x.offset + x.length > len)) ||
  l.any (fun x => l.any (fun y => decide (x.ix < y.ix) && meets x.offset x.length y.offset y.length)) ||
  l.any (fun x => decide (x.typ < 0x8000) && !knownTypes.contains x.typ) ||
  (l.getLast?.map (fun x => x.typ)) != some sSIGNATURE ||
  !((knownTypes ++ [sREMOTE, sSHEET]).all (fun t => countOk l vt t))

/-- Lengths and ranges of single sections. -/
def State.sectsBad (s : State) (img : Nat) (l : List Sect) : Option Refuse :=
  let r := sectOf l sRESOURCES
  let vt := s.num (img + r.offset) 2
  let res := s.num (img + r.offset + 2) 1
  let slots := s.num (img + r.offset + 0x30) 2
  let bad := fun (t : Nat) (b : Bool) => (b, ((1, (sectOf l t).ix, noVtile) : Refuse))
  firstBad
    [bad sRESOURCES (r.length < 0x80 || vt == 0 || vt > 256 || res == 0 || res > 16 || slots == 0 || slots > 4096 ||
        s.num (img + r.offset + 3) 1 == 0),
     bad sPLACEMENT ((sectOf l sPLACEMENT).length != 16 * vt),
     bad sREGIONS ((sectOf l sREGIONS).length % 16 != 0),
     bad sCOUNTERS (hasSect l sCOUNTERS && (sectOf l sCOUNTERS).length % 16 != 0),
     bad sCERT ((sectOf l sCERT).length < 0x20 + 8 * vt || s.num (img + (sectOf l sCERT).offset) 2 != 1),
     bad sSTREAM ((sectOf l sSTREAM).length != 0x20 + 16 * s.num (img + (sectOf l sSTREAM).offset + 0x1C) 2)]

/-- Whether an adjacency is symmetric and its edge value admits it (R199). -/
def placeBad (l : List PlaceReq) (v : Nat) : Bool :=
  let e := l.getD v {}
  (((List.range 4).zip e.adj).any (fun x =>
    x.2 != 0xFFFF && (decide (x.2 ≥ l.length) || (l.getD x.2 {}).adj.getD (opposite x.1) 0xFFFF != v))) ||
  decide (e.edge > 3) ||
  (e.edge == 3 && (decide (e.stack > 7) || e.adj.getD (if e.stack < 4 then 0 else 2) 0xFFFF != 0xFFFF))

/-- Whether the stream map breaks R226. -/
def Plate.streamBad (pl : Plate) : Bool :=
  let m := pl.smap
  let edge := fun v => (pl.placement.getD v {}).edge
  let rgn := fun v r => pl.regions.find? (fun x => x.vtile == v && x.region == r)
  let mode := fun v r => (rgn v r).map (fun x => RGN_CFG.mode.get (BitVec.ofNat 64 x.cfg))
  let maxMsg := (rgn m.ingestVtile m.ingestRegion).map (fun x => RGN_CFG.max_msg_64.get (BitVec.ofNat 64 x.cfg) * 64)
  m.slots != pl.streamSlots || decide (m.ingestVtile ≥ pl.vtiles) || decide (m.egressVtile ≥ pl.vtiles) ||
  edge m.ingestVtile != 1 || edge m.egressVtile != 1 || decide (maxMsg.getD 0 < m.inRecord) ||
  decide (m.inRecord < 128 ∨ m.inRecord > 8192 ∨ m.inRecord % 64 ≠ 0) ||
  decide (m.outRecord < 64 ∨ m.outRecord > 8192 ∨ m.outRecord % 64 ≠ 0) ||
  decide (m.stepPeriod < 100000 ∨ m.stepPeriod > 100000000) || decide (m.inDepth < 2 ∨ m.inDepth > 64) ||
  mode m.ingestVtile m.ingestRegion != some 2 || m.entries.any (fun e => mode e.vtile e.region != some 3)

/-- Whether a weight section names no region with an initial image, or one of another size; and whether some initial
image has no section of its own. -/
def Plate.weightBad (pl : Plate) (l : List Sect) : Option Refuse :=
  let size := fun (x : RegionReq) => RGN_CFG.size_4k.get (BitVec.ofNat 64 x.cfg) * 4096
  let ok := fun (x : Sect) => pl.regions.any (fun r =>
    r.vtile == x.vtile && r.region == x.region && bitOf r.flags 1 && size r == imageLen x)
  match (l.filter isWeight).find? (fun x => !ok x) with
  | some x => some (1, x.ix, x.vtile)
  | none =>
    if pl.regions.any (fun r => bitOf r.flags 1 &&
        (l.filter isWeight).countP (fun x => x.vtile == r.vtile && x.region == r.region) != 1)
    then some (1, (sectOf l sREGIONS).ix, noVtile) else none

/-! ## Records, tiles, queues, channels and counters (codes 0x08 to 0x0D) -/

/-- Descriptors of the registers that a record may write (R201). -/
def writableBases : List Nat :=
  [ME_SLOT_CFG 0 0, ME_SLOT_ASCALE 0 0, VSP_SLOT_IO 0 0, VSP_SR_SEED 0 0, VSP_STAGE_LO 0 0 0, VSP_STAGE_HI 0 0 0,
   SU_OP_CFG 0 0 0, AG_HASH_M0 0 0, AG_HASH_M1 0 0, AG_HASH_M2 0 0, AG_S_CFG 0 0 0, AG_S_BASE 0 0 0, AG_S_COUNT_LO 0 0 0,
   AG_S_COUNT_HI 0 0 0, AG_S_STRIDE 0 0 0 0, CH_CTRL 0, CH_EP_CFG 0 0, CH_EP_DEST 0 0, CH_SND 0 0, SYNC_WAIT_CFG 0 0 0,
   SYNC_WAIT_TGT 0 0 0, TILE_FOLD_CTRL 0, TILE_FOLD_SLOT 0 0]

/-- Whether a record may write the register at an offset of the tile window. -/
def mayWrite (off : Nat) : Bool :=
  match descOf (tileRegs + off) with
  | some d => writableBases.contains d.base
  | none => false

/-- Whether a write breaks R201 or relocates outside its register (R200). -/
def Plate.recordBad (pl : Plate) (w : PlateWrite) : Bool :=
  !mayWrite w.offset ||
  (match w.reloc with
   | 0 => false
   | 1 => decide (w.relocLo + 8 > 64) || decide (bits w.value w.relocLo 8 ≥ pl.vtiles)
   | 2 => decide (w.relocLo + 10 > 64) || !pl.routes.any (fun r => r.index == bits w.value w.relocLo 10)
   | _ => true)

/-- The value that the plate gives the register at an offset of a virtual tile; its reset value where it writes none. -/
def Plate.valueAt (pl : Plate) (v off : Nat) : Nat :=
  match (pl.writes.filter (fun w => w.vtile == v && w.offset == off)).getLast? with
  | some w => w.value
  | none => (resetOf (tileRegs + off)).toNat

/-- A field of a register of a virtual tile as the plate gives it; `a` is the register's address on tile 0. -/
def Plate.fld (pl : Plate) (v a : Nat) (f : Field) : Nat := f.get (BitVec.ofNat 64 (pl.valueAt v (a - tileRegs)))

def RegionReq.fld (r : RegionReq) (f : Field) : Nat := f.get (BitVec.ofNat 64 r.cfg)

/-- Region `r` of a virtual tile. -/
def Plate.region? (pl : Plate) (v r : Nat) : Option RegionReq := pl.regions.find? (fun x => x.vtile == v && x.region == r)
def Plate.modeOf (pl : Plate) (v r : Nat) : Nat := ((pl.region? v r).map (fun x => x.fld RGN_CFG.mode)).getD 0
def Plate.dataOf (pl : Plate) (v r : Nat) : Nat :=
  if pl.modeOf v r = 1 then ((pl.region? v r).map (fun x => x.fld RGN_CFG.data_region)).getD r else r

/-- Whether a region lies outside the tile store, or meets another of its tile (R108, R117). -/
def Plate.regionBad (pl : Plate) (r : RegionReq) : Bool :=
  let b := fun (x : RegionReq) => x.fld RGN_CFG.base_4k * 4096
  let n := fun (x : RegionReq) => x.fld RGN_CFG.size_4k * 4096
  r.fld RGN_CFG.mode != 0 &&
    (n r == 0 || decide (b r + n r > tsBytes) || decide (r.region ≥ 64) || decide (r.vtile ≥ pl.vtiles) ||
      pl.regions.countP (fun x => x.vtile == r.vtile && x.fld RGN_CFG.mode != 0 && meets (b r) (n r) (b x) (n x)) != 1)

/-- The fold slots that a virtual tile enables. -/
def Plate.slotsOn (pl : Plate) (v : Nat) : List Nat :=
  (List.range 8).filter (fun k => bitOf (pl.fld v (TILE_FOLD_CTRL 0) TILE_FOLD_CTRL.slot_enable) k)

/-- Queues that a fold slot of a virtual tile takes from: its operators and the vector stage pipeline. -/
def Plate.takes (pl : Plate) (v k : Nat) : List Nat :=
  (if pl.fld v (VSP_SLOT_IO 0 k) VSP_SLOT_IO.in_src = 1 then [pl.fld v (VSP_SLOT_IO 0 k) VSP_SLOT_IO.in_queue] else []) ++
  (List.range 8).flatMap (fun j =>
    let g := fun f => pl.fld v (SU_OP_CFG 0 k j) f
    match g SU_OP_CFG.kind with
    | 0 => []
    | 1 => [g SU_OP_CFG.ctl, g SU_OP_CFG.in0, g SU_OP_CFG.in1]
    | 2 => [g SU_OP_CFG.ctl, g SU_OP_CFG.in0]
    | 3 => [g SU_OP_CFG.ctl, g SU_OP_CFG.in0]
    | 4 => [g SU_OP_CFG.ctl, g SU_OP_CFG.in0]
    | 5 => [g SU_OP_CFG.in0, g SU_OP_CFG.in1]
    | _ => [g SU_OP_CFG.in0])

/-- Data inputs and outputs of operator `j`. -/
def Plate.opData (pl : Plate) (v k j : Nat) : List Nat × List Nat :=
  let g := fun f => pl.fld v (SU_OP_CFG 0 k j) f
  match g SU_OP_CFG.kind with
  | 0 => ([], [])
  | 1 => ([g SU_OP_CFG.in0, g SU_OP_CFG.in1], [g SU_OP_CFG.out0])
  | 2 => ([g SU_OP_CFG.in0], [g SU_OP_CFG.out0, g SU_OP_CFG.out1])
  | 3 => ([g SU_OP_CFG.in0], [g SU_OP_CFG.out0])
  | 4 => ([g SU_OP_CFG.in0], [g SU_OP_CFG.out0])
  | 5 => ([g SU_OP_CFG.in0, g SU_OP_CFG.in1], [g SU_OP_CFG.out0])
  | _ => ([g SU_OP_CFG.in0], [g SU_OP_CFG.out0])

/-- Queues that receiving and combining endpoints of a virtual tile push to. -/
def Plate.epPushes (pl : Plate) (v : Nat) : List Nat :=
  ((List.range 64).filter (fun e => decide (pl.fld v (CH_EP_CFG 0 e) CH_EP_CFG.role ≥ 2))).map
    (fun e => pl.fld v (CH_EP_CFG 0 e) CH_EP_CFG.queue)

/-- Queues that a fold slot pushes to. -/
def Plate.pushes (pl : Plate) (v k : Nat) : List Nat :=
  (if pl.fld v (VSP_SLOT_IO 0 k) VSP_SLOT_IO.out_dst = 0 ∧ pl.fld v (VSP_SLOT_IO 0 k) VSP_SLOT_IO.in_src ≠ 0 then
    [pl.fld v (VSP_SLOT_IO 0 k) VSP_SLOT_IO.out_queue] else []) ++
  (List.range 8).flatMap (fun j => (pl.opData v k j).2) ++ pl.epPushes v

/-- Whether a list names something twice. -/
def twice (l : List Nat) : Bool := l.eraseDups.length != l.length

/-- Whether a virtual tile breaks R98: two consumers or two producers of one queue in one fold slot. -/
def Plate.queueBad (pl : Plate) (v : Nat) : Bool := (pl.slotsOn v).any (fun k => twice (pl.takes v k) || twice (pl.pushes v k))

/-- Whether a virtual tile breaks R125: a QUEUE whose data_region is no RECEIVE region, or an operator that pushes DATA
headers of one data_region into a queue of another. -/
def Plate.dataBad (pl : Plate) (v : Nat) : Bool :=
  (pl.regions.any (fun r => r.vtile == v && r.fld RGN_CFG.mode == 1 && pl.modeOf v (r.fld RGN_CFG.data_region) != 2)) ||
  (pl.slotsOn v).any (fun k => (List.range 8).any (fun j =>
    let io := pl.opData v k j
    io.1.any (fun a => io.2.any (fun b => pl.modeOf v b == 1 && pl.dataOf v a != pl.dataOf v b))))

/-- Whether endpoint `e` of a virtual tile breaks R164, R165, R167 or R190. -/
def Plate.channelBad (pl : Plate) (v e : Nat) : Bool :=
  let cfg := fun f => pl.fld v (CH_EP_CFG 0 e) f
  let dst := fun f => pl.fld v (CH_EP_DEST 0 e) f
  let q := cfg CH_EP_CFG.queue
  let snds := (List.range 256).filter (fun i =>
    pl.fld v (CH_SND 0 i) CH_SND.valid = 1 ∧ pl.fld v (CH_SND 0 i) CH_SND.endpoint = e)
  match cfg CH_EP_CFG.role with
  | 0 => false
  | 1 =>
    let direct := pl.fld (dst CH_EP_DEST.dest_tile) (CH_EP_CFG 0 (dst CH_EP_DEST.dest_ep)) CH_EP_CFG.ordered = 0 ∧
      pl.fld (dst CH_EP_DEST.dest_tile) (CH_EP_CFG 0 (dst CH_EP_DEST.dest_ep)) CH_EP_CFG.role = 2
    let route := pl.routes.find? (fun r => r.index == dst CH_EP_DEST.route_id)
    let edge := route.any (fun r => decide (r.dst ≥ 0xFF00))
    pl.modeOf v q != 1 ||
      (!edge && decide direct && route.any (fun r => r.adapt)) ||
      (!edge && cfg CH_EP_CFG.announce != 0 && !pl.counters.any (fun c =>
        c.vid == cfg CH_EP_CFG.announce_vid && c.vtile == dst CH_EP_DEST.dest_tile))
  | 2 =>
    (if cfg CH_EP_CFG.ordered = 1 then pl.modeOf v q != 1 else pl.modeOf v q != 2) || decide (snds.length > 64) ||
      twice (snds.map (fun i => pl.fld v (CH_SND 0 i) CH_SND.sender_index))
  | _ => decide (snds.length > 64) || pl.modeOf v (cfg CH_EP_CFG.combine_region) != 3

/-- Whether the COUNTERS section breaks its rule (R187, R188): a counter number above 63 or used twice on a tile, or a
virtual ID defined twice. -/
def Plate.counterBad (pl : Plate) : Bool :=
  pl.counters.any (fun c => decide (c.counter ≥ 64) || decide (c.vtile ≥ pl.vtiles)) ||
    twice (pl.counters.map (fun c => c.vid)) || twice (pl.counters.map (fun c => c.vtile * 64 + c.counter))

/-- Whether the remote channels break R374. `used` are the proxies of other contexts (die × 64 + proxy), `busy` the bytes
that they buffer on each die, `active` whether a port is ACTIVE. -/
def Plate.remoteBad (pl : Plate) (used : List Nat) (busy : Nat → Nat) (active : Nat → Bool) : Bool :=
  let px := pl.remotes.filter (fun r => r.role != 3)
  px.any (fun r => used.contains (r.die * 64 + r.proxy)) || twice (px.map (fun r => r.die * 64 + r.proxy)) ||
  [0, 1].any (fun d => decide (busy d + ((px.filter (fun r => r.die == d)).map (fun r => r.bufferKib * 1024)).sum > 0x800000)) ||
  pl.remotes.any (fun r => r.role == 1 && !active (r.nibbles % 16)) ||
  pl.remotes.any (fun r => r.role == 3 &&
    !pl.smap.entries.any (fun e => e.vtile == r.vtile && e.region == r.ep && e.shadowable))

/-- The section of a virtual tile's TILE_CONFIG. -/
def tileSect (l : List Sect) (v : Nat) : Nat := ((l.find? (fun x => x.typ == sTILE && x.vtile == v)).map (fun x => x.ix)).getD noSect

/-- The checks 0x08 to 0x0D. -/
def Plate.rulesBad (pl : Plate) (l : List Sect) (remote : Bool) : Option Refuse :=
  let vs := List.range pl.vtiles
  let at_ := fun t => (sectOf l t).ix
  match pl.writes.find? (fun w => pl.recordBad w) with
  | some w => some (0x08, w.sect, w.vtile)
  | none =>
    if pl.tileBytes > tsBytes ∨ pl.foldSlots > 8 then some (0x09, at_ sRESOURCES, noVtile)
    else match pl.regions.find? (fun r => pl.regionBad r) with
      | some r => some (0x09, at_ sREGIONS, r.vtile)
      | none =>
        match pl.regions.find? (fun r => r.fld RGN_CFG.mode == 2 &&
            decide (r.fld RGN_CFG.size_4k * 4096 < 2 * (64 + r.fld RGN_CFG.max_msg_64 * 64))) with
        | some r => some (0x0A, at_ sREGIONS, r.vtile)
        | none =>
          match vs.find? (fun v => pl.queueBad v), vs.find? (fun v => pl.dataBad v) with
          | some v, _ => some (0x0B, tileSect l v, v)
          | none, some v => some (0x0B, at_ sREGIONS, v)
          | none, none =>
            match vs.find? (fun v => (List.range 64).any (fun e => pl.channelBad v e)) with
            | some v => some (0x0C, tileSect l v, v)
            | none =>
              if remote then some (0x0C, at_ sREMOTE, noVtile)
              else if pl.counterBad then some (0x0D, at_ sCOUNTERS, noVtile)
              else none

/-! ## Authenticity (codes 0x05 to 0x07) -/

/-- The digest that the signature covers (R197): the header, the table and every section but weights and signature. -/
def State.signedDigest (s : State) (img : Nat) (l : List Sect) : List Byte :=
  sha256 (s.bytes img (0x80 + 64 * l.length) ++
    (l.filter (fun x => !isWeight x && x.typ != sSIGNATURE)).flatMap (fun x => s.sectBytes img x))

/-- Whether the plate's signature holds under an enrolled key (R197). -/
def State.signedOk (s : State) (img : Nat) (l : List Sect) : Bool :=
  match s.enrolled.find? (fun k => decide (sha256 k = s.bytes (img + 0x28) 32)) with
  | none => false
  | some k => Config.hssVerify k (s.signedDigest img l) (s.sectBytes img (sectOf l sSIGNATURE))

/-- Grade bit of a part (R194). -/
def Part.grade (p : Part) : Nat :=
  match p with
  | .urk3800 => 0
  | .urk3100 => 1
  | .urk2500 => 2

/-- Bytes of the backing image as R312 lays it out: the image of each resident region on a 4 KiB boundary. -/
def Plate.backingAt (pl : Plate) : List (Nat × Nat) :=
  ((pl.regions.filter (fun r => bitOf r.flags 0)).foldl (fun (st : List (Nat × Nat) × Nat) r =>
    (st.1 ++ [(r.vtile * 64 + r.region, st.2)], st.2 + r.fld RGN_CFG.size_4k * 4096)) ([], 0)).1

/-- The checks of R206 up to 0x0E, in their order, of the image at `img` for context `c`; the plate where all pass. -/
def State.checkPlate (s : State) (c img len : Nat) (remoteBad : Plate → Bool) : Refuse ⊕ Plate :=
  let l := s.sections img
  let conf := s.bit (SCU_CTX_STATE c) SCU_CTX_STATE.confidential
  let y := s.ctx c
  if s.tableBad img len l then .inl (1, noSect, noVtile)
  else match s.sectsBad img l with
  | some r => .inl r
  | none =>
    match s.readPlate img l with
    | .inl x => .inl (1, x, noVtile)
    | .inr pl =>
      let fail := fun (code t : Nat) => (.inl (code, (if t = noSect then noSect else (sectOf l t).ix), noVtile) : Refuse ⊕ Plate)
      match (List.range pl.vtiles).find? (fun v => placeBad pl.placement v) with
      | some v => .inl (1, (sectOf l sPLACEMENT).ix, v)
      | none =>
        if pl.streamBad then fail 1 sSTREAM
        else match pl.weightBad l with
        | some r => .inl r
        | none =>
          if s.num (img + 9) 1 ≠ 1 then fail 0x02 noSect
          else if s.num (img + 0xB) 1 > s.fld SCU_CMD_VERSION SCU_CMD_VERSION.major ∨
              (s.num (img + 0xB) 1 = s.fld SCU_CMD_VERSION SCU_CMD_VERSION.major ∧
                s.num (img + 0xA) 1 > s.fld SCU_CMD_VERSION SCU_CMD_VERSION.minor) then fail 0x03 noSect
          else if s.num (img + 0xC) 2 ≠ 1 ∨ !bitOf (s.num (img + 0xE) 2) s.part.grade then fail 0x04 noSect
          else if !s.signedOk img l then fail 0x05 sSIGNATURE
          else match l.find? (fun x => !isWeight x && decide (sha256 (s.sectBytes img x) ≠ x.digest)) with
          | some x => .inl (0x06, x.ix, noVtile)
          | none =>
            if bitOf pl.flags 0 && !conf then fail 0x07 sRESOURCES
            else if hasSect l sWEIGHTS_ENC && !conf then fail 0x07 sWEIGHTS_ENC
            else match pl.rulesBad l (remoteBad pl) with
            | some r => .inl r
            | none =>
              if roundUp pl.backingBytes 4096 + pl.smap.slots * pl.smap.shadowBytes > y.hbmBytes ∨
                  (s.spillOf c).2 < pl.spillBytes ∨ y.lpBytes < pl.lpBytes then fail 0x0E sRESOURCES
              else .inr pl

end Sys2Proof.Machine
end

