-- ==== Sys2Proof/Machine/Reply.lean ====
section
/-! DEFINITION. Machine/Reply.lean: taking command packets, the checks every command shares, and replies (R340 to R352). -/
namespace Sys2Proof.Machine

/-! ## Status codes (R349) -/

def stOK : Nat := 0x0
def stBAD_OPCODE : Nat := 0x1
def stVERSION : Nat := 0x2
def stBAD_PARAM : Nat := 0x3
def stBAD_CONTEXT : Nat := 0x4
def stWRONG_STATE : Nat := 0x5
def stREFUSED : Nat := 0x6
def stBUSY : Nat := 0x7
def stNO_MEMORY : Nat := 0x8
def stACCESS : Nat := 0x9
def stCONFIDENTIAL : Nat := 0xA
def stCANCELLED : Nat := 0xB
def stTAG : Nat := 0xC
def stOUT : Nat := 0xD
def stAUTH : Nat := 0xE

/-! ## Replies (R343, R346) -/

/-- in_progress follows the commands taken and not replied to. -/
def State.cmdView (s : State) : State :=
  s.setFld SCU_CMD_STATUS SCU_CMD_STATUS.in_progress (s.taken.length + s.waiting.length)

/-- Writes one reply: in full before the reply producer index advances, which drives DRDY_N; a CMD_DONE event follows
where the packet asks for one. -/
def State.replyRaw (s : State) (tag op status detail form : Nat) (event : Bool) (res : List (Nat × Nat)) : State :=
  let i := s.tl.repIx
  let b := leBytes 2 tag ++ leBytes 2 op ++ leBytes 2 status ++ leBytes 1 detail ++ leBytes 1 form ++ fieldsFrom 8 res
  let s := { s with tl := { s.tl with repIx := i + 1 } }
  let s := s.put (repWindow + (i % 1024) * 64) ((b ++ List.replicate 64 0).take 64)
  let s := (s.put repProdLine (leBytes 8 (i + 1))).drdy
  let s := if status = stOK then s else s.addSat SCU_CMD_STATUS SCU_CMD_STATUS.refused 1
  (if event then s.event 0x000F 0xFF (fieldsFrom 0 [(2, tag), (2, op), (2, status)]) else s).cmdView

/-- What firmware knows of a command that it executes. -/
structure Cmd where
  tag : Nat
  op : Nat
  ctx : Nat
  form : Nat
  event : Bool

def State.reply (s : State) (c : Cmd) (status detail : Nat) : State := s.replyRaw c.tag c.op status detail 0 c.event []
def State.ok (s : State) (c : Cmd) (res : List (Nat × Nat)) : State := s.replyRaw c.tag c.op stOK 0 0 c.event res
def State.okForm (s : State) (c : Cmd) (form : Nat) (res : List (Nat × Nat)) : State :=
  s.replyRaw c.tag c.op stOK 0 form c.event res
def State.refuse (s : State) (c : Cmd) (detail : Nat) : State := s.reply c stREFUSED detail

/-- The command waits for its completion. -/
def State.await (s : State) (c : Cmd) (obj arg : Nat) : State :=
  ({ s with waiting := s.waiting ++ [({ tag := c.tag, op := c.op, ctx := c.ctx, form := c.form, event := c.event,
                                        obj := obj, arg := arg } : Waiting)] } : State).cmdView

def Waiting.cmd (w : Waiting) : Cmd := ⟨w.tag, w.op, w.ctx, w.form, w.event⟩

/-- Every waiting command that satisfies `f` completes through `g`, aborts before drains (R351). -/
def State.complete (s : State) (f : Waiting → Bool) (g : State → Waiting → State) : State :=
  let l := s.waiting.filter f
  let s := { s with waiting := s.waiting.filter (fun w => !f w) }
  ((l.filter (fun w => w.form == 1) ++ l.filter (fun w => w.form != 1)).foldl g s).cmdView

/-! ## Taking a command (R341, R342, R350 to R352) -/

/-- A POWER event with the present state and the code of cause `k` (log 30). -/
def State.powerEvent (s : State) (k : Nat) : State :=
  s.event 0x0012 0xFF (fieldsFrom 0 [(1, s.fld PWR_STATUS PWR_STATUS.state), (1, Config.powerCause k % 256)])

/-- HBM and LPDDR5X in power state `n`: in self-refresh in Doze, and LPDDR5X in Slumber too; off below; up in Run and Idle
(R309, R446). A stack or controller that failed stays so. -/
def State.memPower (s : State) (n : Nat) : State :=
  let hb := if n ≤ 1 then 1 else if n = 2 then 2 else 0
  let lp := if n ≤ 1 then 1 else if n ≤ 3 then 2 else 0
  (List.range 8).foldl (fun s i =>
    let s := if s.fld (HBM_STATUS i) HBM_STATUS.state = 3 then s else s.setFld (HBM_STATUS i) HBM_STATUS.state hb
    s.setFld (LP_STATUS i) LP_STATUS.state lp) s

/-- The module enters power state `n`. -/
def State.enterPower (s : State) (n : Nat) : State := ((s.setFld PWR_STATUS PWR_STATUS.state n).memPower n).powerEvent 0

/-- Whether a compute reset is under way (R410). -/
def State.inReset (s : State) : Bool := s.fld SCU_RESET_STATUS SCU_RESET_STATUS.step != 0

/-- Commands that are executed during a compute reset: of the device, time and diagnostics groups but COUNTERS_READ,
HEALTH_READ and SEC_STATUS (R411). -/
def duringReset (op : Nat) : Bool :=
  (op / 256 == 0x00 || op / 256 == 0x09 || op / 256 == 0x08 || op == 0x0501 || op == 0x0704) && op != 0x0804

/-- Whether commands are taken: firmware serves and the power state keeps the link up (R352, R450). -/
def State.takesCommands (s : State) : Bool :=
  s.fwUp && s.fld PWR_STATUS PWR_STATUS.state != 3 && s.fld PWR_STATUS PWR_STATUS.state != 4

/-- The packet of a tag and opcode among those taken. -/
def takenIx (l : List (List Byte)) (tag op : Nat) : Option Nat :=
  l.findIdx? (fun b => decide (ofBytes (b.take 2) = tag) && decide (ofBytes ((b.drop 2).take 2) = op))

/-- Whether the tag is held: by a waiting command or by a packet taken before this one. -/
def State.tagHeld (s : State) (tag op : Nat) : Bool :=
  s.waiting.any (fun w => w.tag == tag) ||
    ((s.taken.take ((takenIx s.taken tag op).getD s.taken.length)).any (fun b => decide (ofBytes (b.take 2) = tag)))

/-- The command leaves the packets taken; one that no watch took counts as taken now. -/
def State.takeCmd (s : State) (tag op : Nat) : State :=
  match takenIx s.taken tag op with
  | some i => ({ s with taken := s.taken.eraseIdx i } : State).cmdView
  | none =>
    let n := s.fld SCU_CMD_TAKEN SCU_CMD_TAKEN.taken + 1
    (s.setFld SCU_CMD_TAKEN SCU_CMD_TAKEN.taken n).put cmdConsLine (leBytes 8 n)

/-- What the Ctx column asks of byte 6. -/
inductive CtxNeed where
  | none
  /-- A context that is not FREE. -/
  | exists
  /-- As `exists`, or 0xFF for the device. -/
  | orDevice
  /-- A context that is FREE, or 0xFF while one is. -/
  | free
  deriving DecidableEq, Repr

/-- Whether byte 6 satisfies the need. -/
def State.ctxOk (s : State) (n : CtxNeed) (c : Nat) : Bool :=
  match n with
  | .none => true
  | .exists => decide (c < 16) && s.cState c != 0
  | .orDevice => c == 0xFF || (decide (c < 16) && s.cState c != 0)
  | .free => (decide (c < 16) && s.cState c == 0) || (c == 0xFF && (List.range 16).any (fun k => s.cState k == 0))

/-- What a command's row of the opcode tables says. -/
structure Row where
  op : Nat
  need : CtxNeed := .none
  forms : Bool := false
  /-- Executed while the module is OUT_OF_SERVICE (R351). -/
  served : Bool := false

/-- Executes a command: the shared checks of R349 in their order, then `f`. `params` says whether every parameter field
is in range. -/
def State.command (s : State) (h : CmdHdr) (r : Row) (params : Bool) (f : Cmd → State → State) : State :=
  if !s.takesCommands || (s.inReset && !duringReset r.op) then s
  else
    let c : Cmd := ⟨h.tag.toNat, r.op, h.ctx.toNat, b2n (bitOf h.flags.toNat 0), bitOf h.flags.toNat 1⟩
    let pw := s.fld PWR_STATUS PWR_STATUS.state
    let s := if pw = 1 ∨ pw = 2 then s.enterPower 0 else s
    let held := s.tagHeld c.tag c.op
    let s := s.takeCmd c.tag c.op
    if h.major.toNat ≠ s.fld SCU_CMD_VERSION SCU_CMD_VERSION.major ∨
        h.minor.toNat > s.fld SCU_CMD_VERSION SCU_CMD_VERSION.minor then s.reply c stVERSION 0
    else if held then s.reply c stTAG 0
    else if s.bit SCU_CMD_STATUS SCU_CMD_STATUS.out_of_service && !r.served then s.reply c stOUT 0
    else if h.flags.toNat ≥ 4 ∨ (c.form = 1 ∧ !r.forms) then s.reply c stBAD_PARAM 0
    else if !s.ctxOk r.need c.ctx then s.reply c stBAD_CONTEXT 0
    else if !params ∨ h.tail then s.reply c stBAD_PARAM 0
    else f c s

/-! ## The submission watch (R342) -/

/-- The opcodes of the tables (R353). -/
def knownOps : List Nat :=
  [0x0001, 0x0002, 0x0003, 0x0004, 0x0101, 0x0102, 0x0103, 0x0104, 0x0105, 0x0106, 0x0201, 0x0202, 0x0203, 0x0301, 0x0302,
   0x0303, 0x0304, 0x0305, 0x0401, 0x0402, 0x0403, 0x0404, 0x0405, 0x0406, 0x0501, 0x0502, 0x0503, 0x0504, 0x0505, 0x0506,
   0x0507, 0x0508, 0x0601, 0x0602, 0x0603, 0x0604, 0x0701, 0x0702, 0x0703, 0x0704, 0x0801, 0x0802, 0x0803, 0x0804, 0x0901,
   0x0902, 0x0903, 0x0904, 0x0A01, 0x0A02, 0x0A03, 0x0A04, 0x0B01, 0x0B02, 0x0B03]

/-- Takes one packet: an unknown opcode is replied to at once. -/
def State.takePacket (s : State) (n : Nat) : State :=
  let b := s.bytes (cmdWindow + (n % 1024) * 128) 128
  let s := (s.setFld SCU_CMD_TAKEN SCU_CMD_TAKEN.taken (n + 1)).put cmdConsLine (leBytes 8 (n + 1))
  let op := ofBytes ((b.drop 2).take 2)
  if knownOps.contains op then ({ s with taken := s.taken ++ [b] } : State).cmdView
  else
    let old := ofBytes ((b.drop 5).take 1) != s.fld SCU_CMD_VERSION SCU_CMD_VERSION.major ||
      decide (ofBytes ((b.drop 4).take 1) > s.fld SCU_CMD_VERSION SCU_CMD_VERSION.minor)
    s.replyRaw (ofBytes (b.take 2)) op (if old then stVERSION else stBAD_OPCODE) 0 0 (bitOf (ofBytes ((b.drop 7).take 1)) 1) []

/-- Takes up to `fuel` commands while a reply slot is free for each. -/
def State.takeUpTo (s : State) (fuel goal : Nat) : State :=
  match fuel with
  | 0 => s
  | n + 1 =>
    let t := s.fld SCU_CMD_TAKEN SCU_CMD_TAKEN.taken
    if t = goal ∨ ahead t s.tl.repSeen ≥ 1024 then s else (s.takePacket t).takeUpTo n goal

/-- SUBMISSION_WATCH: the SCU reads the submission line and takes the new commands; an index that is not valid makes it
take nothing (R342). -/
def execSubmissionWatch (s : State) : Host.Outcome State Fault Refusal :=
  .next (
    if !s.takesCommands then s
    else
      let s := s.unfire subLine
      let t := s.fld SCU_CMD_TAKEN SCU_CMD_TAKEN.taken
      let v := s.num subLine 8
      if ahead v t > 1024 then
        (s.setBit SCU_CMD_STATUS SCU_CMD_STATUS.ring_fault true).event 0x0010 0xFF (fieldsFrom 0 [(8, v)])
      else (s.setBit SCU_CMD_STATUS SCU_CMD_STATUS.ring_fault false).takeUpTo 1024 v)

/-! ## Host buffers (R352) -/

/-- Whether `n` bytes of a named buffer lie in the host window. -/
def inHost (a n : Nat) : Bool := decide (hostFirst ≤ a) && decide (a + n ≤ 2 ^ 52)

end Sys2Proof.Machine
end

