-- ==== Sys2Proof/Machine/MatrixEngine.lean ====
section
/-! DEFINITION. Machine/MatrixEngine.lean: the matrix engine (R32 to R70). -/
namespace Sys2Proof.Machine

/-! ## The slot's settings -/

/-- Mode of a weight format (R33): 0 4-bit, 1 8-bit, 2 16-bit. -/
def meMode (wf : Nat) : Nat := if wf = 0x0 ∨ wf = 0x9 then 0 else if wf = 0xA ∨ wf = 0xB then 2 else 1

/-- Output columns of a mode. -/
def meCols (mode : Nat) : Nat := if mode = 0 then 256 else if mode = 1 then 128 else 32

/-- Bytes of one row of the element array, and of the whole array (R58). -/
def meRowBytes (mode : Nat) : Nat := if mode = 2 then 64 else 128
def meArrayBytes (mode : Nat) : Nat := 128 * meRowBytes mode

/-- Bytes of the side block (R58). -/
def sideBytes : Nat := 1728

/-- Whether the formats form a pair of R40. -/
def mePair (wf af : Nat) : Bool := (decide (wf ≤ 0x9) && decide (af ≤ 0x9)) || (wf == af && (wf == 0xA || wf == 0xB))

def State.meWf (s : State) (p sl : Nat) : Nat := s.fld (ME_SLOT_CFG p sl) ME_SLOT_CFG.w_format
def State.meAf (s : State) (p sl : Nat) : Nat := s.fld (ME_SLOT_CFG p sl) ME_SLOT_CFG.a_format
def State.meSlices (s : State) (p sl : Nat) : Nat := s.fld (ME_SLOT_CFG p sl) ME_SLOT_CFG.k_slices
def State.meRunLen (s : State) (p sl : Nat) : Nat := s.fld (ME_SLOT_CFG p sl) ME_SLOT_CFG.run_len
def State.meTol (s : State) (p sl : Nat) : Nat := s.fld (ME_SLOT_CFG p sl) ME_SLOT_CFG.tol_exp
def State.meEnabled (s : State) (p sl : Nat) : Bool := s.bit (ME_SLOT_CFG p sl) ME_SLOT_CFG.enable

/-- Whether every field of a slot's settings is valid (R40). -/
def State.meValid (s : State) (p sl : Nat) : Bool :=
  mePair (s.meWf p sl) (s.meAf p sl) && decide (1 ≤ s.meSlices p sl) && decide (1 ≤ s.meRunLen p sl) &&
    decide (s.meRunLen p sl ≤ 256) && decide (s.fld (ME_SLOT_CFG p sl) ME_SLOT_CFG.emit_target ≤ 1) &&
    decide (8 ≤ s.meTol p sl) && decide (s.meTol p sl ≤ 20)

/-! ## A block image -/

/-- Rows 0 to 127 of a block image. -/
def imgRows (img : List Byte) (wf : Nat) : List (List FVal) :=
  let rb := meRowBytes (meMode wf)
  (List.range 128).map (fun k => elems wf ((img.drop (k * rb)).take rb))

/-- `n` bytes at offset `o` of the side block, as a number. -/
def sideNum (img : List Byte) (wf o n : Nat) : Nat := ofBytes ((img.drop (meArrayBytes (meMode wf) + o)).take n)

/-- Whether row block `b` is unchecked (R50, R58). -/
def imgUnchecked (img : List Byte) (wf b : Nat) : Bool := bitOf (sideNum img wf 2 1) b

/-- E8M0 code of column `n`, row block `b`; 127 for formats without such scales (R43). -/
def imgEw (img : List Byte) (wf n b : Nat) : Nat := if fmtIsMx wf then sideNum img wf (0x40 + 4 * n + b) 1 else 127

/-- FP32 scale of column `n` or of the tensor; 1.0 for MX formats (R43). -/
def imgScale (img : List Byte) (wf n : Nat) : FVal :=
  if fmtIsMx wf then .fin false 1 0
  else if wf = 0x8 ∨ wf = 0x9 then fp32 (sideNum img wf (0x40 + 4 * n) 4)
  else fp32 (sideNum img wf 8 4)

/-- Check weight of row `k` (R49). -/
def imgCk (img : List Byte) (wf k : Nat) : Int := signed 40 (sideNum img wf (0x440 + 5 * k) 5)

/-- Sum of a list of values, exact. -/
def sumVal (l : List FVal) : FVal := l.foldl addVal fzero

/-! ## A pass in the 4-bit and 8-bit modes -/

/-- Block sums of row block `b` for each column (R42). -/
def blockSums (rows : List (List FVal)) (xs : List FVal) (cols b : Nat) : List FVal :=
  (((rows.drop (32 * b)).take 32).zip ((xs.drop (32 * b)).take 32)).foldl
    (fun acc rx => List.zipWith (fun a w => addVal a (mulVal w rx.2)) acc rx.1) (List.replicate cols fzero)

/-- The block sum of a column with an upset added, in units of LSB_w · LSB_a. -/
def upsetSums (u : MeUpset) (lsb : Int) (b : Nat) (l : List FVal) : List FVal :=
  match u with
  | .sum c k d => if k.val = b then l.modify c.val (fun a => addVal a (ofIntVal d lsb)) else l
  | _ => l

/-- The pass result of a column from its exact value (R44). -/
def passResult (v : FVal) : Nat := if v.isZero then 0 else toFP32 v

/-- The value of a column (R43, R44): the four block sums under their scales, times the FP32 scales. -/
def columnValue (sa sw : FVal) (parts : List (FVal × Nat × Nat)) : FVal :=
  mulVal (mulVal sa sw) (sumVal (parts.map (fun x => mulVal x.1 (mulVal (e8m0 x.2.1) (e8m0 x.2.2)))))

/-- Smallest column scale code of a row block among columns whose weights are not all zero (R49). -/
def imgEmin (img : List Byte) (rows : List (List FVal)) (wf cols b : Nat) : Nat :=
  let blk := (rows.drop (32 * b)).take 32
  let live := blk.foldl (fun acc r => List.zipWith (fun a w => a || !w.isZero) acc r) (List.replicate cols false)
  ((List.range cols).zip live).foldl (fun m c => if c.2 then min m (imgEw img wf c.1 b) else m) 255

/-- DT_b (R51). -/
def treeSum (img : List Byte) (wf emin b : Nat) (sums : List FVal) : FVal :=
  sumVal (((List.range sums.length).zip sums).map (fun c =>
    if fmtIsMx wf then mulVal c.2 (.fin false 1 ((imgEw img wf c.1 b : Int) - emin)) else c.2))

/-- CK_b (R51). -/
def checkSum (img : List Byte) (wf : Nat) (xs : List FVal) (b : Nat) : FVal :=
  sumVal ((List.range 32).map (fun i =>
    mulVal (ofIntVal (imgCk img wf (32 * b + i)) (fmtLsb wf)) (xs.getD (32 * b + i) fzero)))

/-- What a pass gives: its column results, the row blocks with a check fault, whether the combine circuits differ, the
tolerance fault, and the blocks not checked. -/
structure PassOut where
  vals : List Nat
  bad : List Nat
  combine : Bool
  tol : Bool
  skipped : Nat
  injected : Bool

/-- A pass in the 4-bit and 8-bit modes: results (R43, R44), checks (R51, R53), and the injected check fault (R69). -/
def exactPass (img : List Byte) (wf af : Nat) (sa : FVal) (xs : List FVal) (ea : List Nat) (u : MeUpset)
    (inject : Bool) : PassOut :=
  let cols := meCols (meMode wf)
  let rows := imgRows img wf
  let lsb := fmtLsb wf + fmtLsb af
  let sums := (List.range 4).map (fun b => upsetSums u lsb b (blockSums rows xs cols b))
  let vals := (List.range cols).map (fun n => passResult (columnValue sa (imgScale img wf n)
    ((List.range 4).map (fun b => ((sums.getD b []).getD n fzero, imgEw img wf n b,
      if fmtIsMx af then ea.getD b 127 else 127)))))
  let checked := (List.range 4).filter (fun b =>
    !imgUnchecked img wf b && ((xs.drop (32 * b)).take 32).all (fun x => x.isFin) &&
      !(fmtIsMx af && ea.getD b 127 == 255))
  let bad := checked.filter (fun b =>
    let ck := checkSum img wf xs b
    let ck := if inject && checked.head? == some b then addVal ck (ofIntVal 1 lsb) else ck
    !eqVal (treeSum img wf (imgEmin img rows wf cols b) b (sums.getD b [])) ck)
  { vals := vals, bad := bad, combine := match u with | .combine c m => decide (c.val < cols) && m != 0 | _ => false,
    tol := false, skipped := 4 - checked.length, injected := inject && !checked.isEmpty }

/-! ## A pass in 16-bit mode (R57) -/

/-- A running FP32 sum of exact terms, each rounded, in the order given. -/
def fpSum (l : List FVal) : Nat := l.foldl (fun acc t => fpAdd acc (toFP32 t)) 0

/-- A pass in 16-bit mode and its tolerance check. -/
def roundedPass (img : List Byte) (wf : Nat) (xs : List FVal) (tolExp : Nat) (u : MeUpset) : PassOut :=
  let rows := imgRows img wf
  let ys := (List.range 32).map (fun n => fpSum (List.zipWith (fun r x => mulVal (r.getD n fzero) x) rows xs))
  let ys := match u with | .sum c _ d => ys.modify c.val (fun y => fpAdd y (toFP32 (ofIntVal d 0))) | _ => ys
  let d := fp32 (ys.foldl fpAdd 0)
  let c := fp32 (fpSum ((List.range 128).map (fun k => mulVal (fp32 (sideNum img wf (0x40 + 4 * k) 4)) (xs.getD k fzero))))
  let m := fp32 (fpSum ((List.range 128).map (fun k =>
    mulVal (fp32 (sideNum img wf (0x240 + 4 * k) 4)) (absVal (xs.getD k fzero)))))
  let checked := d.isFin && c.isFin && m.isFin && xs.all (fun x => x.isFin) && rows.all (fun r => r.all (fun w => w.isFin))
  { vals := ys, bad := [], combine := false,
    tol := checked && ltVal (mulVal (.fin false 1 (-(tolExp : Int))) m) (absVal (addVal d (negVal c))),
    skipped := b2n (!checked), injected := false }

/-! ## Faults (R54, R55) -/

/-- Writes the fault log and its time. -/
def State.meLog (s : State) (p kind rowBlock : Nat) : State :=
  let u := s.meU p
  let s := s.setReg (ME_FAULT_LOG p) (BitVec.ofNat 64 (kind + s.slot p * 2 ^ 4 + rowBlock * 2 ^ 7 +
    ((u.run + u.skips) % 2 ^ 16) * 2 ^ 16 + (s.fld (ME_PASS_COUNT p) ME_PASS_COUNT.count % 2 ^ 32) * 2 ^ 32))
  s.setReg (ME_FAULT_TIME p) (BitVec.ofNat 64 s.tb)

/-- A config fault: set, logged; the slot's vectors stay where they are (R40). -/
def State.meConfigFault (s : State) (p : Nat) : State :=
  (s.unitConfig p (ME_FAULT p) ME_FAULT.config_fault).meLog p 5 0

/-- The faults of one pass: every one counted and signalled, the first in rank logged (R54, R55). -/
def State.meFaults (s : State) (p : Nat) (o : PassOut) : State :=
  let s := if o.tol then
      (((s.setBit (ME_FAULT p) ME_FAULT.tol_fault true).addSat (ME_TOL_FAULTS p) ME_TOL_FAULTS.tol_faults 1).meLog p 3 0).signal
        { kind := .tolerance, tile := p, time := s.tb }
    else s
  let s := o.bad.reverse.foldl (fun s b =>
    (((s.setBit (ME_FAULT p) ME_FAULT.check_fault true).addSat (ME_CHECK_FAULTS p) ME_CHECK_FAULTS.check_faults 1).meLog p 1 b).signal
      { kind := .check, tile := p, arg := b, time := s.tb }) s
  if o.combine then
    (((s.setBit (ME_FAULT p) ME_FAULT.combine_fault true).addSat (ME_CHECK_FAULTS p) ME_CHECK_FAULTS.combine_faults 1).meLog p 2 0).signal
      { kind := .combine, tile := p, time := s.tb }
  else s

/-! ## Status -/

/-- Whether the engine is between slice sets with nothing to emit. -/
def MeUnit.idle (u : MeUnit) : Bool := u.run = 0 && u.pass = 0 && u.skips = 0 && u.acc.isEmpty && u.out.isEmpty

/-- The status fields that follow the unit. -/
def State.meStatus (s : State) (p : Nat) : State :=
  let u := s.meU p
  let st := ME_STATUS p
  let s := s.setBit st ME_STATUS.busy (!u.idle)
  let s := s.setFld st ME_STATUS.active_slot (s.slot p)
  let s := s.setBit st ME_STATUS.shadow_full (!u.shadow.isEmpty)
  let s := s.setBit st ME_STATUS.active_valid (!u.active.isEmpty)
  let s := s.setFld st ME_STATUS.w_format (sideNum u.active (s.meWf p (s.slot p)) 0 1)
  let s := s.setFld st ME_STATUS.a_format (s.meAf p (s.slot p))
  s.setFld st ME_STATUS.acc_entries_in_use u.acc.length

/-- A stalled cycle count grows, unless frozen. -/
def State.meStall (s : State) (p a : Nat) : State :=
  if s.bit (ME_CTRL p) ME_CTRL.perf_freeze then s else s.cycles a

/-- Adds to the passes run without a check. -/
def State.meSkipped (s : State) (p n : Nat) : State :=
  if n = 0 then s else s.addSat (ME_CHECK_SKIPPED p) ME_CHECK_SKIPPED.passes_unchecked n

/-- The shadow buffer swaps in when no block is active (R60). -/
def MeUnit.swap (u : MeUnit) : MeUnit :=
  if u.active.isEmpty && !u.shadow.isEmpty then { u with active := u.shadow, shadow := [] } else u

/-- The slice set ends when its last run, or its last dropped block, is past: its entries are complete. -/
def MeUnit.endSet (u : MeUnit) (k : Nat) : MeUnit :=
  if u.pass = 0 && decide (u.run + u.skips ≥ k) then
    { u with run := 0, skips := u.nextSkips, nextSkips := 0,
             acc := u.acc.map (fun e => (e.1, { e.2 with done := true })) }
  else u

/-! ## Commands -/

/-- Whether the engine takes work for the active slot. -/
def State.meReady (s : State) (p : Nat) : Bool :=
  s.mayStart p uMe && s.running (haltMe p) && s.meEnabled p (s.slot p)

/-- The output of one pass of the active block on the vector at `vec` with block scales at `scale`. -/
def State.mePassOut (s : State) (p vec scale : Nat) (upset : MeUpset) : PassOut :=
  let sl := s.slot p
  let wf := s.meWf p sl
  let af := s.meAf p sl
  let img := (s.meU p).active
  let xs := elems af (s.bytes (osBase p + vec) (fmtBytes af 128))
  let ea := (List.range 4).map (fun b => s.num (osBase p + scale + b) 1)
  let sa := if fmtIsMx af then .fin false 1 0 else fp32 (s.fld (ME_SLOT_ASCALE p sl) ME_SLOT_ASCALE.a_scale)
  if meMode wf = 2 then roundedPass img wf xs (s.meTol p sl) upset
  else
    let inj := s.bit (ME_CTRL p) ME_CTRL.inject_combine
    let u := if inj then
        match upset with
        | .none => .combine 0 1
        | x => x
      else upset
    exactPass img wf af sa xs ea u (s.bit (ME_CTRL p) ME_CTRL.inject_check)

/-- The results of a pass as written: where the two combine circuits of a column differ, either circuit's value, which
the spec does not say (R52). -/
def State.mePassVals (s : State) (upset : MeUpset) (o : PassOut) : List Nat × State :=
  if o.combine then
    let got := s.draw 1
    let w := got.1
    let s := got.2
    let got := match upset with | .combine c m => (c.val, m.toNat) | _ => (0, 1)
    let c := got.1
    let m := got.2
    (if w = 1 then o.vals.modify c (fun v => Nat.xor v m) else o.vals, s)
  else (o.vals, s)

/-- One pass: result into the accumulator entry with its mark, faults, counts, and the end of the run and of the slice
set (R35, R47, R54, R60). -/
def State.mePass (s : State) (p vec scale : Nat) (upset : MeUpset) : State :=
  let sl := s.slot p
  let af := s.meAf p sl
  let o := s.mePassOut p vec scale upset
  let s := if s.bit (ME_CTRL p) ME_CTRL.perf_freeze then s
    else (s.addWrap (ME_PASS_COUNT p) 1).cycles (ME_BUSY_CYCLES p)
  let got := s.readUe p (osBase p + vec) (fmtBytes af 128) 0
  let ueV := got.1
  let s := got.2
  let got := if fmtIsMx af then s.readUe p (osBase p + scale) 4 0 else (false, s)
  let ueS := got.1
  let s := got.2
  let s := s.meFaults p o
  let s := s.meSkipped p o.skipped
  let s := if o.injected then s.setBit (ME_CTRL p) ME_CTRL.inject_check false else s
  let s := if o.combine then s.setBit (ME_CTRL p) ME_CTRL.inject_combine false else s
  let got := s.mePassVals upset o
  let vals := got.1
  let s := got.2
  let u := s.meU p
  let mark := ueV || ueS || !o.bad.isEmpty || o.combine || o.tol || decide (u.skips > 0)
  let e := match u.acc.find? (fun e => e.1 == u.pass) with
    | some e => { e.2 with vals := List.zipWith fpAdd e.2.vals vals, mark := e.2.mark || mark }
    | none => { vals := vals, mark := mark }
  let u := { u with acc := tset {} u.acc u.pass e, pass := u.pass + 1 }
  let u := if u.pass ≥ s.meRunLen p sl then
      ({ u with pass := 0, run := u.run + 1, active := [] }.endSet (s.meSlices p sl)).swap
    else u
  (s.setMe p u).meStatus p

/-- ME_PASS: the next activation vector of the run, at `vec` in operand scratch with its block scales at `scale`,
passes through the active block; without a valid slot the config fault of R40, and without an active block, or while
the entry it feeds is not emitted, a stall (R60, R62). -/
def execMePass (p : Tile) (vec scale : ScratchOff) (upset : MeUpset) (s : State) : Host.Outcome State Fault Refusal :=
  let sl := s.slot p
  .next (
    if !s.meReady p then s
    else if !s.meValid p sl then s.meConfigFault p
    else if vec + fmtBytes (s.meAf p sl) 128 > osBytes ∨ scale + 4 > osBytes then s
    else if (s.meU p).active.isEmpty then s.meStall p (ME_STALL_WEIGHT p)
    else if (tget {} (s.meU p).acc (s.meU p).pass).done then s.meStall p (ME_STALL_OUTPUT p)
    else s.mePass p vec scale upset)

/-- A block image with an uncorrectable word, which its read has signalled, is dropped: fault, marks on the set's entries
(R61). -/
def State.meDropBlock (s : State) (p : Nat) : State :=
  let s := (s.setBit (ME_FAULT p) ME_FAULT.weight_ecc true).meLog p 4 0
  let u := s.meU p
  let k := s.meSlices p (s.slot p)
  let u := if !u.active.isEmpty && decide (u.run + 1 + u.skips ≥ k) then { u with nextSkips := u.nextSkips + 1 }
    else { u with skips := u.skips + 1, acc := u.acc.map (fun e => if e.2.done then e else (e.1, { e.2 with mark := true })) }
  (s.setMe p (u.endSet k)).meStatus p

/-- WEIGHT_BLOCK_LOAD: the block image at `addr` of operand scratch enters the shadow buffer, or is dropped when it
holds an uncorrectable word (R59 to R61). -/
def execWeightBlockLoad (p : Tile) (addr : ScratchOff) (s : State) : Host.Outcome State Fault Refusal :=
  let sl := s.slot p
  let n := meArrayBytes (meMode (s.meWf p sl)) + sideBytes
  .next (
    if !s.meReady p then s
    else if !s.meValid p sl then s.meConfigFault p
    else if addr + n > osBytes ∨ !(s.meU p).shadow.isEmpty then s
    else
      let got := s.readUe p (osBase p + addr) n 4
      let bad := got.1
      let t := got.2
      if bad then t.meDropBlock p
      else
        let u := t.meU p
        (t.setMe p ({ u with shadow := s.bytes (osBase p + addr) n }.swap)).meStatus p)

/-- Chops a list into pieces of 64 lanes; `fuel` bounds the pieces. -/
def chunks64 (fuel : Nat) (l : List (Nat × Bool)) : List (List (Nat × Bool)) :=
  match fuel with
  | 0 => []
  | n + 1 => if l.isEmpty then [] else l.take 64 :: chunks64 n (l.drop 64)

/-- Vectors of 64 FP32 lanes that the output port carries (R62); lanes of a last vector that the values do not fill
are free. -/
def State.portVectors (s : State) (l : List AccEntry) : List VecItem × State :=
  let flat := l.flatMap (fun e => e.vals.map (fun v => (v, e.mark)))
  let got := s.drawList ((64 - flat.length % 64) % 64) 32
  let fill := got.1
  let s := got.2
  let flat := flat ++ fill.map (fun v => (v, false))
  ((chunks64 (flat.length / 64 + 1) flat).map (fun c =>
    { data := c.flatMap (fun x => leBytes 4 x.1), mark := c.any (fun x => x.2) }), s)

/-- Emits complete entries in order to a region, each one local item, until one has no room. -/
def State.emitEntries (s : State) (p r tag : Nat) (l : List (Nat × AccEntry)) : State :=
  match l with
  | [] => s
  | e :: t =>
    match s.emitItem p r (s.localHdr p tData tag e.2.mark) (e.2.vals.flatMap (fun v => leBytes 4 v)) with
    | none => s.meStall p (ME_STALL_OUTPUT p)
    | some s =>
      let u := s.meU p
      (s.setMe p { u with acc := u.acc.filter (fun x => x.1 != e.1) }).emitEntries p r tag t

/-- Emits the complete entries to the slot's target (R35, R62). -/
def State.meEmit (s : State) (p : Nat) : State :=
  let sl := s.slot p
  let u := s.meU p
  let ready := u.acc.filter (fun e => e.2.done)
  if ready.isEmpty then s
  else if s.fld (ME_SLOT_CFG p sl) ME_SLOT_CFG.emit_target = 0 then
    if u.out.isEmpty then
      let got := s.portVectors (ready.map (fun e => e.2))
      let vs := got.1
      let s := got.2
      (s.setMe p { u with out := vs, acc := u.acc.filter (fun e => !e.2.done) }).meStatus p
    else s.meStall p (ME_STALL_OUTPUT p)
  else
    let got := s.draw 16
    let tag := got.1
    let s := got.2
    (s.emitEntries p (s.fld (ME_SLOT_CFG p sl) ME_SLOT_CFG.emit_region) tag ready).meStatus p

/-- SLICE_SET_EMIT: a complete slice set goes to the output port or to its region. -/
def execSliceSetEmit (p : Tile) (s : State) : Host.Outcome State Fault Refusal :=
  .next (if s.fenced p || s.isHalted (haltMe p) then s else s.meEmit p)

/-- DRAIN of the engine ends: what is complete is emitted, incomplete entries are discarded and reported (R66). -/
def State.meDrained (s : State) (p : Nat) : State :=
  let s := s.meEmit p
  let u := s.meU p
  if u.acc.any (fun e => e.2.done) then s
  else
    let n := u.acc.length
    let s := (s.setMe p { u with run := 0, pass := 0, skips := 0, nextSkips := 0, acc := [] }).meStatus p
    (s.setFld (ME_STATUS p) ME_STATUS.acc_entries_in_use n).halt (haltMe p)

/-- ME_HALT_REQ: halt_req with its halt_mode: DRAIN starts to halt, ABORT halts at once (R66). -/
def execMeHaltReq (p : Tile) (mode : BitVec 2) (s : State) : Host.Outcome State Fault Refusal :=
  let s := s.setFld (ME_CTRL p) ME_CTRL.halt_mode mode.toNat
  .next (
    if s.isHalted (haltMe p) then s
    else if mode = 0 then s.startDrain (haltMe p)
    else if mode = 1 then s.abortMe p
    else s)

/-- ME_RESUME: clears halted, unless the tile is fenced; the active slot's work goes on (R66). -/
def execMeResume (p : Tile) (s : State) : Host.Outcome State Fault Refusal :=
  .next (if s.fenced p then s else s.resume (haltMe p))

end Sys2Proof.Machine
end

