-- ==== Sys2Proof/Machine/MemoryUnit.lean ====
section
/-! DEFINITION. Machine/MemoryUnit.lean: regions as commands use them (R117 to R125), patrol scrub (R132, R133), row
repair (R134 to R136), the fill engine (R137) and proof hashing (R285). -/
namespace Sys2Proof.Machine

/-! ## Queues and records -/

/-- QUEUE_PUSH: a producer writes a header at tail once there is room (R120). -/
def execQueuePush (p : Tile) (r : Fin 64) (hdr : BitVec 128) (s : State) : Host.Outcome State Fault Refusal :=
  .next (
    if s.rMode p r ≠ mQueue then s
    else if !s.rSound p r then s.setBit (RGN_STATUS p r) RGN_STATUS.pointer_fault true
    else match s.pushQ p r (decodeHdr hdr.toNat) with
      | some t => t
      | none => s.setBit (RGN_STATUS p r) RGN_STATUS.full true)

/-- QUEUE_POP: the consumer of the active slot takes the entry that the region presents, stale entries discarded first
(R120, R124, R217, R218). -/
def execQueuePop (p : Tile) (r : Fin 64) (s : State) : Host.Outcome State Fault Refusal :=
  let t := s.purge p r
  .next (
    if s.rMode p r = mQueue ∨ s.rMode p r = mReceive then
      match t.present p r (t.slot p) with
      | some e => t.pop p r e
      | none => t
    else s)

/-- RECORD_RELEASE: the record at offset `off` of a RECEIVE region is released (R124). -/
def execRecordRelease (p : Tile) (r : Fin 64) (off : Fin 0x4000000) (s : State) : Host.Outcome State Fault Refusal :=
  .next (if s.rMode p r = mReceive then s.release p r off else s)

/-- RGN_WRITE: a write of RGN_CFG (0), RGN_HEAD (1), RGN_TAIL (2) or RGN_READ (3), which takes effect while the region
is OFF alone (R119). -/
def execRgnWrite (p : Tile) (r : Fin 64) (which : Fin 4) (v : BitVec 64) (s : State) :
    Host.Outcome State Fault Refusal :=
  let size := s.rSize p r
  let off := if size = 0 then 0 else v.toNat % size
  .next (
    if s.rMode p r ≠ mOff then s.setBit (RGN_STATUS p r) RGN_STATUS.cfg_fault true
    else match which.val with
      | 0 => s.setReg (RGN_CFG p r) (BitVec.ofNat 64 (v.toNat % 2 ^ 53))
      | 1 => ((s.setReg (RGN_HEAD p r) v).setFld (RGN_OFFS p r) RGN_OFFS.head_off off).setPopped p r []
      | 2 => (s.setReg (RGN_TAIL p r) v).setFld (RGN_OFFS p r) RGN_OFFS.tail_off off
      | _ => ((s.setReg (RGN_READ p r) v).setFld (RGN_STATUS p r) RGN_STATUS.read_off off).setPopped p r [])

/-! ## Patrol scrub (R132, R133) -/

/-- SCRUB_READ: the scrub reads word `word` of the tile store or of operand scratch, and what it meets is `ecc`: a
correctable word is written back and counted, an uncorrectable one reported with source scrub. -/
def execScrubRead (p : Tile) (sc : Bool) (word : Fin 0x100000) (ecc : EccEvent) (s : State) :
    Host.Outcome State Fault Refusal :=
  let a := if sc then osBase p + word % 0x4000 * 32 else tsBase p + word * 64
  .next (
    if !s.bit (MU_CTRL p) MU_CTRL.scrub_en then s
    else
      let pos := s.fld (MU_SCRUB_STATUS p) MU_SCRUB_STATUS.position + 1
      let s := s.setFld (MU_SCRUB_STATUS p) MU_SCRUB_STATUS.position pos
      let s := if pos < 2 ^ 20 then s else s.addSat (MU_SCRUB_STATUS p) MU_SCRUB_STATUS.passes 1
      ((s.eccAt p a ecc).readUe p a 1 1).2)

/-- A repair request that waits in the row table is held in MU_ROWCE_REQ and signalled. -/
def State.rowCeNext (s : State) (p : Nat) : State :=
  let u := s.muW p
  match u.rows.findIdx? (fun (x : RowCount) => x.waiting) with
  | none => s
  | some i =>
    let x := u.rows.getD i {}
    let s := s.setMu p { u with rows := u.rows.set i { x with waiting := false, count := 0 } }
    let s := s.setReg (MU_ROWCE_REQ p) (BitVec.ofNat 64 (1 + b2n x.osram * 2 + x.bank * 2 ^ 2 + x.row * 2 ^ 8 +
      (x.count % 16) * 2 ^ 18))
    s.signal { kind := .rowRepair, tile := p, arg := b2n x.osram + x.bank * 2 + x.row * 128, time := s.tb }

/-- ROWCE_RELEASE: valid of MU_ROWCE_REQ is cleared, and a waiting request takes its place (R133). -/
def execRowceRelease (p : Tile) (s : State) : Host.Outcome State Fault Refusal :=
  .next ((s.setBit (MU_ROWCE_REQ p) MU_ROWCE_REQ.valid false).rowCeNext p)

/-! ## Row repair (R134 to R136) -/

/-- The register and field of repair entry `i` of a bank. -/
def repairField (p : Nat) (sc : Bool) (bank i : Nat) : Nat × Field :=
  if sc then (MU_OS_REPAIR p bank, ⟨16 * i, 16⟩) else (MU_REPAIR p bank (i / 4), ⟨16 * (i % 4), 16⟩)

/-- A repair entry: its row, and whether it is valid. -/
def State.repair (s : State) (p : Nat) (sc : Bool) (bank i : Nat) : Nat :=
  s.fld (repairField p sc bank i).1 (repairField p sc bank i).2

def spares (sc : Bool) : Nat := if sc then 2 else 16
def repairValid (v : Nat) : Bool := bitOf v 15
def repairRow (sc : Bool) (v : Nat) : Nat := bits v 0 (if sc then 5 else 10)

/-- The row field that retires a spare. -/
def retiredRow (sc : Bool) : Nat := if sc then 0x1F else 0x3FF

/-- Sets a field entry: row, field bit, valid. -/
def State.setRepair (s : State) (p : Nat) (sc : Bool) (bank i row : Nat) : State :=
  s.setFld (repairField p sc bank i).1 (repairField p sc bank i).2 (row + 2 ^ 14 + 2 ^ 15)

/-- Ends a remap command with its result. -/
def State.remapResult (s : State) (p result : Nat) : State :=
  let s := (s.setFld (MU_REMAP_STATUS p) MU_REMAP_STATUS.result result).setBit (MU_REMAP_STATUS p) MU_REMAP_STATUS.done true
  if result = 0 then s.addSat (MU_REMAP_STATUS p) MU_REMAP_STATUS.remaps 1
  else s.setBit (MU_FAULT p) MU_FAULT.remap_refused true

/-- Whether bank, row and spare exist. -/
def remapInRange (sc : Bool) (bank row spare : Nat) : Bool := !sc || (decide (bank < 32) && decide (row < 32) && decide (spare < 2))

/-- A LOAD of a repair entry: without a copy, while the tile is UNTESTED alone. -/
def State.remapLoad (s : State) (p : Nat) (sc : Bool) (bank row spare : Nat) : State :=
  if s.bit (MU_STATUS p) MU_STATUS.remap_busy then s.setBit (MU_FAULT p) MU_FAULT.remap_busy true
  else if !remapInRange sc bank row spare then s.remapResult p 4
  else if s.fld (HLTH_TILE p) HLTH_TILE.state ≠ 0 then s.remapResult p 3
  else (s.setRepair p sc bank spare row).remapResult p 0

/-- REMAP_LOAD. -/
def execRemapLoad (p : Tile) (sc : Bool) (bank : Fin 64) (row : Fin 1024) (spare : Fin 16) (s : State) :
    Host.Outcome State Fault Refusal :=
  .next (s.remapLoad p sc bank row spare)

/-- Starts a live remap, or refuses it (R135, R136). -/
def State.remapStart (s : State) (p : Nat) (sc : Bool) (bank row spare : Nat) : State :=
  if s.bit (MU_STATUS p) MU_STATUS.remap_busy then s.setBit (MU_FAULT p) MU_FAULT.remap_busy true
  else if !remapInRange sc bank row spare then s.remapResult p 4
  else if (List.range (spares sc)).all (fun i => repairValid (s.repair p sc bank i)) then s.remapResult p 2
  else if repairValid (s.repair p sc bank spare) then s.remapResult p 1
  else
    let s := s.setMu p { s.muW p with remap := some (b2n sc, bank, row, spare) }
    (s.setBit (MU_STATUS p) MU_STATUS.remap_busy true).setFld (MU_STATUS p) ⟨MU_STATUS.agents_active.lo, 1⟩ 1

/-- REMAP. -/
def execRemap (p : Tile) (sc : Bool) (bank : Fin 64) (row : Fin 1024) (spare : Fin 16) (s : State) :
    Host.Outcome State Fault Refusal :=
  .next (s.remapStart p sc bank row spare)

/-- The uncorrectable words of a row are copied as such, and each is reported by the copy's read. -/
def State.remapReads (s : State) (p : Nat) (sc : Bool) (bank row : Nat) : State :=
  (s.ue.filter (fun e => decide (e.2 ≠ 0) &&
      ((decide (tsBase p ≤ e.1) && decide (e.1 < tsBase (p + 1))) || (decide (osBase p ≤ e.1) && decide (e.1 < osBase (p + 1)))) &&
      s.bankRow p e.1 == (sc, bank, row))).foldl (fun s e => s.ueMet p e.1 e.2 2) s

/-- Ends a live remap: the entry becomes valid, an entry that held the row is retired (R135, R136). -/
def State.remapDone (s : State) (p : Nat) : State :=
  match (s.muW p).remap with
  | none => s
  | some (c, bank, row, spare) =>
    let sc := c = 1
    let s := s.remapReads p sc bank row
    let old := (List.range (spares sc)).find? (fun i =>
      repairValid (s.repair p sc bank i) && repairRow sc (s.repair p sc bank i) == row)
    let s := match old with | some i => s.setRepair p sc bank i (retiredRow sc) | none => s
    let s := s.setRepair p sc bank spare row
    let s := s.setMu p { s.muW p with remap := none }
    let s := (s.setBit (MU_STATUS p) MU_STATUS.remap_busy false).setFld (MU_STATUS p) ⟨MU_STATUS.agents_active.lo, 1⟩ 0
    s.remapResult p 0

/-! ## The fill engine (R137) -/

/-- Starts a fill: scope 0 TILE, 1 RANGE with base and length in 4 KiB units. -/
def State.fillStart (s : State) (p scope base len : Nat) : State :=
  if s.bit (MU_FILL_STATUS p) MU_FILL_STATUS.busy then s.setBit (MU_FAULT p) MU_FAULT.fill_busy true
  else if scope = 1 ∧ (len = 0 ∨ len > 16384 ∨ base + len > 16384) then
    s.setBit (MU_FILL_STATUS p) MU_FILL_STATUS.refused true
  else
    let s := s.setMu p { s.muW p with fill := some (scope, base, len) }
    let s := (s.setBit (MU_FILL_STATUS p) MU_FILL_STATUS.busy true).setFld (MU_FILL_STATUS p) MU_FILL_STATUS.progress_4k 0
    (s.setBit (MU_STATUS p) MU_STATUS.fill_busy true).setFld (MU_STATUS p) ⟨MU_STATUS.agents_active.lo + 1, 1⟩ 1

/-- FILL_TILE. -/
def execFillTile (p : Tile) (s : State) : Host.Outcome State Fault Refusal := .next (s.fillStart p 0 0 0)

/-- FILL_RANGE. -/
def execFillRange (p : Tile) (base : Fin 0x4000) (len : Fin 0x8000) (s : State) : Host.Outcome State Fault Refusal :=
  .next (s.fillStart p 1 base len)

/-- Every word of both SRAMs of a tile takes a pattern. -/
def State.fillAll (s : State) (p pattern : Nat) : State :=
  (s.fillRange (tsBase p) tsBytes pattern).fillRange (osBase p) osBytes pattern

/-- Ends the fill in progress. -/
def State.fillEnd (s : State) (p : Nat) : State :=
  match (s.muW p).fill with
  | none => s
  | some (scope, base, len) =>
    let pat := s.fld (MU_FILL_PATTERN p) MU_FILL_PATTERN.pattern
    let s := if scope = 0 then s.fillAll p pat else s.fillRange (tsBase p + base * 4096) (len * 4096) pat
    let s := s.setMu p { s.muW p with fill := none }
    let s := (s.setBit (MU_FILL_STATUS p) MU_FILL_STATUS.busy false).setBit (MU_FILL_STATUS p) MU_FILL_STATUS.done true
    let s := s.setFld (MU_FILL_STATUS p) MU_FILL_STATUS.progress_4k (if scope = 0 then 16384 else len)
    (s.setBit (MU_STATUS p) MU_STATUS.fill_busy false).setFld (MU_STATUS p) ⟨MU_STATUS.agents_active.lo + 1, 1⟩ 0

/-- FILL_DONE. -/
def execFillDone (p : Tile) (s : State) : Host.Outcome State Fault Refusal := .next (s.fillEnd p)

/-! ## Proof hashing (R285) -/

/-- Writes a digest in MU_PROOF_DIGEST. -/
def State.setDigest (s : State) (p : Nat) (d : List Byte) : State :=
  (List.range 4).foldl (fun s i => s.setReg (MU_PROOF_DIGEST p i) (BitVec.ofNat 64 (ofBytes ((d.drop (8 * i)).take 8)))) s

/-- Starts hashing a region, unless a hash is in progress. -/
def State.hashGo (s : State) (p r : Nat) : State :=
  let st := MU_PROOF_STATUS p
  if s.bit st MU_PROOF_STATUS.busy then s
  else
    let s := (s.setFld st MU_PROOF_STATUS.region r).setFld st MU_PROOF_STATUS.progress_4k 0
    if s.rMode p r = mOff then (s.setBit st MU_PROOF_STATUS.done true).setDigest p []
    else (s.setMu p { s.muW p with hash := some (r, 0) }).setBit st MU_PROOF_STATUS.busy true

/-- PROOF_HASH_GO. -/
def execProofHashGo (p : Tile) (r : Fin 64) (s : State) : Host.Outcome State Fault Refusal := .next (s.hashGo p r)

/-- Stops the hash in progress. -/
def State.hashStop (s : State) (p : Nat) : State :=
  (s.setMu p { s.muW p with hash := none }).setBit (MU_PROOF_STATUS p) MU_PROOF_STATUS.busy false

/-- PROOF_HASH_ABANDON. -/
def execProofHashAbandon (p : Tile) (s : State) : Host.Outcome State Fault Refusal := .next (s.hashStop p)

/-- The digest of a region: SHA-256 of its size bytes from base (R284). -/
def State.regionDigest (s : State) (p r : Nat) : List Byte := sha256 (s.bytes (tsBase p + s.rBase p r) (s.rSize p r))

/-- Ends the hash in progress: the digest is valid, an uncorrectable word met is reported. -/
def State.hashEnd (s : State) (p : Nat) : State :=
  match (s.muW p).hash with
  | none => s
  | some (r, _) =>
    let st := MU_PROOF_STATUS p
    let d := s.regionDigest p r
    let got := s.readUe p (tsBase p + s.rBase p r) (s.rSize p r) 3
    let ue := got.1
    let t := got.2
    let t := if ue then t.setBit st MU_PROOF_STATUS.ue true else t
    let t := (t.setDigest p d).hashStop p
    (t.setFld st MU_PROOF_STATUS.progress_4k (s.rSize p r / 4096)).setBit st MU_PROOF_STATUS.done true

end Sys2Proof.Machine
end

