-- ==== Sys2Proof/Machine/Steering.lean ====
section
/-! DEFINITION. Machine/Steering.lean: the steering unit (R97 to R103). -/
namespace Sys2Proof.Machine

/-! ## One operator -/

/-- A field of the configuration of operator `j` of the active slot. -/
def State.suCfg (s : State) (p j : Nat) (f : Field) : Nat := s.fld (SU_OP_CFG p (s.slot p) j) f

/-- What one evaluation of an operator answers. -/
inductive SuRes where
  /-- It waits for an input. -/
  | wait
  /-- It waits only because an output is full. -/
  | full
  /-- It fires. -/
  | fired (s : State)

/-- Whether region `r` is a queue of the steering unit (R98). -/
def State.isQueue (s : State) (p r : Nat) : Bool := s.rMode p r == mQueue || s.rMode p r == mReceive

/-- The head of a queue for the active slot (R98). -/
def State.suHead (s : State) (p r : Nat) : Option Ent := s.present p r (s.slot p)

/-- An entry is popped; an END_OF_BATCH token popped is one that the unit has passed. -/
def State.suPop (s : State) (p r : Nat) (e : Ent) : State := s.pop p r e

/-- An item is discarded: popped, its record released and counted (R100, R124). -/
def State.suDiscard (s : State) (p r : Nat) (e : Ent) : State :=
  ((s.pop p r e).releaseItem p r e.hdr).addSat (SU_DISCARDS p) SU_DISCARDS.count 1

/-- The queues that an operator of kind `k` names: inputs, then outputs. -/
def State.suQueues (s : State) (p j k : Nat) : List Nat × List Nat :=
  let ctl := s.suCfg p j SU_OP_CFG.ctl
  let in0 := s.suCfg p j SU_OP_CFG.in0
  let in1 := s.suCfg p j SU_OP_CFG.in1
  let out0 := s.suCfg p j SU_OP_CFG.out0
  let out1 := s.suCfg p j SU_OP_CFG.out1
  match k with
  | 1 => ([ctl, in0, in1], [out0])
  | 2 => ([ctl, in0], [out0, out1])
  | 3 => ([ctl, in0], [out0])
  | 4 => ([ctl, in0], [out0])
  | 5 => ([in0, in1], [out0])
  | _ => ([in0], [out0, out1])

/-- Marks operator `j` as waiting or not. -/
def State.suWaiting (s : State) (p j : Nat) (b : Bool) : State :=
  s.setFld (SU_STATUS p) ⟨SU_STATUS.ops_waiting.lo + j, 1⟩ (b2n b)

/-- A firing is counted, unless frozen. -/
def State.suFired (s : State) (p : Nat) : State :=
  if s.bit (SU_CTRL p) SU_CTRL.perf_freeze then s else s.addWrap (SU_FIRE_COUNT p) 1

/-- A cycle of waiting on a full output is counted, unless frozen. -/
def State.suStall (s : State) (p : Nat) : State :=
  if s.bit (SU_CTRL p) SU_CTRL.perf_freeze then s else s.cycles (SU_STALL_OUTPUT p)

/-- The end tokens at the heads of an operator's inputs reach the unit when they are popped: the wait and the switch
trigger of the steering unit follow (R191, R219). -/
def State.suEob (s : State) (p : Nat) (h : Hdr) : State := if h.typ = tEob then s.eobPassed p uSu else s

/-- A control token that is an end token goes to every output and consumes no data item (R100). -/
def State.suCtlEnd (s : State) (p ctl : Nat) (c : Ent) (outs : List Nat) : SuRes :=
  if s.roomAll p outs then
    .fired (((outs.foldl (fun s o => s.pushIn p o c.hdr) s).suPop p ctl c).suEob p c.hdr)
  else .full

/-- SELECT (R100). -/
def State.fireSelect (s : State) (p j : Nat) : SuRes :=
  let ctl := s.suCfg p j SU_OP_CFG.ctl
  let out := s.suCfg p j SU_OP_CFG.out0
  match s.suHead p ctl with
  | none => .wait
  | some c =>
    if c.hdr.isEnd then s.suCtlEnd p ctl c [out]
    else
      let r := if c.hdr.offVal % 2 = 1 then s.suCfg p j SU_OP_CFG.in1 else s.suCfg p j SU_OP_CFG.in0
      match s.suHead p r with
      | none => .wait
      | some d =>
        if !s.hasRoom p out then .full
        else .fired ((((s.pushIn p out d.hdr).suPop p r d).suPop p ctl c).suEob p d.hdr)

/-- SWITCH (R100). -/
def State.fireSwitch (s : State) (p j : Nat) : SuRes :=
  let ctl := s.suCfg p j SU_OP_CFG.ctl
  let r := s.suCfg p j SU_OP_CFG.in0
  let outs := [s.suCfg p j SU_OP_CFG.out0, s.suCfg p j SU_OP_CFG.out1]
  match s.suHead p ctl with
  | none => .wait
  | some c =>
    if c.hdr.isEnd then s.suCtlEnd p ctl c outs
    else
      let out := if c.hdr.offVal % 2 = 1 then s.suCfg p j SU_OP_CFG.out1 else s.suCfg p j SU_OP_CFG.out0
      match s.suHead p r with
      | none => .wait
      | some d =>
        if !s.hasRoom p out then .full
        else .fired ((((s.pushIn p out d.hdr).suPop p r d).suPop p ctl c).suEob p d.hdr)

/-- GATE (R100). -/
def State.fireGate (s : State) (p j : Nat) : SuRes :=
  let ctl := s.suCfg p j SU_OP_CFG.ctl
  let r := s.suCfg p j SU_OP_CFG.in0
  let out := s.suCfg p j SU_OP_CFG.out0
  match s.suHead p ctl with
  | none => .wait
  | some c =>
    if c.hdr.isEnd then s.suCtlEnd p ctl c [out]
    else
      match s.suHead p r with
      | none => .wait
      | some d =>
        if !s.hasRoom p out then .full
        else if d.hdr.typ != tData || c.hdr.offVal != 0 then
          .fired ((((s.pushIn p out d.hdr).suPop p r d).suPop p ctl c).suEob p d.hdr)
        else .fired ((s.suDiscard p r d).suPop p ctl c)

/-- REPEAT (R100): one copy for each firing. -/
def State.fireRepeat (s : State) (p j : Nat) : SuRes :=
  let ctl := s.suCfg p j SU_OP_CFG.ctl
  let r := s.suCfg p j SU_OP_CFG.in0
  let out := s.suCfg p j SU_OP_CFG.out0
  let st := SU_OP_STATE p (s.slot p) j
  match s.suHead p ctl with
  | none => .wait
  | some c =>
    if c.hdr.isEnd then s.suCtlEnd p ctl c [out]
    else
      match s.suHead p r with
      | none => .wait
      | some d =>
        let n := c.hdr.offVal % 2 ^ 16
        if !s.hasRoom p out then .full
        else if d.hdr.typ != tData then
          .fired ((((s.pushIn p out d.hdr).suPop p r d).suPop p ctl c).suEob p d.hdr)
        else if n = 0 then .fired ((s.suDiscard p r d).suPop p ctl c)
        else
          let t := s.pushIn p out d.hdr
          let k := s.fld st SU_OP_STATE.repeat_count + 1
          if k ≥ n then .fired (((t.setFld st SU_OP_STATE.repeat_count 0).suPop p r d).suPop p ctl c)
          else .fired (t.setFld st SU_OP_STATE.repeat_count k)

/-- END (R100). -/
def State.fireEnd (s : State) (p j : Nat) : SuRes :=
  let r := s.suCfg p j SU_OP_CFG.in0
  let out := s.suCfg p j SU_OP_CFG.out0
  let out1 := s.suCfg p j SU_OP_CFG.out1
  match s.suHead p r with
  | none => .wait
  | some d =>
    if !s.hasRoom p out then .full
    else
      let done := fun (t : State) => SuRes.fired ((((t.pushIn p out d.hdr).suPop p r d).suEob p d.hdr))
      if d.hdr.typ = tEos ∨ (d.hdr.typ = tEob ∧ s.suCfg p j SU_OP_CFG.end_on_eob = 1) then
        if !s.hasRoom p out1 then .full
        else done (s.pushIn p out1
          { s.localHdr p tControl d.hdr.itemTag false with offVal := s.suCfg p j SU_OP_CFG.end_value })
      else done s

/-- Input `i` of a MERGE_ARRIVAL operator. -/
def State.mergeIn (s : State) (p j i : Nat) : Nat :=
  if i = 0 then s.suCfg p j SU_OP_CFG.in0 else s.suCfg p j SU_OP_CFG.in1

/-- Takes the head of input `i` and forwards it; a forwarded end token makes in0 the reference (R101). -/
def State.mergeTake (s : State) (p j i : Nat) (d : Ent) : State :=
  let out := s.suCfg p j SU_OP_CFG.out0
  let t := ((s.pushIn p out d.hdr).suPop p (s.mergeIn p j i) d).suEob p d.hdr
  if d.hdr.isEnd then t.setFld (SU_OP_STATE p (s.slot p) j) SU_OP_STATE.merge_ref 0 else t

/-- MERGE_ARRIVAL (R101): the first rule that matches. -/
def State.fireMerge (s : State) (p j : Nat) : SuRes :=
  let st := SU_OP_STATE p (s.slot p) j
  let out := s.suCfg p j SU_OP_CFG.out0
  let h0 := s.suHead p (s.mergeIn p j 0)
  let h1 := s.suHead p (s.mergeIn p j 1)
  let held := fun (h : Option Ent) => match h with | some e => e.hdr.isEnd | none => false
  let s := s.setFld st SU_OP_STATE.merge_held (b2n (held h0) + 2 * b2n (held h1))
  let ref := s.fld st SU_OP_STATE.merge_ref
  if !s.hasRoom p out then .full
  else
    match h0, h1 with
    | some a, some b =>
      if a.hdr.isEnd ∧ b.hdr.isEnd then
        if a.hdr.typ = b.hdr.typ then .fired ((s.suPop p (s.mergeIn p j 1) b).mergeTake p j 0 a)
        else if a.hdr.typ = tEob then .fired (s.mergeTake p j 0 a)
        else .fired (s.mergeTake p j 1 b)
      else if a.hdr.isEnd then .fired (s.mergeTake p j 1 b)
      else if b.hdr.isEnd then .fired (s.mergeTake p j 0 a)
      else if ref = 0 then .fired ((s.mergeTake p j 0 a).setFld st SU_OP_STATE.merge_ref 1)
      else .fired ((s.mergeTake p j 1 b).setFld st SU_OP_STATE.merge_ref 0)
    | some a, none =>
      if a.hdr.isEnd then .wait
      else if ref = 0 then .fired ((s.mergeTake p j 0 a).setFld st SU_OP_STATE.merge_ref 1)
      else .fired ((s.mergeTake p j 0 a).addMod (SU_MERGE_DEV p) SU_MERGE_DEV.count 1)
    | none, some b =>
      if b.hdr.isEnd then .wait
      else if ref = 1 then .fired ((s.mergeTake p j 1 b).setFld st SU_OP_STATE.merge_ref 0)
      else .fired ((s.mergeTake p j 1 b).addMod (SU_MERGE_DEV p) SU_MERGE_DEV.count 1)
    | none, none => .wait

/-! ## Commands -/

/-- One evaluation of operator `j` of the active slot by the rule of kind `k` (R99, R100, R103). -/
def State.suStep (s : State) (p j k : Nat) (fire : State → SuRes) : State :=
  let kind := s.suCfg p j SU_OP_CFG.kind
  if !(s.mayStart p uSu && s.running (haltSu p)) then s
  else if kind > 6 then s.setBit (SU_FAULT p) SU_FAULT.config_fault true
  else if kind != k then s
  else
    let got := s.suQueues p j k
    let ins := got.1
    let outs := got.2
    if !(ins ++ outs).all (fun r => s.isQueue p r) then s.setBit (SU_FAULT p) SU_FAULT.queue_fault true
    else
      let s := ins.foldl (fun s r => s.purge p r) s
      match fire s with
      | .wait => s.suWaiting p j true
      | .full => (s.suWaiting p j true).suStall p
      | .fired t => (t.suWaiting p j false).suFired p

/-- SELECT. -/
def execSelectOp (p : Tile) (j : Fin 8) (s : State) : Host.Outcome State Fault Refusal :=
  .next (s.suStep p j 1 (fun s => s.fireSelect p j))

/-- SWITCH. -/
def execSwitchOp (p : Tile) (j : Fin 8) (s : State) : Host.Outcome State Fault Refusal :=
  .next (s.suStep p j 2 (fun s => s.fireSwitch p j))

/-- GATE. -/
def execGateOp (p : Tile) (j : Fin 8) (s : State) : Host.Outcome State Fault Refusal :=
  .next (s.suStep p j 3 (fun s => s.fireGate p j))

/-- REPEAT. -/
def execRepeatOp (p : Tile) (j : Fin 8) (s : State) : Host.Outcome State Fault Refusal :=
  .next (s.suStep p j 4 (fun s => s.fireRepeat p j))

/-- MERGE_ARRIVAL. -/
def execMergeArrival (p : Tile) (j : Fin 8) (s : State) : Host.Outcome State Fault Refusal :=
  .next (s.suStep p j 5 (fun s => s.fireMerge p j))

/-- END. -/
def execEndOp (p : Tile) (j : Fin 8) (s : State) : Host.Outcome State Fault Refusal :=
  .next (s.suStep p j 6 (fun s => s.fireEnd p j))

/-- SU_HALT_REQ (R103). -/
def execSuHaltReq (p : Tile) (mode : BitVec 2) (s : State) : Host.Outcome State Fault Refusal :=
  let s := s.setFld (SU_CTRL p) SU_CTRL.halt_mode mode.toNat
  .next (
    if s.isHalted (haltSu p) then s
    else if mode = 0 then s.startDrain (haltSu p)
    else if mode = 1 then s.abortSu p
    else s)

/-- SU_RESUME (R103). -/
def execSuResume (p : Tile) (s : State) : Host.Outcome State Fault Refusal :=
  .next (if s.fenced p then s else s.resume (haltSu p))

end Sys2Proof.Machine
end

