-- ==== Sys2Proof/Machine/Transcend.lean ====
section
/-! DEFINITION. Machine/Transcend.lean: the functions of stage 4 (R84, R85). Where R85 states the result, it is that;
elsewhere it states a bound, and the result is a free choice among the FP32 values within the bound of a value
computed to about 2^-100 (log 10). -/
namespace Sys2Proof.Machine

/-- Fraction bits of the fixed-point numbers below. -/
def fixP : Nat := 160

/-- One, in fixed point. -/
def fixOne : Nat := 2 ^ fixP

/-- The sum of `n` terms of the series of exp, from term `t` of index `k` on. -/
def expSeries (n k t x : Nat) : Nat :=
  match n with
  | 0 => 0
  | m + 1 => t + expSeries m (k + 1) (t * x / (fixOne * (k + 1))) x

/-- ln 2 in fixed point: the sum of 1 / (k · 2^k). -/
def fixLn2 : Nat := (List.range fixP).foldl (fun a i => a + fixOne / ((i + 1) * 2 ^ (i + 1))) 0

/-- 2^x for x = i / 2^fixP: a fixed-point significand in [1, 2) and an exponent. -/
def exp2Fix (i : Int) : Nat × Int :=
  let n := i / (fixOne : Int)
  let r := (i % (fixOne : Int)).toNat
  (expSeries 60 0 fixOne (r * fixLn2 / fixOne), n)

/-- Fraction bits of log2 of a fixed-point number in [1, 2), by repeated squaring. -/
def log2Bits (n y acc : Nat) : Nat :=
  match n with
  | 0 => acc
  | m + 1 =>
    let z := y * y / fixOne
    if z ≥ 2 * fixOne then log2Bits m (z / 2) (2 * acc + 1) else log2Bits m z (2 * acc)

/-- log2(m · 2^e) in fixed point, m > 0. -/
def log2Fix (m : Nat) (e : Int) : Int :=
  let k := Nat.log2 m
  let y := m * fixOne / 2 ^ k
  ((k : Int) + e) * (fixOne : Int) + (log2Bits 128 y 0 * 2 ^ (fixP - 128) : Nat)

/-- A value (-1)^neg · m · 2^e in fixed point, rounded down in magnitude. -/
def toFix (neg : Bool) (m : Nat) (e : Int) : Int :=
  let v : Int := (m * pow2 (e + fixP) / pow2 (-(e + fixP)) : Nat)
  if neg then -v else v

/-- log2 e in fixed point. -/
def fixLog2E : Nat := fixOne * fixOne / fixLn2

/-- √(2/π) in fixed point. -/
def fixRoot2Pi : Nat :=
  Nat.sqrt (2 * fixOne * fixOne * 10 ^ 50 / 314159265358979323846264338327950288419716939937510)

/-- The FP32 code of the largest value not above |n / d · 2^e|. -/
def floorFP32 (n d : Nat) (e : Int) : Nat := packFP32 .zero false n d e

/-- A free choice of the codes `below` under `f` and `above` over it, by the function's own free value. -/
def nearCode (op arg f below above : Nat) : Nat :=
  f - below + Config.transcend op arg % (below + above + 1)

/-- A result whose magnitude is n / d · 2^e with an error bound of `u` units of spacing. -/
def ulpResult (op arg u : Nat) (neg : Bool) (n d : Nat) (e : Int) : Nat :=
  let f := floorFP32 n d e
  b2n neg * 2 ^ 31 + min (nearCode op arg f (min (u - 1) f) u) 0x7F800000

/-- e^x as n / d · 2^e for x in fixed point. -/
def expFix (x : Int) : Nat × Int := exp2Fix (x * (fixLog2E : Int) / (fixOne : Int))

/-- The logistic function of x, in fixed point, as a fraction n / d · 2^e. -/
def sigmoidFix (x : Int) : Nat × Nat × Int :=
  let (m, e) := expFix x
  -- e^x / (1 + e^x)
  if e ≥ 0 then (m * pow2 e, fixOne + m * pow2 e, 0) else (m, fixOne * pow2 (-e) + m, 0)

/-- EXP2 of a finite argument. -/
def fExp2 (arg : Nat) (neg : Bool) (m : Nat) (e : Int) : Nat :=
  if m = 0 then 0x3F800000
  else if !neg && !ltVal (.fin neg m e) (.fin false 128 0) then 0x7F800000
  else if neg && ltVal (.fin neg m e) (.fin true 400 0) then ulpResult 1 arg 1 false 1 1 (-400)
  else
    let i := toFix neg m e
    if e ≥ 0 ∨ m % pow2 (-e) = 0 then packFP32 .rne false 1 1 (i / (fixOne : Int))
    else
      let (y, n) := exp2Fix i
      ulpResult 1 arg 1 false y fixOne n

/-- LOG2 of a finite argument. -/
def fLog2 (arg : Nat) (neg : Bool) (m : Nat) (e : Int) : Nat :=
  if m = 0 then 0xFF800000
  else if neg then qnan
  else if m = 2 ^ Nat.log2 m then toFP32 (ofIntVal ((Nat.log2 m : Int) + e) 0)
  else
    let v := log2Fix m e
    ulpResult 2 arg 1 (decide (v < 0)) v.natAbs fixOne 0

/-- RSQRT of a finite argument. -/
def fRsqrt (arg : Nat) (neg : Bool) (m : Nat) (e : Int) : Nat :=
  if m = 0 then b2n neg * 2 ^ 31 + 0x7F800000
  else if neg then qnan
  else
    let (m, e) := if e % 2 = 0 then (m, e) else (2 * m, e - 1)
    ulpResult 4 arg 1 false (Nat.sqrt (2 ^ 400 / m)) (2 ^ 200) (-(e / 2))

/-- TANH of a finite argument. -/
def fTanh (arg : Nat) (neg : Bool) (m : Nat) (e : Int) : Nat :=
  if m = 0 then b2n neg * 2 ^ 31
  else if !ltVal (mulVal (.fin false m e) (.fin false 10 0)) (.fin false 91 0) then b2n neg * 2 ^ 31 + 0x3F800000
  else if ltVal (.fin false m e) (.fin false 1 (-40)) then ulpResult 5 arg 2 neg m 1 e
  else
    let (y, k) := expFix (2 * toFix false m e)
    let big := y * pow2 k
    let one := fixOne * pow2 (-k)
    ulpResult 5 arg 2 neg (big - one) (big + one) 0

/-- SIGMOID of a finite argument. -/
def fSigmoid (arg : Nat) (neg : Bool) (m : Nat) (e : Int) : Nat :=
  if ltVal (.fin true 400 0) (.fin neg m e) && ltVal (.fin neg m e) (.fin false 400 0) then
    let (n, d, k) := sigmoidFix (toFix neg m e)
    ulpResult 6 arg (if ltVal (mulVal (.fin false d 0) (.fin false 1 (-126))) (.fin false n k) then 2 else 1) false n d k
  else if neg then ulpResult 6 arg 1 false 1 1 (-400)
  else ulpResult 6 arg 2 false 1 1 0

/-- GELU of a finite argument: x · sigmoid(2u), u = √(2/π)(x + 0.044715 x³). -/
def fGelu (arg : Nat) (neg : Bool) (m : Nat) (e : Int) : Nat :=
  if ltVal (.fin false m e) (.fin false 32 0) then
    let x := toFix neg m e
    let one : Int := (fixOne : Int)
    let x3 := x * x / one * x / one
    let u := (fixRoot2Pi : Int) * (x + x3 * 44715 / 1000000) / one
    let (n, d, k) := sigmoidFix (2 * u)
    if ltVal (.fin false (m * n) (e + k)) (mulVal (.fin false d 0) (.fin false 1 (-20))) then
      let v : Int := (m * n * pow2 (e + k + 200) / (d * pow2 (-(e + k + 200))) : Nat)
      let v := if neg then -v else v
      let off : Int := (Config.transcend 7 arg % 2 ^ 157 : Nat) - (2 ^ 156 - 2 ^ 132 : Nat)
      let r := v + min off (2 ^ 156 - 2 ^ 132)
      packFP32 .zero (decide (r < 0)) r.natAbs 1 (-200)
    else ulpResult 7 arg 4 neg (m * n) d (e + k)
  else if neg then
    let r : Int := (Config.transcend 7 arg % 2 ^ 157 : Nat) - (2 ^ 156 - 2 ^ 132 : Nat)
    let r := min r (2 ^ 156 - 2 ^ 132)
    packFP32 .zero (decide (r < 0)) r.natAbs 1 (-200)
  else ulpResult 7 arg 4 false m 1 e

/-- f of R84 by its operation code, on an FP32 code. -/
def stage4Fn (op a : Nat) : Nat :=
  match fp32 a with
  | .nan => if op = 0 then a else qnan
  | .inf neg =>
    match op with
    | 1 => if neg then 0 else 0x7F800000
    | 2 => if neg then qnan else 0x7F800000
    | 3 => b2n neg * 2 ^ 31
    | 4 => if neg then qnan else 0
    | 5 => b2n neg * 2 ^ 31 + 0x3F800000
    | 6 => if neg then 0 else 0x3F800000
    | 7 => if neg then 2 ^ 31 else 0x7F800000
    | _ => a
  | .fin neg m e =>
    match op with
    | 1 => fExp2 a neg m e
    | 2 => fLog2 a neg m e
    | 3 => fpRecip a
    | 4 => fRsqrt a neg m e
    | 5 => fTanh a neg m e
    | 6 => fSigmoid a neg m e
    | 7 => fGelu a neg m e
    | _ => a

end Sys2Proof.Machine
end

