-- ==== Sys2Proof/Machine/Vector.lean ====
section
/-! DEFINITION. Machine/Vector.lean: the vector stage pipeline (R71 to R96). Lanes are FP32 codes in both lane modes;
in BF16 mode each is a BF16 value. -/
namespace Sys2Proof.Machine

/-! ## Stage words -/

/-- The 128-bit stage word of stage `k`, 1 to 6 (R76). -/
def State.stageWord (s : State) (p sl k : Nat) : Nat :=
  (s.reg (VSP_STAGE_LO p sl (k - 1))).toNat + (s.reg (VSP_STAGE_HI p sl (k - 1))).toNat * 2 ^ 64

def swEnable (w : Nat) : Bool := bitOf w 0
def swOp (w : Nat) : Nat := bits w 5 7
def swSrc (w i : Nat) : Nat := bits w (12 + 3 * i) 3
def swImm0 (w : Nat) : Nat := bits w 32 32
def swImm1 (w : Nat) : Nat := bits w 96 32

/-- The address generator of SIDE and the line of LCONST, which lie elsewhere in stage 6 (R77). -/
def swSideAg (k w : Nat) : Nat := if k = 6 then bits w 92 2 else bits w 75 2
def swLine (k w : Nat) : Nat := if k = 6 then bits w 96 11 else bits w 64 11

/-- Whether the slot runs in BF16 mode. -/
def State.vspBf16 (s : State) (p sl : Nat) : Bool :=
  ((List.range 6).map (fun i => s.stageWord p sl (i + 1))).any (fun w => swEnable w && bitOf w 4)

/-- Lanes of a mode (R71). -/
def lanesOf (bf : Bool) : Nat := if bf then 128 else 64

/-- How many operand sources an operation of stage `k` reads. -/
def srcCount (k op fn : Nat) : Nat :=
  match k with
  | 4 => 1
  | 5 => 1
  | 6 => if op = 3 && fn = 3 then 2 else 1
  | _ => if op = 0 then 1 else if op = 4 ∨ op = 7 then 3 else 2

/-- Whether stage `k` accepts a source code (R77). -/
def srcOk (k c : Nat) : Bool :=
  match c with
  | 0 => true
  | 1 => k != 5
  | 2 => k != 5
  | 3 => k == 2 || k == 3 || k == 6
  | 4 => k == 2 || k == 3 || k == 6
  | 5 => k == 2 || k == 3
  | _ => false

/-- The source codes that a word names. -/
def swSrcs (k w : Nat) : List Nat := (List.range (srcCount k (swOp w) (bits w 64 3))).map (fun i => swSrc w i)

/-- Whether an enabled stage word obeys R72, R76 to R78, R83, R84, R86, R87. -/
def State.stageOk (s : State) (p k w : Nat) (bf : Bool) : Bool :=
  bits w 1 3 == k && bitOf w 4 == bf && (k == 1 || (swSrcs k w).all (fun c => srcOk k c)) &&
  match k with
  | 1 => swOp w == 0 && decide (bits w 66 4 ≤ 0xB) && decide (bits w 73 4 ≤ 0xB) && bits w 77 2 != 3
  | 4 => decide (swOp w ≤ 7)
  | 5 => decide (swOp w ≤ 4) && (swOp w != 3 || decide (bits w 64 7 < lanesOf bf))
  | 6 =>
    let srcs := swSrcs 6 w
    decide (swOp w ≤ 3) && decide (bits w 64 3 ≤ 3) && (bits w 64 3 != 3 || swOp w == 3) &&
      (swOp w != 1 || bits w 67 12 != 0) && (swOp w != 3 || bits w 87 5 != 0) &&
      (swOp w != 3 || bits w 64 3 != 3 || srcs.getD 1 0 == 1 || srcs.getD 1 0 == 3 || srcs.getD 1 0 == 4) &&
      !(srcs.contains 3 && srcs.contains 2) &&
      (swOp w != 3 || !bitOf w 80 || s.rMode p (bits w 81 6) == mState)
  | _ => decide (swOp w ≤ 0xB)

/-- Whether a slot can start (R72). -/
def State.vspValid (s : State) (p sl : Nat) : Bool :=
  let io := VSP_SLOT_IO p sl
  let bf := s.vspBf16 p sl
  decide (s.fld io VSP_SLOT_IO.in_src ≤ 5) && decide (1 ≤ s.fld io VSP_SLOT_IO.out_item_vectors) &&
    decide (s.fld io VSP_SLOT_IO.out_item_vectors ≤ 32) &&
    (List.range 6).all (fun i =>
      let w := s.stageWord p sl (i + 1)
      !swEnable w || s.stageOk p (i + 1) w bf)

/-! ## Formats in and out -/

/-- An FP32 code in the lane format. -/
def toLane (bf : Bool) (v : Nat) : Nat := if bf then roundBF16 v else v

/-- The lanes of a vector in the lane format. -/
def unpackLanes (bf : Bool) (l : List Byte) : List Nat :=
  if bf then (List.range (l.length / 2)).map (fun i => ofBytes ((l.drop (2 * i)).take 2) * 2 ^ 16)
  else (List.range (l.length / 4)).map (fun i => ofBytes ((l.drop (4 * i)).take 4))

/-- The bytes of a vector in the lane format. -/
def packLanes (bf : Bool) (l : List Nat) : List Byte :=
  if bf then l.flatMap (fun v => leBytes 2 (v / 2 ^ 16)) else l.flatMap (fun v => leBytes 4 v)

/-- One converted element: its code, and whether it counts in conv_events (R80). -/
def convPlain (code : Nat) (rnd : Rnd) (sat : Bool) (v : FVal) : Nat × Bool :=
  let g := gridOf code
  let sgn := fun (neg : Bool) => b2n neg * 2 ^ (fmtBits code - 1)
  let top := fun (neg : Bool) =>
    match code with
    | 0x6 => sgn neg + 0x7E
    | 0x7 => sgn neg + 0x7B
    | 0x8 => if neg then 0x80 else 0x7F
    | 0x9 => if neg then 0x8 else 0x7
    | 0xA => sgn neg + 0x7F7F
    | _ => sgn neg + 0x7BFF
  let past := fun (neg : Bool) =>
    match code with
    | 0x6 => sgn neg + 0x7F
    | 0x7 => sgn neg + 0x7C
    | 0xA => sgn neg + 0x7F80
    | _ => sgn neg + 0x7C00
  let isInt := code = 0x8 ∨ code = 0x9
  match v with
  | .nan =>
    match code with
    | 0x8 => (0, true)
    | 0x9 => (0, true)
    | 0xA => (0x7FC0, false)
    | 0xB => (0x7E00, false)
    | _ => (0x7F, false)
  | .inf neg =>
    if isInt then (top neg, true)
    else if code = 0x6 then (if sat then (top neg, true) else (past neg, false))
    else (past neg, false)
  | .fin neg m e =>
    let got := roundGrid g rnd m 1 e
    let q := got.1
    let u := got.2
    if isInt then
      let x : Int := (q * pow2 u : Nat)
      let x := if neg then -x else x
      let lo : Int := if code = 0x8 then -128 else -8
      let hi : Int := -lo - 1
      (toTwos (fmtBits code) (max lo (min hi x)), decide (x < lo ∨ hi < x))
    else if overGrid g q u then (if sat then (top neg, true) else (past neg, false))
    else
      match code with
      | 0x6 => (encodeSEM 4 3 (-9) neg q u, false)
      | 0x7 => (encodeSEM 5 2 (-16) neg q u, false)
      | 0xA => (encodeSEM 8 7 (-133) neg q u, false)
      | _ => (encodeSEM 5 10 (-24) neg q u, false)

/-- emax of an MX format (R81). -/
def mxEmax (code : Nat) : Int :=
  match code with
  | 0x2 => 4
  | 0x3 => 8
  | 0x4 => 15
  | 0x5 => 0
  | _ => 2

/-- The code of an MX element from its rounded grid point. -/
def mxCode (code : Nat) (neg : Bool) (q : Nat) (u : Int) : Nat :=
  match code with
  | 0x0 => encodeSEM 2 1 (-1) neg q u
  | 0x1 => encodeSEM 2 3 (-3) neg q u
  | 0x2 => encodeSEM 3 2 (-4) neg q u
  | 0x3 => encodeSEM 4 3 (-9) neg q u
  | 0x4 => encodeSEM 5 2 (-16) neg q u
  | _ =>
    let x : Int := (q * pow2 (u + 6) : Nat)
    if neg then toTwos 8 (-x) else if x ≥ 128 then Config.mxint8Top 0 % 256 else x.toNat

/-- One MX element: q = v / 2^(scale − 127), rounded and saturated (R81). -/
def mxElem (code scale : Nat) (rnd : Rnd) (neg : Bool) (m : Nat) (e : Int) : Nat × Bool :=
  let g := gridOf code
  let got := roundGrid g rnd m 1 (e - ((scale : Int) - 127))
  let q := got.1
  let u := got.2
  if overGrid g q u then (mxCode code neg g.maxM g.maxE, true) else (mxCode code neg q u, false)

/-- One 32-lane block of an MX conversion: scale code, element codes, events (R81). -/
def mxBlock (code : Nat) (rnds : List Rnd) (vs : List FVal) : Nat × List Nat × Nat :=
  if vs.any (fun v => !v.isFin) then (255, vs.map (fun _ => 0), 0)
  else
    let amax := vs.foldl (fun a v => if ltVal a (absVal v) then absVal v else a) (.fin false 0 0)
    match amax with
    | .fin _ m e =>
      if m = 0 then (0, vs.map (fun _ => 0), 0)
      else
        let x := floorLog2 m 1 e - mxEmax code
        let sc := (max 0 (min 254 (x + 127))).toNat
        let r := (vs.zip rnds).map (fun v => match v.1 with | .fin n m e => mxElem code sc v.2 n m e | _ => (0, false))
        (sc, r.map (fun x => x.1), r.countP (fun x => x.2))
    | _ => (255, vs.map (fun _ => 0), 0)

/-- Element codes packed in bytes (R39). -/
def packCodes (code : Nat) (l : List Nat) : List Byte :=
  if fmtBits code = 4 then
    (List.range (l.length / 2)).map (fun i => BitVec.ofNat 8 (l.getD (2 * i) 0 % 16 + l.getD (2 * i + 1) 0 % 16 * 16))
  else if fmtBits code = 16 then l.flatMap (fun v => leBytes 2 v)
  else l.map (fun v => BitVec.ofNat 8 v)

/-! ## Stochastic rounding (R82) -/

/-- One step of the 32-bit Galois LFSR with polynomial x^32 + x^22 + x^2 + x + 1. -/
def lfsrStep (v : Nat) : Nat := if v % 2 = 1 then Nat.xor (v / 2) 0x80200003 else v / 2

/-- `n` steps. -/
def lfsrSteps (n v : Nat) : Nat :=
  match n with
  | 0 => v
  | k + 1 => lfsrSteps k (lfsrStep v)

/-- The seed of lane `l`. -/
def lfsrSeed (seed batch l : Nat) : Nat :=
  let v := Nat.xor (Nat.xor (Nat.xor (seed % 2 ^ 32) (seed / 2 ^ 32)) (batch % 2 ^ 32)) (l * 0x9E3779B9 % 2 ^ 32)
  if v = 0 then 1 else v

/-- The random lanes of a slot, seeded where they have not been. -/
def State.lfsrLanes (s : State) (p sl : Nat) : List Nat :=
  match tget [] (s.vspU p).lfsr sl with
  | [] => (List.range 128).map (lfsrSeed (s.fld (VSP_SR_SEED p sl) VSP_SR_SEED.seed) (tget 0 (s.vspU p).batch sl))
  | l => l

/-! ## Stages -/

/-- Operand modifiers: absolute, then negate (R76). -/
def applyMods (w i v : Nat) : Nat :=
  let v := if bitOf w (22 + 2 * i) then fpAbs v else v
  if bitOf w (21 + 2 * i) then fpNeg v else v

/-- What the stages work on: lanes, mask and fault mark (R73). -/
structure Vec where
  lanes : List Nat
  mask : List Bool
  mark : Bool

/-- Lanes of source `i` of a stage. -/
def srcLanes (k w i : Nat) (inp hold lconst side : List Nat) : List Nat :=
  let base :=
    match swSrc w i with
    | 1 => inp.map (fun _ => swImm0 w)
    | 2 => inp.map (fun _ => swImm1 w)
    | 3 => lconst
    | 4 => side
    | 5 => if hold.isEmpty then inp.map (fun _ => 0) else hold
    | _ => inp
  if k = 5 then inp else (List.range inp.length).map (fun l => applyMods w i (base.getD l 0))

/-- How many lanes hold a NaN. -/
def nanCount (l : List Nat) : Nat := l.countP (fun v => fpIsNan v)

/-- Stages 2 and 3 (R83): the vector and the NaNs produced. -/
def generalStage (k w : Nat) (bf : Bool) (v : Vec) (hold lconst side : List Nat) : Vec × Nat :=
  let a := srcLanes k w 0 v.lanes hold lconst side
  let b := srcLanes k w 1 v.lanes hold lconst side
  let c := srcLanes k w 2 v.lanes hold lconst side
  let two := fun (f : Nat → Nat → Nat) => (List.range a.length).map (fun l => f (a.getD l 0) (b.getD l 0))
  let cmp := fun (f : FVal → FVal → Bool) =>
    ({ v with lanes := a.map (toLane bf), mask := (List.range a.length).map (fun l => f (fp32 (a.getD l 0)) (fp32 (b.getD l 0))) }, 0)
  let arith := fun (r : List Nat) => ({ v with lanes := r.map (toLane bf) }, nanCount r)
  match swOp w with
  | 0x1 => arith (two fpAdd)
  | 0x2 => arith (two (fun x y => fpAdd x (fpNeg y)))
  | 0x3 => arith (two fpMul)
  | 0x4 => arith ((List.range a.length).map (fun l => fpFma (a.getD l 0) (b.getD l 0) (c.getD l 0)))
  | 0x5 => arith (two fpMin)
  | 0x6 => arith (two fpMax)
  | 0x7 => arith ((List.range a.length).map (fun l => fpMin (fpMax (a.getD l 0) (b.getD l 0)) (c.getD l 0)))
  | 0x8 => cmp ltVal
  | 0x9 => cmp (fun x y => ltVal x y || eqVal x y)
  | 0xA => cmp eqVal
  | 0xB => ({ v with lanes := (List.range a.length).map (fun l =>
      toLane bf (if v.mask.getD l true then a.getD l 0 else b.getD l 0)) }, 0)
  | _ => ({ v with lanes := a.map (toLane bf) }, 0)

/-- Stage 4 (R84): pre-scale, f, post-scale, each one rounding. -/
def transStage (w : Nat) (bf : Bool) (v : Vec) : Vec × Nat :=
  let a := srcLanes 4 w 0 v.lanes [] [] []
  let f := fun x =>
    let x := if bitOf w 64 then fpMul x (swImm0 w) else x
    let y := stage4Fn (swOp w) x
    let y := if bf && swOp w != 0 then roundBF16 y else y
    if bitOf w 65 then fpMul y (swImm1 w) else y
  let r := a.map f
  ({ v with lanes := r.map (toLane bf) }, if swOp w = 0 && !bitOf w 64 && !bitOf w 65 then 0 else nanCount r)

/-- Stage 5 (R86): lane l takes lane `src l`, or +0 with mask bit 0. -/
def permStage (w : Nat) (table : List Byte) (v : Vec) : Vec :=
  let n := v.lanes.length
  let k := bits w 64 7
  let take := fun (src : Nat → Option Nat) =>
    { v with lanes := (List.range n).map (fun l => match src l with | some i => v.lanes.getD i 0 | none => 0),
             mask := (List.range n).map (fun l => match src l with | some i => v.mask.getD i true | none => false) }
  match swOp w with
  | 0x1 => take (fun l => some (n - 1 - l))
  | 0x2 => take (fun l => some ((l + k) % n))
  | 0x3 => take (fun _ => some k)
  | 0x4 => take (fun l =>
      let t := (table.getD l 0).toNat
      if t ≥ 128 then none else some (t % n))
  | _ => v

/-- fn of R87 on two codes. -/
def foldFn (fn a b : Nat) : Nat :=
  match fn with
  | 1 => fpMax a b
  | 2 => fpMin a b
  | _ => fpAdd a b

/-- The identity of fn (R89, R90). -/
def foldId (fn : Nat) : Nat :=
  match fn with
  | 1 => 0xFF800000
  | 2 => 0x7F800000
  | _ => 0

/-- The lane tree of R88. -/
def reduceTree (fn d : Nat) (fuel : Nat) (l : List Nat) : Nat :=
  match fuel with
  | 0 => l.headD 0
  | n + 1 =>
    reduceTree fn (d + 1) n ((List.range l.length).map (fun i =>
      if i % 2 ^ (d + 1) = 0 then foldFn fn (l.getD i 0) (l.getD (i + 2 ^ d) 0) else l.getD i 0))

/-- The Hillis–Steele prefix of R89. -/
def scanTree (fn d : Nat) (fuel : Nat) (l : List Nat) : List Nat :=
  match fuel with
  | 0 => l
  | n + 1 =>
    scanTree fn (d + 1) n ((List.range l.length).map (fun i =>
      if i ≥ 2 ^ d then foldFn fn (l.getD (i - 2 ^ d) 0) (l.getD i 0) else l.getD i 0))

/-- Levels of the lane tree: log2 of the lanes. -/
def treeLevels (bf : Bool) : Nat := if bf then 7 else 6

/-! ## Faults and counts -/

def State.vspConfigFault (s : State) (p : Nat) : State := s.setBit (VSP_FAULT p) VSP_FAULT.config_fault true

/-- A stall or busy count grows, unless frozen. -/
def State.vspCount (s : State) (p a : Nat) : State :=
  if s.bit (VSP_CTRL p) VSP_CTRL.perf_freeze then s else s.cycles a

/-- Whether the pipeline is empty. -/
def VspUnit.idle (u : VspUnit) : Bool :=
  u.item.isNone && u.group.isNone && u.pair.isNone && u.outCount = 0

/-- The status fields that follow the unit. -/
def State.vspStatus (s : State) (p : Nat) : State :=
  let s := s.setBit (VSP_STATUS p) VSP_STATUS.busy (!(s.vspU p).idle)
  s.setFld (VSP_STATUS p) VSP_STATUS.active_slot (s.slot p)

/-- Reads of lane constants and the table when the slot becomes active (R77, R86). -/
def State.vspLoad (s : State) (p sl : Nat) : State :=
  if (s.vspU p).loaded then s
  else
    let bf := s.vspBf16 p sl
    let stages := ([2, 3, 6] : List Nat).filter (fun k =>
      let w := s.stageWord p sl k
      swEnable w && (swSrcs k w).contains 3)
    let got := stages.foldl (fun (a : Bool × State) k =>
      let got := a.2.readUe p (osBase p + swLine k (s.stageWord p sl k) * 256) 256 0
      let b := got.1
      let t := got.2
      (a.1 || b, t)) (false, s)
    let bad := got.1
    let s := got.2
    let lc := stages.map (fun k => (k, unpackLanes bf (s.bytes (osBase p + swLine k (s.stageWord p sl k) * 256) 256)))
    let w5 := s.stageWord p sl 5
    let table := if swEnable w5 && swOp w5 = 4 then s.bytes (osBase p + bits w5 71 12 * 128) (lanesOf bf) else []
    let got := if table.isEmpty then (false, s) else s.readUe p (osBase p + bits w5 71 12 * 128) (lanesOf bf) 0
    let bad2 := got.1
    let s := got.2
    let s := if bad || bad2 then s.setBit (VSP_FAULT p) VSP_FAULT.read_ecc true else s
    s.setVsp p { s.vspU p with lconst := lc, table := table, constMark := bad || bad2, loaded := true }

/-! ## Input select (R73, R74, R79) -/

/-- The entry half on one element value with its scale value; a lane code. -/
def entryLane (bf : Bool) (e sc : FVal) : Nat := toLane bf (toFP32 (mulVal e sc))

/-- Bytes of the input that hold vector `k` of an item, from its start: first byte, element bytes, and for MX the
offset of the block scales of its lanes (elements first, then the four scales of each 128-element vector). -/
def inputSpan (w1 : Nat) (bf : Bool) (k : Nat) : Nat × Nat × Option Nat :=
  let fmt := bits w1 66 4
  let L := lanesOf bf
  if !(swEnable w1 && bitOf w1 64) || bitOf w1 65 then (k * 256, 256, none)
  else if bitOf w1 70 then
    let act := fmtBytes fmt 128 + 4
    if bf then (k * act, fmtBytes fmt 128, some (k * act + fmtBytes fmt 128))
    else (k / 2 * act + k % 2 * fmtBytes fmt 64, fmtBytes fmt 64, some (k / 2 * act + fmtBytes fmt 128 + k % 2 * 2))
  else (k * fmtBytes fmt L, fmtBytes fmt L, none)

/-- Bytes of input that one vector of an address generator's stream takes. -/
def inputEnd (w1 : Nat) (bf : Bool) (k : Nat) : Nat :=
  match inputSpan w1 bf k with
  | (a, n, none) => a + n
  | (a, n, some q) => max (a + n) (q + (if bf then 4 else 2))

/-- Vectors of an item of `len` bytes. -/
def itemVectors (w1 : Nat) (bf : Bool) (len : Nat) : Nat :=
  let fmt := bits w1 66 4
  if !(swEnable w1 && bitOf w1 64) || bitOf w1 65 then ceilDiv len 256
  else if bitOf w1 70 then (if bf then 1 else 2) * ceilDiv len (fmtBytes fmt 128 + 4)
  else ceilDiv len (fmtBytes fmt (lanesOf bf))

/-- The lanes after stage 1's entry half, from element bytes and block scale codes. -/
def entryLanes (w1 : Nat) (bf : Bool) (el : List Byte) (scales : List Nat) : List Nat :=
  if !(swEnable w1 && bitOf w1 64) || bitOf w1 65 then unpackLanes bf el
  else
    let vs := elems (bits w1 66 4) el
    (List.range (lanesOf bf)).map (fun l =>
      entryLane bf (vs.getD l (.fin false 0 0))
        (if bitOf w1 70 then e8m0 (scales.getD (l / 32) 127) else fp32 (swImm0 w1)))

/-- One input vector: its lanes and mark, its item tag, its place in its item, and whether it ends the item. -/
structure InVec where
  lanes : List Nat
  mark : Bool
  tag : Nat
  pos : Nat
  last : Bool

/-- The next vector of the input, if there is one, and the state after it is taken. -/
def State.vspTake (s : State) (p sl : Nat) : Option (InVec × State) :=
  let bf := s.vspBf16 p sl
  let w1 := s.stageWord p sl 1
  let u := s.vspU p
  let src := s.fld (VSP_SLOT_IO p sl) VSP_SLOT_IO.in_src
  if src = 0 then
    let m := s.meU p
    let n := if bf then 2 else 1
    if m.out.length < n then none
    else
      let vs := m.out.take n
      let lanes := (vs.flatMap (fun v => unpackLanes false v.data)).map (fun v =>
        if swEnable w1 && bitOf w1 64 && !bitOf w1 65 && !bitOf w1 70 then toLane bf (fpMul v (swImm0 w1)) else toLane bf v)
      let got := s.draw 16
      let tag := got.1
      let t := got.2
      some ({ lanes := lanes, mark := vs.any (fun v => v.mark), tag := tag, pos := u.posInItem, last := false },
        ((t.setMe p { m with out := m.out.drop n }).meStatus p).setVsp p { u with posInItem := u.posInItem + 1 })
  else if src = 1 then
    match u.item with
    | none => none
    | some (h, r, at_) =>
      let a := tsBase p + s.rBase p (s.dataRegion p r) + h.offVal
      let k := u.posInItem
      let got := inputSpan w1 bf k
      let o := got.1
      let n := got.2.1
      let q := got.2.2
      let have_ := min n (h.length - o)
      let got := s.drawList (n - have_) 8
      let fill := got.1
      let t := got.2
      let el := t.bytes (a + o) have_ ++ fill.map (fun v => BitVec.ofNat 8 v)
      let scales := match q with | some q => (t.bytes (a + q) 4).map (fun b => b.toNat) | none => []
      let got := t.readUe p (a + o) n 0
      let bad := got.1
      let t := got.2
      let last := decide (k + 1 ≥ itemVectors w1 bf h.length)
      let t := t.setVsp p (if last then { t.vspU p with item := none, posInItem := 0 }
        else { t.vspU p with posInItem := k + 1 })
      let t := if last then t.release p (s.dataRegion p r) at_ else t
      some ({ lanes := entryLanes w1 bf el scales, mark := h.mark || bad, tag := h.itemTag, pos := k, last := last }, t)
  else
    let n := src - 2
    let k := u.posInItem
    -- an MX activation vector in FP32 mode is taken whole for its two vectors
    let per := if swEnable w1 && bitOf w1 64 && !bitOf w1 65 && bitOf w1 70 && !bf then 2 else 1
    let base := if per = 2 ∧ k % 2 = 1 then 1 else 0
    let f := (s.fifo p n).dropWhile (fun b => b.eob)
    let whole := inputEnd w1 bf (per - 1)
    if f.length < whole ∨ (f.take whole).any (fun b => b.eob) then none
    else
      let got := inputSpan w1 bf base
      let o := got.1
      let c := got.2.1
      let q := got.2.2
      let bs := (f.take whole).map (fun b => b.b)
      let scales := match q with | some q => ((bs.drop q).take 4).map (fun b => b.toNat) | none => []
      let t := if base + 1 = per then s.setFifo p n (f.drop whole) else s
      let got := t.draw 16
      let tag := got.1
      let t := got.2
      some ({ lanes := entryLanes w1 bf ((bs.drop o).take c) scales, mark := (f.take whole).any (fun b => b.mark),
              tag := tag, pos := k, last := false }, t.setVsp p { u with posInItem := k + 1 })

/-- A side vector from an address generator: its lanes and mark. -/
def State.vspSide (s : State) (p n : Nat) (bf : Bool) : Option (List Nat × Bool × State) :=
  let f := (s.fifo p n).dropWhile (fun b => b.eob)
  if f.length < 256 ∨ (f.take 256).any (fun b => b.eob) then none
  else some (unpackLanes bf ((f.take 256).map (fun b => b.b)), (f.take 256).any (fun b => b.mark), s.setFifo p n (f.drop 256))

/-- The side vectors that the enabled stages name, one for each generator. -/
def State.vspSides (s : State) (p sl : Nat) (bf : Bool) (ks : List Nat) (got : List (Nat × List Nat)) (mark : Bool) :
    Option (List (Nat × List Nat) × Bool × State) :=
  match ks with
  | [] => some (got, mark, s)
  | k :: t =>
    let w := s.stageWord p sl k
    let n := swSideAg k w
    if !(swEnable w && (swSrcs k w).contains 4) || got.any (fun g => g.1 == n) then s.vspSides p sl bf t got mark
    else match s.vspSide p n bf with
      | none => none
      | some (l, m, s) => s.vspSides p sl bf t (got ++ [(n, l)]) (mark || m)

/-! ## Stage 6 -/

/-- A step-scan carry as read: its lanes (none: the identity), its mark, and where it is. -/
structure StepCarry where
  lanes : List Nat
  mark : Bool
  count : Nat
  bad : Bool

/-- Chain index of a vector (R90). -/
def chainIndex (w tag pos : Nat) : Nat := tag * bits w 87 5 + pos % bits w 87 5

/-- Reads the carry of a chain (R90). -/
def State.carryRead (s : State) (p sl w ix : Nat) (bf : Bool) : StepCarry × State :=
  if bitOf w 80 then
    let r := bits w 81 6
    if ix * 320 + 320 ≤ s.rSize p r then
      let a := tsBase p + s.rBase p r + ix * 320
      let got := s.readUe p a 320 0
      let ue := got.1
      let t := got.2
      let t := if ue then t.setBit (VSP_FAULT p) VSP_FAULT.read_ecc true else t
      ({ lanes := unpackLanes bf (s.bytes a 256), mark := s.num (a + 264) 1 % 2 = 1 || ue, count := s.num (a + 256) 8,
         bad := false }, t)
    else ({ lanes := [], mark := false, count := 0, bad := true }, s.setBit (VSP_FAULT p) VSP_FAULT.carry_fault true)
  else
    let c := tget {} (s.vspU p).carries (sl * 4 + ix % 4)
    ({ lanes := c.lanes, mark := c.mark, count := 0, bad := false }, s)

/-- Writes the carry of a chain (R90, R91). -/
def State.carryWrite (s : State) (p sl w ix : Nat) (bf : Bool) (c : StepCarry) (lanes : List Nat) (mark : Bool) : State :=
  if bitOf w 80 then
    if c.bad then s
    else
      let a := tsBase p + s.rBase p (bits w 81 6) + ix * 320
      s.setBytes a (packLanes bf lanes ++ leBytes 8 (c.count + 1) ++ leBytes 1 (b2n mark) ++ s.bytes (a + 265) 55)
  else
    let u := s.vspU p
    s.setVsp p { u with carries := tset {} u.carries (sl * 4 + ix % 4) { lanes := lanes, mark := mark } }

/-- Stage 6 on one vector: what it passes on (none: a reduction group goes on), and the NaNs produced (R88 to R90). -/
def State.reduceStage (s : State) (p sl w : Nat) (bf : Bool) (v : Vec) (side : List Nat) (tag pos : Nat) (last : Bool) :
    Option Vec × Nat × State :=
  let u := s.vspU p
  let fn := bits w 64 3
  let lc := (u.lconst.find? (fun e => e.1 == 6)).elim [] (fun e => e.2)
  let a := srcLanes 6 w 0 v.lanes [] lc side
  match swOp w with
  | 0x1 =>
    let r := reduceTree fn 0 (treeLevels bf) a
    let acc := match u.group with | none => r | some x => foldFn fn x r
    let mark := u.groupMark || v.mark
    if u.groupCount + 1 ≥ bits w 67 12 ∨ last then
      let s := s.setVsp p { u with group := none, groupCount := 0, groupMark := false }
      let o := toLane bf acc
      (some { v with lanes := (List.range a.length).map (fun l => if l = 0 || bitOf w 79 then o else 0), mark := mark },
        b2n (fpIsNan acc), s)
    else (none, 0, s.setVsp p { u with group := some acc, groupCount := u.groupCount + 1, groupMark := mark })
  | 0x2 =>
    let y := scanTree fn 0 (treeLevels bf) a
    let c := u.laneCarry.getD (foldId fn)
    let z := (y.map (fun x => foldFn fn c x)).map (toLane bf)
    (some { v with lanes := z }, nanCount z, s.setVsp p { u with laneCarry := if last then none else some (z.getLastD 0) })
  | 0x3 =>
    let ix := chainIndex w tag pos
    let got := s.carryRead p sl w ix bf
    let c := got.1
    let s := got.2
    let b := srcLanes 6 w 1 v.lanes [] lc side
    let prev := fun l => if c.lanes.isEmpty then (if fn = 3 then 0 else foldId fn) else c.lanes.getD l 0
    let h := (List.range a.length).map (fun l =>
      toLane bf (if fn = 3 then fpFma (b.getD l 0) (prev l) (a.getD l 0) else foldFn fn (prev l) (a.getD l 0)))
    let mark := v.mark || c.mark || c.bad
    (some { v with lanes := h, mark := mark }, nanCount h, s.carryWrite p sl w ix bf c h mark)
  | _ => (some { v with lanes := a.map (toLane bf) }, 0, s)

/-! ## Stage 1 exit half and output -/

/-- The bytes that the exit half gives a vector: its elements, and its block scales for an MX format; with the count
of conversion events (R80, R81). -/
def exitBytes (w1 : Nat) (rnds : List Rnd) (lanes : List Nat) : List Byte × List Byte × Nat :=
  let vs := lanes.map (fun v => fp32 (fpMul v (swImm1 w1)))
  let fmt := bits w1 73 4
  if fmtIsMx fmt then
    let bl := (List.range (lanes.length / 32)).map (fun b =>
      mxBlock fmt ((rnds.drop (32 * b)).take 32) ((vs.drop (32 * b)).take 32))
    (packCodes fmt (bl.flatMap (fun b => b.2.1)), bl.map (fun b => BitVec.ofNat 8 b.1), (bl.map (fun b => b.2.2)).sum)
  else
    let cs := (vs.zip rnds).map (fun v => convPlain fmt v.2 (bitOf w1 79) v.1)
    (packCodes fmt (cs.map (fun c => c.1)), [], cs.countP (fun c => c.2))

/-- The room of an address generator's port, in bytes (log 12). -/
def portRoom : Nat := 1024

/-- The exit half and the grouping in output items: the vector's bytes join the item under way. -/
def State.vspExit (s : State) (p sl tag : Nat) (bf : Bool) (v : Vec) : State :=
  let w1 := s.stageWord p sl 1
  let u := s.vspU p
  let start := u.outCount = 0
  let base := { u with outCount := u.outCount + 1, outMark := (!start && u.outMark) || v.mark,
                       outTag := if start then tag else u.outTag }
  if !(swEnable w1 && bitOf w1 71) then s.setVsp p { base with outBytes := u.outBytes ++ packLanes bf v.lanes }
  else if bitOf w1 72 then
    s.setVsp p { base with outBytes := u.outBytes ++ packLanes bf (v.lanes.map (fun x => toLane bf (fpMul x (swImm1 w1)))) }
  else
    let stoch := bits w1 77 2 = 2
    let lf := if stoch then (s.lfsrLanes p sl).map (lfsrSteps 32) else []
    let rnds := (List.range v.lanes.length).map (fun l =>
      if stoch then Rnd.stoch (lf.getD l 1) else if bits w1 77 2 = 1 then Rnd.zero else Rnd.rne)
    let got := exitBytes w1 rnds v.lanes
    let el := got.1
    let sc := got.2.1
    let ev := got.2.2
    let s := if ev = 0 then s else s.addSat (VSP_EXC p) VSP_EXC.conv_events ev
    let base := if stoch then { base with lfsr := tset [] base.lfsr sl lf } else base
    if sc.isEmpty ∨ bf then s.setVsp p { base with outBytes := u.outBytes ++ el ++ sc }
    else
      match u.pair with
      | none => s.setVsp p { base with pair := some (el, sc) }
      | some (e0, s0) => s.setVsp p { base with pair := none, outBytes := u.outBytes ++ e0 ++ el ++ s0 ++ sc }

/-- Sends the bytes of an item to the output; none while it cannot accept them (R74). -/
def State.vspSend (s : State) (p sl : Nat) (l : List Byte) : Option State :=
  let u := s.vspU p
  let io := VSP_SLOT_IO p sl
  if s.fld io VSP_SLOT_IO.out_dst = 0 then
    s.emitItem p (s.fld io VSP_SLOT_IO.out_queue) (s.localHdr p tData u.outTag u.outMark) l
  else
    let n := s.fld io VSP_SLOT_IO.out_ag
    if (s.fifo p n).length + l.length ≤ max portRoom l.length then
      some (s.setFifo p n (s.fifo p n ++ l.map (fun b => { b := b, mark := u.outMark })))
    else none

/-- Closes the output item under way: an odd MX pair is completed with zeros (R81). None while it has no room. -/
def State.vspClose (s : State) (p sl : Nat) : Option State :=
  let u := s.vspU p
  if u.outCount = 0 then some s
  else
    let l := match u.pair with
      | some (e0, s0) => u.outBytes ++ e0 ++ List.replicate e0.length 0 ++ s0 ++ List.replicate s0.length 0
      | none => u.outBytes
    (s.vspSend p sl l).map (fun s => s.setVsp p { s.vspU p with outCount := 0, outBytes := [], outMark := false, pair := none })

/-- Closes the item when it holds its out_item_vectors vectors. -/
def State.vspCloseFull (s : State) (p sl : Nat) : Option State :=
  if (s.vspU p).outCount ≥ s.fld (VSP_SLOT_IO p sl) VSP_SLOT_IO.out_item_vectors then s.vspClose p sl else some s

/-! ## The chain -/

/-- The side values that a stage takes (R79) and its loaded lane constants. -/
def State.sideOf (s : State) (p sl : Nat) (sides : List (Nat × List Nat)) (k : Nat) : List Nat :=
  (sides.find? (fun g => g.1 == swSideAg k (s.stageWord p sl k))).elim [] (fun g => g.2)
def VspUnit.constOf (u : VspUnit) (k : Nat) : List Nat := (u.lconst.find? (fun e => e.1 == k)).elim [] (fun e => e.2)

/-- One vector through stages 2 to 6 and the exit half (R71). -/
def State.vspChain (s : State) (p sl : Nat) (bf : Bool) (x : InVec) (sides : List (Nat × List Nat)) (mark : Bool) : State :=
  let u := s.vspU p
  let v : Vec := { lanes := x.lanes, mask := x.lanes.map (fun _ => true), mark := x.mark || mark || u.constMark }
  let w2 := s.stageWord p sl 2
  let got := if swEnable w2 then generalStage 2 w2 bf v u.hold2 (u.constOf 2) (s.sideOf p sl sides 2) else (v, 0)
  let v2 := got.1
  let n2 := got.2
  let w3 := s.stageWord p sl 3
  let got := if swEnable w3 then generalStage 3 w3 bf v2 u.hold3 (u.constOf 3) (s.sideOf p sl sides 3) else (v2, 0)
  let v3 := got.1
  let n3 := got.2
  let w4 := s.stageWord p sl 4
  let got := if swEnable w4 then transStage w4 bf v3 else (v3, 0)
  let v4 := got.1
  let n4 := got.2
  let w5 := s.stageWord p sl 5
  let v5 := if swEnable w5 then permStage w5 u.table v4 else v4
  let s := s.setVsp p { u with hold2 := if x.last then [] else v.lanes, hold3 := if x.last then [] else v2.lanes }
  let w6 := s.stageWord p sl 6
  let got := if swEnable w6 then s.reduceStage p sl w6 bf v5 (s.sideOf p sl sides 6) x.tag x.pos x.last else (some v5, 0, s)
  let o := got.1
  let n6 := got.2.1
  let s := got.2.2
  let nan := n2 + n3 + n4 + n6
  let s := if nan = 0 then s else s.addSat (VSP_EXC p) VSP_EXC.nan_produced nan
  o.elim s (fun v => s.vspExit p sl x.tag bf v)

/-- One vector, from input select to output; none while an input or the output holds it up, with the stall to count. -/
def State.vspVector (s : State) (p sl : Nat) : State :=
  let bf := s.vspBf16 p sl
  let dry := s.vspCount p (VSP_STALL_INPUT p)
  (s.vspTake p sl).elim dry (fun i =>
    (i.2.vspSides p sl bf [2, 3, 6] [] false).elim dry (fun y =>
      ((y.2.2.vspChain p sl bf i.1 y.1 y.2.1).vspCloseFull p sl).elim (s.vspCount p (VSP_STALL_OUTPUT p))
        (fun t => (t.vspCount p (VSP_BUSY_CYCLES p)).vspStatus p)))

/-! ## Typed tokens (R92) -/

/-- Resets the step-scan carries of an item tag to the identity (R90). -/
def State.resetCarries (s : State) (p sl tag : Nat) : State :=
  let w := s.stageWord p sl 6
  if !(swEnable w && swOp w = 3) then s
  else
    let bf := s.vspBf16 p sl
    let fn := bits w 64 3
    let id := if fn = 3 then 0 else foldId fn
    (List.range (bits w 87 5)).foldl (fun s i =>
      let ix := tag * bits w 87 5 + i
      if bitOf w 80 then
        let r := bits w 81 6
        if ix * 320 + 320 ≤ s.rSize p r then
          let a := tsBase p + s.rBase p r + ix * 320
          s.setBytes a (packLanes bf (List.replicate (lanesOf bf) id) ++ leBytes 8 0 ++ [0] ++ s.bytes (a + 265) 55)
        else s.setBit (VSP_FAULT p) VSP_FAULT.carry_fault true
      else
        let u := s.vspU p
        s.setVsp p { u with carries := tset {} u.carries (sl * 4 + ix % 4) {} }) s

/-- What a typed token does to the chain after the item before it is closed. -/
def State.vspToken (s : State) (p sl : Nat) (h : Hdr) : State :=
  let u := s.vspU p
  let u := { u with hold2 := [], hold3 := [], laneCarry := none, group := none, groupCount := 0, groupMark := false,
                    posInItem := 0 }
  let u := if h.typ = tEob then { u with batch := tset 0 u.batch sl h.seqNo } else u
  let u := if h.isEnd then { u with lfsr := tset [] u.lfsr sl [] } else u
  let s := s.setVsp p u
  if h.typ = tEos then s.resetCarries p sl h.itemTag else s

/-- Forwards a typed token: to the output queue, or an END_OF_BATCH to the port of the output generator (R92, R114). -/
def State.vspForward (s : State) (p sl : Nat) (h : Hdr) : Option State :=
  let io := VSP_SLOT_IO p sl
  if s.fld io VSP_SLOT_IO.out_dst = 0 then s.pushItem p (s.fld io VSP_SLOT_IO.out_queue) h
  else
    let n := s.fld io VSP_SLOT_IO.out_ag
    some (if h.typ = tEob then s.setFifo p n (s.fifo p n ++ [{ eob := true }]) else s)

/-- Takes the head of the input queue: a typed token passes, an item starts. -/
def State.vspHead (s : State) (p sl r : Nat) (e : Ent) : State :=
  if e.hdr.typ = tData then
    let t := (s.pop p r e).setVsp p { s.vspU p with item := some (e.hdr, r, e.hdr.offVal - 64), posInItem := 0 }
    t.vspVector p sl
  else
    match s.vspClose p sl with
    | none => s.vspCount p (VSP_STALL_OUTPUT p)
    | some t =>
      match (t.vspToken p sl e.hdr).vspForward p sl e.hdr with
      | none => s.vspCount p (VSP_STALL_OUTPUT p)
      | some t =>
        let t := (t.pop p r e).vspStatus p
        if e.hdr.typ = tEob then (List.range 4).foldl (fun t n =>
            if s.bit (AG_S_CFG p n sl) AG_S_CFG.enable && decide (s.fld (AG_S_CFG p n sl) AG_S_CFG.port ≤ 1)
            then t.agRestart p n else t) (t.eobPassed p uVsp)
        else t

/-- One step of the pipeline: a vector, or a typed token. -/
def State.vspStep (s : State) (p sl : Nat) : State :=
  let r := s.fld (VSP_SLOT_IO p sl) VSP_SLOT_IO.in_queue
  if s.fld (VSP_SLOT_IO p sl) VSP_SLOT_IO.in_src = 1 ∧ (s.vspU p).item.isNone then
    let s := s.purge p r
    match s.present p r sl with
    | none => s.vspCount p (VSP_STALL_INPUT p)
    | some e => s.vspHead p sl r e
  else s.vspVector p sl

/-! ## Commands -/

/-- VSP_VECTOR: one vector or typed token of the active slot passes through the chain. -/
def execVspVector (p : Tile) (s : State) : Host.Outcome State Fault Refusal :=
  let sl := s.slot p
  .next (
    if !(s.mayStart p uVsp && s.running (haltVsp p)) then s
    else if !s.vspValid p sl then s.unitConfig p (VSP_FAULT p) VSP_FAULT.config_fault
    else (s.vspLoad p sl).vspStep p sl)

/-- VSP_HALT_REQ (R95). -/
def execVspHaltReq (p : Tile) (mode : BitVec 2) (s : State) : Host.Outcome State Fault Refusal :=
  let s := s.setFld (VSP_CTRL p) VSP_CTRL.halt_mode mode.toNat
  .next (
    if s.isHalted (haltVsp p) then s
    else if mode = 0 then s.startDrain (haltVsp p)
    else if mode = 1 then s.abortVsp p
    else s)

/-- VSP_RESUME (R95). -/
def execVspResume (p : Tile) (s : State) : Host.Outcome State Fault Refusal :=
  .next (if s.fenced p then s else s.resume (haltVsp p))

/-- DRAIN of the pipeline ends: a reduction group without its last vector is discarded (R95). -/
def State.vspDrained (s : State) (p : Nat) : State :=
  let u := s.vspU p
  ((s.setVsp p { u with group := none, groupCount := 0, groupMark := false }).vspStatus p).halt (haltVsp p)

/-- VSP_LANE_DISABLE: a write that disables at most one lane group while the pipeline is not busy; any other is
discarded with config_fault (R94). -/
def execVspLaneDisable (p : Tile) (v : BitVec 64) (s : State) : Host.Outcome State Fault Refusal :=
  let m := VSP_LANE_DISABLE.group_disable.get v
  let n := (List.range 8).countP (fun i => bitOf m i)
  .next (
    if n ≤ 1 ∧ !s.bit (VSP_STATUS p) VSP_STATUS.busy then
      let s := s.setFld (VSP_LANE_DISABLE p) VSP_LANE_DISABLE.group_disable m
      let s := s.setFld (VSP_STATUS p) VSP_STATUS.groups_enabled (255 - m)
      s.setBit (VSP_STATUS p) VSP_STATUS.half_rate (decide (n = 1))
    else s.vspConfigFault p)

end Sys2Proof.Machine
end

