-- ==== Sys2Proof/Machine/Tile.lean ====
section
/-! DEFINITION. Machine/Tile.lean: what concerns a tile as a whole: the fold controller (R217 to R219), halts of its
units, its fence and reset (R262, R263), its epoch, fault injection (R69) and its test controller (R275, R280). -/
namespace Sys2Proof.Machine

/-! ## The fold controller (R219) -/

/-- FOLD_QUOTA_EXPIRY: the active slot has been active for quota cycles, quota not being 0. -/
def execFoldQuotaExpiry (p : Tile) (s : State) : Host.Outcome State Fault Refusal :=
  .next (if s.fld (TILE_FOLD_SLOT p (s.slot p)) TILE_FOLD_SLOT.quota = 0 then s else s.requestSwitch p)

/-- FORCE_SWITCH: firmware's force_switch acts as a request. -/
def execForceSwitch (p : Tile) (s : State) : Host.Outcome State Fault Refusal := .next (s.requestSwitch p)

/-- Whether every unit has stopped at its safe point: the engine between slice sets with nothing left to emit, no vector
in the chain, no access awaiting its response. -/
def State.atSwitchPoint (s : State) (p : Nat) : Bool :=
  let u := s.meU p
  decide (u.run = 0 ∧ u.pass = 0 ∧ u.skips = 0) && !u.acc.any (fun e => e.2.done) && (s.vspU p).pair.isNone &&
    (List.range 4).all (fun n => !(s.agP p n (s.slot p)).awaiting)

/-- The regions from which slot `k` takes entries: of the vector stage pipeline, of the steering unit's operators, of the
index streams, and of the sending endpoints. -/
def State.slotInputs (s : State) (p k : Nat) : List Nat :=
  (if s.fld (VSP_SLOT_IO p k) VSP_SLOT_IO.in_src = 1 then [s.fld (VSP_SLOT_IO p k) VSP_SLOT_IO.in_queue] else []) ++
  (List.range 8).flatMap (fun j =>
    let g := fun f => s.fld (SU_OP_CFG p k j) f
    match g SU_OP_CFG.kind with
    | 0 => []
    | 1 => [g SU_OP_CFG.ctl, g SU_OP_CFG.in0, g SU_OP_CFG.in1]
    | 2 => [g SU_OP_CFG.ctl, g SU_OP_CFG.in0]
    | 3 => [g SU_OP_CFG.ctl, g SU_OP_CFG.in0]
    | 4 => [g SU_OP_CFG.ctl, g SU_OP_CFG.in0]
    | 5 => [g SU_OP_CFG.in0, g SU_OP_CFG.in1]
    | _ => [g SU_OP_CFG.in0]) ++
  (List.range 4).flatMap (fun n =>
    let c := AG_S_CFG p n k
    if s.bit c AG_S_CFG.enable && decide (s.fld c AG_S_CFG.mode ≥ 2) then [s.fld c AG_S_CFG.index_queue] else []) ++
  ((List.range 64).filter (fun e => s.epRole p e == 1)).map (fun e => s.epQueue p e)

/-- Whether slot `k` has an entry in one of its input queues. -/
def State.slotHasWork (s : State) (p k : Nat) : Bool := (s.slotInputs p k).any (fun r => (s.present p r k).isSome)

/-- The slot that the switch activates: the next enabled one, idle ones left out under skip_idle; the active slot where
every other would be skipped. -/
def State.switchTarget (s : State) (p : Nat) : Nat :=
  let a := s.slot p
  let on := fun k => bitOf (s.fld (TILE_FOLD_CTRL p) TILE_FOLD_CTRL.slot_enable) k
  let skip := s.bit (TILE_FOLD_CTRL p) TILE_FOLD_CTRL.skip_idle
  (((List.range 7).map (fun i => (a + i + 1) % 8)).find? (fun k => on k && (!skip || s.slotHasWork p k))).getD a

/-- The tile activates slot `k`: the shadow load of the outgoing slot is discarded, constants load anew, and a batch of
the slot starts for every unit. -/
def State.switchTo (s : State) (p k : Nat) : State :=
  let st := TILE_FOLD_STATUS p
  let s := (s.setBit st TILE_FOLD_STATUS.switch_pending false).setFld st TILE_FOLD_STATUS.next_slot 0
  let s := { s with foldEob := tset 0 s.foldEob p 0 }
  if k = s.slot p then s
  else
    let s := s.setFld st TILE_FOLD_STATUS.active_slot k
    let s := if s.bit (TILE_FOLD_CTRL p) TILE_FOLD_CTRL.perf_freeze then s
      else (s.addWrap (TILE_FOLD_SWITCHES p) 1).cycles (TILE_FOLD_SW_CYCLES p)
    let s := (s.setMe p { s.meU p with shadow := [], active := [] }).meStatus p
    let s := (s.setVsp p { s.vspU p with loaded := false }).setFld (VSP_STATUS p) VSP_STATUS.active_slot k
    let s := (List.range 4).foldl (fun s n => s.setFld (AG_STATUS p n) AG_STATUS.active_slot k) s
    let s := s.setFld (SYNC_STATUS p) SYNC_STATUS.waiting 0
    (List.range 8).foldl (fun s u => s.batchStart p u) s

/-- FOLD_SWITCH: at the switch point, the requested switch takes place. -/
def execFoldSwitch (p : Tile) (s : State) : Host.Outcome State Fault Refusal :=
  .next (
    if s.bit (TILE_FOLD_STATUS p) TILE_FOLD_STATUS.switch_pending && s.atSwitchPoint p && !s.fenced p then
      s.switchTo p (s.switchTarget p)
    else s)

/-! ## Halts of the units (R66, R95, R103, R115) -/

/-- UNIT_HALT_COMPLETE: a halting unit completes its drain. -/
def execUnitHaltComplete (p : Tile) (u : UnitId) (s : State) : Host.Outcome State Fault Refusal :=
  .next (
    match u with
    | .me => if s.isHalting (haltMe p) then s.meDrained p else s
    | .vsp => if s.isHalting (haltVsp p) then s.vspDrained p else s
    | .su => if s.isHalting (haltSu p) then s.halt (haltSu p) else s
    | .ag n =>
      if s.isHalting (haltAg p n) && !(s.agP p n (s.slot p)).awaiting then
        (s.setBit (AG_STATUS p n) AG_STATUS.busy false).halt (haltAg p n)
      else s)

/-- UNIT_DRAIN_TIMEOUT: a DRAIN that has not ended in drain_timeout_us proceeds as ABORT and sets drain_fallback. -/
def execUnitDrainTimeout (p : Tile) (u : UnitId) (s : State) : Host.Outcome State Fault Refusal :=
  let fall := fun (h : HaltRegs) (t : State) => if s.isHalting h then t.setBit h.fault h.fallback true else s
  .next (
    match u with
    | .me => fall (haltMe p) (s.abortMe p)
    | .vsp => fall (haltVsp p) (s.abortVsp p)
    | .su => fall (haltSu p) (s.abortSu p)
    | .ag n => fall (haltAg p n) (s.abortAg p n))

/-! ## Epoch and configuration CRC (R210, R218) -/

/-- Sets the epoch of a tile and discards the tokens that are then stale. -/
def State.setEpoch (s : State) (p v : Nat) : State :=
  let s := s.setFld (TILE_EPOCH p) TILE_EPOCH.epoch v
  ((List.range 64).filter (fun r => s.rMode p r == mQueue || s.rMode p r == mReceive)).foldl (fun s r => s.purge p r) s

/-- TILE_EPOCH_WRITE: discarded with epoch_refused while the context's RT_CTX_DRAINED bit is clear. -/
def execTileEpochWrite (p : Tile) (v : BitVec 4) (s : State) : Host.Outcome State Fault Refusal :=
  .next (
    if bitOf (s.fld (RT_CTX_DRAINED p) RT_CTX_DRAINED.drained) (s.fld (TILE_CTX p) TILE_CTX.ctx) then
      s.setEpoch p v.toNat
    else s.setBit (TILE_FAULT p) TILE_FAULT.epoch_refused true)

/-- CFG_CRC_CLEAR. -/
def execCfgCrcClear (p : Tile) (s : State) : Host.Outcome State Fault Refusal :=
  .next (s.setFld (TILE_CFG_CRC p) TILE_CFG_CRC.crc 0)

/-! ## Fault injection (R69) -/

/-- Whether fault injection acts: the tile is UNTESTED or out of service under a test. -/
def State.mayInject (s : State) (p : Nat) : Bool :=
  s.fld (HLTH_TILE p) HLTH_TILE.state = 0 || s.bit (HLTH_TILE p) HLTH_TILE.in_test

/-- INJECT_CHECK. -/
def execInjectCheck (p : Tile) (s : State) : Host.Outcome State Fault Refusal :=
  .next (if s.mayInject p then s.setBit (ME_CTRL p) ME_CTRL.inject_check true else s)

/-- INJECT_COMBINE. -/
def execInjectCombine (p : Tile) (s : State) : Host.Outcome State Fault Refusal :=
  .next (if s.mayInject p then s.setBit (ME_CTRL p) ME_CTRL.inject_combine true else s)

/-! ## The tile fence (R262, R263) -/

/-- The tile fences itself with a cause: units and endpoints stop, the Local port closes, a live remap is abandoned
(R272). A fenced tile keeps its first cause. -/
def State.fenceTile (s : State) (p cause : Nat) : State :=
  if s.fenced p then s
  else
    let s := (s.setBit (TILE_FENCE p) TILE_FENCE.fenced true).setFld (TILE_FENCE p) TILE_FENCE.cause cause
    let s := s.abortUnits p
    let s := ((List.range 64).filter (fun e => s.epRole p e != 0)).foldl (fun s e =>
      ((s.setEp p e { s.ep p e with aborted := true }).setBit (CH_EP_STATE p e) CH_EP_STATE.halting false).setBit
        (CH_EP_STATE p e) CH_EP_STATE.halted true) s
    let s := s.setBit (RT_STATUS p) RT_STATUS.local_closed true
    let s := s.setMu p { s.muW p with remap := none }
    (s.setBit (MU_STATUS p) MU_STATUS.remap_busy false).setFld (MU_STATUS p) ⟨MU_STATUS.agents_active.lo, 1⟩ 0

/-- TILE_FENCE_REQ: the health manager fences the tile with a cause. -/
def execTileFenceReq (p : Tile) (cause : Fin 16) (s : State) : Host.Outcome State Fault Refusal :=
  .next (s.fenceTile p cause)

/-- Whether a register address lies in tile `p`'s window outside its router's block and is reset by a compute reset. -/
def tileResets (p a : Nat) : Bool :=
  let b := tileRegs + p * 0x10000
  decide (b ≤ a) && decide (a < b + 0x10000) && !(decide (b + 0x8000 ≤ a) && decide (a < b + 0xC000)) &&
    a != TILE_FENCE p && domainOf a == some .compute

/-- Everything that a tile's units hold beside registers goes back to what reset leaves. -/
def State.clearUnits (s : State) (p : Nat) : State :=
  { s with
    me := Sparse.clear s.me (fun k => k == p)
    vsp := Sparse.clear s.vsp (fun k => k == p)
    ag := Sparse.clear s.ag (fun k => k / 32 == p)
    agFifo := Sparse.clear s.agFifo (fun k => k / 32 == p)
    mu := Sparse.clear s.mu (fun k => k == p)
    popped := Sparse.clear s.popped (fun k => k / 64 == p)
    foldEob := Sparse.clear s.foldEob (fun k => k == p)
    eps := Sparse.clear s.eps (fun k => k / 64 == p)
    reorder := Sparse.clear s.reorder (fun k => k == p) }

/-- Resets a tile's units; its fence state and its router are kept (log 15). -/
def State.resetTile (s : State) (p : Nat) : State := (s.resetRegs (tileResets p)).clearUnits p

/-- TILE_RESET: acts only while the tile is fenced. -/
def execTileReset (p : Tile) (s : State) : Host.Outcome State Fault Refusal :=
  .next (if s.fenced p then s.resetTile p else s)

/-- Lifts the fence of a tile. -/
def State.unfenceTile (s : State) (p : Nat) : State :=
  (s.setReg (TILE_FENCE p) 0).setBit (RT_STATUS p) RT_STATUS.local_closed false

/-- TILE_UNFENCE: accepted only when the tile's record is not FENCED. -/
def execTileUnfence (p : Tile) (s : State) : Host.Outcome State Fault Refusal :=
  .next (if s.fld (HLTH_TILE p) HLTH_TILE.state = 3 then s else s.unfenceTile p)

/-! ## The test controller (R275, R280) -/

/-- Whether a tile holds work: it is placed, or a reserve in use. -/
def State.holdsWork (s : State) (p : Nat) : Bool :=
  s.bit (TILE_CTX p) TILE_CTX.leased && !s.bit (TILE_CTX p) TILE_CTX.reserve

/-- Starts a test set on a tile that holds no work; set 3 is reserved. -/
def State.testStart (s : State) (p set_ : Nat) (skip : Bool) : State :=
  if s.holdsWork p ∨ set_ = 3 ∨ s.bit (TILE_TEST_STATUS p) TILE_TEST_STATUS.busy then s
  else
    let s := (s.setFld (TILE_TEST_CTRL p) TILE_TEST_CTRL.set set_).setBit (TILE_TEST_CTRL p) TILE_TEST_CTRL.skip_router skip
    (s.setBit (TILE_TEST_STATUS p) TILE_TEST_STATUS.busy true).setFld (TILE_TEST_STATUS p) TILE_TEST_STATUS.part 0

/-- TEST_START. -/
def execTestStart (p : Tile) (set_ : Fin 4) (skipRouter : Bool) (s : State) : Host.Outcome State Fault Refusal :=
  .next (s.testStart p set_ skipRouter)

/-- Abandons the test of a tile. -/
def State.testAbandon (s : State) (p : Nat) : State :=
  if s.bit (TILE_TEST_STATUS p) TILE_TEST_STATUS.busy then s.setBit (TILE_TEST_STATUS p) TILE_TEST_STATUS.busy false
  else s

/-- TEST_ABANDON. -/
def execTestAbandon (p : Tile) (s : State) : Host.Outcome State Fault Refusal := .next (s.testAbandon p)

/-! ## Management messages (R161) -/

/-- The first VCM message in transit goes on, until none is left or `fuel` ends. -/
def State.vcmWalk (s : State) (fuel : Nat) : State :=
  match fuel with
  | 0 => s
  | n + 1 =>
    match ((List.range s.net.length).zip s.net).find? (fun e => e.2.msg.vc == 4 && !e.2.arrived && decide (e.2.loc < 256)) with
    | none => s
    | some (i, e) =>
      match s.routeVcm e.loc e.msg with
      | .wait => s
      | d => (s.routeDo e.loc i e.inPort e.msg d).vcmWalk n

/-- VCM_MGMT: a management message enters the mesh at the router of tile `p` and is delivered along its source route or
its tree; what it reports has no effect on the tiles that it reaches. -/
def execVcmMgmt (p : Tile) (route : BitVec 64) (steps : Fin 32) (s : State) : Host.Outcome State Fault Refusal :=
  let m : Msg := { kind := 0x0C, vc := 4, destEp := steps, srcTile := p, vcmRoute := route.toNat }
  let t := ({ s with net := s.net ++ [({ msg := m, loc := p, inPort := 3 } : NetMsg)] }).vcmWalk 1024
  .next { t with net := t.net.filter (fun e => !(e.msg.vc == 4)) }

end Sys2Proof.Machine
end

