-- ==== Sys2Proof/Machine/Contexts.lean ====
section
/-! DEFINITION. Machine/Contexts.lean: leases, configuring, loading and starting plates (R207 to R216, R297, R449). -/
namespace Sys2Proof.Machine

/-! ## Views -/

/-- SCU_CTX_REASON of a context. -/
def State.setReason (s : State) (c code sect vtile : Nat) : State :=
  s.setReg (SCU_CTX_REASON c)
    (BitVec.ofNat 64 (code % 256 + (sect % 2 ^ 16) * 2 ^ 8 + (vtile % 2 ^ 12) * 2 ^ 24 + 2 ^ 36))

/-- The lease registers of a context follow TILE_CTX and the placement. -/
def State.leaseView (s : State) (c : Nat) : State :=
  let l := s.leaseTiles c
  let s := (List.range 4).foldl (fun s q =>
    s.setReg (SCU_CTX_LEASE c q) (BitVec.ofNat 64 ((l.filter (fun p => p / 64 == q)).map (fun p => 2 ^ (p % 64))).sum)) s
  let st := SCU_CTX_STATE c
  let s := s.setFld st SCU_CTX_STATE.tiles ((List.range 256).countP (fun v => (s.placed c v).isSome))
  let s := s.setFld st SCU_CTX_STATE.reserves (s.reserveTiles c).length
  (s.setFld st SCU_CTX_STATE.reserves_free (s.freeReserves c).length).powerView

/-- The confidential bit of a context. -/
def State.isConf (s : State) (c : Nat) : Bool := s.bit (SCU_CTX_STATE c) SCU_CTX_STATE.confidential

/-- Tile `p` joins the lease of context `c`: as a reserve, or for virtual tile `v`. A diagnostics window of a tile that
joins a confidential lease is closed (R353). -/
def State.joinLease (s : State) (c p v : Nat) (reserve : Bool) : State :=
  let s := s.setReg (TILE_CTX p)
    (BitVec.ofNat 64 (c + 16 + b2n reserve * 32 + b2n (s.isConf c) * 64 + (if reserve then 0 else v % 2 ^ 12) * 256))
  let s := (s.setBit (HLTH_TILE p) HLTH_TILE.leased true).setBit (HLTH_TILE p) HLTH_TILE.reserve reserve
  if s.isConf c then
    (List.range 128).foldl (fun s r =>
      match s.openRange r with
      | some (a, _, _, w, _) =>
        if !w && (a == tileRegs + p * 0x10000 || a == osBase p) then s.closeRange r else s
      | none => s) s
  else s

/-- Registers of tile `p` that hold what a context wrote. -/
def ctxOwned (p a : Nat) : Bool :=
  let b := tileRegs + p * 0x10000
  let o := a - b
  decide (b ≤ a) && decide (a < b + 0x10000) &&
    ((decide (0x008 ≤ o ∧ o < 0x018)) || (decide (0x038 ≤ o ∧ o < 0x0C8)) || (decide (0x228 ≤ o ∧ o < 0x238)) ||
     (decide (0x1100 ≤ o ∧ o < 0x2000)) || (decide (0x2080 ≤ o ∧ o < 0x3000)) || (decide (0x3100 ≤ o ∧ o < 0x4000)) ||
     (decide (0x5000 ≤ o ∧ o < 0x8000)) || decide (0xC000 ≤ o))

/-- Whether a fence with this cause is followed by a retest (R264). -/
def retestable (cause : Nat) : Bool := [0x01, 0x02, 0x03, 0x04, 0x05, 0x07, 0x0E, 0x0F].contains cause

/-- Whether the loupe queue holds a tile. -/
def State.inLoupe (s : State) (p : Nat) : Bool := s.health.loupe.any (fun x => x.tile == p)

/-- HLTH_LOUPE_STATUS follows the queue (R290, R291). -/
def State.loupeView (s : State) : State :=
  let q := s.health.loupe
  let a := HLTH_LOUPE_STATUS
  let s := s.setFld a HLTH_LOUPE_STATUS.pending (min 31 (q.countP (fun x => !x.running)))
  let s := s.setFld a HLTH_LOUPE_STATUS.running (q.countP (fun x => x.running))
  s.setBit a HLTH_LOUPE_STATUS.holding_rotation (!q.isEmpty)

/-- A fenced tile that holds no work is queued for its retest, where its cause has one (R264). -/
def State.queueRetest (s : State) (p : Nat) : State :=
  if s.hState p = 3 ∧ !s.bit (HLTH_TILE p) HLTH_TILE.permanent ∧ retestable (s.fld (HLTH_TILE p) HLTH_TILE.cause) ∧
      s.lease p = none ∧ !s.inLoupe p then
    ({ s with health := { s.health with
        loupe := s.health.loupe ++ [({ tile := p, retest := true } : LoupeTile)] } } : State).loupeView
  else s

/-- Tile `p` leaves its lease: what the context wrote is gone, its memories are filled with zero where `fill`, and its
record follows. A fenced tile of a confidential lease is reset first (R403). -/
def State.leaveLease (s : State) (p : Nat) (fill : Bool) : State :=
  let s := if s.fenced p && fill then s.resetTile p else s
  let s := (s.resetRegs (ctxOwned p)).clearUnits p
  let s := if fill then s.fillAll p 0 else s
  let s := (s.setBit (HLTH_TILE p) HLTH_TILE.leased false).setBit (HLTH_TILE p) HLTH_TILE.reserve false
  s.queueRetest p

/-! ## Halting and resuming a context -/

/-- Every unit and endpoint of tile `p` halts by ABORT. -/
def State.haltTile (s : State) (p : Nat) : State :=
  ((List.range 64).filter (fun e => s.epRole p e != 0)).foldl (fun s e => s.epAbort p e) (s.abortUnits p)

/-- Every unit and endpoint of tile `p` resumes. -/
def State.resumeTile (s : State) (p : Nat) : State :=
  let s := ((s.resume (haltMe p)).resume (haltVsp p)).resume (haltSu p)
  let s := (List.range 4).foldl (fun s n => s.resume (haltAg p n)) s
  ((List.range 64).filter (fun e => s.epRole p e != 0)).foldl (fun s e => s.epResume p e) s

/-- Tiles that hold the virtual tiles of a context: (virtual tile, tile). -/
def State.placedTiles (s : State) (c : Nat) : List (Nat × Nat) :=
  (List.range 256).filterMap (fun v => (s.placed c v).map (fun p => (v, p)))

def State.haltCtx (s : State) (c : Nat) : State := (s.leaseTiles c).foldl (fun s p => s.haltTile p) s
def State.resumeCtx (s : State) (c : Nat) : State :=
  ((s.placedTiles c).filter (fun e => !s.fenced e.2)).foldl (fun s e => s.resumeTile e.2) s

/-! ## The nondeterminism count (R297) -/

/-- Adds what a tile's counters have grown by since they were last taken. -/
def State.ndcTile (s : State) (c p : Nat) : State :=
  let y := s.ctx c
  let a := s.fld (CH_NDC p) CH_NDC.count
  let b := s.fld (SU_MERGE_DEV p) SU_MERGE_DEV.count
  let d := (a + 2 ^ CH_NDC.count.width - tget 0 y.ndcSeen p) % 2 ^ CH_NDC.count.width +
    (b + 2 ^ SU_MERGE_DEV.count.width - tget 0 y.ndcSeen (256 + p)) % 2 ^ SU_MERGE_DEV.count.width
  let s := s.setCtx c { y with ndcSeen := tset 0 (tset 0 y.ndcSeen p a) (256 + p) b }
  s.addMod (SCU_CTX_NDC c) SCU_CTX_NDC.count d

def State.ndcCtx (s : State) (c : Nat) : State := (s.leaseTiles c).foldl (fun s p => s.ndcTile c p) s

/-- The counts of the lease as they stand are taken as seen. -/
def State.ndcMark (s : State) (c : Nat) : State :=
  let seen := (s.leaseTiles c).foldl (fun t p =>
    tset 0 (tset 0 t p (s.fld (CH_NDC p) CH_NDC.count)) (256 + p) (s.fld (SU_MERGE_DEV p) SU_MERGE_DEV.count)) ([] : Tab Nat)
  s.setCtx c { s.ctx c with ndcSeen := seen }

/-! ## Delivering a configuration (R200, R210, R214) -/

/-- A register takes the bits of a value that agents may write. -/
def State.maskedWrite (s : State) (a v : Nat) : State :=
  match descOf a with
  | none => s
  | some d =>
    let m := BitVec.ofNat 64 (d.rw ||| d.rwl)
    s.setReg a ((s.reg a &&& ~~~ m) ||| (BitVec.ofNat 64 v &&& m))

/-- A register write of a configuration message reaches a tile, which folds its offset and value into TILE_CFG_CRC. -/
def State.vcmWrite (s : State) (p off v : Nat) : State :=
  let crc := crc32cFrom (s.fld (TILE_CFG_CRC p) TILE_CFG_CRC.crc) (leBytes 4 off ++ leBytes 8 v)
  (s.maskedWrite (tileRegs + p * 0x10000 + off) v).setFld (TILE_CFG_CRC p) TILE_CFG_CRC.crc crc

/-- route_id of a plate route of a context. -/
def State.routeId (s : State) (c ix : Nat) : Nat := (((s.ctx c).paths.find? (fun e => e.1 == ix)).map (fun e => e.2.1)).getD 0

/-- `v` with the `w` bits from `lo` on holding `x`. -/
def putBits (v lo w x : Nat) : Nat := v - bits v lo w * 2 ^ lo + (x % 2 ^ w) * 2 ^ lo

/-- The relocations that a plate's records declare for a register of a virtual tile: a register that several records reach
takes the relocations of all of them (log 19). -/
def Plate.relocsAt (pl : Plate) (v off : Nat) : List (Nat × Nat) :=
  (((pl.writes.filter (fun w => w.vtile == v && w.offset == off && w.reloc != 0)).map (fun w => (w.reloc, w.relocLo)))).eraseDups

/-- What the relocated field of a value becomes: width and number. -/
def State.relocTo (s : State) (c kind lo value : Nat) : Nat × Nat :=
  if kind = 1 then (8, (s.placed c (bits value lo 8)).getD 0) else (10, s.routeId c (bits value lo 10))

/-- The value of a plate's write as it is delivered: relocated (R200). -/
def State.relocated (s : State) (c : Nat) (w : PlateWrite) : Nat :=
  ((s.ctx c).plate.relocsAt w.vtile w.offset).foldl (fun v r =>
    let got := s.relocTo c r.1 r.2 w.value
    let n := got.1
    let x := got.2
    putBits v r.2 n x) w.value

/-- One of the plate's writes reaches the tile of its virtual tile; of TILE_FOLD_CTRL it writes slot_enable and skip_idle
alone (R201). -/
def State.deliver (s : State) (c : Nat) (w : PlateWrite) : State :=
  match s.placed c w.vtile with
  | none => s
  | some p =>
    let v := s.relocated c w
    let v := if tileRegs + w.offset = TILE_FOLD_CTRL 0 then v % 2 ^ 9 else v
    s.vcmWrite p w.offset v

/-- The SYNC_MAP of a tile: every virtual counter of the plate (R188, R203). -/
def State.writeSyncMap (s : State) (c v p : Nat) : State :=
  let pl := (s.ctx c).plate
  pl.counters.foldl (fun s k =>
    match s.placed c k.vtile with
    | none => s
    | some q =>
      let rt := ((pl.routes.find? (fun r => r.src == v && r.dst == k.vtile)).map (fun r => s.routeId c r.index)).getD 0
      s.setReg (SYNC_MAP p k.vid) (BitVec.ofNat 64 (1 + q * 2 + (k.counter % 64) * 2 ^ 9 + rt * 2 ^ 15))) s

/-- The region registers of a virtual tile's tile, from the REGIONS section, with the pointers at 0. -/
def State.writeRegions (s : State) (c v p : Nat) : State :=
  ((s.ctx c).plate.regions.filter (fun r => r.vtile == v)).foldl (fun s r =>
    let s := s.resetRegs (fun a => decide (RGN_CFG p r.region ≤ a) && decide (a < RGN_CFG p r.region + 0x40))
    let s := s.setPopped p r.region []
    s.setReg (RGN_CFG p r.region) (RGN_CFG.ctx.set c (BitVec.ofNat 64 r.cfg &&& 0x0007FFFFFFFFFFFF#64))) s

/-- Direct neighbour channels whose two ends are no longer neighbours, or whose channel is fenced, run routed on the
virtual channel of their route (R204, R270). -/
def State.dncFallback (s : State) (c : Nat) : State :=
  let pl := (s.ctx c).plate
  (s.placedTiles c).foldl (fun s vp =>
    let got := vp
    let v := got.1
    let p := got.2
    (List.range 64).foldl (fun s e =>
      let a := CH_EP_CFG p e
      let d := s.fld a CH_EP_CFG.dnc_dir
      let far := if s.epRole p e = 1 then some (s.fld (CH_EP_DEST p e) CH_EP_DEST.dest_tile)
        else ((s.sendersOf p e).head?.bind (fun i => s.placed c (s.fld (CH_SND p i) CH_SND.src_vtile)))
      let ix := pl.fld v (CH_EP_DEST 0 e) CH_EP_DEST.route_id
      let vc := ((pl.routes.find? (fun r => r.index == ix)).map (fun r => r.vc)).getD (s.fld a CH_EP_CFG.vc)
      if s.epRole p e ≠ 0 ∧ s.bit a CH_EP_CFG.dnc ∧ neighbour p d < 256 ∧ (far ≠ some (neighbour p d) ∨ s.dncOut p d) then
        let s := s.setBit a CH_EP_CFG.dnc false
        if s.epRole p e = 1 then s.setFld a CH_EP_CFG.vc vc else s
      else s) s) s

/-- The virtual counter maps of the transfer engines for a context follow its plate's counters (R188). -/
def State.writeVmap (s : State) (c : Nat) : State :=
  let s := s.resetRegs (fun a => (List.range 2).any (fun g => decide (XE_VMAP g c 0 ≤ a) && decide (a < XE_VMAP g c 0 + 0x800)))
  (s.ctx c).plate.counters.foldl (fun s k =>
    match s.placed c k.vtile with
    | none => s
    | some q => (List.range 2).foldl (fun s g =>
        s.setReg (XE_VMAP g c k.vid) (BitVec.ofNat 64 (1 + q * 2 + (k.counter % 64) * 2 ^ 9))) s) s

/-- The whole configuration of the virtual tiles `vs` (R210). -/
def State.configure (s : State) (c : Nat) (vs : List Nat) : State :=
  let pl := (s.ctx c).plate
  let s := vs.foldl (fun s v =>
    match s.placed c v with
    | none => s
    | some p =>
      let s := (s.setFld (TILE_CFG_CRC p) TILE_CFG_CRC.crc 0).writeRegions c v p
      let s := (pl.writes.filter (fun w => w.vtile == v)).foldl (fun s w => s.deliver c w) s
      s.writeSyncMap c v p) s
  (s.dncFallback c).writeVmap c

/-! ## Proxies of remote channels (R374 to R377) -/

/-- The value that the chan_seq of an ingress proxy's channel starts from: that of the receiver's sender record (R166). -/
def Plate.proxySeq (pl : Plate) (r : RemoteReq) : Nat :=
  match (List.range 256).find? (fun i => pl.fld r.vtile (CH_SND 0 i) CH_SND.valid = 1 ∧
      pl.fld r.vtile (CH_SND 0 i) CH_SND.src_vtile = 0x800 + 64 * r.die + r.proxy ∧ pl.fld r.vtile (CH_SND 0 i) CH_SND.src_ep = 0) with
  | some i => pl.fld r.vtile (CH_SND 0 i) CH_SND.expected_seq
  | none => 0

/-- The places and numbers of the receivers of a context's ingress proxies follow its placement. -/
def State.followProxies (s : State) (c : Nat) : State :=
  ((s.ctx c).plate.remotes.filter (fun r => r.role == 2)).foldl (fun s r =>
    match s.placed c r.vtile with
    | none => s
    | some p =>
      let a := LN_INGRESS_W0 r.die r.proxy
      ((s.setFld a LN_INGRESS_W0.dest_tile p).setFld a LN_INGRESS_W0.dest_ep r.ep).setFld a LN_INGRESS_W0.route_id
        (s.routeId c r.routeIx)) s

/-- The proxies of a context's plate are set up. -/
def State.writeProxies (s : State) (c : Nat) : State :=
  let s := (s.ctx c).plate.remotes.foldl (fun s r =>
    let k := r.die * 64 + r.proxy
    let base := 1 + c * 2 + (r.lvc % 2) * 2 ^ 5 + (r.rch % 2 ^ 16) * 2 ^ 6
    if r.role = 1 then
      let s := s.setReg (LN_EGRESS_W0 r.die r.proxy) (BitVec.ofNat 64 (base + (r.hopCount % 64) * 2 ^ 22 + r.bufferKib * 2 ^ 28))
      let s := s.setReg (LN_EGRESS_W1 r.die r.proxy) (BitVec.ofNat 64 r.nibbles)
      let s := s.setReg (LN_EGRESS_W2 r.die r.proxy) (BitVec.ofNat 64 (r.nibbles / 2 ^ 64))
      let s := s.setReg (LN_EGRESS_W3 r.die r.proxy) (BitVec.ofNat 64 (r.peerKib * 16 + r.peerKib * 2 ^ 32))
      { s with egress := tset {} s.egress k {} }
    else if r.role = 2 then
      let s := s.setReg (LN_INGRESS_W0 r.die r.proxy) (BitVec.ofNat 64 base)
      let s := s.setReg (LN_INGRESS_W1 r.die r.proxy)
        (BitVec.ofNat 64 (r.bufferKib + ((s.ctx c).plate.proxySeq r % 2 ^ 32) * 2 ^ 32))
      let s := (s.setReg (LN_INGRESS_W2 r.die r.proxy) 0).setReg (LN_INGRESS_W3 r.die r.proxy) 0
      { s with ingress := tset {} s.ingress k {} }
    else s) s
  s.followProxies c

/-- The proxies of a context are free. -/
def State.clearProxies (s : State) (c : Nat) : State :=
  [0, 1].foldl (fun s d => (List.range 64).foldl (fun s i =>
    let s := if s.bit (LN_EGRESS_W0 d i) LN_EGRESS_W0.valid ∧ s.fld (LN_EGRESS_W0 d i) LN_EGRESS_W0.ctx = c then
        let s := (((s.setReg (LN_EGRESS_W0 d i) 0).setReg (LN_EGRESS_W1 d i) 0).setReg (LN_EGRESS_W2 d i) 0).setReg (LN_EGRESS_W3 d i) 0
        { s with egress := tset {} s.egress (d * 64 + i) {} }
      else s
    if s.bit (LN_INGRESS_W0 d i) LN_INGRESS_W0.valid ∧ s.fld (LN_INGRESS_W0 d i) LN_INGRESS_W0.ctx = c then
      let s := (((s.setReg (LN_INGRESS_W0 d i) 0).setReg (LN_INGRESS_W1 d i) 0).setReg (LN_INGRESS_W2 d i) 0).setReg (LN_INGRESS_W3 d i) 0
      { s with ingress := tset {} s.ingress (d * 64 + i) {} }
    else s) s) s

/-- At a start the chan_seq of the proxies' local channels takes its load value, and their windows are empty (R216). -/
def State.startProxies (s : State) (c : Nat) : State :=
  (s.ctx c).plate.remotes.foldl (fun s r =>
    let k := r.die * 64 + r.proxy
    if r.role = 1 then { s with egress := tset {} s.egress k { tget {} s.egress k with expected := 0 } }
    else if r.role = 2 then
      let s := s.setFld (LN_INGRESS_W1 r.die r.proxy) LN_INGRESS_W1.next_seq ((s.ctx c).plate.proxySeq r)
      { s with ingress := tset {} s.ingress k { tget {} s.ingress k with win := [], roundNacked := false, stopped := false } }
    else s) s

/-! ## Weights (R205, R211, R284, R312) -/

/-- Images of a plate that lie in the context's backing image: HBM address by virtual tile × 64 + region. -/
def State.backingOf (s : State) (c v r : Nat) : Option Nat :=
  ((s.ctx c).backing.find? (fun e => e.1 == v * 64 + r)).map (fun e => e.2)

/-- Number of unchecked 32-row blocks in a region image of weight blocks, read from their side blocks (R50, R58). -/
def countUnchecked (fuel : Nat) (img : List Byte) : Nat :=
  match fuel with
  | 0 => 0
  | n + 1 =>
    let wide := img.length ≥ 8192 + 1728 ∧ (img.getD 8193 0).toNat = 2 ∧ ((img.getD 8192 0).toNat = 0xA ∨ (img.getD 8192 0).toNat = 0xB)
    let arr := if wide then 8192 else 16384
    if img.length < arr + 1728 then 0
    else
      let f := (img.getD (arr + 2) 0).toNat
      b2n (bitOf f 0) + b2n (bitOf f 1) + b2n (bitOf f 2) + b2n (bitOf f 3) + countUnchecked n (img.drop (arr + 1728))

/-- Plaintext of a weight section: a refusal code, or the region image (R205, R396, R397). -/
def State.weightImage (s : State) (c img : Nat) (w : WeightSec) : Nat ⊕ List Byte :=
  if !w.encrypted then .inr (s.bytes (img + w.offset) w.length)
  else
    let a := img + w.offset
    let k := tget {} s.weightKeys (c * 16 + s.num a 2)
    match Config.gcmOpen k.key (s.bytes (a + 4) 12) w.entry (s.bytes (a + 16) (w.length - 16)) with
    | some l => .inr l
    | none => .inl 0x15

/-- Whether the key slot of an encrypted section serves the plate (R397). -/
def State.keyServes (s : State) (c img : Nat) (pl : Plate) (w : WeightSec) : Bool :=
  let slot := s.num (img + w.offset) 2
  let k := tget {} s.weightKeys (c * 16 + slot)
  !w.encrypted || (decide (slot < 16) && !k.key.isEmpty && k.signer == pl.signer && (k.plateId == 0 || k.plateId == pl.plateId))

/-- One weight section reaches the backing image, where its region is resident, and the tile store. -/
def State.landWeight (s : State) (c : Nat) (w : WeightSec) (l : List Byte) : State :=
  match s.placed c w.vtile with
  | none => s
  | some p =>
    let dst := tsBase p + s.rBase p w.region
    let s := match s.backingOf c w.vtile w.region with
      | some b => (s.setBytes b l).copyRange b dst l.length
      | none => s.setBytes dst l
    s.addSat (ME_CHECK_SKIPPED p) ME_CHECK_SKIPPED.resident_unchecked (countUnchecked (l.length / 9920 + 1) l)

/-- Every weight section in table order; a refusal fills what reached HBM with zero. -/
def State.landWeights (s : State) (c img : Nat) (l : List WeightSec) : (Refuse × State) ⊕ State :=
  match l with
  | [] => .inr s
  | w :: t =>
    match s.weightImage c img w with
    | .inl code => .inl ((code, w.sect, w.vtile), s)
    | .inr b => (s.landWeight c w b).landWeights c img t

/-- Folds the identity of its operation into every entry of a combining region (R212). -/
def State.combineIdentity (s : State) (p e a size : Nat) (r : RegionReq) : State :=
  let op := s.fld (CH_EP_CFG p e) CH_EP_CFG.combine_op
  let given := bitOf r.flags 1
  let drawn := s.draw 11
  let len := if given then s.num (a + 4) 4 else 4 * (drawn.1 + 1)
  let expected := if given then s.num a 2 else (s.sendersOf p e).length
  let step := entryBytes op len
  let s := if given then s else drawn.2.zeroRange a size
  (List.range (size / step)).foldl (fun s i =>
    let b := a + i * step
    let ex := if given then s.num b 2 else expected
    let s := s.setBytes b (leBytes 2 ex ++ [0, 0] ++ leBytes 4 len)
    s.combineReset op b (accBytes op len)) s

/-- The identity of its scan in every vector of a region that a vector unit folds into. -/
def State.scanIdentity (s : State) (p a size k : Nat) : State :=
  let w := s.stageWord p k 6
  let fn := bits w 64 3
  let bf := s.vspBf16 p k
  if fn = 3 ∨ foldId fn = 0 then s
  else (List.range (size / 320)).foldl (fun s i =>
    s.setBytes (a + i * 320) (packLanes bf (List.replicate (lanesOf bf) (foldId fn)))) s

/-- A carry region's records, or a combining region's entries, are set to their identity (R90, R176, R203). A combining
entry keeps the expected count and length of its initial image; without one the count is the channel's senders and the
length is free (log 18). -/
def State.setIdentity (s : State) (c : Nat) (r : RegionReq) : State :=
  (s.placed c r.vtile).elim s (fun p =>
    let a := tsBase p + s.rBase p r.region
    let size := s.rSize p r.region
    let comb := (List.range 64).find? (fun e =>
      s.epRole p e == 3 && s.fld (CH_EP_CFG p e) CH_EP_CFG.combine_region == r.region)
    let scan := (List.range 8).find? (fun k =>
      let w := s.stageWord p k 6
      swEnable w && swOp w == 3 && bitOf w 80 && bits w 81 6 == r.region)
    let t := s.zeroRange a size
    comb.elim (scan.elim t (fun k => t.scanIdentity p a size k)) (fun e => s.combineIdentity p e a size r))

/-! ## Loading (R206 to R211) -/

/-- What a load keeps of its plate: the backing addresses in the context's HBM allocation. -/
def State.adoptPlate (s : State) (c : Nat) (pl : Plate) : State :=
  let y := s.ctx c
  let s := s.setCtx c { y with plate := pl, backing := pl.backingAt.map (fun e => (e.1, y.hbmBase + e.2)), paths := [] }
  let s := { s with power := { s.power with peak := tset 0 s.power.peak c 0 } }
  let s := s.setFld (SCU_STR_STATE c) SCU_STR_STATE.slots pl.smap.slots
  s.setFld (SCU_STR_STEP c) SCU_STR_STEP.step_period pl.smap.stepPeriod

/-- Writes the placement of a plate: SCU_CTX_PLACE, TILE_CTX and the reserves. -/
def State.adoptTiles (s : State) (c : Nat) (placed : List (Nat × Nat)) (reserves : List Nat) : State :=
  let s := (List.range 256).foldl (fun s v => s.setReg (SCU_CTX_PLACE c v) 0) s
  let s := placed.foldl (fun s e =>
    (s.setReg (SCU_CTX_PLACE c e.1) (BitVec.ofNat 64 (1 + e.2 * 2))).joinLease c e.2 e.1 false) s
  let s := reserves.foldl (fun s p => s.joinLease c p 0 true) s
  (s.markDisplaced c).leaseView c

/-- Assigns and writes the routes of a plate: a refusal code, or the state (R208). -/
def State.adoptRoutes (s : State) (c : Nat) (l : List RouteReq) : Nat ⊕ State :=
  let pl := (s.ctx c).plate
  let at_ := fun v => s.placed c v
  match l.find? (fun r => (s.planRoute pl.placement at_ r).isNone) with
  | some _ => .inl 0x11
  | none =>
    l.foldl (fun (st : Nat ⊕ State) r =>
      match st with
      | .inl e => .inl e
      | .inr s =>
        let hops := (s.planRoute pl.placement at_ r).getD []
        match s.freeRouteId hops with
        | none => .inl 0x12
        | some id =>
          let s := (s.writeRoute c id r.adapt hops).addBudget c r.rate r.burst hops
          let y := s.ctx c
          .inr (s.setCtx c { y with paths := y.paths ++ [(r.index, id, hops.map (fun h => h.1))] })) (.inr s)

/-- The restore route of a reserve (R266): from edge die W, 64 flits per 256 FCLK cycles and burst 64. Its index lies
behind every plate route. -/
def restoreRoute (p : Nat) : RouteReq :=
  { index := 0x10000 + p, src := 0xFF00, dst := p, hMax := 64, bMax := 64, rate := 64, burst := 64 }

/-- Writes the restore routes of reserves: a refusal code, or the state. -/
def State.addRestore (s : State) (c : Nat) (l : List Nat) : Nat ⊕ State :=
  l.foldl (fun (st : Nat ⊕ State) p =>
    match st with
    | .inl e => .inl e
    | .inr s =>
      match s.computeRoute 64 64 256 p with
      | none => .inl 0x11
      | some hops =>
        match s.freeRouteId hops with
        | none => .inl 0x12
        | some id =>
          let s := (s.writeRoute c id false hops).addBudget c 64 64 hops
          let y := s.ctx c
          .inr (s.setCtx c { y with paths := y.paths ++ [(0x10000 + p, id, hops.map (fun h => h.1))] })) (.inr s)

/-- The steps of a load behind its checks: placement on `avail`, routes and budgets, keys, configuration and weights. A
refusal comes with the state that it leaves: what the load had written in HBM filled with zero, nothing else changed. -/
def State.stagePlate (s : State) (c : Nat) (pl : Plate) (avail : List Nat) : (Refuse × State) ⊕ State :=
  let l := s.sections pl.img
  let at_ := fun t => (sectOf l t).ix
  if avail.length < pl.vtiles + pl.reserveTiles then .inl ((0x0F, at_ sRESOURCES, noVtile), s)
  else match placeAll pl.placement avail with
  | .inl v => .inl ((0x10, at_ sPLACEMENT, v), s)
  | .inr placed =>
    let tiles := placed.map (fun e => e.2)
    let reserves := pickReserves pl.placement tiles avail [] pl.reserveTiles
    let t := ((s.adoptPlate c pl).adoptTiles c placed reserves).setDrained c true
    match t.adoptRoutes c pl.routes with
    | .inl code => .inl ((code, at_ sROUTES, noVtile), s)
    | .inr t =>
      match t.addRestore c reserves with
      | .inl code => .inl ((code, at_ sROUTES, noVtile), s)
      | .inr t =>
        if !t.budgetsOk then .inl ((0x13, at_ sROUTES, noVtile), s)
        else match pl.weights.find? (fun w => !t.keyServes c pl.img pl w) with
        | some w => .inl ((0x14, w.sect, w.vtile), s)
        | none =>
          let t := t.configure c (List.range pl.vtiles)
          match t.landWeights c pl.img pl.weights with
          | .inl (r, u) =>
            let s := s.withMemoryOf u
            let s := tiles.foldl (fun s p => s.fillAll p 0) (s.zeroRange (s.ctx c).hbmBase (roundUp pl.backingBytes 4096))
            .inl (r, s)
          | .inr t => .inr t

/-- The first weight section whose landed region does not hash to its digest, or RESOURCES where the proof digest alone
differs (R211, R284). -/
def State.digestBad (s : State) (c : Nat) : Option Refuse :=
  let pl := (s.ctx c).plate
  let dig := fun (v r : Nat) => match s.placed c v with
    | some p => s.regionDigest p r
    | none => []
  match pl.weights.find? (fun w => decide (dig w.vtile w.region ≠ w.digest)) with
  | some w => some (0x16, w.sect, w.vtile)
  | none =>
    let proof := sha256 ((pl.regions.filter (fun r => bitOf r.flags 0 && bitOf r.flags 1)).flatMap (fun r => dig r.vtile r.region))
    if proof ≠ pl.proof then some (0x16, (sectOf (s.sections pl.img) sRESOURCES).ix, noVtile) else none

/-- Sets every counter of a context from the COUNTERS section (R187). -/
def State.setCounters (s : State) (c : Nat) : State :=
  (s.ctx c).plate.counters.foldl (fun s k =>
    match s.placed c k.vtile with
    | none => s
    | some p =>
      let s := s.setFld (SYNC_EN p) ⟨k.counter, 1⟩ 0
      let s := s.setFld (SYNC_CNT p k.counter) SYNC_CNT.value k.init
      s.setFld (SYNC_EN p) ⟨k.counter, 1⟩ 1) s

/-- Saved regions of Slumber are copied over the loaded image where the plate is the one they were saved from; their
entries go (R449). -/
def State.restoreSaved (s : State) (c : Nat) : State :=
  let y := s.ctx c
  let s := y.saved.foldl (fun s e =>
    let got := e
    let v := got.1
    let r := got.2.1
    let dest := got.2.2.1
    let plate := got.2.2.2
    match s.placed c v with
    | some p => if plate = y.plate.plateId then s.copyRange dest (tsBase p + s.rBase p r) (s.rSize p r) else s
    | none => s) s
  s.setCtx c { s.ctx c with saved := [] }

/-- Resident regions without an initial image enter the backing image as they stand (R203, R312). -/
def State.backImages (s : State) (c : Nat) : State :=
  ((s.ctx c).plate.regions.filter (fun r => bitOf r.flags 0 && !bitOf r.flags 1)).foldl (fun s r =>
    match s.placed c r.vtile, s.backingOf c r.vtile r.region with
    | some p, some b => s.copyRange (tsBase p + s.rBase p r.region) b (s.rSize p r.region)
    | _, _ => s) s

/-- Sum of resident_unchecked over the lease (R283). -/
def State.uncheckedOf (s : State) (c : Nat) : Nat :=
  ((s.leaseTiles c).map (fun p => s.fld (ME_CHECK_SKIPPED p) ME_CHECK_SKIPPED.resident_unchecked)).sum

def State.uncheckedView (s : State) (c : Nat) : State :=
  s.setFld (SCU_CTX_SILENT c) SCU_CTX_SILENT.unchecked_blocks (min 0xFFFF (s.uncheckedOf c))

/-- What remains once every digest matches: counters, identities, saved regions, the units halted (R211). -/
def State.finishLoad (s : State) (c : Nat) : State :=
  let pl := (s.ctx c).plate
  let s := s.setCounters c
  let s := (pl.regions.filter (fun r => bitOf r.flags 2)).foldl (fun s r => s.setIdentity c r) s
  let s := ((s.backImages c).restoreSaved c).writeProxies c
  let s := (s.haltCtx c).setReg (SCU_CTX_PLATE c) (BitVec.ofNat 64 pl.plateId)
  (((s.uncheckedView c).ndcMark c).needView c).leaseView c

/-- Every tile of a context's lease is released; `fill` for those that were written. -/
def State.releaseAll (s : State) (c : Nat) (fill : Bool) : State :=
  let l := s.leaseTiles c
  let s := ((s.setDrained c true).clearRoutes c).clearBudgets c
  let s := l.foldl (fun s p => s.leaveLease p fill) s
  let s := (List.range 256).foldl (fun s v => s.setReg (SCU_CTX_PLACE c v) 0) s
  let s := s.resetRegs (fun a => (List.range 2).any (fun g => decide (XE_VMAP g c 0 ≤ a) && decide (a < XE_VMAP g c 0 + 0x800)))
  ((s.leaseView c).setReg (SCU_CTX_PLATE c) 0).clearProxies c

/-- The data of a context that holds no plate. -/
def Ctx.empty (y : Ctx) : Ctx :=
  { hbmBase := y.hbmBase, hbmBytes := y.hbmBytes, lpBase := y.lpBase, lpBytes := y.lpBytes, saved := y.saved }

/-- A refused load: reason, fills of what it wrote, everything it took released, IDLE (R206). -/
def State.dropLoad (s : State) (c : Nat) (r : Refuse) (written : Bool) : State :=
  let n := roundUp (s.ctx c).plate.backingBytes 4096
  let s := if written then s.zeroRange (s.ctx c).hbmBase n else s
  let s := s.releaseAll c written
  let s := s.setCtx c (s.ctx c).empty
  ((s.setReason c r.1 r.2.1 r.2.2).setCState c 1).publish

/-- Proxies of other contexts, the buffer bytes of each die and the ACTIVE ports: what R374 checks against. -/
def State.remoteBad (s : State) (c : Nat) (pl : Plate) : Bool :=
  let others := ((List.range 16).filter (fun d => d != c)).flatMap (fun d => (s.ctx d).plate.remotes.filter (fun r => r.role != 3))
  pl.remoteBad (others.map (fun r => r.die * 64 + r.proxy))
    (fun d => ((others.filter (fun r => r.die == d)).map (fun r => r.bufferKib * 1024)).sum)
    (fun n => decide (s.fld (LN_STATUS n) LN_STATUS.state = 3))

/-- Results of a load (R353). -/
def State.loadResults (s : State) (c : Nat) : List (Nat × Nat) :=
  let pl := (s.ctx c).plate
  [(2, pl.vtiles), (1, pl.reserveTiles), (1, pl.foldSlots), (4, s.uncheckedOf c), (8, pl.plateId)]

/-- Places and stages the plate of a loading context from the start: staged, or refused with its reply. -/
def State.stageLoad (s : State) (c : Nat) (pl : Plate) : State :=
  match s.stagePlate c pl s.freeGood with
  | .inr t => t.publish
  | .inl (r, t) =>
    let t := t.dropLoad c r false
    t.complete (fun w => w.op == 0x0201 && w.ctx == c) (fun s w => s.refuse w.cmd r.1)

/-- LOAD_READY: the digests of a loading context decide (R211). -/
def execLoadReady (c : Fin 16) (s : State) : Host.Outcome State Fault Refusal :=
  .next (
    if s.cState c ≠ 2 then s
    else match s.digestBad c with
    | some r =>
      let s := s.dropLoad c r true
      s.complete (fun w => w.op == 0x0201 && w.ctx == c) (fun s w => s.refuse w.cmd r.1)
    | none =>
      let s := (s.finishLoad c).setCState c 3
      let s := s.setCtx c { s.ctx c with loaded := true, resent := 0 }
      s.complete (fun w => w.op == 0x0201 && w.ctx == c) (fun s w => s.ok w.cmd (s.loadResults c)))

/-- A placed or reserve tile of a loading context has left GOOD: the load runs once more from the start; the second time
it is refused with HEALTH_CHANGED (R209). -/
def State.loadAgain (s : State) (c : Nat) : State :=
  let y := s.ctx c
  if y.resent ≥ 1 then
    let s := s.dropLoad c (0x17, noSect, noVtile) true
    s.complete (fun w => w.op == 0x0201 && w.ctx == c) (fun s w => s.refuse w.cmd 0x17)
  else
    let pl := y.plate
    let s := s.releaseAll c true
    let s := s.setCtx c { y.empty with resent := 1 }
    s.stageLoad c pl

/-! ## Starting (R216) -/

/-- The value that the plate's sender record of a sending endpoint starts from: its load value (R166). -/
def Plate.seqLoad (pl : Plate) (v e : Nat) : Nat :=
  let d := pl.fld v (CH_EP_DEST 0 e) CH_EP_DEST.dest_tile
  let de := pl.fld v (CH_EP_DEST 0 e) CH_EP_DEST.dest_ep
  match (List.range 256).find? (fun i => pl.fld d (CH_SND 0 i) CH_SND.valid = 1 ∧ pl.fld d (CH_SND 0 i) CH_SND.endpoint = de ∧
      pl.fld d (CH_SND 0 i) CH_SND.src_vtile = v ∧ pl.fld d (CH_SND 0 i) CH_SND.src_ep = e) with
  | some i => pl.fld d (CH_SND 0 i) CH_SND.expected_seq
  | none => 0

/-- The pointers of a region start again at 0. -/
def State.resetPointers (s : State) (p r : Nat) : State :=
  let s := s.setPopped p r []
  let s := (((s.setReg (RGN_HEAD p r) 0).setReg (RGN_TAIL p r) 0).setReg (RGN_READ p r) 0).setReg (RGN_OFFS p r) 0
  s.setReg (RGN_STATUS p r) 0

/-- Sequences, windows and overflow of a tile's endpoints as a start sets them. -/
def State.resetEndpoints (s : State) (pl : Plate) (v p : Nat) : State :=
  let s := s.setRor p []
  let s := (List.range 64).foldl (fun s e =>
    if s.epRole p e = 0 then s
    else
      let s := s.setEpWin p e {}
      let s := s.setFld (CH_EP_STATE p e) CH_EP_STATE.next_seq (pl.seqLoad v e)
      let s := (s.setFld (CH_EP_STATE p e) CH_EP_STATE.nack_run 0).setBit (CH_EP_STATE p e) CH_EP_STATE.overflow false
      (s.setReg (CH_OVF_BASE p e) 0).setReg (CH_OVF_STATE p e) 0) s
  (List.range 256).foldl (fun s i =>
    if s.bit (CH_SND p i) CH_SND.valid then
      s.setFld (CH_SND p i) CH_SND.expected_seq (pl.fld v (CH_SND 0 i) CH_SND.expected_seq)
    else s) s

/-- The next gather is the first at or after now: those that fell while none could run are passed over (R239). -/
def State.skipGathers (s : State) (c : Nat) : State :=
  let t0 := s.fld (SCU_STR_T0 c) SCU_STR_T0.t0
  let per := (s.smap c).stepPeriod
  let k := if per = 0 then 0 else ceilDiv (s.tb - t0) per
  s.setCtx c { s.ctx c with gathers := max (s.ctx c).gathers k }

/-- Starts a context whose units are halted (R216); the epoch of the first start after a load stays 0. -/
def State.startCtx (s : State) (c : Nat) : State :=
  let pl := (s.ctx c).plate
  let s := (pl.regions.filter (fun r => !bitOf r.flags 0)).foldl (fun s r =>
    match s.placed c r.vtile with
    | some p => s.resetPointers p r.region
    | none => s) s
  let s := s.setCounters c
  let s := ((s.placedTiles c).foldl (fun s e => s.resetEndpoints pl e.1 e.2) s).startProxies c
  let ep := SCU_CTX_STATE.epoch
  let s := if (s.ctx c).started then s.setFld (SCU_CTX_STATE c) ep ((s.fld (SCU_CTX_STATE c) ep + 1) % 16)
    else s.setFld (SCU_CTX_STATE c) ep 0
  let e := s.fld (SCU_CTX_STATE c) ep
  let s := (s.leaseTiles c).foldl (fun s p => s.setEpoch p e) s
  let s := (s.setDrained c false).resumeCtx c
  let s := (s.placedTiles c).foldl (fun s x => (List.range 8).foldl (fun s u => s.batchStart x.2 u) s) s
  let y := s.ctx c
  let s := s.setCtx c { y with started := true, ringsClosed := false, after := .ready, stalls := 0, pendingSeen := false,
                               idleSince := s.tb, everRound := false, roundWanted := false }
  ((s.setCState c 4).setBit (SCU_STR_STATE c) SCU_STR_STATE.admission_open true).setBit (SCU_STR_STATE c)
    SCU_STR_STATE.gather_paused false

end Sys2Proof.Machine
end

