-- ==== Sys2Proof/Machine/HealthMap.lean ====
section
/-! DEFINITION. Machine/HealthMap.lean: the health map's tile records (R254 to R259), fences and what follows from them
(R246, R262, R264, R272), loupe results and requests (R290, R293). -/
namespace Sys2Proof.Machine

/-! ## Tile records -/

/-- A field of a tile's record takes a value. -/
def State.setHealth (s : State) (p : Nat) (f : Field) (x : Nat) : State := s.setFld (HLTH_TILE p) f x

/-- The conditions of R256 that a tile meets now, as degraded_why holds them. -/
def State.whyNow (s : State) (p : Nat) : Nat :=
  let g := fun f => s.fld (HLTH_TILE p) f
  b2n (decide (s.fld HLTH_CFG HLTH_CFG.remap_warn ≤ g HLTH_TILE.max_remap)) + 2 * b2n (decide (g HLTH_TILE.blocked_ranges ≠ 0)) +
    4 * b2n (decide (g HLTH_TILE.vsp_group ≠ 0xF))

/-- A tile that passes a test is GOOD, or DEGRADED where it meets a condition (R257). -/
def State.passTile (s : State) (p : Nat) : State :=
  let w := s.whyNow p
  (s.setHealth p HLTH_TILE.degraded_why w).setHealth p HLTH_TILE.state (if w = 0 then 1 else 2)

/-- Conditions that have arisen are recorded, and a GOOD tile becomes DEGRADED (R257); a loading context then places its
plate again (R209). -/
def State.degrade (s : State) (p : Nat) : State :=
  let w := Nat.lor (s.fld (HLTH_TILE p) HLTH_TILE.degraded_why) (s.whyNow p)
  let was := s.hState p
  let s := s.setHealth p HLTH_TILE.degraded_why w
  if was = 1 ∧ w ≠ 0 then
    let s := s.setHealth p HLTH_TILE.state 2
    match s.lease p with
    | some c => if s.cState c = 2 then s.loadAgain c else s
    | none => s
  else s

/-- Remapped rows of a tile-store bank (R135, R256): the valid entries that are not retired. -/
def State.bankRemaps (s : State) (p bank : Nat) : Nat :=
  (List.range 16).countP (fun i =>
    repairValid (s.repair p false bank i) && repairRow false (s.repair p false bank i) != retiredRow false)

/-- HLTH_REMAP and max_remap of a tile follow its repair entries. -/
def State.remapView (s : State) (p bank : Nat) : State :=
  let s := s.setFld (HLTH_REMAP p (bank / 8)) ⟨8 * (bank % 8), 5⟩ (s.bankRemaps p bank)
  let most := (List.range 64).foldl (fun m b => max m (s.fld (HLTH_REMAP p (b / 8)) ⟨8 * (b % 8), 5⟩)) 0
  s.setHealth p HLTH_TILE.max_remap most

/-- The count from which a tile's test age runs (R279): its last pass, or the count at which READY was posted. -/
def State.ageFrom (s : State) (p : Nat) : Nat :=
  let t := s.fld (HLTH_TILE_PASS p) HLTH_TILE_PASS.tb_count
  if t = 0 then s.fld SCU_BOOT_READY SCU_BOOT_READY.tb_count else t

/-- HLTH_OLDEST: the tile with the oldest pass among those that are not FENCED. -/
def State.oldestView (s : State) : State :=
  match minBy (fun p => s.ageFrom p) ((List.range 256).filter (fun p => s.hState p != 3)) with
  | none => s.setReg HLTH_OLDEST 0
  | some p =>
    (s.setFld HLTH_OLDEST HLTH_OLDEST.tile p).setFld HLTH_OLDEST HLTH_OLDEST.age_ms ((s.tb - s.ageFrom p) / 100000)

/-! ## Loupe requests and results (R290, R293) -/

/-- Queues a request for tiles: its number; LOUPE_DONE at once where it names none. -/
def State.loupeQueue (s : State) (l : List Nat) : Nat × State :=
  let n := s.health.nextRequest
  let h := { s.health with nextRequest := n + 1 }
  if l.isEmpty then (n, ({ s with health := h } : State).event 0x0006 0xFF (fieldsFrom 0 [(4, n), (1, 0), (1, 0)]))
  else (n, ({ s with health := { h with
      loupe := h.loupe ++ l.map (fun p => ({ tile := p, request := n } : LoupeTile)),
      requests := h.requests ++ [({ id := n, tiles := l.length, left := l.length } : LoupeReq)] } } : State).loupeView)

/-- Takes an entry out of the loupe queue. -/
def State.loupeOut (s : State) (x : LoupeTile) : State :=
  ({ s with health := { s.health with loupe := s.health.loupe.erase x } } : State).loupeView

/-- Writes the result of a loupe test with the generation that publishes it; LOUPE_DONE once every tile of the request has
one. -/
def State.loupeNote (s : State) (x : LoupeTile) (res part ix : Nat) (skip : Bool) (gen : Nat) : State :=
  let ms := if res ≤ 2 then min 0xFFFF ((s.tb - x.tb) / 100000) else 0
  let s := s.setReg (HLTH_LOUPE x.tile) (BitVec.ofNat 64 (res % 8 + (part % 8) * 2 ^ 3 + (ix % 256) * 2 ^ 6 + b2n skip * 2 ^ 14 +
    2 ^ 15 + ms * 2 ^ 16 + (gen % 2 ^ 32) * 2 ^ 32))
  let s := s.addSat HLTH_LOUPE_STATUS HLTH_LOUPE_STATUS.completed 1
  let upd := fun (r : LoupeReq) => if r.id = x.request then { r with left := r.left - 1, failed := r.failed + b2n (res == 2) } else r
  let reqs := s.health.requests.map upd
  let s := { s with health := { s.health with requests := reqs.filter (fun r => r.left != 0) } }
  match reqs.find? (fun r => r.id == x.request && r.left == 0) with
  | some r => s.event 0x0006 0xFF (fieldsFrom 0 [(4, r.id), (1, r.tiles), (1, r.failed)])
  | none => s

/-- A queued or running tile of a request has its result, which is published. A retest has no result here (R264). -/
def State.loupeResult (s : State) (x : LoupeTile) (res part ix : Nat) (skip : Bool) : State :=
  let s := (s.loupeOut x).publish
  if x.retest then s else s.loupeNote x res part ix skip (s.fld HLTH_ID HLTH_ID.generation)

/-! ## The reset of a tested tile (R94, R263) -/

/-- Firmware writes VSP_LANE_DISABLE from the health map. -/
def State.lanesView (s : State) (p : Nat) : State :=
  let g := s.fld (HLTH_TILE p) HLTH_TILE.vsp_group
  if g = 0xF then s
  else
    let s := s.setFld (VSP_LANE_DISABLE p) VSP_LANE_DISABLE.group_disable (2 ^ g)
    (s.setFld (VSP_STATUS p) VSP_STATUS.groups_enabled (255 - 2 ^ g)).setBit (VSP_STATUS p) VSP_STATUS.half_rate true

/-- A tile is reset after a test; its place in a lease stays. -/
def State.resetTested (s : State) (p : Nat) : State := ((s.resetTile p).setReg (TILE_CTX p) (s.reg (TILE_CTX p))).lanesView p

/-! ## Heal windows (R246, R272) -/

/-- The second-fault rule: gathering pauses, and every launched frame still open is LOST with SECOND_FAULT. -/
def State.secondFault (s : State) (c : Nat) : State :=
  (s.setBit (SCU_STR_STATE c) SCU_STR_STATE.gather_paused true).dropAll (s.openEntries c (fun e => e.launched)) 0x02 0x02

/-- A re-placement of virtual tile `v` of context `c` from tile `p` is due by a fault event at `tb`: the context's window
opens, or the event is a second one; a target fenced during its heal is replaced by the next. -/
def State.openHeal (s : State) (c v p tb : Nat) : State :=
  let mine := fun (h : Heal) => h.ctx == c
  let s := if s.health.heals.any mine then s.secondFault c else s
  let h : Heal := { ctx := c, vtile := v, tile := p, tb := tb }
  let s := { s with health := { s.health with heals := s.health.heals.filter (fun (x : Heal) => !(x.ctx == c && x.vtile == v)) ++ [h] } }
  (s.setBit (SCU_STR_STATE c) SCU_STR_STATE.heal_open true).setFld HLTH_HEAL_STATUS
    ⟨HLTH_HEAL_STATUS.open_windows.lo + c, 1⟩ 1

/-- The context's window is closed where no re-placement of it remains: gathering resumes where a second fault had paused
it (R246). -/
def State.closeWindow (s : State) (c : Nat) : State :=
  if s.health.heals.any (fun h => h.ctx == c) then s
  else
    let s := (s.setBit (SCU_STR_STATE c) SCU_STR_STATE.heal_open false).setFld HLTH_HEAL_STATUS
      ⟨HLTH_HEAL_STATUS.open_windows.lo + c, 1⟩ 0
    if s.bit (SCU_STR_STATE c) SCU_STR_STATE.gather_paused && !s.joins.any (fun e => e.1 == c) then
      (s.setBit (SCU_STR_STATE c) SCU_STR_STATE.gather_paused false).skipGathers c
    else s

/-- The re-placements of a context that gives up its plate are forgotten. -/
def State.dropHeals (s : State) (c : Nat) : State :=
  ({ s with health := { s.health with heals := s.health.heals.filter (fun h => h.ctx != c) } } : State).closeWindow c

/-! ## Routes that firmware frees (R266, R269) -/

/-- Frees the entries of one path of a context. -/
def State.freePath (s : State) (c ix : Nat) : State :=
  let y := s.ctx c
  let s := (y.paths.filter (fun e => e.1 == ix)).foldl (fun s e => e.2.2.foldl (fun s t => s.setReg (RT_ENTRY t e.2.1) 0) s) s
  s.setCtx c { y with paths := y.paths.filter (fun e => e.1 != ix) }

/-- Rate and burst of a path of a context: its plate's, or those of a restore route. -/
def State.pathLoad (s : State) (c ix : Nat) : Nat × Nat :=
  match (s.ctx c).plate.routes.find? (fun r => r.index == ix) with
  | some r => (r.rate, r.burst)
  | none => (64, 64)

/-- The budgets of a context as its paths now are. -/
def State.rebudget (s : State) (c : Nat) : State :=
  (s.ctx c).paths.foldl (fun s e =>
    let got := s.pathLoad c e.1
    let rate := got.1
    let burst := got.2
    s.addBudget c rate burst (e.2.2.map (fun t => (t, s.fld (RT_ENTRY t e.2.1) RT_ENTRY.primary, 0)))) (s.clearBudgets c)

/-- Runs `f` with the context's drained bit set in every router, and restores the bits (R160, R269). -/
def State.whileDrained (s : State) (c : Nat) (f : State → State) : State :=
  let was := (List.range 256).filter (fun p => !bitOf (s.fld (RT_CTX_DRAINED p) RT_CTX_DRAINED.drained) c)
  was.foldl (fun s p => s.setFld (RT_CTX_DRAINED p) ⟨c, 1⟩ 0) (f (s.setDrained c true))

/-! ## Fences (R257, R260, R262, R264) -/

/-- Whether a cause shows a fault of the tile (R264). -/
def tileFault (cause : Nat) : Bool := [0x01, 0x02, 0x03, 0x04, 0x05, 0x07, 0x0F].contains cause

/-- Seven days in TBCLK counts. -/
def week : Nat := 60480000000000

/-- Whether tile `p` passed a retest less than seven days ago. -/
def State.lateRetest (s : State) (p : Nat) : Bool :=
  let t := tget 0 s.health.retested p
  t != 0 && decide (s.tb < t - 1 + week)

/-- A test of tile `p`, which has just been fenced, ends with it: a rotation test without a result, a loupe test as
ABANDONED; what a migration moved off the tile stays where it is (R293). -/
def State.dropTests (s : State) (p : Nat) : State :=
  let s := s.setHealth p HLTH_TILE.in_test 0
  let s := match s.health.rotation with
    | some r =>
      if r.tile = p then
        ({ s with health := { s.health with rotation := none } } : State).setBit HLTH_ROT_STATUS HLTH_ROT_STATUS.active false
      else s
    | none => s
  match s.health.loupe.find? (fun x => x.tile == p && x.running && !x.retest) with
  | some x => s.loupeResult x 5 0 0 x.skipRouter
  | none => s

/-- The record of a fenced tile: state, cause and permanence, the permanent ones in the non-volatile store. -/
def State.recordFence (s : State) (p cause : Nat) (perm : Bool) : State :=
  let s := ((s.setHealth p HLTH_TILE.state 3).setHealth p HLTH_TILE.cause cause).setHealth p HLTH_TILE.permanent (b2n perm)
  if perm then { s with store := { s.store with fences := s.store.fences.filter (fun e => e.1 != p) ++ [(p, cause)] } } else s

/-- What follows a fence for the work and the lease: a free tile is retested where its cause allows; an unused reserve
leaves its lease; the work of a placed tile is placed again (R209, R264, R265, R271). -/
def State.afterFence (s : State) (p tb : Nat) : State :=
  match s.lease p with
  | none => s.queueRetest p
  | some c =>
    if s.cState c = 2 then s.loadAgain c
    else match s.placedOn c p with
      | some v => if 3 ≤ s.cState c ∧ s.cState c ≤ 6 then s.openHeal c v p tb else s
      | none => (((s.freePath c (0x10000 + p)).rebudget c).leaveLease p (s.isConf c)).leaseView c

/-- Tile `p` is fenced with a cause, in hardware and in its record; what it counted is taken first (R297). A tile that is
FENCED keeps its record. -/
def State.fenceRecord (s : State) (p cause : Nat) (perm : Bool) (tb : Nat) : State :=
  if s.hState p = 3 then s
  else
    let s := s.fenceTile p cause
    let again := tileFault cause && s.lateRetest p
    let s := s.recordFence p (if again then 0x0B else cause) (perm || again)
    let s := match s.lease p with
      | some c => s.ndcTile c p
      | none => s
    let s := (s.hashStop p).dropTests p
    (s.afterFence p tb).publish

end Sys2Proof.Machine
end

