-- ==== Sys2Proof/Machine/Sampler.lean ====
section
/-! DEFINITION. Machine/Sampler.lean: writing a register under its access codes (R7 to R11), and the queue-depth sampler
(R465 to R471). -/
namespace Sys2Proof.Machine

/-! ## Writing a register (R9, R10) -/

/-- Whether confidential mode is in force (R400). -/
def State.restricted (s : State) : Bool := s.bit SEC_STATUS SEC_STATUS.restricted

/-- A register of the sampler's configuration that its running locks (R471). -/
def smpLocked (a : Nat) : Bool := a == SMP_CFG || (decide (SMP_SEL 0 ≤ a) && decide (a < SMP_SEL 256))

/-- A write to the register of descriptor `d` at `a`: RW fields take the value, RWL fields do outside confidential mode, a
1 clears an RW1C bit; a locked SMP_ register keeps its value (R471). -/
def State.writeDesc (s : State) (d : RegDesc) (a : Nat) (v : Word) : State :=
  if smpLocked a && s.bit SMP_STATUS SMP_STATUS.running then s.setBit SMP_STATUS SMP_STATUS.cfg_refused true
  else
    let m := BitVec.ofNat 64 (d.rw ||| (if s.restricted then 0 else d.rwl))
    let old := s.reg a
    let new := ((old &&& ~~~ m) ||| (v &&& m)) &&& ~~~ (v &&& BitVec.ofNat 64 d.rw1c)
    s.setReg a new

/-! ## Selections (R465) -/

/-- The tile of selection `n`; none where its virtual tile is not placed. -/
def State.smpTile (s : State) (n : Nat) : Option Nat :=
  let g := fun f => s.fld (SMP_SEL n) f
  if g SMP_SEL.by_vtile = 1 then s.placed (g SMP_SEL.ctx) (g SMP_SEL.vtile) else some (g SMP_SEL.tile)

/-- The selections in use. -/
def State.smpSels (s : State) : List Nat := (List.range 256).filter (fun n => s.bit (SMP_SEL n) SMP_SEL.valid)

/-- The counter that a code names on tile `p`: its value and whether ACLK counts it. -/
def State.smpCounter (s : State) (p code : Nat) : Option (Nat × Bool) :=
  match code with
  | 0 => some (s.fld (ME_BUSY_CYCLES p) ME_BUSY_CYCLES.count, true)
  | 1 => some (s.fld (ME_STALL_WEIGHT p) ME_STALL_WEIGHT.count, true)
  | 2 => some (s.fld (ME_STALL_INPUT p) ME_STALL_INPUT.count, true)
  | 3 => some (s.fld (ME_STALL_OUTPUT p) ME_STALL_OUTPUT.count, true)
  | 4 => some (s.fld (VSP_STALL_INPUT p) ⟨0, 48⟩, true)
  | 5 => some (s.fld (VSP_STALL_OUTPUT p) ⟨0, 48⟩, true)
  | 10 => some (s.fld (SYNC_STATUS p) SYNC_STATUS.wait_cycles, false)
  | _ => if code < 10 then some (s.fld (AG_STALL_BANK p (code - 6)) ⟨0, 48⟩, false) else none

/-- What the selection's next sample counts from, or takes its peak from. -/
def State.smpMark (s : State) (n : Nat) : State :=
  let g := fun f => s.fld (SMP_SEL n) f
  let o := g SMP_SEL.object
  match s.smpTile n with
  | none => s
  | some p =>
    match g SMP_SEL.kind with
    | 0 => s.notePeak (p * 128 + o) (s.rOcc p o)
    | 1 => s.notePeak (p * 128 + 64 + o) (s.fld (CH_EP_STATE p o) CH_EP_STATE.outstanding)
    | 2 =>
      match s.smpCounter p o with
      | some (v, _) => { s with smp := { s.smp with prev := tset 0 s.smp.prev n v } }
      | none => s
    | _ => s

/-- sampler_en follows the selections of a running sampler, outside confidential mode (R469). -/
def State.smpEnables (s : State) : State :=
  let on := s.bit SMP_STATUS SMP_STATUS.running && !s.restricted
  let l := if on then s.smpSels.filterMap (fun n => s.smpTile n) else []
  (List.range 256).foldl (fun s p =>
    if s.bit (MU_CTRL p) MU_CTRL.sampler_en = l.contains p then s else s.setBit (MU_CTRL p) MU_CTRL.sampler_en (l.contains p)) s

/-- A virtual tile of context `c` has moved to tile `t`: the taps of its selections move with it (R465, R469). -/
def State.tapMoved (s : State) (c t : Nat) : State :=
  if !s.bit SMP_STATUS SMP_STATUS.running then s
  else
    let l := s.smpSels.filter (fun n =>
      s.bit (SMP_SEL n) SMP_SEL.by_vtile && s.fld (SMP_SEL n) SMP_SEL.ctx == c && s.smpTile n == some t)
    (l.foldl (fun s n => (s.setBit (SMP_SEL n) SMP_SEL.moved true).smpMark n) s).smpEnables

/-! ## Starting and stopping (R466, R469, R470) -/

/-- SMP_CTRL start: discarded in confidential mode. -/
def State.smpStart (s : State) : State :=
  if s.restricted ∨ s.bit SMP_STATUS SMP_STATUS.running then s
  else
    let t := s.fld SMP_START SMP_START.start_tb
    let s := { s with smp := { t0 := if t = 0 then s.tb + 10001 else t, seen := s.smp.seen } }
    let s := s.setBit SMP_STATUS SMP_STATUS.running true
    (s.smpSels.foldl (fun s n => s.smpMark n) s).smpEnables

/-- SMP_CTRL stop. -/
def State.smpStop (s : State) : State := (s.setBit SMP_STATUS SMP_STATUS.running false).smpEnables

/-- SAMPLER_START. -/
def execSamplerStart (s : State) : Host.Outcome State Fault Refusal := .next s.smpStart

/-- SAMPLER_STOP. -/
def execSamplerStop (s : State) : Host.Outcome State Fault Refusal := .next s.smpStop

/-! ## Records (R467, R468) -/

/-- A selection's sample: value, size word, peak and flags. -/
def State.smpValue (s : State) (n : Nat) : (Nat × Nat × Nat × Nat) × State :=
  let g := fun f => s.fld (SMP_SEL n) f
  let o := g SMP_SEL.object
  let ivl := s.fld SMP_CFG SMP_CFG.interval
  let moved := g SMP_SEL.moved * 4
  let missed := fun (s : State) => let (v, s) := s.draw 96; ((bits v 0 32, bits v 32 32, bits v 64 32, moved + 8), s)
  match s.smpTile n with
  | none => missed s
  | some p =>
    let conf := match s.lease p with
      | some c => s.isConf c
      | none => false
    if s.fenced p then
      let got := s.draw 64
      let v := got.1
      let s := got.2
      ((0, bits v 0 32, bits v 32 32, moved + 1), s)
    else if conf || !s.bit (MU_CTRL p) MU_CTRL.sampler_en then missed s
    else match g SMP_SEL.kind with
    | 0 =>
      let v := s.rOcc p o
      ((v, s.rSize p o, max v (tget 0 s.smp.peaks (p * 128 + o)), moved), s)
    | 1 =>
      let v := s.fld (CH_EP_STATE p o) CH_EP_STATE.outstanding
      ((v, 4, max v (tget 0 s.smp.peaks (p * 128 + 64 + o)), moved), s)
    | 2 =>
      match s.smpCounter p o with
      | none => missed s
      | some (v, aclk) =>
        ((((v + 2 ^ 48 - tget 0 s.smp.prev n) % 2 ^ 32), (if aclk then ivl * s.part.mult / 2 else ivl * s.part.mult / 3), 0, moved), s)
    | _ => missed s

/-- One record of instant `tk`. -/
def State.smpRecord (s : State) (tk n : Nat) : List Byte × State :=
  let g := fun f => s.fld (SMP_SEL n) f
  let p := (s.smpTile n).getD 0
  let slot := s.slot p
  let got := s.smpValue n
  let v := got.1.1
  let size := got.1.2.1
  let peak := got.1.2.2.1
  let flags := got.1.2.2.2
  let s := got.2
  (leBytes 8 tk ++ leBytes 1 p ++ leBytes 1 n ++ leBytes 1 (g SMP_SEL.kind) ++ leBytes 1 (g SMP_SEL.object) ++ leBytes 4 v ++
    leBytes 4 size ++ leBytes 4 peak ++ leBytes 1 slot ++ leBytes 1 flags ++ [0, 0] ++ leBytes 4 s.smp.k, s)

/-- The records of an instant are written from ring index `i` on. -/
def State.smpWrite (s : State) (tk i : Nat) (l : List Nat) : State :=
  match l with
  | [] => s
  | n :: t =>
    let got := s.smpRecord tk n
    let r := got.1
    let s := got.2
    let d := 2 ^ s.fld SMP_RING SMP_RING.log2_depth
    let s := s.put (s.fld SMP_RING SMP_RING.base + 128 + (i % d) * 32) r
    (s.setBit (SMP_SEL n) SMP_SEL.moved false).smpWrite tk (i + 1) t

/-- SAMPLE_INSTANT: the next instant of a running sampler has come. -/
def execSampleInstant (s : State) : Host.Outcome State Fault Refusal :=
  let tk := s.smp.t0 + s.smp.k * s.fld SMP_CFG SMP_CFG.interval
  .next (
    if !s.bit SMP_STATUS SMP_STATUS.running ∨ s.tb < tk then s
    else
      let b := s.fld SMP_RING SMP_RING.base
      let prod := s.modNum b 8
      let seen := seenIndex (s.num (b + 64) 8) prod s.smp.seen
      let s := { s with smp := { s.smp with seen := seen } }
      let l := s.smpSels
      let depth := 2 ^ s.fld SMP_RING SMP_RING.log2_depth
      let used := min depth (unread prod seen)
      if used + l.length > depth ∧ !s.bit SMP_CFG SMP_CFG.mode then s.smpStop.setBit SMP_STATUS SMP_STATUS.stopped_full true
      else
        let s := s.addMod SMP_LOST SMP_LOST.count (used + l.length - depth)
        let s := s.smpWrite tk prod l
        let s := s.put b (leBytes 8 (prod + l.length))
        let s := s.addMod SMP_WRITTEN SMP_WRITTEN.count l.length
        let s := { s with smp := { s.smp with k := s.smp.k + 1, peaks := [] } }
        l.foldl (fun s n => s.smpMark n) s)

end Sys2Proof.Machine
end

