-- ==== Sys2Proof/Machine/Migrate.lean ====
section
/-! DEFINITION. Machine/Migrate.lean: moving retained messages (R181, R268), the direction of proof hashes (R287), the
move of a virtual tile's work to another tile, after a fault or planned (R265 to R274), the end of a tile's test that is
abandoned (R280, R293) and the replenishing of reserves (R271). -/
namespace Sys2Proof.Machine

/-! ## Moving retained messages into an overflow area (R181, R268) -/

/-- One retained message of sender record `i` goes into the overflow area of endpoint `e`, which grows where it is full; a
counter add joins the reorder store. A message that the receiver has placed already is passed over. -/
def State.moveOne (s : State) (p e i : Nat) (w : WinEntry) : State :=
  let m := w.msg
  if s.chIsDup p e i m.chanSeq then s
  else if m.kind = kAdd then
    s.rorAdd p { ep := e, snd := i, seq := m.chanSeq, add := some (m.addr % 64, m.operand) }
  else match s.ovfPut p e i m.chanSeq m.srcVtile m.tok m.payload with
    | some t => t
    | none =>
      let t := s.ovfGrow p e
      (t.ovfPut p e i m.chanSeq m.srcVtile m.tok m.payload).getD t

/-- The retained messages of sender record `i`, in chan_seq order; its expected value passes them, and the sender's window
is released as acknowledged. -/
def State.moveSender (s : State) (p e i : Nat) : State :=
  match s.tileOfV p (s.fld (CH_SND p i) CH_SND.src_vtile) with
  | none => s
  | some t =>
    let se := s.fld (CH_SND p i) CH_SND.src_ep
    let u := s.ep t se
    if u.win.isEmpty ∨ s.fenced t then s
    else
      let s := u.win.foldl (fun s w => s.moveOne p e i w) s
      let s := s.setFld (CH_SND p i) CH_SND.expected_seq (s.fld (CH_EP_STATE t se) CH_EP_STATE.next_seq)
      let s := u.win.foldl (fun s w => s.releaseSrc t w.src) s
      let s := s.setEpWin t se { s.ep t se with win := [], roundNacked := false }
      (s.setFld (CH_EP_STATE t se) CH_EP_STATE.nack_run 0).rorFlush p 65

/-- A receiving endpoint is put into overflow with an area of 1 MiB; none where the spill area has none free. -/
def State.ovfEnter (s : State) (c p e : Nat) : Option State :=
  (s.ovfFree c mib).map (fun a =>
    let u : EpUnit := { s.ep p e with ovfRead := 0, ovfWrite := 0, ovf := [] }
    let s := (s.setEp p e u).setBit (CH_EP_STATE p e) CH_EP_STATE.overflow true
    (s.setFld (CH_OVF_BASE p e) CH_OVF_BASE.base a).setFld (CH_OVF_STATE p e) CH_OVF_STATE.size_64k 16)


/-! ## Proof hashes (R284, R285, R287) -/

/-- The proof regions of a plate, in REGIONS order (R284). -/
def Plate.proofRegions (pl : Plate) : List (Nat × Nat) :=
  (pl.regions.filter (fun r => bitOf r.flags 0 && bitOf r.flags 1)).map (fun r => (r.vtile, r.region))

/-- The section digest of a region. -/
def Plate.sectDigest (pl : Plate) (v r : Nat) : List Byte :=
  ((pl.weights.find? (fun w => w.vtile == v && w.region == r)).map (fun w => w.digest)).getD []

/-- Firmware directs the agent of tile `p`, which holds virtual tile `v` of context `c`, to its next region of the round: one
without uncorrectable words, while the tile is in service and its agent idle (R285, R287). -/
def State.pumpTile (s : State) (c v p : Nat) : State :=
  if s.fenced p ∨ s.bit (MU_PROOF_STATUS p) MU_PROOF_STATUS.busy then s
  else match (s.ctx c).pendingHashes.find? (fun x => x.1 == v && !s.ueIn (tsBase p + s.rBase p x.2) (s.rSize p x.2)) with
    | none => s
    | some x => s.hashGo p x.2

/-- Every agent of a context's round is directed on. -/
def State.pump (s : State) (c : Nat) : State :=
  if s.bit (SCU_PROOF_STATUS c) SCU_PROOF_STATUS.round_active then
    (s.placedTiles c).foldl (fun s e => s.pumpTile c e.1 e.2) s
  else s


/-! ## What a tile holds, moved to another (R274) -/

/-- The entries of tile `p` in a table with `n` entries for each tile become those of tile `t`. -/
def moveTab {α : Type} [DecidableEq α] (d : α) (l : Tab α) (n p t : Nat) : Tab α :=
  let mine := l.filter (fun e => e.1 / n == p)
  mine.foldl (fun (l : Tab α) e => tset d l (t * n + e.1 % n) e.2) (Sparse.clear l (fun k => k / n == p || k / n == t))

/-- Registers whose values move with the work: what the context owns, less the channel block's own counts and faults. -/
def movedReg (p a : Nat) : Bool :=
  ctxOwned p a && !(decide (CH_ID p ≤ a) && decide (a < CH_EP_CFG p 0))

/-- The register values of tile `p` that `f` selects are written to tile `t`. -/
def State.copyRegs (s : State) (p t : Nat) (f : Nat → Bool) : State :=
  (s.regs.filter (fun e => f e.1)).foldl (fun s e => s.setReg (e.1 - p * 0x10000 + t * 0x10000) e.2) s

/-- Everything the units of tile `p` hold moves to tile `t`: their state, their registers, every region and operand
scratch, uncorrectable words as such. -/
def State.moveUnits (s : State) (p t : Nat) : State :=
  let s := (s.resetRegs (movedReg t)).copyRegs p t (movedReg p)
  let s := s.setReg (ME_STATUS t) (s.reg (ME_STATUS p))
  let s := s.setFld (VSP_STATUS t) VSP_STATUS.busy (s.fld (VSP_STATUS p) VSP_STATUS.busy)
  let s := s.setFld (VSP_STATUS t) VSP_STATUS.active_slot (s.fld (VSP_STATUS p) VSP_STATUS.active_slot)
  let s := (s.copyRange (tsBase p) (tsBase t) tsBytes).copyRange (osBase p) (osBase t) osBytes
  let bad := s.ue.filter (fun e => (decide (tsBase p ≤ e.1) && decide (e.1 < tsBase p + tsBytes)) ||
    (decide (osBase p ≤ e.1) && decide (e.1 < osBase p + osBytes)))
  let at_ := fun (w : Nat) => if osBase p ≤ w then osBase t + (w - osBase p) else tsBase t + (w - tsBase p)
  let s := { s with ue := bad.foldl (fun (l : Tab Nat) (e : Nat × Nat) => tset 0 l (at_ e.1) e.2) s.ue }
  let eps := (moveTab ({} : EpUnit) s.eps 64 p t).map (fun (e : Nat × EpUnit) =>
    if e.1 / 64 = t then (e.1, { e.2 with win := e.2.win.map (fun (w : WinEntry) => { w with msg := { w.msg with srcTile := t } }) })
    else e)
  { s with
    me := moveTab {} s.me 1 p t, vsp := moveTab {} s.vsp 1 p t, ag := moveTab {} s.ag 32 p t,
    agFifo := moveTab [] s.agFifo 32 p t, popped := moveTab [] s.popped 64 p t, foldEob := moveTab 0 s.foldEob 1 p t,
    eps := eps, reorder := moveTab [] s.reorder 1 p t }

/-! ## Routes of a moved virtual tile (R269, R270) -/

/-- The routes of virtual tile `v` are planned and written anew, and the entries of the old ones freed: none where a route
has no path within its bounds or no entry is free. -/
def State.reroute (s : State) (c v : Nat) : Option State :=
  let pl := (s.ctx c).plate
  let old := (s.ctx c).paths
  let mine := pl.routes.filter (fun r => r.src == v || r.dst == v)
  let new : Option (State × List (Nat × Nat × List Nat)) :=
    mine.foldl (fun (st : Option (State × List (Nat × Nat × List Nat))) r =>
      st.bind (fun (s, l) =>
        (s.planRoute pl.placement (fun u => s.placed c u) r).bind (fun hops =>
          (s.freeRouteId hops).map (fun id => (s.writeRoute c id r.adapt hops, l ++ [(r.index, id, hops.map (fun h => h.1))]))))) (some (s, []))
  new.map (fun (s, l) =>
    let gone := old.filter (fun e => mine.any (fun r => r.index == e.1))
    let s := gone.foldl (fun s e => e.2.2.foldl (fun s q => s.setReg (RT_ENTRY q e.2.1) 0) s) s
    s.setCtx c { s.ctx c with paths := old.filter (fun e => !(mine.any (fun r => r.index == e.1))) ++ l })

/-- The relocated fields of every placed tile's registers follow the placement and the routes (R214). -/
def State.rerelocate (s : State) (c : Nat) : State :=
  let pl := (s.ctx c).plate
  (pl.writes.filter (fun w => w.reloc != 0)).foldl (fun s w =>
    match s.placed c w.vtile with
    | none => s
    | some p =>
      let a := tileRegs + p * 0x10000 + w.offset
      let got := s.relocTo c w.reloc w.relocLo w.value
      let n := got.1
      let x := got.2
      s.setFld a ⟨w.relocLo, n⟩ x) s

/-- A return migration puts the direct neighbour channels of virtual tile `v` back on their channels (R270). -/
def State.dncRestore (s : State) (c v : Nat) : State :=
  let pl := (s.ctx c).plate
  let here := s.placed c v
  (s.placedTiles c).foldl (fun s e =>
    (List.range 64).foldl (fun s k =>
      let cfg := fun f => pl.fld e.1 (CH_EP_CFG 0 k) f
      let far := if cfg CH_EP_CFG.role = 1 then some (s.fld (CH_EP_DEST e.2 k) CH_EP_DEST.dest_tile)
        else ((s.sendersOf e.2 k).head?.bind (fun i => s.placed c (s.fld (CH_SND e.2 i) CH_SND.src_vtile)))
      if cfg CH_EP_CFG.role ≠ 0 ∧ cfg CH_EP_CFG.dnc = 1 ∧ (e.1 = v ∨ far = here) then
        (s.setBit (CH_EP_CFG e.2 k) CH_EP_CFG.dnc true).setFld (CH_EP_CFG e.2 k) CH_EP_CFG.vc (cfg CH_EP_CFG.vc)
      else s) s) s

/-- The displaced bits of a context: those of its placement, and every virtual tile with a channel that has fallen back. -/
def State.displacedView (s : State) (c : Nat) : State :=
  let pl := (s.ctx c).plate
  let s := s.markDisplaced c
  (s.placedTiles c).foldl (fun s e =>
    if (List.range 64).any (fun k => pl.fld e.1 (CH_EP_CFG 0 k) CH_EP_CFG.dnc == 1 && s.epRole e.2 k != 0 &&
        !s.bit (CH_EP_CFG e.2 k) CH_EP_CFG.dnc) then
      s.setBit (SCU_CTX_PLACE c e.1) SCU_CTX_PLACE.displaced true
    else s) s

/-- What a change of placement means for every placed tile of a context: relocated fields, senders that still name tile
`p`, counter maps, direct neighbour channels and displacement. -/
def State.placementMoved (s : State) (c p t : Nat) : State :=
  let s := s.rerelocate c
  let s := (s.placedTiles c).foldl (fun s e =>
    (List.range 64).foldl (fun s k =>
      if s.epRole e.2 k = 1 ∧ s.fld (CH_EP_DEST e.2 k) CH_EP_DEST.dest_tile = p then
        s.setFld (CH_EP_DEST e.2 k) CH_EP_DEST.dest_tile t
      else s) s) s
  let s := (s.placedTiles c).foldl (fun s e => s.writeSyncMap c e.1 e.2) s
  ((((s.dncFallback c).writeVmap c).displacedView c).followProxies c).tapMoved c t

/-! ## The channels of a moved virtual tile (R268, R269) -/

/-- The sender records of tile `t` expect what their senders retain, or will send next; where the sender is itself on tile
`t` or out of service, what tile `p` expected. -/
def State.joinSenders (s : State) (p t : Nat) : State :=
  (List.range 256).foldl (fun s i =>
    if !s.bit (CH_SND t i) CH_SND.valid then s
    else
      let old := s.fld (CH_SND p i) CH_SND.expected_seq
      let x := match s.tileOfV t (s.fld (CH_SND t i) CH_SND.src_vtile) with
        | some q =>
          let k := s.fld (CH_SND t i) CH_SND.src_ep
          if q = t ∨ s.fenced q then old
          else match (s.ep q k).win with
            | w :: _ => w.msg.chanSeq
            | [] => s.fld (CH_EP_STATE q k) CH_EP_STATE.next_seq
        | none => old
      s.setFld (CH_SND t i) CH_SND.expected_seq x) s

/-- The sending endpoints of tile `t` continue where their receivers expect them; what a receiver has placed behind a
message that the fenced tile lost is discarded. -/
def State.joinReceivers (s : State) (v p t : Nat) : State :=
  (List.range 64).foldl (fun s e =>
    if s.epRole t e ≠ 1 then s
    else
      let q := s.fld (CH_EP_DEST t e) CH_EP_DEST.dest_tile
      let k := s.fld (CH_EP_DEST t e) CH_EP_DEST.dest_ep
      match s.senderOf q k { srcVtile := v, srcEp := e } with
      | none => s.setFld (CH_EP_STATE t e) CH_EP_STATE.next_seq (s.fld (CH_EP_STATE p e) CH_EP_STATE.next_seq)
      | some i =>
        let mine := (s.ror q).filter (fun x => x.snd == i)
        let s := mine.foldl (fun s x =>
          if x.hdr.typ = tData ∧ x.add.isNone then s.release q (s.dataRegion q (s.epQueue q x.ep)) (x.hdr.offVal - 64) else s) s
        let s := s.setRor q ((s.ror q).filter (fun x => x.snd != i))
        s.setFld (CH_EP_STATE t e) CH_EP_STATE.next_seq (s.sndExpected q i)) s

/-- Whether a sender of endpoint `e` of tile `t` retains messages. -/
def State.retainedFor (s : State) (t e : Nat) : Bool :=
  (s.sendersOf t e).any (fun i =>
    match s.tileOfV t (s.fld (CH_SND t i) CH_SND.src_vtile) with
    | some q => !s.fenced q && !(s.ep q (s.fld (CH_SND t i) CH_SND.src_ep)).win.isEmpty
    | none => false)

/-- The senders of endpoint `e` of tile `t` send their windows again. -/
def State.resendTo (s : State) (t e : Nat) : State :=
  (s.sendersOf t e).foldl (fun s i =>
    match s.tileOfV t (s.fld (CH_SND t i) CH_SND.src_vtile) with
    | none => s
    | some q =>
      let k := s.fld (CH_SND t i) CH_SND.src_ep
      let u := s.ep q k
      s.setEpWin q k { u with roundNacked := !u.win.isEmpty, win := u.win.map (fun w => { w with nacked := true }) }) s

/-- The retained messages of the senders into tile `t` move into overflow areas; contributions to a combining queue are sent
again. After a fault every receiving endpoint is in overflow (R269 step 2). -/
def State.quiesceInto (s : State) (c t : Nat) (fault : Bool) : State :=
  (List.range 64).foldl (fun s e =>
    if s.epRole t e = 3 then s.resendTo t e
    else if s.epRole t e = 2 then
      if s.retainedFor t e then
        let s := if s.epBit t e CH_EP_STATE.overflow then s else (s.ovfEnter c t e).getD (s.ctxNote t 0x44)
        (s.sendersOf t e).foldl (fun s i => s.moveSender t e i) s
      else if fault && !s.epBit t e CH_EP_STATE.overflow then
        (s.setEp t e { s.ep t e with ovfRead := 0, ovfWrite := 0, ovf := [] }).setBit (CH_EP_STATE t e) CH_EP_STATE.overflow true
      else s
    else s) s

/-- Messages of a context that the move of a virtual tile from `p` to `t` meets in the mesh: those towards the tile are
gone, their senders having kept them; after a fault so is what it had sent; replies to the tile follow it. -/
def State.flightMoved (s : State) (c p t : Nat) (fault : Bool) : State :=
  let mine := fun (x : NetMsg) => x.msg.ctx == c && x.msg.vc != 4
  let gone := fun (x : NetMsg) => mine x &&
    ((!x.msg.byDest && x.msg.destTile == p) || (fault && (x.msg.srcTile == p || x.msg.destTile == p)))
  let move := fun (x : NetMsg) =>
    if mine x then
      let x := if x.msg.srcTile = p then { x with msg := { x.msg with srcTile := t } } else x
      if x.msg.destTile = p then
        { x with msg := { x.msg with destTile := t }, loc := if x.arrived && x.loc == p then t else x.loc }
      else x
    else x
  { s with net := (s.net.filter (fun x => !gone x)).map move }

/-! ## The content of a virtual tile after a fault (R249, R267, R272) -/

/-- Resident regions of virtual tile `v` come from their backing images; none where one has an uncorrectable word. -/
def State.restoreResident (s : State) (c v t : Nat) : Option State :=
  ((s.ctx c).plate.regions.filter (fun r => r.vtile == v && bitOf r.flags 0)).foldl (fun (st : Option State) r =>
    st.bind (fun s =>
      match s.backingOf c v r.region with
      | none => some s
      | some b =>
        let n := s.rSize t r.region
        if s.ueIn b n then none else some (s.copyRange b (tsBase t + s.rBase t r.region) n))) (some s)

/-- The content of virtual tile `v` on its new tile: resident regions, identities, shadowed state. -/
def State.restoreVtile (s : State) (c v t : Nat) : Option State :=
  (s.restoreResident c v t).map (fun (s : State) =>
    let s := ((s.ctx c).plate.regions.filter (fun r => r.vtile == v && bitOf r.flags 2 && !bitOf r.flags 0)).foldl
      (fun s r => s.setIdentity c r) s
    ((s.openSlots c).filter (fun k => (s.slotOf c k).shadow)).foldl (fun s k => s.shadowMove c k false (some v)) s)

/-- The batch under way is closed: skip mode on every receiving endpoint, and an END_OF_BATCH with the last gather number
in every sending endpoint's queue (R269 steps 3 and 4). -/
def State.healBatch (s : State) (c t : Nat) : State :=
  let g := s.fld (SCU_STR_STEP c) SCU_STR_STEP.gather
  (List.range 64).foldl (fun s e =>
    if s.epRole t e = 1 then s.pushIn t (s.epQueue t e) { s.localHdr t tEob 0 false with seqNo := g }
    else if s.epRole t e ≥ 2 ∧ !(s.sendersOf t e).isEmpty then s.setFld (TILE_HEAL_SKIP t) ⟨e, 1⟩ 1
    else s) s

/-! ## The move -/

/-- What tile `q` has counted is taken as seen (R297). -/
def State.ndcSeenAt (s : State) (c q : Nat) : State :=
  let seen := tset 0 (s.ctx c).ndcSeen q (s.fld (CH_NDC q) CH_NDC.count)
  s.setCtx c { s.ctx c with ndcSeen := tset 0 seen (256 + q) (s.fld (SU_MERGE_DEV q) SU_MERGE_DEV.count) }

/-- Tile `t` stops being under test: a rotation test ends without a result, a loupe test as ABANDONED, and the tile is reset
(R263, R280, R293). What a migration moved off it is answered. -/
def State.vacate (s : State) (t : Nat) : Option Moved × State :=
  if !s.bit (HLTH_TILE t) HLTH_TILE.in_test then (none, s)
  else
    let s := ((s.testAbandon t).resetTested t).setHealth t HLTH_TILE.in_test 0
    match s.health.rotation with
    | some r =>
      if r.tile = t then
        (r.moved, ({ s with health := { s.health with rotation := none } } : State).setBit HLTH_ROT_STATUS HLTH_ROT_STATUS.active false)
      else (none, s)
    | none =>
      match s.health.loupe.find? (fun x => x.tile == t && x.running) with
      | some x => (x.moved, s.loupeResult x 5 0 0 x.skipRouter)
      | none => (none, s)

/-- The work of virtual tile `v` of context `c` moves from tile `p` to tile `t`: planned with everything on it, or after a
fault from the backing image and the shadows. A fault code where it cannot. -/
def State.moveWork (s : State) (c v p t : Nat) (planned back : Bool) : Nat ⊕ State :=
  let s := (s.ndcTile c p).hashStop p
  let s := (s.vacate t).2
  let s := (s.resetRegs (ctxOwned t)).clearUnits t
  let s := s.setReg (SCU_CTX_PLACE c v) (BitVec.ofNat 64 (1 + t * 2))
  let live := s.cState c == 4 || s.cState c == 5
  let drained := (List.range 256).filter (fun q => bitOf (s.fld (RT_CTX_DRAINED q) RT_CTX_DRAINED.drained) c)
  let undrain := fun (s : State) => ((List.range 256).filter (fun q => !drained.contains q)).foldl
    (fun s q => s.setFld (RT_CTX_DRAINED q) ⟨c, 1⟩ 0) s
  match (((s.setDrained c true).freePath c (0x10000 + t)).reroute c v) with
  | none => .inl 0x49
  | some s =>
    let s := ((s.joinLease c p 0 true).joinLease c t v false).configure c [v]
    let unchecked := s.fld (ME_CHECK_SKIPPED p) ME_CHECK_SKIPPED.resident_unchecked
    let s := s.setFld (ME_CHECK_SKIPPED t) ME_CHECK_SKIPPED.resident_unchecked unchecked
    let filled : Option State :=
      if planned then some ((s.moveUnits p t).joinLease c t v false)
      else
        let s := s.setFld (TILE_EPOCH t) TILE_EPOCH.epoch (s.fld (SCU_CTX_STATE c) SCU_CTX_STATE.epoch)
        let s := s.copyRegs p t (fun a => decide (SYNC_CNT p 0 ≤ a) && decide (a < SYNC_MAP p 0))
        s.restoreVtile c v t
    match filled with
    | none => .inl 0x4A
    | some s =>
      let s := if back then s.dncRestore c v else s
      let s := (s.flightMoved c p t (!planned)).placementMoved c p t
      let s := if planned then s else (s.joinSenders p t).joinReceivers v p t
      let s := s.quiesceInto c t (!planned)
      let s := if !planned && live then s.healBatch c t else s
      let s := if live then s.resumeTile t else s.haltTile t
      let s := if planned then
          let s := ((s.haltTile p).resetRegs (fun a => ctxOwned p a && a != TILE_CTX p)).clearUnits p
          let s := if s.isConf c then s.fillAll p 0 else s
          let s := match s.addRestore c [p] with
            | .inr u => u
            | .inl _ => s
          s.ndcSeenAt c p
        else s.leaveLease p (s.isConf c)
      let s := (undrain (s.rebudget c)).ndcSeenAt c t
      .inr (((s.leaseView c).uncheckedView c).pump c)

/-- Records a completed heal or planned migration (R267, R274) and posts its HEAL_DONE event. -/
def State.healDone (s : State) (c p t tb dur : Nat) (planned : Bool) : State :=
  let s := s.addSat HLTH_HEAL_STATUS HLTH_HEAL_STATUS.heals 1
  let s := if !planned ∧ dur > 800000 then s.addSat HLTH_HEAL_STATUS HLTH_HEAL_STATUS.over_8ms 1 else s
  let s := s.setReg HLTH_HEAL_LAST (BitVec.ofNat 64 (p + t * 2 ^ 8 + c * 2 ^ 16 + b2n planned * 2 ^ 20 + (dur % 2 ^ 32) * 2 ^ 32))
  let s := s.setReg HLTH_HEAL_TIME (BitVec.ofNat 64 tb)
  s.eventAt 0x0008 c tb (fieldsFrom 0 [(1, p), (1, t), (1, b2n planned), (4, dur)])

/-- A planned migration of virtual tile `v` from tile `p` to tile `t` (R274), its duration free; none where its routes have
no path. -/
def State.migrate (s : State) (c v p t : Nat) (back : Bool) : Option State :=
  match s.moveWork c v p t true back with
  | .inl _ => none
  | .inr s =>
    let got := s.draw 19
    let d := got.1
    let s := got.2
    some (((s.healDone c p t s.tb d true).recheck c).publish)

/-- The work that was moved off tile `p` returns to it, where it still stands on its target (R277). -/
def State.returnWork (s : State) (m : Moved) (p : Nat) : State :=
  if s.placed m.ctx m.vtile = some m.target ∧ s.lease p = some m.ctx ∧ (s.placedOn m.ctx p).isNone ∧ !s.fenced p then
    (s.migrate m.ctx m.vtile m.target p true).getD s
  else s

/-- The test of tile `p` is abandoned, and its work returns (R280). -/
def State.abandonTest (s : State) (p : Nat) : State :=
  match s.vacate p with
  | (some m, s) => s.returnWork m p
  | (none, s) => s

/-- A context stop abandons the loupe tests of tiles that held its work (R293). -/
def State.stopTests (s : State) (c : Nat) : State :=
  let l := s.health.loupe.filter (fun x => x.running && (match x.moved with | some m => m.ctx == c | none => false))
  l.foldl (fun s x => s.abandonTest x.tile) s

/-! ## Reserves (R271) -/

/-- Tiles that a planned migration has emptied, and so hold the place of the reserve that their work stands on. -/
def State.emptied (s : State) (c : Nat) : Nat :=
  (s.health.loupe.filterMap (fun x => x.moved) ++ (s.health.rotation.bind (fun r => r.moved)).toList).countP (fun m => m.ctx == c)

/-- One reserve of a context is replaced by a free GOOD tile, chosen as R207 step 3 gives, with its restore route. -/
def State.addReserve (s : State) (c : Nat) : Option State :=
  let pl := (s.ctx c).plate
  if (s.reserveTiles c).length ≥ pl.reserveTiles then none
  else (nextReserve pl.placement ((s.placedTiles c).map (fun e => e.2)) s.freeGood (s.reserveTiles c)).bind (fun p =>
    let s := (s.vacate p).2
    match (s.setDrained c true).addRestore c [p] with
    | .inl _ => none
    | .inr t =>
      let was := (List.range 256).filter (fun q => !bitOf (s.fld (RT_CTX_DRAINED q) RT_CTX_DRAINED.drained) c)
      some (was.foldl (fun (t : State) q => t.setFld (RT_CTX_DRAINED q) ⟨c, 1⟩ 0) (t.joinLease c p 0 true)))

/-- Up to `n` reserves are replaced. -/
def State.replenish (s : State) (c n : Nat) : State :=
  match n with
  | 0 => s.leaseView c
  | k + 1 =>
    match s.addReserve c with
    | some t => t.replenish c k
    | none => s.leaseView c

/-- Every context with a plate restores its reserves: a tile has joined the free tiles. -/
def State.replenishAll (s : State) : State :=
  (List.range 16).foldl (fun s c =>
    if 3 ≤ s.cState c ∧ s.cState c ≤ 6 ∧ (s.ctx c).loaded ∧ !s.bit (SCU_STR_STATE c) SCU_STR_STATE.heal_open then
      s.replenish c (s.ctx c).plate.reserveTiles
    else s) s

end Sys2Proof.Machine
end

