-- ==== Sys2Proof/Machine/Xe.lean ====
section
/-! DEFINITION. Machine/Xe.lean: the transfer engines, their descriptor rings, checks, copies and stops (R313 to R319, R401). -/
namespace Sys2Proof.Machine

def State.eng (s : State) (g n : Nat) : Engine := tget {} s.engines (g * 16 + n)
def State.setEng (s : State) (g n : Nat) (x : Engine) : State := { s with engines := tset {} s.engines (g * 16 + n) x }

/-! ## Descriptors (R315) -/

/-- The `n`-byte field of a descriptor at byte `o`. -/
def XeDesc.at_ (d : XeDesc) (o n : Nat) : Nat := ofBytes ((d.raw.drop o).take n)
def XeDesc.op (d : XeDesc) : Nat := d.at_ 0 1
def XeDesc.flag (d : XeDesc) (i : Nat) : Bool := bitOf (d.at_ 1 1) i
def XeDesc.tag (d : XeDesc) : Nat := d.at_ 4 4
def XeDesc.src (d : XeDesc) : Nat := d.at_ 8 8
def XeDesc.dst (d : XeDesc) : Nat := d.at_ 16 8
def XeDesc.len (d : XeDesc) : Nat := d.at_ 24 8

/-- Ranges of a descriptor: (first byte, length); NOP has none. -/
def XeDesc.ranges (d : XeDesc) : List (Nat × Nat) :=
  (if d.op = 1 then [(d.src, d.len)] else []) ++ (if d.op = 1 ∨ d.op = 2 then [(d.dst, d.len)] else [])

/-- Status codes (R318). -/
def xeOK : Nat := 0
def xeBAD : Nat := 1
def xeACCESS : Nat := 2
def xeCONF : Nat := 3
def xeUE : Nat := 4
def xeFENCED : Nat := 5
def xeCANCELLED : Nat := 6

/-! ## Ranges -/

/-- Whether two ranges share a byte. -/
def sharesByte (x y : Nat × Nat) : Bool := decide (x.1 < y.1 + y.2) && decide (y.1 < x.1 + x.2)

/-- What is left of a range without another. -/
def minusOne (x y : Nat × Nat) : List (Nat × Nat) :=
  if sharesByte x y then
    (if x.1 < y.1 then [(x.1, y.1 - x.1)] else []) ++
      (if y.1 + y.2 < x.1 + x.2 then [(y.1 + y.2, x.1 + x.2 - (y.1 + y.2))] else [])
  else [x]

/-- What is left of a range without the ranges of `l`. -/
def minusAll (x : Nat × Nat) (l : List (Nat × Nat)) : List (Nat × Nat) :=
  l.foldl (fun (r : List (Nat × Nat)) y => r.flatMap (fun z => minusOne z y)) [x]

/-- Whether every byte of a range lies in some range of `l`. -/
def covered (x : Nat × Nat) (l : List (Nat × Nat)) : Bool := (minusAll x l).isEmpty

/-- The stream areas of a context that the host reaches: its output ring and its input rings (R227, R231). -/
def State.streamAreas (s : State) (c : Nat) : List (Nat × Nat) :=
  let y := s.ctx c
  if y.configured then
    let b := s.fld (SCU_STR_OUTRING c) SCU_STR_OUTRING.base
    [(b, 128 + 2 ^ s.fld (SCU_STR_OUTRING c) SCU_STR_OUTRING.log2_depth * y.plate.smap.outRecord),
     (y.inBase, y.inStride * y.plate.smap.slots)]
  else []

/-- The allocations of an owner. -/
def State.allocsOf (s : State) (owner : Nat) : List Alloc := s.allocs.filter (fun x => x.owner == owner)

/-- The backing images of every context (R312). -/
def State.backingRanges (s : State) : List (Nat × Nat) :=
  (List.range 16).flatMap (fun c =>
    let y := s.ctx c
    if y.plate.backingBytes = 0 then [] else [(y.hbmBase, roundUp y.plate.backingBytes 4096)])

/-- The protected ranges of a confidential context (R401): tile stores, and its allocations made without host bits but for
the stream areas that the host reaches; its backing image, spill area and shadow area lie in such allocations. -/
def State.protectedRanges (s : State) (c : Nat) : List (Nat × Nat) :=
  (s.leaseTiles c).map (fun p => (tsBase p, tsBytes)) ++
    ((s.allocsOf c).filter (fun x => x.range.isNone)).flatMap (fun x => minusAll (x.addr, x.bytes) (s.streamAreas c))

/-- Ranges that an engine in the use of `owner` (16: the device) may reach (R316). -/
def State.reach (s : State) (owner : Nat) : List (Nat × Nat) :=
  (hostFirst, 2 ^ 52 - hostFirst) ::
    (if owner = 16 then s.allocs.map (fun x => (x.addr, x.bytes))
     else (s.allocsOf owner).map (fun x => (x.addr, x.bytes)) ++ (s.leaseTiles owner).map (fun p => (tsBase p, tsBytes)))

/-- Who uses an engine: a context, or 16 for the device. -/
def State.engOwner (s : State) (g n : Nat) : Nat :=
  if s.bit (XE_ENG_CFG g n) XE_ENG_CFG.device_use then 16 else s.fld (XE_ENG_CFG g n) XE_ENG_CFG.ctx

/-- Whether a descriptor's fields are invalid (R315). -/
def XeDesc.bad (d : XeDesc) (device : Bool) : Bool :=
  decide (d.op = 0 ∨ d.op > 3 ∨ d.at_ 1 1 ≥ 16 ∨ d.at_ 2 2 ≠ 0 ∨ d.at_ 41 3 ≠ 0 ∨ d.at_ 48 16 ≠ 0) ||
    (decide (d.op ≠ 3) && decide (d.len = 0 ∨ d.len > 2 ^ 32)) || (d.flag 1 && (decide (d.at_ 44 4 = 0) || device))

/-- The status of the check before any byte moves (R316, R401). -/
def State.xeCheck (s : State) (g n : Nat) (d : XeDesc) : Nat :=
  let o := s.engOwner g n
  if d.bad (o == 16) then xeBAD
  else if d.ranges.any (fun r => (List.range 16).any (fun c => s.isConf c && (s.protectedRanges c).any (fun q => sharesByte r q))) then xeCONF
  else if d.ranges.any (fun r => !covered r (s.reach o) || s.backingRanges.any (fun q => sharesByte r q)) then xeACCESS
  else xeOK

/-! ## Moving bytes -/

/-- The tiles whose stores a descriptor touches. -/
def XeDesc.tiles (d : XeDesc) : List Nat := (List.range 256).filter (fun p => d.ranges.any (fun r => sharesByte r (tsBase p, tsBytes)))

/-- Uncorrectable codewords of `n` bytes at `a`: first byte of each. -/
def State.badWords (s : State) (a n : Nat) : List Nat :=
  (s.ue.flatMap (fun e => ((List.range 8).filter (fun k => bitOf e.2 k)).map (fun k => e.1 + 8 * k))).filter
    (fun w => decide (w < a + n) && decide (a < w + 8))

/-- Poisons the codewords that hold `n` bytes at `a`. -/
def State.poison (s : State) (a n : Nat) : State :=
  let l := (List.range (n / 8 + 2)).map (fun k => a - a % 8 + 8 * k)
  let add := fun (t : Tab Nat) (w : Nat) =>
    if w < a + n then tset 0 t (w - w % 64) (tget 0 t (w - w % 64) ||| 2 ^ (w % 64 / 8)) else t
  { s with ue := l.foldl add s.ue }

/-- Bytes of `pattern` repeated every 8 bytes. -/
def patternBytes (n pattern : Nat) : List Byte := ((List.range (n / 8 + 1)).flatMap (fun _ => leBytes 8 pattern)).take n

/-- The first `n` bytes of a descriptor are moved; words of poisoned reads are written poisoned (R318). The lines of the
target that the host holds have been asked for. -/
def State.xeMove (s : State) (d : XeDesc) (n : Nat) : State :=
  let bad := s.badWords d.src n
  if n = 0 ∨ d.op = 3 then s
  else if d.op = 2 then
    if d.dst ≥ hostFirst then s.hostPut d.dst (patternBytes n (d.at_ 32 8)) else s.setBytes d.dst (patternBytes n (d.at_ 32 8))
  else
    let s := if d.dst ≥ hostFirst then s.hostPut d.dst (s.bytes d.src n) else s.copyRange d.src d.dst n
    bad.foldl (fun s w =>
      let lo := max w d.src
      let hi := min (w + 8) (d.src + n)
      s.poison (lo - d.src + d.dst) (hi - lo)) s

/-- Lines that the host must give up before a descriptor moves. -/
def State.xeBusy (s : State) (d : XeDesc) : List Nat × List Nat :=
  (if d.op = 1 ∧ d.src < hostFirst then s.homeBusy d.src d.len false else [],
   if (d.op = 1 ∨ d.op = 2) ∧ d.dst < hostFirst then s.homeBusy d.dst d.len true else [])

/-! ## Completion records (R317, R318) -/

/-- The consumer index of a completion ring as the engine takes it, kept (R343). -/
def State.cplLook (s : State) (g n : Nat) : State :=
  let b := s.fld (XE_ENG_CPL g n) XE_ENG_CPL.base
  let x := s.eng g n
  (s.unfire (b + 64)).setEng g n { x with cplSeen := seenIndex (s.num (b + 64) 8) (s.modNum b 8) x.cplSeen }

/-- Free records of a completion ring. -/
def State.cplRoom (s : State) (g n : Nat) : Nat :=
  2 ^ s.fld (XE_ENG_CPL g n) XE_ENG_CPL.log2_depth -
    unread (s.modNum (s.fld (XE_ENG_CPL g n) XE_ENG_CPL.base) 8) (s.eng g n).cplSeen

/-- Writes the completion records that are due, in order, while the ring has room. -/
def State.flushDue (s : State) (g n : Nat) (l : List (List Byte)) : State :=
  match l with
  | [] => s.setEng g n { s.eng g n with due := [] }
  | r :: t =>
    if s.cplRoom g n = 0 then s.setEng g n { s.eng g n with due := r :: t }
    else
      let b := s.fld (XE_ENG_CPL g n) XE_ENG_CPL.base
      let i := s.modNum b 8
      ((s.put (b + 128 + (i % 2 ^ s.fld (XE_ENG_CPL g n) XE_ENG_CPL.log2_depth) * 32) r).put b (leBytes 8 (i + 1))).flushDue g n t

/-- Writes what is due; in_progress and cpl_full follow. -/
def State.engView (s : State) (g n : Nat) : State :=
  let s := if (s.eng g n).due.isEmpty then s else (s.cplLook g n).flushDue g n (s.eng g n).due
  let a := XE_ENG_STATUS g n
  (s.setFld a XE_ENG_STATUS.in_progress (s.eng g n).prog.length).setBit a XE_ENG_STATUS.cpl_full (!(s.eng g n).due.isEmpty)

/-- The counter add of a completed descriptor: an unmapped virtual ID is not sent, and faults the context (R223, R317). -/
def State.announce (s : State) (g n : Nat) (d : XeDesc) : State :=
  let c := s.fld (XE_ENG_CFG g n) XE_ENG_CFG.ctx
  let m := XE_VMAP g c (d.at_ 40 1)
  if s.bit m XE_VMAP.valid then s.addCounter (s.fld m XE_VMAP.tile) (s.fld m XE_VMAP.counter) (d.at_ 44 4)
  else s.signal { kind := .note, tile := 256, arg := 0x46, log := c, time := s.tb }

/-- A descriptor completes: its record, its counter add where it completed (R189) and its event, in this order (R317). -/
def State.xeFinish (s : State) (g n : Nat) (d : XeDesc) (status done fault : Nat) : State :=
  let s := s.addSat (XE_ENG_STATUS g n) XE_ENG_STATUS.descriptors 1
  let x := s.eng g n
  let r := leBytes 4 d.tag ++ leBytes 1 status ++ [0, 0, 0] ++ leBytes 8 done ++ leBytes 8 fault ++ leBytes 8 s.tb
  let s := s.setEng g n
    { x with due := if d.flag 2 then x.due ++ [r] else x.due,
             cancelled := x.cancelled + b2n (status == xeCANCELLED) }
  let s := s.engView g n
  let s := if d.flag 1 ∧ (status = xeOK ∨ status = xeUE) then s.announce g n d else s
  if d.flag 3 then s.event 0x000E 0xFF (fieldsFrom 0 [(1, g * 16 + n), (1, status), (4, d.tag)]) else s

/-! ## Starting (R314, R316, R317) -/

/-- The producer index of an engine's ring where it is valid, else the index of its next descriptor. -/
def State.xeProducer (s : State) (g n : Nat) : Nat :=
  let v := s.num (s.fld (XE_ENG_RING g n) XE_ENG_RING.base) 8
  if ahead v (s.eng g n).next ≤ 2 ^ s.fld (XE_ENG_RING g n) XE_ENG_RING.log2_depth then v else (s.eng g n).next

/-- The index up to which an engine takes descriptors. -/
def State.xeGoal (s : State) (g n : Nat) : Nat := ((s.eng g n).goal).getD (s.xeProducer g n)

/-- The address of descriptor `i` of an engine's ring. -/
def State.descAt (s : State) (g n i : Nat) : Nat :=
  s.fld (XE_ENG_RING g n) XE_ENG_RING.base + 128 + (i % 2 ^ s.fld (XE_ENG_RING g n) XE_ENG_RING.log2_depth) * 64

/-- The next descriptor of an engine's ring is taken: the consumer index passes it. -/
def State.takeDesc (s : State) (g n : Nat) : XeDesc × State :=
  let x := s.eng g n
  let raw := s.bytes (s.descAt g n x.next) 64
  let i := (x.next + 1) % 2 ^ 64
  let s := s.setEng g n { x with next := i, last := (x.last ++ [raw]).drop ((x.last.length + 1) - 16) }
  ({ ix := x.next, raw := raw }, s.put (s.fld (XE_ENG_RING g n) XE_ENG_RING.base + 64) (leBytes 8 i))

/-- Asks the host for the next lines of a source in host memory, one READ at a time (R328, R337). -/
def State.askHost (s : State) (g n : Nat) (d : XeDesc) : State :=
  let a := d.src - hostFirst + d.asked
  if d.op ≠ 1 ∨ d.src < hostFirst ∨ d.asked ≥ d.len then s
  else
    let first := lineOf a
    let k := min s.maxLines ((d.src - hostFirst + d.len - first + 63) / 64)
    let t := s.tl.nextTag
    let x := s.eng g n
    let d' := { d with asked := min d.len (d.asked + (first + 64 * k - a)) }
    let s := s.setEng g n { x with prog := x.prog.map (fun (e : XeDesc) => if e.ix = d.ix then d' else e) }
    let r : HostRead := { tag := t, addr := first, lines := k, engine := g * 16 + n, ix := d.ix, tb := s.tb }
    ({ s with tl := { s.tl with nextTag := (t + 1) % 4096, reads := s.tl.reads ++ [r] } } : State).sendTl (.read t first k)

/-- Whether a descriptor awaits data from the host. -/
def State.awaitsHost (s : State) (g n : Nat) (d : XeDesc) : Bool :=
  decide (d.op = 1 ∧ d.src ≥ hostFirst) && (decide (d.asked < d.len) || s.tl.reads.any (fun r => r.engine == g * 16 + n && r.ix == d.ix))

/-- Stops that wait for an engine reply. -/
def State.replyEngine (s : State) (g n : Nat) (aborted : Bool) : State :=
  s.complete (fun w => w.op == 0x0404 && w.obj == g * 16 + n) (fun s w =>
    s.okForm w.cmd (if w.form = 1 then 1 else if aborted then 2 else 0) [(4, (s.eng g n).cancelled)])

/-- A draining engine with nothing more to do is halted. -/
def State.xeDrained (s : State) (g n : Nat) : State :=
  let x := s.eng g n
  match x.goal with
  | none => s
  | some k =>
    if x.next = k ∧ x.prog.isEmpty ∧ x.due.isEmpty then
      ((s.setEng g n { x with goal := none }).setBit (XE_ENG_STATUS g n) XE_ENG_STATUS.halted true).replyEngine g n false
    else s

/-- Whether an engine can start its next descriptor. -/
def State.xeCanStart (s : State) (g n : Nat) : Bool :=
  let x := s.eng g n
  let d : XeDesc := { raw := s.bytes (s.descAt g n x.next) 64 }
  decide (n ≥ 8) && decide (s.hostGate > 0) && s.bit (XE_ENG_CFG g n) XE_ENG_CFG.assigned && !s.bit (XE_ENG_STATUS g n) XE_ENG_STATUS.halted &&
    decide (x.next ≠ s.xeGoal g n) && decide (x.prog.length < 2) && x.due.isEmpty && decide (s.cplRoom g n > 0) &&
    !(d.flag 0 && !x.prog.isEmpty) && decide (s.tl.reads.length < max 1 (s.fld TL_FEATURES TL_FEATURES.max_tags))

/-- XE_DESCRIPTOR_START: an engine takes, checks and starts the next descriptor of its ring. A line of the descriptor
that the host holds M is asked for first. -/
def execXeDescriptorStart (g : Fin 2) (n : Fin 16) (s : State) : Host.Outcome State Fault Refusal :=
  let s := (s.unfire (s.fld (XE_ENG_RING g n) XE_ENG_RING.base))
  let s := if s.bit (XE_ENG_CFG g n) XE_ENG_CFG.assigned then (s.cplLook g n).engView g n else s
  .next (
    if !s.xeCanStart g n then s.xeDrained g n
    else
      let busy := s.homeBusy (s.descAt g n (s.eng g n).next) 64 false
      if busy ≠ [] then s.askLines s.readKind busy
      else
        let got := s.takeDesc g n
        let d := got.1
        let s := got.2
        let st := s.xeCheck g n d
        if st ≠ xeOK then (s.xeFinish g n d st 0 0).xeDrained g n
        else
          let x := s.eng g n
          ((s.setEng g n { x with prog := x.prog ++ [d] }).engView g n).askHost g n d)

/-! ## Completing (R317, R318) -/

/-- The first offset at which a descriptor touches a fenced tile. -/
def State.fencedAt (s : State) (d : XeDesc) : Option Nat :=
  (d.tiles.filter (fun p => s.fenced p)).foldl (fun (b : Option Nat) p =>
    d.ranges.foldl (fun (b : Option Nat) r =>
      if sharesByte r (tsBase p, tsBytes) then
        let o := tsBase p - r.1
        some (min o (b.getD o))
      else b) b) none

/-- The engine has `d` in progress no longer. -/
def State.xeLeave (s : State) (g n : Nat) (d : XeDesc) : State :=
  let x := s.eng g n
  let s := s.setEng g n { x with prog := x.prog.filter (fun (e : XeDesc) => e.ix != d.ix) }
  { s with tl := { s.tl with reads := s.tl.reads.filter (fun r => !(r.engine == g * 16 + n && r.ix == d.ix)) } }

/-- XE_DESCRIPTOR_COMPLETE: a descriptor in progress completes. How far it had come at a fenced tile is a free value. -/
def execXeDescriptorComplete (g : Fin 2) (n : Fin 16) (i : Fin 2) (s : State) : Host.Outcome State Fault Refusal :=
  .next (
    match (s.eng g n).prog[i.val]? with
    | none => s
    | some d =>
      let busy := s.xeBusy d
      match s.fencedAt d with
      | some o =>
        let got := s.draw 33
        let k := got.1
        let s := got.2
        let done := k % (d.len + 1)
        (((s.xeMove d done).xeLeave g n d).xeFinish g n d xeFENCED done o).xeDrained g n
      | none =>
        if s.awaitsHost g n d ∨ s.hostGate = 0 then s
        else if busy.1 ≠ [] ∨ busy.2 ≠ [] then (s.askLines s.readKind busy.1).askLines 0 busy.2
        else
          let bad := if d.op = 1 then s.badWords d.src d.len else []
          let first := (bad.map (fun w => w - d.src)).foldl min d.len
          let s := (s.xeMove d d.len).xeLeave g n d
          let done := if d.op = 3 then 0 else d.len
          (if bad = [] then s.xeFinish g n d xeOK done 0 else s.xeFinish g n d xeUE done first).xeDrained g n)

/-! ## Stopping (R319) -/

/-- A descriptor in progress stops at a 4 KiB boundary, which the spec leaves open: bytes that the host has not given, or
whose lines it holds, are not moved. -/
def State.xeCancel (s : State) (g n : Nat) (d : XeDesc) : State :=
  let got := s.draw 21
  let k := got.1
  let s := got.2
  let busy := s.xeBusy d
  let done := if s.awaitsHost g n d ∨ busy.1 ≠ [] ∨ busy.2 ≠ [] ∨ d.op = 3 then 0 else (k % (d.len / 4096 + 1)) * 4096
  ((s.xeMove d done).xeLeave g n d).xeFinish g n d xeCANCELLED done 0

/-- Descriptors taken and not started complete with CANCELLED. -/
def State.cancelTaken (s : State) (g n fuel goal : Nat) : State :=
  match fuel with
  | 0 => s
  | f + 1 =>
    if (s.eng g n).next = goal then s
    else
      let got := s.takeDesc g n
      let d := got.1
      let s := got.2
      (s.xeFinish g n d xeCANCELLED 0 0).cancelTaken g n f goal

/-- ABORT of an engine. -/
def State.xeAbort (s : State) (g n : Nat) : State :=
  let drain := (s.eng g n).goal.isSome
  let goal := s.xeGoal g n
  let s := (s.eng g n).prog.foldl (fun s d => s.xeCancel g n d) s
  let s := if n ≥ 8 ∧ s.bit (XE_ENG_CFG g n) XE_ENG_CFG.assigned then s.cancelTaken g n 65536 goal else s
  let s := s.setEng g n { s.eng g n with goal := none }
  let s := if drain then s.setBit (XE_ENG_STATUS g n) XE_ENG_STATUS.drain_fallback true else s
  (s.setBit (XE_ENG_STATUS g n) XE_ENG_STATUS.halted true).replyEngine g n drain

/-- Stops an engine in a halt mode: 0 DRAIN, 1 ABORT; the others are reserved and do nothing. -/
def State.xeHalt (s : State) (g n mode : Nat) : State :=
  let x := s.eng g n
  if s.bit (XE_ENG_STATUS g n) XE_ENG_STATUS.halted ∨ mode ≥ 2 then s
  else
    let s := s.setEng g n { x with cancelled := if x.goal.isSome then x.cancelled else 0 }
    if mode = 1 then s.xeAbort g n
    else if x.goal.isSome then s
    else
      let goal := if n ≥ 8 ∧ s.bit (XE_ENG_CFG g n) XE_ENG_CFG.assigned then s.xeProducer g n else x.next
      let s := s.setBit (XE_ENG_STATUS g n) XE_ENG_STATUS.drain_fallback false
      (s.setEng g n { s.eng g n with goal := some goal, drainFrom := s.tb }).xeDrained g n

/-- XE_HALT_REQ: halt_req stops the engine in halt_mode. -/
def execXeHaltReq (g : Fin 2) (n : Fin 16) (mode : BitVec 2) (s : State) : Host.Outcome State Fault Refusal :=
  .next ((s.setFld (XE_ENG_CTRL g n) XE_ENG_CTRL.halt_mode mode.toNat).xeHalt g n mode.toNat)

/-- resume clears halted. -/
def State.xeResume (s : State) (g n : Nat) : State := s.setBit (XE_ENG_STATUS g n) XE_ENG_STATUS.halted false

/-- XE_ENG_RESUME. -/
def execXeEngResume (g : Fin 2) (n : Fin 16) (s : State) : Host.Outcome State Fault Refusal := .next (s.xeResume g n)

/-- XE_DRAIN_TIMEOUT: a DRAIN past drain_timeout proceeds as ABORT. -/
def execXeDrainTimeout (g : Fin 2) (n : Fin 16) (s : State) : Host.Outcome State Fault Refusal :=
  let x := s.eng g n
  .next (
    if x.goal.isSome ∧ s.tb ≥ x.drainFrom + s.fld (XE_ENG_CFG g n) XE_ENG_CFG.drain_timeout_ms * 100000 then s.xeAbort g n
    else s)

/-- The host engines: (group, number). -/
def hostEngines : List (Nat × Nat) := (List.range 2).flatMap (fun g => (List.range 8).map (fun k => (g, 8 + k)))

/-- Stops every host engine with ABORT (R339). -/
def State.abortEngines (s : State) : State := hostEngines.foldl (fun s e => s.xeHalt e.1 e.2 1) s

/-- A compute reset aborts every descriptor in progress that touches a tile store (R319). -/
def State.abortTileDescs (s : State) : State :=
  hostEngines.foldl (fun s e =>
    ((s.eng e.1 e.2).prog.filter (fun d => !d.tiles.isEmpty)).foldl (fun s d => s.xeCancel e.1 e.2 d) s) s

/-- The engines of a context are stopped with ABORT and assigned to it no longer. -/
def State.dropEngines (s : State) (c : Nat) : State :=
  hostEngines.foldl (fun s e =>
    let a := XE_ENG_CFG e.1 e.2
    if s.bit a XE_ENG_CFG.assigned && !s.bit a XE_ENG_CFG.device_use && s.fld a XE_ENG_CFG.ctx == c then
      (s.xeHalt e.1 e.2 1).setBit a XE_ENG_CFG.assigned false
    else s) s

end Sys2Proof.Machine
end

