-- ==== Sys2Proof/Machine/Stop.lean ====
section
/-! DEFINITION. Machine/Stop.lean: stopping, faulting and reconfiguring contexts (R216, R220 to R223). -/
namespace Sys2Proof.Machine

/-! ## Stopping (R220, R221, R253) -/

/-- The running proof round of a context ends with a status (0 MATCH, 1 REPAIRED, 2 BACKING_LOST, 3 ABANDONED). -/
def State.endRound (s : State) (c status : Nat) (digest : List Byte) (l : List ProofRegion) : State :=
  let a := SCU_PROOF_STATUS c
  let s := (s.setBit a SCU_PROOF_STATUS.round_active false).setFld a SCU_PROOF_STATUS.last_status status
  let y := s.ctx c
  let s := s.setFld (SCU_PROOF_LAST c) SCU_PROOF_LAST.gather_start (y.roundStartGather % 2 ^ 32)
  let s := s.setFld (SCU_PROOF_LAST c) SCU_PROOF_LAST.gather_end (s.fld (SCU_STR_STEP c) SCU_STR_STEP.gather)
  let s := s.setReg (SCU_PROOF_TIME c) (BitVec.ofNat 64 s.tb)
  s.setCtx c { y with lastRound := y.roundNo, lastDigest := digest, lastRegions := l, pendingHashes := [], digests := [],
                      lastMismatch := (l.filter (fun x => !x.matched)).filterMap (fun x => s.placed c x.vtile) }

/-- The running proof round of a context is abandoned, and none waits (R287). -/
def State.abandonRound (s : State) (c : Nat) : State :=
  let s := if s.bit (SCU_PROOF_STATUS c) SCU_PROOF_STATUS.round_active then
      ((s.leaseTiles c).foldl (fun s p => s.hashStop p) s).endRound c 3 [] []
    else s
  s.setCtx c { s.ctx c with roundWanted := false, roundQueued := false }

/-- A join of a context ends: it is CANCELLED (R382). -/
def State.endJoin (s : State) (c : Nat) : State :=
  if s.joins.any (fun e => e.1 == c) then
    ({ s with joins := s.joins.filter (fun e => e.1 != c) } : State).complete (fun w => w.op == 0x0A04 && w.ctx == c)
      (fun s w => s.reply w.cmd stCANCELLED 0)
  else s

/-- Firmware closes the rings: what is in them is read and closed as CANCELLED, and so is every frame not yet launched. -/
def State.closeRings (s : State) (c : Nat) : State :=
  let s := s.setCtx c { s.ctx c with ringsClosed := true, cancels := 0 }
  let s := s.setBit (SCU_STR_STATE c) SCU_STR_STATE.admission_open false
  let s := (s.openSlots c).foldl (fun s k => s.ringRead c k) s
  s.dropAll (s.openEntries c (fun e => !e.launched)) 0x03 0x11

/-- Posts a CTX_FAULT event (R354). -/
def State.faultEvent (s : State) (c code vtile : Nat) : State := s.event 0x0004 c (fieldsFrom 0 [(1, code), (2, vtile)])

/-- A context is left FAULTED with a code (R223). -/
def State.toFaulted (s : State) (c code vtile : Nat) : State :=
  ((s.setReason c code noSect vtile).setCState c 6).faultEvent c code vtile

/-- Replies to the stops of a context, and to a reconfiguration that the stop has overtaken. -/
def State.replyStops (s : State) (c : Nat) (aborted : Bool) : State :=
  let s := s.complete (fun w => w.op == 0x0105 && w.ctx == c) (fun s w =>
    s.okForm w.cmd (if w.form = 1 then 1 else if aborted then 2 else 0) [(4, (s.ctx c).cancels)])
  if aborted then
    s.complete (fun w => w.op == 0x0203 && w.ctx == c) (fun s w => s.replyRaw w.tag w.op stCANCELLED 0 2 w.event [])
  else s

/-- A stop ends: the units are halted, the streams closed, and the context takes what follows. -/
def State.endStop (s : State) (c : Nat) (aborted : Bool) : State :=
  let s := (((((s.stopTests c).ndcCtx c).stopStreams c).haltCtx c).setDrained c true)
  let s := (s.abandonRound c).setBit (SCU_CTX_STATE c) SCU_CTX_STATE.reconfiguring false
  let s := match (s.ctx c).after with
    | .ready => s.setCState c 3
    | .faulted code v => s.toFaulted c code v
    | .zeroise => s.setCState c 7
    | .reconfigure => s.toFaulted c 0x4B noVtile
  (s.setCtx c { s.ctx c with after := .ready, drainAgain := false }).replyStops c aborted

/-- ABORT of a context, RUNNING or STOPPING (R220). -/
def State.abortCtx (s : State) (c : Nat) : State :=
  let s := s.endJoin c
  let s := if s.cState c = 4 then s.closeRings c else s
  let s := (s.setCState c 5).setFld (SCU_CTX_STATE c) SCU_CTX_STATE.stop_mode 1
  s.endStop c true

/-- DRAIN of a running context starts. -/
def State.drainCtx (s : State) (c : Nat) (after : AfterStop) : State :=
  let s := (s.endJoin c).closeRings c
  let s := (s.setCState c 5).setFld (SCU_CTX_STATE c) SCU_CTX_STATE.stop_mode 0
  s.setCtx c { s.ctx c with after := after, drainFrom := s.tb, drainAgain := false }

/-- Whether a context is empty: every gathered frame closed, every queue, ring and retain window of its tiles empty, and
no message of it on its way. -/
def State.ctxEmpty (s : State) (c : Nat) : Bool :=
  (s.openEntries c (fun _ => true)).isEmpty &&
    (s.placedTiles c).all (fun e =>
      (List.range 64).all (fun r => (s.rMode e.2 r != mQueue && s.rMode e.2 r != mReceive) || s.rHead e.2 r == s.rTail e.2 r) &&
      (List.range 64).all (fun k => (s.ep e.2 k).win.isEmpty && (s.ep e.2 k).ovf.isEmpty) && (s.ror e.2).isEmpty) &&
    !s.net.any (fun x => x.msg.ctx == c && x.msg.vc != 4)

/-- A fault of a context (R223). -/
def State.ctxFault (s : State) (c code vtile : Nat) : State :=
  if code = 0x47 then s.faultEvent c code vtile
  else match s.cState c with
  | 4 => (s.setCtx c { s.ctx c with after := .faulted code vtile }).abortCtx c
  | 5 => (s.setCtx c { s.ctx c with after := .faulted code vtile }).abortCtx c
  | 3 => (s.endJoin c).toFaulted c code vtile
  | 6 => s.toFaulted c code vtile
  | _ => s

/-! ## Reconfiguration (R222) -/

/-- Streams in slots that a plate no longer has end with the context's stop reason; the others keep their slots. -/
def State.endBeyond (s : State) (c n : Nat) : State :=
  let gone := (s.openSlots c).filter (fun k => decide (k ≥ n))
  let s := gone.foldl (fun s k => s.endRecord c k 0x32) s
  gone.foldl (fun s k => let x := s.slotOf c k; s.setSlot c k x.ended) s

/-- The context restarts with its streams kept and rechecked (R238). -/
def State.restartKept (s : State) (c : Nat) : State := ((s.startCtx c).skipGathers c).recheck c

/-- The change of a drained context: the new plate on the present lease; a refusal keeps the old one. -/
def State.reconfigure (s : State) (c : Nat) : State :=
  let y := s.ctx c
  let s := ((s.ndcCtx c).haltCtx c).setDrained c true
  let s := s.abandonRound c
  let done := fun (s : State) => (s.setBit (SCU_CTX_STATE c) SCU_CTX_STATE.reconfiguring false).restartKept c
  let no := fun (s : State) (r : Refuse) =>
    (done (s.setReason c r.1 r.2.1 r.2.2)).complete (fun w => w.op == 0x0203 && w.ctx == c) (fun s w => s.refuse w.cmd r.1)
  match s.checkPlate c y.newImg y.newLen (fun pl => s.remoteBad c pl) with
  | .inl r => no s r
  | .inr pl =>
    let old := s.leaseTiles c
    let t := ((s.clearRoutes c).clearBudgets c).clearProxies c
    let t := old.foldl (fun t p => (t.resetRegs (ctxOwned p)).clearUnits p) t
    match t.stagePlate c pl (s.leaseGood c) with
    | .inl (r, _) => no s r
    | .inr t =>
      match t.digestBad c with
      | some r => no s r
      | none =>
        let t := (old.filter (fun p => t.lease p != some c)).foldl (fun t p => t.leaveLease p true) t
        let t := (t.endBeyond c pl.smap.slots).finishLoad c
        let t := (done t).publish
        t.complete (fun w => w.op == 0x0203 && w.ctx == c) (fun s w => s.ok w.cmd (s.loadResults c))

/-- CONTEXT_DRAIN_COMPLETE: a context stopping by DRAIN that has become empty completes its stop. -/
def execContextDrainComplete (c : Fin 16) (s : State) : Host.Outcome State Fault Refusal :=
  .next (
    if s.cState c = 5 ∧ s.fld (SCU_CTX_STATE c) SCU_CTX_STATE.stop_mode = 0 ∧ s.ctxEmpty c then
      if (s.ctx c).after = .reconfigure then (s.setCtx c { s.ctx c with after := .ready }).reconfigure c
      else s.endStop c false
    else s)

end Sys2Proof.Machine
end

