-- ==== Sys2Proof/Machine/Spill.lean ====
section
/-! DEFINITION. Machine/Spill.lean: progress samples, stalls and spills (R180, R181, R184), and the timeout of a drain
(R220). -/
namespace Sys2Proof.Machine

/-! ## Spills (R181) -/

/-- Spills one receive ring. -/
def State.spillRing (s : State) (c p e : Nat) : Option State :=
  (s.ovfEnter c p e).map (fun (t : State) => (t.sendersOf p e).foldl (fun t i => t.moveSender p e i) t)

/-! ## The choice of rings -/

/-- Rings of a context that refused a message since the last sample: (tile, endpoint), in ascending order. -/
def State.refusers (s : State) (c : Nat) : List (Nat × Nat) :=
  (s.leaseTiles c).flatMap (fun p => ((List.range 64).filter (fun e =>
    s.epRole p e == 2 && s.epBit p e CH_EP_STATE.refused && !s.epBit p e CH_EP_STATE.overflow)).map (fun e => (p, e)))

/-- Occupancy and size of the ring of an endpoint. -/
def State.ringFill (s : State) (x : Nat × Nat) : Nat × Nat :=
  let r := s.dataRegion x.1 (s.epQueue x.1 x.2)
  (ahead (s.rTail x.1 r) (s.rHead x.1 r), s.rSize x.1 r)

/-- The fullest ring of a list, the first among equals. -/
def State.fullest (s : State) (l : List (Nat × Nat)) : Option (Nat × Nat) :=
  l.foldl (fun (b : Option (Nat × Nat)) x =>
    match b with
    | none => some x
    | some y =>
      let got := s.ringFill x
      let ox := got.1
      let sx := got.2
      let got := s.ringFill y
      let oy := got.1
      let sy := got.2
      if ox * sy > oy * sx then some x else some y) none

/-- Up to `n` rings, fullest first. -/
def State.spillChoice (s : State) (n : Nat) (l : List (Nat × Nat)) : List (Nat × Nat) :=
  match n with
  | 0 => []
  | k + 1 =>
    match s.fullest l with
    | none => []
    | some x => x :: s.spillChoice k (l.erase x)

/-- One spill of a context (R181): none where the spill area cannot supply an area. -/
def State.spill (s : State) (c : Nat) : Option State :=
  (s.spillChoice (s.fld (SCU_CTX_TIMING c) SCU_CTX_TIMING.spill_width) (s.refusers c)).foldl
    (fun (r : Option State) x => r.bind (fun t => t.spillRing c x.1 x.2)) (some s)

/-- A spill of a running or stopping context, whose failure faults it. -/
def State.spillOrFail (s : State) (c : Nat) : State := (s.spill c).getD (s.ctxFault c 0x44 noVtile)

/-! ## Samples (R180, R184) -/

/-- The refusals that a sample has seen are forgotten. -/
def State.clearRefused (s : State) (c : Nat) : State :=
  (s.leaseTiles c).foldl (fun s p => (List.range 64).foldl (fun s e =>
    if s.epBit p e CH_EP_STATE.refused then s.setBit (CH_EP_STATE p e) CH_EP_STATE.refused false else s) s) s

/-- The progress sample of one running or stopping context. -/
def State.sampleCtx (s : State) (c : Nat) : State :=
  let s := s.ndcCtx c
  let y := s.ctx c
  let l := s.leaseTiles c
  let now := fun p => s.fld (CH_PROGRESS p) CH_PROGRESS.consumed
  let moved := l.any (fun p => now p != tget 0 y.progress p)
  let pend := l.any (fun p => s.chPending p)
  let y := { y with progress := l.foldl (fun t p => tset 0 t p (now p)) ([] : Tab Nat), pendingSeen := pend }
  let limit := s.fld (SCU_CTX_TIMING c) SCU_CTX_TIMING.progress_timeout_us * 100
  let s :=
    if moved ∨ !pend then
      s.setCtx c { y with idleSince := s.tb, stalls := if moved then 0 else y.stalls }
    else if s.tb < y.idleSince + limit then s.setCtx c y
    else
      let s := s.setCtx c { y with idleSince := s.tb, stalls := y.stalls + 1 }
      if y.stalls + 1 ≥ 4 then s.ctxFault c 0x44 noVtile else s.spillOrFail c
  s.clearRefused c

/-- PROGRESS_SAMPLE: firmware samples the progress records of every running or stopping context. -/
def execProgressSample (s : State) : Host.Outcome State Fault Refusal :=
  .next ((List.range 16).foldl (fun s c => if s.cState c = 4 ∨ s.cState c = 5 then s.sampleCtx c else s) s)

/-! ## The drain timeout (R220) -/

/-- The count at which the drain of a context has not completed in time: drain_timeout after its start, or the latest
deadline among gathered frames. -/
def State.drainLimit (s : State) (c : Nat) : Nat :=
  let y := s.ctx c
  let own := y.drainFrom + s.fld (SCU_CTX_TIMING c) SCU_CTX_TIMING.drain_timeout_ms * 100000
  if y.drainAgain then own
  else (s.openEntries c (fun e => e.launched)).foldl (fun n e => max n e.deadline) own

/-- CONTEXT_DRAIN_TIMEOUT: first the spill of R181 and one further drain_timeout, then ABORT. -/
def execContextDrainTimeout (c : Fin 16) (s : State) : Host.Outcome State Fault Refusal :=
  .next (
    if s.cState c = 5 ∧ s.fld (SCU_CTX_STATE c) SCU_CTX_STATE.stop_mode = 0 ∧ s.tb ≥ s.drainLimit c then
      if (s.ctx c).drainAgain then s.abortCtx c
      else (s.setCtx c { s.ctx c with drainAgain := true, drainFrom := s.tb }).spillOrFail c
    else s)

end Sys2Proof.Machine
end

