-- ==== Sys2Proof/Machine/Proof.lean ====
section
/-! DEFINITION. Machine/Proof.lean: gathers (R239) and proof rounds (R284 to R289). -/
namespace Sys2Proof.Machine

/-- A proof round of context `c` begins at gather `k`, count `tb` (R286). -/
def State.beginRound (s : State) (c k tb : Nat) : State :=
  let y := s.ctx c
  let s := s.setBit (SCU_PROOF_STATUS c) SCU_PROOF_STATUS.round_active true
  let s := s.setCtx c { y with everRound := true, roundWanted := false, roundQueued := false, roundNo := y.roundNo + 1,
                               roundStartGather := k, roundStartTb := tb, digests := [], pendingHashes := y.plate.proofRegions }
  s.pump c

/-- Whether gather `k` at count `tb` meets a start condition. -/
def State.roundDue (s : State) (c k tb : Nat) : Bool :=
  let y := s.ctx c
  let a := SCU_PROOF_CFG c
  s.bit a SCU_PROOF_CFG.enable &&
    (!y.everRound || y.roundWanted ||
      decide (k ≥ y.roundStartGather + s.fld a SCU_PROOF_CFG.interval_steps) ||
      decide (tb ≥ y.roundStartTb + s.fld a SCU_PROOF_CFG.interval_ms * 100000))

/-- What gather `k` at count `tb` means for proof rounds: one that is due starts, or is counted as an overrun while another
runs. -/
def State.proofGather (s : State) (c k tb : Nat) : State :=
  let y := s.ctx c
  if !s.roundDue c k tb then s
  else if s.bit (SCU_PROOF_STATUS c) SCU_PROOF_STATUS.round_active then
    if y.roundWanted then s
    else (s.setCtx c { y with roundWanted := true }).addSat (SCU_PROOF_STATUS c) SCU_PROOF_STATUS.overruns 1
  else s.beginRound c k tb

/-- GATHER: the next gather of context `c` takes place once its instant has come and the ingest tile takes it. -/
def execGather (c : Fin 16) (s : State) : Host.Outcome State Fault Refusal :=
  .next (match s.gatherDue c with
    | none => s
    | some p =>
      if s.fenced p then s
      else match s.gatherAll c p with
      | none => s
      | some t => t.proofGather c (s.ctx c).gathers (s.gatherInstant c))

/-! ## Hashes of a round -/

/-- Firmware takes the digest of a region that tile `p` has hashed; one that met an uncorrectable word is hashed again once
its rewrite is complete (R287). -/
def State.tookHash (s : State) (p r : Nat) : State :=
  match s.lease p with
  | none => s
  | some c =>
    match s.placedOn c p with
    | none => s
    | some v =>
      let y := s.ctx c
      if s.bit (SCU_PROOF_STATUS c) SCU_PROOF_STATUS.round_active ∧ y.pendingHashes.contains (v, r) ∧
          !s.ueIn (tsBase p + s.rBase p r) (s.rSize p r) then
        (s.setCtx c { y with pendingHashes := y.pendingHashes.erase (v, r),
                             digests := tset [] y.digests (v * 64 + r) (s.regionDigest p r) }).pump c
      else s.pump c

/-- PROOF_HASH_DONE: the agent, enabled by MU_CTRL, ends the hash, and firmware takes its digest. -/
def execProofHashDone (p : Tile) (s : State) : Host.Outcome State Fault Refusal :=
  .next (
    if s.bit (MU_CTRL p) MU_CTRL.proof_en then
      match (s.muW p).hash with
      | none => s
      | some (r, _) => (s.hashEnd p).tookHash p r
    else s)

/-! ## The end of a round (R288) -/

/-- A region that does not match: rewritten from a backing image that does, with a loupe queued where auto_loupe is set;
none where the backing image does not match either. -/
def State.repairRegion (s : State) (c v r : Nat) : Option State :=
  match s.placed c v, s.backingOf c v r with
  | some p, some b =>
    let n := s.rSize p r
    if s.ueIn b n ∨ sha256 (s.bytes b n) ≠ (s.ctx c).plate.sectDigest v r then none
    else
      let t := s.copyRange b (tsBase p + s.rBase p r) n
      if t.bit (SCU_PROOF_CFG c) SCU_PROOF_CFG.auto_loupe then
        some (t.loupeQueue [p]).2
      else some t
  | _, _ => none

/-- The mismatched regions in turn: the state, and the virtual tile whose backing image is lost. -/
def State.repairRegions (s : State) (c : Nat) (l : List ProofRegion) : State × Option Nat :=
  match l with
  | [] => (s, none)
  | x :: t =>
    match s.repairRegion c x.vtile x.region with
    | none => (s, some x.vtile)
    | some s' => s'.repairRegions c t

/-- The regions of a round, compared. -/
def State.roundRegions (s : State) (c : Nat) : List ProofRegion :=
  let y := s.ctx c
  y.plate.proofRegions.map (fun (v, r) =>
    let d := tget [] y.digests (v * 64 + r)
    ({ vtile := v, region := r, matched := d == y.plate.sectDigest v r, digest := d } : ProofRegion))

/-- The round that runs ends. -/
def State.finishRound (s : State) (c : Nat) : State :=
  let l := s.roundRegions c
  let bad := l.filter (fun x => !x.matched)
  let got := s.repairRegions c bad
  let s := got.1
  let lost := got.2
  let status := if bad.isEmpty then 0 else if lost.isNone then 1 else 2
  let s := (s.endRound c status (sha256 (l.flatMap (fun x => x.digest))) l).addSat (SCU_PROOF_STATUS c) SCU_PROOF_STATUS.rounds 1
  if bad.isEmpty then s.setCtx c { s.ctx c with lastMatchTb := s.tb }
  else
    let s := s.addSat (SCU_PROOF_STATUS c) SCU_PROOF_STATUS.mismatches 1
    let s := s.event 0x0005 c (fieldsFrom 0 [(1, status), (2, bad.length), (8, (s.ctx c).lastMatchTb)])
    match lost with
    | some v => s.ctxFault c 0x4A v
    | none => s

/-- PROOF_ROUND_END: a round of context `c` whose every region has its digest ends; a requested round that waited begins. -/
def execProofRoundEnd (c : Fin 16) (s : State) : Host.Outcome State Fault Refusal :=
  .next (
    if s.bit (SCU_PROOF_STATUS c) SCU_PROOF_STATUS.round_active ∧ (s.ctx c).pendingHashes.isEmpty then
      let s := s.finishRound c
      if (s.ctx c).roundQueued then s.beginRound c (s.fld (SCU_STR_STEP c) SCU_STR_STEP.gather) s.tb else s
    else s)

/-! ## Commands (R289, R353) -/

/-- What a configuration field takes: all ones leaves the setting. -/
def keepOr (w v old : Nat) : Nat := if v = 2 ^ w - 1 then old else v

/-- PROOF_CONFIG: interval_steps, interval_ms, enable and auto_loupe, each with "keep". -/
def execProofConfig (h : CmdHdr) (steps : BitVec 16) (ms : BitVec 32) (enable auto : BitVec 8) (s : State) :
    Host.Outcome State Fault Refusal :=
  let ok1 := fun (v : BitVec 8) => decide (v.toNat ≤ 1) || v == 0xFF
  let okMs := ms == 0xFFFFFFFF || (decide (100 ≤ ms.toNat) && decide (ms.toNat ≤ 3600000))
  .next (s.command h { op := 0x0601, need := .exists } (steps != 0 && okMs && ok1 enable && ok1 auto) (fun c s =>
    let a := SCU_PROOF_CFG c.ctx
    let put := fun (s : State) (f : Field) (w v : Nat) => s.setFld a f (keepOr w v (s.fld a f))
    let s := put s SCU_PROOF_CFG.interval_steps 16 steps.toNat
    let s := put s SCU_PROOF_CFG.interval_ms 32 ms.toNat
    let s := put s SCU_PROOF_CFG.enable 8 enable.toNat
    (put s SCU_PROOF_CFG.auto_loupe 8 auto.toNat).ok c []))

/-- PROOF_ROUND: one round at once while READY, RUNNING or FAULTED, or as soon as the running one has ended. -/
def execProofRound (h : CmdHdr) (s : State) : Host.Outcome State Fault Refusal :=
  .next (s.command h { op := 0x0602, need := .exists } true (fun c s =>
    let y := s.ctx c.ctx
    let st := s.cState c.ctx
    if (st ≠ 3 ∧ st ≠ 4 ∧ st ≠ 6) ∨ !y.loaded then s.reply c stWRONG_STATE 0
    else if s.bit (SCU_PROOF_STATUS c.ctx) SCU_PROOF_STATUS.round_active then
      (s.setCtx c.ctx { y with roundQueued := true }).ok c [(4, y.roundNo + 1)]
    else (s.beginRound c.ctx (s.fld (SCU_STR_STEP c.ctx) SCU_STR_STEP.gather) s.tb).ok c [(4, y.roundNo + 1)]))

/-- PROOF_READ: the record of the last round that ended. -/
def execProofRead (h : CmdHdr) (s : State) : Host.Outcome State Fault Refusal :=
  .next (s.command h { op := 0x0603, need := .exists } true (fun c s =>
    let y := s.ctx c.ctx
    if y.lastRound = 0 then s.ok c []
    else s.ok c [(4, y.lastRound), (4, s.fld (SCU_PROOF_LAST c.ctx) SCU_PROOF_LAST.gather_start),
      (4, s.fld (SCU_PROOF_LAST c.ctx) SCU_PROOF_LAST.gather_end),
      (1, s.fld (SCU_PROOF_STATUS c.ctx) SCU_PROOF_STATUS.last_status), (8, s.fld (SCU_PROOF_TIME c.ctx) SCU_PROOF_TIME.tb_count),
      (32, ofBytes y.lastDigest)]))

/-- The 40-byte record of a region. -/
def ProofRegion.bytes (x : ProofRegion) : List Byte :=
  leBytes 2 x.vtile ++ leBytes 1 x.region ++ leBytes 1 (b2n x.matched) ++ [0, 0, 0, 0] ++ (x.digest ++ List.replicate 32 0).take 32

/-- PROOF_REGIONS: one record for each proof region of that round, in a host buffer. -/
def execProofRegions (h : CmdHdr) (buffer : BitVec 64) (s : State) : Host.Outcome State Fault Refusal :=
  .next (s.command h { op := 0x0604, need := .exists } (buffer.toNat % 64 == 0) (fun c s =>
    let y := s.ctx c.ctx
    let l := y.lastRegions.flatMap (fun x => x.bytes)
    if !inHost buffer.toNat l.length then s.reply c stACCESS 0
    else (s.hostPut buffer.toNat l).ok c [(4, y.lastRegions.length), (4, y.lastRound)]))

end Sys2Proof.Machine
end

