-- ==== Sys2Proof/Machine/Heal.lean ====
section
/-! DEFINITION. Machine/Heal.lean: the health manager's responses to fault signals (R260, R261), row repairs (R135, R256),
and the heals of contexts (R265 to R272). -/
namespace Sys2Proof.Machine

/-! ## Row repairs (R135, R136, R256, R260) -/

/-- Whether the 64 KiB range of a tile-store row meets a region in use on tile `p`. -/
def State.rowInUse (s : State) (p row : Nat) : Bool :=
  (List.range 64).any (fun r => s.rMode p r != mOff && meets (row * 0x10000) 0x10000 (s.rBase p r) (s.rSize p r))

/-- A row needs repair and its bank has no spare: a scratch row fences the tile, a tile-store row is blocked, and placed work
in its range is placed again (R256). -/
def State.noSpare (s : State) (p : Nat) (sc : Bool) (bank row : Nat) : State :=
  if sc then s.fenceRecord p 0x04 false s.tb
  else if s.health.blocked.contains (p, row) then s
  else
    let s := { s with health := { s.health with blocked := s.health.blocked ++ [(p, row)] } }
    let s := s.addSat (HLTH_TILE p) HLTH_TILE.blocked_ranges 1
    let s := (s.setFld (HLTH_REMAP p (bank / 8)) ⟨8 * (bank % 8) + 5, 1⟩ 1).degrade p
    let s := match s.lease p with
      | none => s
      | some c =>
        match s.placedOn c p with
        | some v => if s.rowInUse p row ∧ 3 ≤ s.cState c ∧ s.cState c ≤ 6 then s.openHeal c v p s.tb else s
        | none => s
    s.publish

/-- A row's repair starts, or waits while the tile's memory unit repairs another. -/
def State.repairRow (s : State) (p : Nat) (sc : Bool) (bank row : Nat) : State :=
  if s.bit (MU_STATUS p) MU_STATUS.remap_busy then
    { s with health := { s.health with remaps := s.health.remaps ++ [(p, sc, bank, row)] } }
  else match (List.range (spares sc)).find? (fun i => !repairValid (s.repair p sc bank i)) with
    | some i => s.remapStart p sc bank row i
    | none => (s.remapStart p sc bank row 0).noSpare p sc bank row

/-- The words of a tile-store row, as offsets. -/
def State.rowWords (s : State) (p bank row : Nat) : List Nat :=
  ((List.range 1024).map (fun i => row * 0x10000 + i * 64)).filter (fun o => s.bankUnder p (s.hashAt p o) o == bank)

/-- Words of a repaired row that lie in resident regions are written from the backing image (R260). -/
def State.rewriteRow (s : State) (p bank row : Nat) : State :=
  match s.lease p with
  | none => s
  | some c =>
    match s.placedOn c p with
    | none => s
    | some v =>
      (s.rowWords p bank row).foldl (fun s o =>
        match s.regionAt p o with
        | none => s
        | some r =>
          match s.backingOf c v r with
          | some b =>
            if s.bit (RGN_CFG p r) RGN_CFG.resident && !s.ueIn (b + (o - s.rBase p r)) 64 then
              s.copyRange (b + (o - s.rBase p r)) (tsBase p + o) 64
            else s
          | none => s) s

/-- REMAP_COMPLETE: the row copy ends; firmware records the repair in the health store and the map, rewrites resident words
of the row where an uncorrectable error made the repair due, and starts the next. -/
def execRemapComplete (p : Tile) (s : State) : Host.Outcome State Fault Refusal :=
  .next (match (s.muW p).remap with
    | none => s
    | some (m, bank, row, spare) =>
      let sc := m == 1
      let s := s.remapDone p
      let e := (p.val, sc, bank, row, spare)
      let old := s.store.repairs.filter (fun x => !(x.1 == p.val && x.2.1 == sc && x.2.2.1 == bank && x.2.2.2.2 == spare))
      let s := { s with store := { s.store with repairs := old ++ [e] } }
      let s := if sc then s else (s.remapView p bank).degrade p
      let s := if !sc && s.health.rewrites.contains (p.val, bank, row) then
          let s := s.rewriteRow p bank row
          { s with health := { s.health with rewrites := s.health.rewrites.erase (p.val, bank, row) } }
        else s
      let s := match s.health.remaps.find? (fun x => x.1 == p.val) with
        | some x => ({ s with health := { s.health with remaps := s.health.remaps.erase x } } : State).repairRow p x.2.1 x.2.2.1 x.2.2.2
        | none => s
      let s := match s.lease p with
        | some c => s.pump c
        | none => s
      s.publish)

/-! ## Fault signals (R260, R282) -/

/-- An arithmetic fault of a leased tile is counted and reported (R282). -/
def State.arithFault (s : State) (p : Nat) : State :=
  match s.lease p with
  | none => s
  | some c =>
    (s.addSat (SCU_CTX_SILENT c) SCU_CTX_SILENT.arith_faults 1).eventAt 0x0003 c (s.reg (ME_FAULT_TIME p)).toNat
      (fieldsFrom 0 [(2, s.fld (TILE_CTX p) TILE_CTX.vtile), (1, p), (8, (s.reg (ME_FAULT_LOG p)).toNat)])

/-- 24 hours in TBCLK counts. -/
def day : Nat := 8640000000000

/-- An uncorrectable word at device address `w` of tile `p`: the first report of it is answered. -/
def State.ueSignal (s : State) (p w tb : Nat) : State :=
  let s := { s with health := { s.health with ueWords := s.health.ueWords.filter (fun x => tget 0 s.ue x != 0) } }
  if s.health.ueWords.contains w then s
  else
    let s := { s with health := { s.health with ueWords := s.health.ueWords ++ [w] } }
    let got := s.bankRow p w
    let sc := got.1
    let bank := got.2.1
    let row := got.2.2
    if sc then s.fenceRecord p 0x04 false tb
    else
      let last := tget 0 s.health.ueBanks (p * 64 + bank)
      if last ≠ 0 ∧ tb < last - 1 + day then s.fenceRecord p 0x05 false tb
      else
        let h := s.health
        let resident := match s.regionAt p (w - tsBase p) with
          | some r => s.bit (RGN_CFG p r) RGN_CFG.resident
          | none => false
        let rw := if resident then h.rewrites ++ [(p, bank, row)] else h.rewrites
        let s := { s with health := { h with ueBanks := tset 0 h.ueBanks (p * 64 + bank) (tb + 1), rewrites := rw } }
        s.repairRow p false bank row

/-- One end of a link or direct neighbour channel is recorded FENCED after a hop failure (R259). -/
def State.portRecord (s : State) (p t cause : Nat) : State :=
  let s := s.setFld (HLTH_PORT p) ⟨4 * t, 4⟩ (3 + cause * 4)
  match bridgeOf p (t % 4) with
  | some (e, i) => s.setFld (HLTH_BRIDGE e) ⟨HLTH_BRIDGE.pair_fenced.lo + 2 * i + (if t < 4 then 0 else 1), 1⟩ 1
  | none => s

/-- Whether the four link ports of a router are recorded FENCED (R162). -/
def State.routerDown (s : State) (p : Nat) : Bool := (List.range 4).all (fun t => s.portHealth p t == 3)

/-- Every context with placed work falls back from direct neighbour channels that are out of service, and is rechecked
(R270). -/
def State.fallbackAll (s : State) : State :=
  (List.range 16).foldl (fun s c =>
    if 3 ≤ s.cState c ∧ s.cState c ≤ 6 ∧ (s.ctx c).loaded then ((s.dncFallback c).displacedView c).recheck c else s) s

/-- A port or channel of tile `p` is recorded FENCED at both ends, with what follows (R259, R260, R270). -/
def State.portFailed (s : State) (p t cause tb : Nat) : State :=
  let q := neighbour p (t % 4)
  let far := opposite (t % 4) + (if t < 4 then 0 else 4)
  if s.portHealth p t = 3 ∧ (q ≥ 256 ∨ s.portHealth q far = 3) then s
  else
    let s := s.portRecord p t cause
    let s := if q < 256 then s.portRecord q far cause else s
    let s := s.fallbackAll.publish
    let s := if s.routerDown p then s.fenceRecord p 0x06 true tb else s
    if q < 256 ∧ s.routerDown q then s.fenceRecord q 0x06 true tb else s

/-- The response of R260 to one signal. A tile that is FENCED or under test answers no signal of its own units. -/
def State.respond (s : State) (x : Signal) : State :=
  let p := x.tile
  let out := s.hState p = 3 ∨ s.bit (HLTH_TILE p) HLTH_TILE.in_test
  let arith := fun (cause : Nat) => if out then s else (s.arithFault p).fenceRecord p cause false x.time
  match x.kind with
  | .check => arith 0x01
  | .combine => arith 0x02
  | .tolerance => arith 0x03
  | .hang => if out then s else s.fenceRecord p 0x07 false x.time
  | .ue => if out then s else s.ueSignal p x.arg x.time
  | .weightUe =>
    if out then s
    else
      let got := s.bankRow p x.arg
      let sc := got.1
      let bank := got.2.1
      let row := got.2.2
      s.repairRow p sc bank row
  | .rowRepair => if out then s else s.repairRow p (x.arg % 2 == 1) (bits x.arg 1 6) (x.arg / 128)
  | .hopFailed => s.portFailed p x.arg 1 x.time
  | .note =>
    if x.log ≥ 16 then s
    else s.ctxFault x.log x.arg (if x.arg = 0x41 ∨ p ≥ 256 then noVtile else s.fld (TILE_CTX p) TILE_CTX.vtile)
  | .router => s

/-- FAULT_SIGNAL: the health manager receives the oldest fault signal and responds. -/
def execFaultSignal (s : State) : Host.Outcome State Fault Refusal :=
  .next (match s.signals with
    | [] => s
    | x :: rest => ({ s with signals := rest } : State).respond x)

/-- UNIT_HANG: the watchdog of tile `p`, enabled, reports that unit `u`, which no wait holds, makes no progress. -/
def execUnitHang (p : Tile) (u : Fin 8) (s : State) : Host.Outcome State Fault Refusal :=
  .next (
    if s.bit (TILE_WD_CFG p) TILE_WD_CFG.wd_en && !s.fenced p && !s.unitWaiting p u then
      (s.setFld (TILE_WD_STATUS p) ⟨TILE_WD_STATUS.hung_units.lo + u, 1⟩ 1).signal { kind := .hang, tile := p, arg := u, time := s.tb }
    else s)

/-! ## Heals (R265, R267, R271) -/

/-- A re-placement is given up: its entry goes and the context is stopped and left FAULTED. -/
def State.healFails (s : State) (c v code : Nat) : State :=
  let s := { s with health := { s.health with heals := s.health.heals.filter (fun h => !(h.ctx == c && h.vtile == v)) } }
  (s.ctxFault c code v).closeWindow c

/-- The streams whose state the failed tile held and no shadow keeps are ended (R247). -/
def State.endLost (s : State) (c v : Nat) : State :=
  ((s.openSlots c).filter (fun k => s.stateLostAt c k (fun e => e.vtile == v))).foldl (fun s k => s.loseStream c k) s

/-- The target of a heal that is under way is known. -/
def State.healTo (s : State) (h : Heal) (t : Nat) : State :=
  { s with health := { s.health with heals := s.health.heals.map (fun x => if x = h then { x with target := some t } else x) } }

/-- HEAL: the work of virtual tile `v` of context `c`, whose re-placement is due, moves to its target. -/
def execHeal (c : Fin 16) (v : Fin 256) (s : State) : Host.Outcome State Fault Refusal :=
  .next (match s.health.heals.find? (fun h => h.ctx == c.val && h.vtile == v.val && h.target.isNone) with
    | none => s
    | some h =>
      match s.healTarget c v false with
      | none => s.healFails c v 0x49
      | some t =>
        let s := s.endLost c v
        match s.moveWork c v h.tile t false false with
        | .inl code => s.healFails c v code
        | .inr u => u.healTo h t)

/-- HEAL_COMPLETE: every re-placement of context `c` has its target running, and the window closes. -/
def execHealComplete (c : Fin 16) (s : State) : Host.Outcome State Fault Refusal :=
  let mine := s.health.heals.filter (fun h => h.ctx == c.val)
  .next (
    if mine.isEmpty ∨ mine.any (fun h => h.target.isNone) then s
    else
      let s := { s with health := { s.health with heals := s.health.heals.filter (fun h => h.ctx != c.val) } }
      let s := (s.closeWindow c).recheck c
      let s := (s.replenish c (s.ctx c).plate.reserveTiles).publish
      mine.foldl (fun s h => s.healDone c h.tile (h.target.getD 0) h.tb (s.tb - h.tb) false) s)

/-- The placed virtual tiles of a context that stand on FENCED tiles. -/
def State.onFenced (s : State) (c : Nat) : List (Nat × Nat) := (s.placedTiles c).filter (fun e => s.hState e.2 == 3)

/-- R265 runs for every virtual tile of a list that stands on a FENCED tile: none where one has no target. -/
def State.rehome (s : State) (c : Nat) (l : List (Nat × Nat)) : Option State :=
  match l with
  | [] => some s
  | e :: t =>
    match s.healTarget c e.1 false with
    | none => none
    | some q =>
      match s.moveWork c e.1 e.2 q false false with
      | .inl _ => none
      | .inr s => s.rehome c t

end Sys2Proof.Machine
end

