-- ==== Sys2Proof/Machine/BootLine.lean ====
section
/-! DEFINITION. Machine/BootLine.lean: the boot stage, the status line and the mailbox of the boot ROM (R429 to R432), and
SB_ALERT_N (R483). -/
namespace Sys2Proof.Machine

/-- The part number (R2). -/
def Part.number (p : Part) : Nat :=
  match p with
  | .urk3800 => 0x3800
  | .urk3100 => 0x3100
  | .urk2500 => 0x2500

/-- SB_ALERT_N is pulled low (R483). -/
def State.alert (s : State) : State := { s with sb := { s.sb with alert := true } }

/-- The boot stage (R429). -/
def State.stage (s : State) : Nat := s.fld SCU_BOOT_STATUS SCU_BOOT_STATUS.stage

/-- The status line (R432). -/
def State.bootBytes (s : State) : List Byte :=
  let g := fun f => s.fld SCU_BOOT_STATUS f
  [0x55, 0x52, 0x4B, 0x42, 0x4F, 0x4F, 0x54, 0x31] ++ leBytes 1 (g SCU_BOOT_STATUS.stage) ++ leBytes 1 (g SCU_BOOT_STATUS.fail) ++
    leBytes 1 (g SCU_BOOT_STATUS.refused) ++ leBytes 1 (s.fld TL_STATUS TL_STATUS.version) ++ leBytes 4 s.boot.tag ++
    leBytes 8 s.boot.tbStage ++ leBytes 2 s.part.number ++ leBytes 1 (s.fld SEC_SVN SEC_SVN.fused) ++
    leBytes 1 (2 * b2n (decide (s.fld HBM_ILV HBM_ILV.failed ≠ 0))) ++ List.replicate 36 0

/-- Whether LPDDR5X has trained. -/
def State.lpUp (s : State) : Bool := (List.range 8).all (fun n => s.fld (LP_STATUS n) LP_STATUS.state == 1)

/-- The boot enters a stage: the status line follows once LPDDR5X has trained, and SB_ALERT_N at HALTED, READY and
OUT_OF_SERVICE (R432, R483). -/
def State.setStage (s : State) (n : Nat) : State :=
  let s := s.setFld SCU_BOOT_STATUS SCU_BOOT_STATUS.stage n
  let s := { s with boot := { s.boot with tbStage := s.tb } }
  let s := if s.lpUp then s.put statusLine s.bootBytes else s
  if n = 0x0F ∨ n = 0x09 ∨ n = 0x0A then s.alert else s

/-- Whether the Treup link trains: the module is in none of the states and stages that keep it down (R429, R433, R446). -/
def State.trainsTreup (s : State) : Bool :=
  let f := s.fld SCU_BOOT_STATUS SCU_BOOT_STATUS.fail
  let pw := s.fld PWR_STATUS PWR_STATUS.state
  decide (s.stage ≥ 5) && !(s.stage == 0x0F && decide (f ≤ 3)) && pw != 3 && pw != 4

/-- The mailbox opens once LPDDR5X and the link are up: stage WAIT_IMAGE (R430). -/
def State.mailboxUp (s : State) : State :=
  if s.stage = 5 ∧ s.lpUp ∧ s.linkActive then
    ({ s with boot := { s.boot with mailbox := 1 } } : State).setStage 6
  else s

end Sys2Proof.Machine
end

