-- ==== Sys2Proof/Machine/Treup.lean ====
section
/-! DEFINITION. Machine/Treup.lean: the Treup link: the host's transactions, snoops and completions, training, RECOVERY and
DOWN (R322 to R339). -/
namespace Sys2Proof.Machine

/-! ## Status codes and features (R329, R337) -/

def tlOK : Nat := 0
def tlACCESS : Nat := 1
def tlPOISON : Nat := 2
def tlUNSUPPORTED : Nat := 3
def tlNOT_COHERENT : Nat := 4

/-- Whether feature `i` of TL_FEATURES is enabled: 0 LINE_WATCH, 1 POISON, 2 LANE_DEGRADE, 3 CAS128, 4 SNOOP_SHARE. -/
def State.feature (s : State) (i : Nat) : Bool := bitOf (s.fld TL_FEATURES TL_FEATURES.enabled) i

/-! ## Completions and refusals -/

/-- A refused NP request completes with its status; the first error is logged (R26, R329). -/
def State.refuseNp (s : State) (tag addr status : Nat) : State :=
  (s.sendTl (.cpl tag status false false [])).tlLog 2 status tag addr

/-- A refused PW has no effect and is reported with ERROR (R329). -/
def State.refusePw (s : State) (tag addr status : Nat) : State :=
  (s.sendTl (.error tag status)).tlLog 1 status tag addr

/-- A completion with data; poisoned data travels with its flag, or not at all (R329). -/
def State.complTl (s : State) (tag : Nat) (w bad : Bool) (data : List Byte) : State :=
  if bad && !s.feature 1 then s.sendTl (.cpl tag tlPOISON false false []) else s.sendTl (.cpl tag tlOK w bad data)

/-! ## What an address holds -/

/-- Whether an address lies in a register window (R25). -/
def inRegs (a : Nat) : Bool :=
  (decide (tileRegs ≤ a) && decide (a < tileRegs + 0x1000000)) || (decide (globalRegs ≤ a) && decide (a < globalRegs + 0x1000000))

/-- The bytes of a line: memory, or registers, a word of a window that no register occupies reading 0. -/
def State.devBytes (s : State) (a n : Nat) : List Byte :=
  if inRegs a then (List.range (n / 8)).flatMap (fun k => leBytes 8 (s.reg (a + 8 * k)).toNat) else s.bytes a n

/-- Whether an access of `n` bytes at `a` meets something: mapped memory, or a line with a register in it (R26). -/
def State.answers (s : State) (a n : Nat) : Bool :=
  if inRegs a then (List.range (n / 64)).all (fun k => (List.range 8).any (fun j => (descOf (a + 64 * k + 8 * j)).isSome))
  else s.mapped a && s.mapped (a + n - 1) && !inRegs (a + n - 1)

/-- Whether the host may read `n` bytes at `a` (R31). -/
def State.hostMayRead (s : State) (a n : Nat) : Bool :=
  s.answers a n && (s.mailRead a n || match s.rangeOf a n with
    | some (_, _, r, _, _) => r
    | none => false)

/-- Whether an address lies in the SMP_ block. -/
def inSmp (a : Nat) : Bool := decide (SMP_ID ≤ a) && decide (a < SMP_ID + 0x100000)

/-- Whether the host may write `n` bytes at `a` (R31): of the register windows the SMP_ block alone, while the window of the
global registers is open (R471). -/
def State.hostMayWrite (s : State) (a n : Nat) : Bool :=
  s.answers a n && (s.mailWrite a n || match s.rangeOf a n with
    | some (_, _, _, w, _) => (w && !inRegs a) || inSmp a
    | none => false)

/-! ## Applying the host's transactions (R328, R331, R333, R334) -/

/-- The host writes a register of the SMP_ block: a poisoned word has no effect. -/
def State.smpHostWord (s : State) (a : Nat) (v : Word) : State :=
  match descOf a with
  | none => s
  | some d =>
    let s := s.writeDesc d a v
    if a = SMP_CTRL then
      let s := if v.getLsbD 0 then s.smpStart else s
      if v.getLsbD 1 then s.smpStop else s
    else s

/-- The host writes bytes: the words written in full are as the data, and the watch of each line fires (R335). -/
def State.hostBytes (s : State) (a : Nat) (l : List Byte) (poison : Bool) : State :=
  if inRegs a then
    if poison then s
    else (List.range (l.length / 8)).foldl (fun s k => s.smpHostWord (a + 8 * k) (BitVec.ofNat 64 (ofBytes ((l.drop (8 * k)).take 8)))) s
  else
    let s := s.setBytes a l
    let s := if poison then s.poison a l.length else s
    (List.range ((a % 64 + l.length + 63) / 64)).foldl (fun s k => s.fire (lineOf a + 64 * k)) s

/-- A masked write of the SMP_ block: a register whose eight bytes are all written takes its value (R7). -/
def State.smpMasked (s : State) (a m : Nat) (l : List Byte) (poison : Bool) : State :=
  ((List.range 8).filter (fun k => bits m (8 * k) 8 == 0xFF)).foldl
    (fun s k => s.hostBytes (a + 8 * k) ((l.drop (8 * k)).take 8) poison) s

/-- The bytes of a masked write: those of `new` whose mask bit is set, else those of `old`. -/
def maskBytes (mask : Nat) (old new : List Byte) : List Byte :=
  ((List.range 64).zip (old.zip new)).map (fun e => if bitOf mask e.1 then e.2.2 else e.2.1)

/-- What an atomic operation stores: 0 FETCH_ADD64, 1 SWAP64, 2 CAS64, 3 CAS128; a compare stands before its new value. -/
def atomicNew (op old : Nat) (operands : List Byte) : Nat :=
  let x := ofBytes (operands.take 8)
  match op with
  | 0 => (old + x) % 2 ^ 64
  | 1 => x
  | 2 => if old = x then ofBytes ((operands.drop 8).take 8) else old
  | _ => if old = ofBytes (operands.take 16) then ofBytes ((operands.drop 16).take 16) else old

/-- The entry granted longest ago is evicted by SNP_INV (R333). -/
def State.evictOldest (s : State) : State :=
  match s.tl.filter.find? (fun e => !s.snooping e.line) with
  | none => s
  | some e => (s.askLines 0 [e.line]).addSat TL_COH TL_COH.evictions 1

/-- filter_used follows the filter. -/
def State.filterView (s : State) : State := s.setFld TL_COH TL_COH.filter_used s.tl.filter.length

/-- Grants a copy of a line; its completion carries W where the line is watched (R334). -/
def State.grantLine (s : State) (tag line : Nat) (own : Bool) : State :=
  let m := own || ((s.hostCopy line).map (fun e => e.m)).getD false
  let s := s.dropCopy line
  let s := { s with tl := { s.tl with filter := s.tl.filter ++ [({ line := line, m := m } : FilterEntry)] } }.filterView
  s.complTl tag (own && s.feature 0 && s.watched line) (!(s.badWords line 64).isEmpty) (s.bytes line 64)

/-- The host returns a line: its copy goes, and its data is taken if it held the line M. -/
def State.takeReturn (s : State) (line : Nat) (data : Option (List Byte)) (poison : Bool) : State :=
  let m := ((s.hostCopy line).map (fun e => e.m)).getD false
  let s := (s.dropCopy line).filterView
  match data with
  | some l => if m then s.hostBytes line l poison else s
  | none => s

/-- One transaction of the host: applied, or left to wait (R331, R334). -/
def State.tryHost (s : State) (o : HostOp) : Bool × State :=
  match o with
  | .read tag a n =>
    if s.tl.snoops.any (fun x => decide (a ≤ x.line ∧ x.line < a + 64 * n)) then (false, s)
    else if n > s.maxLines then (true, s.refuseNp tag a tlUNSUPPORTED)
    else if a % 64 ≠ 0 ∨ !s.hostMayRead a (64 * n) then (true, s.refuseNp tag a tlACCESS)
    else (true, s.complTl tag false (!(s.badWords a (64 * n)).isEmpty) (s.devBytes a (64 * n)))
  | .write tag a l p =>
    if l.length > 64 * s.maxLines then (true, s.refusePw tag a tlUNSUPPORTED)
    else if a % 64 ≠ 0 ∨ !s.hostMayWrite a l.length then (true, s.refusePw tag a tlACCESS)
    else if s.homeBusy a l.length true ≠ [] then (false, s.askLines 0 (s.homeBusy a l.length true))
    else (true, s.hostBytes a l p)
  | .masked tag a m l p =>
    if a % 64 ≠ 0 ∨ !s.hostMayWrite a 64 then (true, s.refusePw tag a tlACCESS)
    else if inRegs a then (true, s.smpMasked a m l p)
    else if s.homeBusy a 64 true ≠ [] then (false, s.askLines 0 (s.homeBusy a 64 true))
    else
      let bad := s.badWords a 64
      let s := s.hostBytes a (maskBytes m (s.bytes a 64) l) false
      let touched := (List.range 8).filter (fun k => bits m (8 * k) 8 ≠ 0)
      let s := (bad.filter (fun w => bits m (8 * ((w - a) / 8)) 8 ≠ 0xFF)).foldl (fun s w => s.poison w 8) s
      (true, if p then touched.foldl (fun s k => s.poison (a + 8 * k) 8) s else s)
  | .atomic tag a op l =>
    let n := if op = 3 then 16 else 8
    if op > 3 ∨ (op = 3 ∧ !s.feature 3) then (true, s.refuseNp tag a tlUNSUPPORTED)
    else if a % n ≠ 0 ∨ inRegs a ∨ !s.hostMayWrite a n then (true, s.refuseNp tag a tlACCESS)
    else if s.homeBusy a n true ≠ [] then (false, s.askLines 0 (s.homeBusy a n true))
    else if s.badWords a n ≠ [] then (true, s.complTl tag false true (s.bytes a n))
    else
      let old := s.bytes a n
      let s := (s.setNum a n (atomicNew op (ofBytes old) l)).fire (lineOf a)
      (true, s.complTl tag false false old)
  | .grant tag a own =>
    if s.snooping a then (false, s)
    else if a % 64 ≠ 0 ∨ !s.coherent a then (true, s.refuseNp tag a tlNOT_COHERENT)
    else if (if own then !s.hostMayWrite a 64 else !s.hostMayRead a 64) then (true, s.refuseNp tag a tlACCESS)
    else if (s.hostCopy a).isNone ∧ s.tl.filter.length ≥ 524288 then (false, s.evictOldest)
    else (true, s.grantLine tag a own)
  | .ret a l p => (true, s.takeReturn a l p)

/-- Applies the waiting transactions in order until one must wait. -/
def State.drainIn (s : State) (l : List HostOp) : State :=
  match l with
  | [] => { s with tl := { s.tl with inq := [] } }
  | o :: t =>
    let got := s.tryHost o
    let done := got.1
    let s := got.2
    if done then s.drainIn t else { s with tl := { s.tl with inq := o :: t } }

/-- A transaction of the host arrives: it takes its turn behind those that wait. -/
def State.hostOp (s : State) (o : HostOp) : State :=
  if !s.linkActive then s else s.drainIn (s.tl.inq ++ [o])

/-- READ: `lines` + 1 lines. -/
def execRead (tag : BitVec 12) (addr : BitVec 52) (lines : Fin 8) (s : State) : Host.Outcome State Fault Refusal :=
  .next (s.hostOp (.read tag.toNat addr.toNat (lines + 1)))

/-- WRITE: the low `lines` + 1 lines of `data`. -/
def execWrite (tag : BitVec 12) (addr : BitVec 52) (lines : Fin 8) (data : BitVec 4096) (poison : Bool) (s : State) :
    Host.Outcome State Fault Refusal :=
  .next (s.hostOp (.write tag.toNat addr.toNat (leBytes (64 * (lines.val + 1)) data.toNat) poison))

/-- WRITE_MASKED. -/
def execWriteMasked (tag : BitVec 12) (addr : BitVec 52) (mask : BitVec 64) (data : BitVec 512) (poison : Bool) (s : State) :
    Host.Outcome State Fault Refusal :=
  .next (s.hostOp (.masked tag.toNat addr.toNat mask.toNat (leBytes 64 data.toNat) poison))

/-- ATOMIC. -/
def execAtomic (tag : BitVec 12) (addr : BitVec 52) (kind : BitVec 8) (operands : BitVec 256) (s : State) :
    Host.Outcome State Fault Refusal :=
  .next (s.hostOp (.atomic tag.toNat addr.toNat kind.toNat (leBytes 32 operands.toNat)))

/-- SHARE. -/
def execShare (tag : BitVec 12) (addr : BitVec 52) (s : State) : Host.Outcome State Fault Refusal :=
  .next (s.hostOp (.grant tag.toNat addr.toNat false))

/-- OWN. -/
def execOwn (tag : BitVec 12) (addr : BitVec 52) (s : State) : Host.Outcome State Fault Refusal :=
  .next (s.hostOp (.grant tag.toNat addr.toNat true))

/-- RETURN: one that crosses a SNOOP of its line is taken at once (R334); a line that the host does not hold is refused. -/
def execReturnLine (tag : BitVec 12) (addr : BitVec 52) (dirty : Bool) (data : BitVec 512) (poison : Bool) (s : State) :
    Host.Outcome State Fault Refusal :=
  let a := addr.toNat
  let l := if dirty then some (leBytes 64 data.toNat) else none
  .next (
    if !s.linkActive then s
    else if (s.hostCopy a).isNone then s.refusePw tag.toNat a tlACCESS
    else if s.snooping a then s.takeReturn a l poison
    else s.hostOp (.ret a l poison))

/-! ## Snoops (R332, R334, R336) -/

/-- The writes that waited for a line's snoop are made; DRDY_N follows a producer line (R338). -/
def State.resume_ (s : State) (line : Nat) (l : List HomeOp) : State :=
  let s := l.foldl (fun s op =>
    match op with
    | .put a b => s.putLine a b
    | .look => s) s
  if line = repProdLine ∨ line = evtProdLine then s.drdy else s

/-- The snoop of a line is over. -/
def State.endSnoop (s : State) (x : Snoop) : State :=
  let s := { s with tl := { s.tl with snoops := s.tl.snoops.filter (fun y => y.line != x.line) } }
  let s := s.resume_ x.line x.waiting
  s.drainIn s.tl.inq

/-- SNOOP_RSP: an answer to no snoop is discarded. -/
def execSnoopRsp (addr : BitVec 52) (dirty : Bool) (data : BitVec 512) (poison : Bool) (s : State) :
    Host.Outcome State Fault Refusal :=
  let a := addr.toNat
  .next (
    if !s.linkActive then s
    else match s.tl.snoops.find? (fun x => x.line == a) with
    | none => s
    | some x =>
      let m := ((s.hostCopy a).map (fun e => e.m)).getD false
      let s := if dirty && m then s.hostBytes a (leBytes 64 data.toNat) poison else s
      let s := if x.kind = 0 then (s.dropCopy a).filterView
        else { s with tl := { s.tl with filter := s.tl.filter.map (fun (e : FilterEntry) =>
          if e.line = a then { e with m := false } else e) } }
      s.endSnoop x)

/-- SNOOP_TIMEOUT: the line counts as dropped by the host, with the memory's value. -/
def execSnoopTimeout (addr : BitVec 52) (s : State) : Host.Outcome State Fault Refusal :=
  .next (
    match s.tl.snoops.find? (fun x => x.line == addr.toNat) with
    | none => s
    | some x =>
      if s.tb < x.tb + s.fld TL_CTRL TL_CTRL.snoop_timeout_us * 100 then s
      else
        let s := (s.dropCopy x.line).filterView
        let s := (s.addSat TL_COH TL_COH.snoop_timeouts 1).addSat TL_COH TL_COH.lost_lines 1
        let s := (s.tlLog 3 0 0 x.line).linkError 0xFF 3 0 x.line
        s.endSnoop x)

/-- Watched lines that the host holds M. -/
def State.polledLines (s : State) : List Nat :=
  (s.tl.filter.filter (fun e => e.m && s.watched e.line)).map (fun e => e.line)

/-- WATCH_POLL: without LINE_WATCH, the submission line and up to 63 further watched lines that the host holds M are
snooped, in round robin. -/
def execWatchPoll (s : State) : Host.Outcome State Fault Refusal :=
  .next (
    if !s.linkActive || s.feature 0 || !s.fwUp then s
    else
      let sub := s.polledLines.filter (fun l => l == subLine)
      let rest := s.polledLines.filter (fun l => l != subLine)
      let i := if rest.isEmpty then 0 else s.tl.pollAt % rest.length
      let s := { s with tl := { s.tl with pollAt := if rest.isEmpty then 0 else (i + min 63 rest.length) % rest.length } }
      s.askLines s.readKind (sub ++ (rest.drop i ++ rest.take i).take 63))

/-! ## Completions of the module's READs (R332) -/

/-- A READ is over: its engine asks for what follows. -/
def State.readOver (s : State) (r : HostRead) : State :=
  let s := { s with tl := { s.tl with reads := s.tl.reads.filter (fun x => x.tag != r.tag) } }
  let g := r.engine / 16
  let n := r.engine % 16
  match (s.eng g n).prog.find? (fun d => d.ix == r.ix) with
  | none => s
  | some d => s.askHost g n d

/-- CPL: the data of a READ, poisoned where its flag or its status says so. -/
def execCpl (tag : BitVec 12) (status : BitVec 4) (data : BitVec 4096) (poison : Bool) (s : State) :
    Host.Outcome State Fault Refusal :=
  .next (
    if !s.linkActive then s
    else match s.tl.reads.find? (fun r => r.tag == tag.toNat) with
    | none => s
    | some r =>
      let a := hostFirst + r.addr
      let s := if status.toNat = tlOK then s.setBytes a (leBytes (64 * r.lines) data.toNat) else s
      (if status.toNat ≠ tlOK ∨ poison then s.poison a (64 * r.lines) else s).readOver r)

/-- CPL_TIMEOUT: a READ without completion completes to its requester as poisoned data. -/
def execCplTimeout (tag : BitVec 12) (s : State) : Host.Outcome State Fault Refusal :=
  .next (
    match s.tl.reads.find? (fun r => r.tag == tag.toNat) with
    | none => s
    | some r =>
      if s.tb < r.tb + s.fld TL_CTRL TL_CTRL.cpl_timeout_us * 100 then s
      else ((s.poison (hostFirst + r.addr) (64 * r.lines)).tlLog 4 0 r.tag r.addr).readOver r)

/-- TL_CREDIT: credits return, and what was held for want of them is sent (R330). -/
def execTlCredit (pw np snp : BitVec 16) (s : State) : Host.Outcome State Fault Refusal :=
  .next (
    ({ s with tl := { s.tl with creditPW := s.tl.creditPW + pw.toNat, creditNP := s.tl.creditNP + np.toNat,
                                creditSNP := s.tl.creditSNP + snp.toNat } } : State).sendHeld)

/-! ## The states of the link (R323 to R326, R339) -/

def State.tlState (s : State) : Nat := s.fld TL_STATUS TL_STATUS.state
def State.setTl (s : State) (n : Nat) : State := s.setFld TL_STATUS TL_STATUS.state n

/-- What is held for the link when it goes DOWN: posted writes are dropped and counted, the rest goes. -/
def State.dropHeld (s : State) : State :=
  let l := s.tl.held
  let s := { s with tl := { s.tl with held := [] } }
  l.foldl (fun s o => match o with
    | .write a _ => s.dropWrite a
    | .masked a _ => s.dropWrite a
    | _ => s) s

/-- Every line that the host holds counts as dropped, with the memory's value (R339). -/
def State.loseLines (s : State) : State :=
  let s := s.addSat TL_COH TL_COH.lost_lines (s.tl.filter.countP (fun e => e.m))
  let l := s.tl.snoops
  let s := { s with tl := { s.tl with filter := [], snoops := [] } }.filterView
  let s := l.foldl (fun s x => s.resume_ x.line x.waiting) s
  s.drainIn s.tl.inq

/-- The link enters DOWN with a reason. -/
def State.tlDown (s : State) (reason : Nat) : State :=
  let s := (s.setTl 6).setFld TL_STATUS TL_STATUS.down_reason reason
  let s := s.addSat TL_RECOVERY TL_RECOVERY.downs 1
  let s := { s with tl := { s.tl with downAt := s.tb, wasDown := true, viaRetrain := false } }
  let s := (s.dropHeld).loseLines
  s.abortEngines

/-- The link enters RECOVERY; the fourth time within 1 s it enters DOWN (R326). -/
def State.enterRecovery (s : State) : State :=
  let l := (s.tl.recoveryTimes.filter (fun t => decide (s.tb < t + 100000000))) ++ [s.tb]
  let s := (s.setTl 5).addSat TL_RECOVERY TL_RECOVERY.recoveries 1
  let s := { s with tl := { s.tl with recoveryTimes := l, failedReplays := 0 } }
  if l.length ≥ 4 then s.tlDown 2 else s

/-- Lane states: 1 in use, 2 unused by half width, 3 failed. -/
def State.lanesUse (s : State) (half upper : Bool) (bad : Nat) : State :=
  (List.range 32).foldl (fun s l =>
    s.setFld (TL_LANE l) TL_LANE.state
      (if bitOf bad l then 3 else if half && (decide (l ≥ 16) != upper) then 2 else 1)) s

/-- The width with some lanes failed: the half that is left, where LANE_DEGRADE allows it (R324); none where no half is. -/
def halfLeft (degrade : Bool) (bad : Nat) : Option (Bool × Bool) :=
  if bad = 0 then some (false, false)
  else if !degrade then none
  else if bits bad 0 16 = 0 then some (true, false)
  else if bits bad 16 16 = 0 then some (true, true)
  else none

/-- The link runs: ACTIVE at a width. -/
def State.tlActive (s : State) (half upper : Bool) (bad : Nat) : State :=
  let s := (s.setTl 4).setBit TL_STATUS TL_STATUS.half_width half
  let s := (s.setBit TL_STATUS TL_STATUS.upper_half upper).lanesUse half upper bad
  ({ s with tl := { s.tl with viaRetrain := false, failedReplays := 0 } } : State).sendHeld

/-- TL_REPLAY: a flit that the FEC corrects is counted on its lane; one that fails its CRC is discarded and replayed; the
eighth replay in a row that fails brings RECOVERY (R325, R326). -/
def execTlReplay (lane : Fin 32) (flit : LinkFlit) (s : State) : Host.Outcome State Fault Refusal :=
  .next (
    if !s.linkActive then s
    else match flit with
    | .corrected =>
      (s.addSat TL_FLIT_ERR TL_FLIT_ERR.fec_corrected 1).addSat (TL_LANE lane) TL_LANE.symbol_errors 1
    | .replayed =>
      let s := (s.addSat TL_FLIT_ERR TL_FLIT_ERR.crc_failed 1).addSat TL_RECOVERY TL_RECOVERY.replays 1
      { s with tl := { s.tl with failedReplays := 0 } }
    | .failed =>
      let s := (s.addSat TL_FLIT_ERR TL_FLIT_ERR.crc_failed 1).addSat TL_RECOVERY TL_RECOVERY.replays 1
      let n := s.tl.failedReplays + 1
      if n ≥ 8 then s.enterRecovery else { s with tl := { s.tl with failedReplays := n } })

/-- TL_RECOVERY: an ACTIVE link that has lost block lock enters RECOVERY, and RECOVERY ends: ACTIVE again with what was
queued sent, on half the lanes where some have failed; DOWN where it is late or has no lanes left (R323, R324, R326). -/
def execTlRecovery (late : Bool) (badLanes : BitVec 32) (s : State) : Host.Outcome State Fault Refusal :=
  let s := if s.linkActive then s.enterRecovery else s
  let old := (List.range 32).foldl (fun n l => if s.fld (TL_LANE l) TL_LANE.state = 3 then n ||| 2 ^ l else n) 0
  let bad := if s.tl.viaRetrain then badLanes.toNat else badLanes.toNat ||| old
  .next (
    if s.tlState ≠ 5 then s
    else if late then s.tlDown 2
    else match halfLeft (s.feature 2) bad with
    | none => s.tlDown 4
    | some (h, u) =>
      if !s.tl.viaRetrain && s.bit TL_STATUS TL_STATUS.half_width && !h then
        s.tlActive true (s.bit TL_STATUS TL_STATUS.upper_half) bad
      else s.tlActive h u bad)

/-- The highest version in a bitmap of common versions: 0 1.0, 1 1.1, 2 2.0. -/
def topVersion (common : Nat) : Option Nat :=
  if bitOf common 2 then some 2 else if bitOf common 1 then some 1 else if bitOf common 0 then some 0 else none

/-- The features that exist in a version, as the bits of TL_FEATURES (R337). -/
def featuresOf (version : Nat) : Nat := match version with
  | 0 => 0
  | 1 => 0b00111
  | _ => 0b11111

/-- What training finds of the lanes. -/
def State.laneTraining (s : State) (x : TlTrain) : State :=
  let got := s.drawList 32 8
  let eyes := got.1
  let s := got.2
  let s := s.setBit TL_STATUS TL_STATUS.reversed x.reversed
  ((List.range 32).zip eyes).foldl (fun s e =>
    let a := TL_LANE e.1
    let s := s.setBit a TL_LANE.inverted (bitOf x.inverted.toNat e.1)
    let s := s.setFld a TL_LANE.logical (if x.reversed then 31 - e.1 else e.1)
    s.setFld a TL_LANE.eye_mv e.2) s

/-- TL_TRAINING: the link trains from DETECT to ACTIVE, negotiating version and features in CAPS, or enters DOWN. -/
def execTlTraining (x : TlTrain) (s : State) : Host.Outcome State Fault Refusal :=
  .next (
    if s.tlState ≥ 4 ∨ !s.trainsTreup then s
    else if x.fails then s.tlDown 1
    else
      let s := s.laneTraining x
      let s := s.setFld TL_STATUS TL_STATUS.partner_versions x.versions.toNat
      match topVersion (x.versions.toNat &&& s.fld TL_ID TL_ID.versions) with
      | none => s.tlDown 3
      | some v =>
        let f := x.features.toNat &&& featuresOf v
        match halfLeft (bitOf f 2) x.badLanes.toNat with
        | none => s.tlDown 4
        | some (h, u) =>
          let s := s.setFld TL_STATUS TL_STATUS.version v
          let s := s.setFld TL_FEATURES TL_FEATURES.enabled f
          let s := s.setFld TL_FEATURES TL_FEATURES.max_tags (min 4096 x.maxTags.toNat)
          let s := s.setFld TL_FEATURES TL_FEATURES.max_lines (min 8 x.maxLines.toNat)
          let s := s.setFld TL_STATUS TL_STATUS.down_reason 0
          let was := s.tl.wasDown
          let s := { s with tl := { s.tl with creditPW := x.pw.toNat, creditNP := x.np.toNat, creditSNP := x.snp.toNat,
                                              wasDown := false } }
          let s := s.tlActive h u x.badLanes.toNat
          if was && s.fwUp then
            s.event 0x000C 0xFF (fieldsFrom 0 [(1, 0xFF), (1, v), (4, s.fld TL_COH TL_COH.lost_lines)])
          else s.mailboxUp)

/-- TL_DOWN: RECOVERY has exceeded its limit, or a lane of a running link has failed beyond LANE_DEGRADE, or training has
failed. -/
def execTlDown (s : State) : Host.Outcome State Fault Refusal :=
  .next (
    if s.tlState = 6 then s
    else if s.tlState = 5 then s.tlDown 2
    else if s.tlState = 4 then s.tlDown 4
    else s.tlDown 1)

/-- TL_DOWN_RETRY: a DOWN link trains again after down_retry_ms. -/
def execTlDownRetry (s : State) : Host.Outcome State Fault Refusal :=
  .next (if s.tlState = 6 ∧ s.tb ≥ s.tl.downAt + s.fld TL_CTRL TL_CTRL.down_retry_ms * 100000 then s.setTl 0 else s)

/-- The retrain bit: an ACTIVE link enters RECOVERY, from which it returns at full width; a DOWN link trains. -/
def State.retrain (s : State) : State :=
  if s.tlState = 4 then ({ s with tl := { s.tl with viaRetrain := true } } : State).enterRecovery
  else if s.tlState = 6 then s.setTl 0
  else s

/-- RETRAIN. -/
def execRetrain (s : State) : Host.Outcome State Fault Refusal := .next s.retrain

/-- FULL_TRAIN: the link trains from DETECT, with CAPS. -/
def execFullTrain (s : State) : Host.Outcome State Fault Refusal := .next (s.setTl 0)

end Sys2Proof.Machine
end

