-- ==== Sys2Proof/Machine/ExtMem.lean ====
section
/-! DEFINITION. Machine/ExtMem.lean: HBM3E and LPDDR5X: errors and repairs, allocations, XTS ranges and the memory and
transfer commands (R300 to R321, R353, R402). -/
namespace Sys2Proof.Machine

/-! ## Errors at the controllers (R303, R305, R307, R321) -/

/-- Ticks of an hour and of a day of the timebase. -/
def hourTicks : Nat := 3600 * 100000000
def dayTicks : Nat := 24 * hourTicks

def State.mc (s : State) (k : Nat) : MemCtl := tget {} s.mctl k
def State.setMc (s : State) (k : Nat) (x : MemCtl) : State := { s with mctl := tset {} s.mctl k x }

/-- The device address of offset `o` of HBM stack `i` (R301). -/
def State.hbmAddr (s : State) (i o : Nat) : Nat :=
  if s.bit HBM_ILV HBM_ILV.mode then i * stackBytes + o else (o / 4096) * 2 ^ 15 + i * 4096 + o % 4096

/-- The device address of offset `o` of LPDDR5X controller `n` (R306). -/
def lpAddr (n o : Nat) : Nat := lpFirst + (n / 4) * 2 ^ 39 + (o / 4096) * 2 ^ 14 + (n % 4) * 4096 + o % 4096

/-- Correctable errors of controller `k` are counted, and those of the hour (R321). -/
def State.countCe (s : State) (k n : Nat) : State :=
  let s := if k < 8 then s.addSat (HBM_ECC k) HBM_ECC.corrected n else s.addSat (LP_ECC (k - 8)) LP_ECC.corrected n
  let x := s.mc k
  if s.tb < x.hourFrom + hourTicks then s.setMc k { x with count := x.count + n }
  else s.setMc k { x with hourFrom := s.tb, count := n, raised := false }

/-- A row of a stack is repaired by soft post-package repair, or its 2 MiB page is retired where the stack has no repair
left (R305). -/
def State.repairHbm (s : State) (i row addr : Nat) (spare : Bool) : State :=
  if spare then
    ({ s with store := { s.store with hbmRepairs := s.store.hbmRepairs ++ [(i, row)] } } : State).addSat (HBM_STATUS i)
      HBM_STATUS.sppr_done 1
  else
    let page := addr - addr % 2 ^ 21
    if s.store.retired.contains page then s
    else ({ s with store := { s.store with retired := s.store.retired ++ [page] } } : State).addSat (HBM_STATUS i)
      HBM_STATUS.pages_retired 1

/-- A correctable event of a row of a stack: the second within 24 h repairs the row. -/
def State.rowEvent (s : State) (i row addr : Nat) (spare : Bool) : State :=
  let x := s.mc i
  let rest := x.rows.filter (fun e => e.1 != row)
  match x.rows.find? (fun e => e.1 == row && decide (s.tb < e.2 + dayTicks)) with
  | some _ => (s.setMc i { x with rows := rest }).repairHbm i row addr spare
  | none => s.setMc i { x with rows := rest ++ [(row, s.tb)] }

/-- An uncorrectable error is counted, logged and raised (R321); which requester met it is left open. -/
def State.memUe (s : State) (k o addr source : Nat) : State :=
  let got := s.draw 8
  let who := got.1
  let s := got.2
  let s := if k < 8 then
      let s := s.addSat (HBM_ECC k) HBM_ECC.uncorrected 1
      s.logOnce (HBM_ECC_LOG k) (HBM_ECC_TIME k) HBM_ECC_LOG.held
        (o % 2 ^ 37 + bits o 8 4 * 2 ^ 37 + bits o 7 1 * 2 ^ 41 + source * 2 ^ 42)
    else
      let n := k - 8
      let got := s.draw 1
      let rank := got.1
      let s := got.2
      let s := s.addSat (LP_ECC n) LP_ECC.uncorrected 1
      s.logOnce (LP_ECC_LOG n) (LP_ECC_TIME n) LP_ECC_LOG.held (addr % 2 ^ 40 + bits addr 6 2 * 2 ^ 40 + rank * 2 ^ 42)
  s.event 0x0009 0xFF (fieldsFrom 0 [(1, if k < 8 then 0 else 1), (1, k % 8), (1, who), (8, addr)])

/-- The codewords of `mask` in the word at `a` become uncorrectable. -/
def State.loseWords (s : State) (a mask : Nat) : State := { s with ue := tset 0 s.ue a (tget 0 s.ue a ||| mask) }

/-- CONTROLLER_PATROL_SCRUB: controller `k` (0 to 7 the HBM stacks, 8 to 15 LPDDR5X) reads the 64-byte line at offset
`line` × 64, which lies in row `row` of its fixed map; `spare` says whether the stack has a repair left. -/
def execControllerPatrolScrub (k : Fin 16) (line : Fin 0x80000000) (row : BitVec 32) (spare : Bool) (ecc : EccEvent) (s : State) :
    Host.Outcome State Fault Refusal :=
  let o := line.val * 64
  let hbm := decide (k.val < 8)
  let up := if hbm then s.fld (HBM_STATUS k) HBM_STATUS.state = 1 ∧ o < stackBytes else s.fld (LP_STATUS (k.val - 8)) LP_STATUS.state = 1
  let a := if hbm then s.hbmAddr k o else lpAddr (k.val - 8) o
  .next (
    if ¬ up then s
    else match ecc with
    | .none => s
    | .ce =>
      let s := s.countCe k 1
      if hbm then s.rowEvent k row.toNat a spare else s
    | .ue m =>
      if m = 0 then s
      else
        let s := (s.loseWords a m.toNat).memUe k o a 1
        if hbm then s.repairHbm k row.toNat a spare else s)

/-- HBM_ECS_POLL: the controller of stack `i` reads `count` corrections and, where it logs one, an uncorrectable line. -/
def execHbmEcsPoll (i : Fin 8) (count : BitVec 32) (bad : Option (Fin 0x50000000)) (s : State) : Host.Outcome State Fault Refusal :=
  .next (
    if s.fld (HBM_STATUS i) HBM_STATUS.state ≠ 1 ∧ s.fld (HBM_STATUS i) HBM_STATUS.state ≠ 2 then s
    else
      let s := if count = 0 then s else s.countCe i count.toNat
      match bad with
      | none => s
      | some l =>
        let o := l.val * 64
        (s.loseWords (s.hbmAddr i o) 0xFF).memUe i o (s.hbmAddr i o) 2)

/-- MEM_CE_RATE: one event for a controller with more than 1,000 correctable errors in one hour. -/
def execMemCeRate (k : Fin 16) (s : State) : Host.Outcome State Fault Refusal :=
  let x := s.mc k
  .next (
    if x.count > 1000 ∧ !x.raised then
      (s.setMc k { x with raised := true }).event 0x000A 0xFF
        (fieldsFrom 0 [(1, if k.val < 8 then 0 else 1), (1, k.val % 8), (4, x.count)])
    else s)

/-! ## Allocations (R310, R311) -/

def pageBytes : Nat := 0x200000

/-- First address behind HBM. -/
def hbmEnd : Nat := 0x00A000000000

/-- Ranges of HBM that are not allocated: retired pages and the ranges of failed stacks (R302, R305). -/
def State.hbmHoles (s : State) : List (Nat × Nat) :=
  s.store.retired.map (fun p => (p, pageBytes)) ++
    ((List.range 8).filter (fun i => bitOf (s.fld HBM_ILV HBM_ILV.failed) i)).map (fun i => (i * stackBytes, stackBytes))

/-- The lowest page-aligned range of `n` bytes in [lo, hi) that meets none of `taken`. -/
def lowestFit (lo hi n : Nat) (taken : List (Nat × Nat)) : Option Nat :=
  let starts := lo :: taken.map (fun x => roundUp (x.1 + x.2) pageBytes)
  let ok := starts.filter (fun a => decide (lo ≤ a ∧ a + n ≤ hi) && !taken.any (fun x => sharesByte (a, n) x))
  ok.foldl (fun (b : Option Nat) a => some (min a (b.getD a))) none

/-- First and last address of a kind of memory that is allocated: 0 HBM, 1 and 2 the halves of LPDDR5X (R310). -/
def kindSpan (kind : Nat) : Nat × Nat :=
  match kind with
  | 0 => (0, hbmEnd)
  | 1 => (lpFirst + 2 ^ 30, lpFirst + 2 ^ 39)
  | _ => (lpFirst + 2 ^ 39, lpFirst + 2 ^ 40)

/-- Where `n` bytes of a kind of memory are allocated. -/
def State.findSpace (s : State) (kind n : Nat) : Option Nat :=
  let taken := s.allocs.map (fun x => (x.addr, x.bytes)) ++ s.hbmHoles
  lowestFit (kindSpan kind).1 (kindSpan kind).2 n taken

/-! ## XTS ranges (R308, R402) -/

/-- Ranges of a half of LPDDR5X that a context's XTS key covers: its allocations without host bits, but for the stream
areas that the host reaches. -/
def State.xtsRanges (s : State) (c half : Nat) : List (Nat × Nat) :=
  let lo := lpFirst + half * 2 ^ 39
  let hi := lpFirst + (half + 1) * 2 ^ 39
  ((s.allocsOf c).filter (fun x => x.range.isNone && decide (lo ≤ x.addr ∧ x.addr < hi))).flatMap
    (fun x => minusAll (x.addr, x.bytes) (s.streamAreas c))

/-- Whether the allocations of a context fit in 4 ranges of each controller. -/
def State.xtsFits (s : State) (c : Nat) : Bool :=
  decide ((s.xtsRanges c 0).length ≤ 4) && decide ((s.xtsRanges c 1).length ≤ 4)

/-- The ranges 4c to 4c + 3 of every LPDDR5X controller follow the allocations of context `c`; with no key they are free. -/
def State.setXts (s : State) (c : Nat) : State :=
  let k := SEC_CTX_KEYS c
  let on := s.bit k SEC_CTX_KEYS.xts_valid
  (List.range 8).foldl (fun s n =>
    let l := if on then s.xtsRanges c (n / 4) else []
    (List.range 4).foldl (fun s i =>
      let b := LP_XTS_RANGE_BASE n (4 * c + i)
      let e := LP_XTS_RANGE_LIMIT n (4 * c + i)
      match l[i]? with
      | none => (s.setReg b 0).setReg e 0
      | some (a, len) =>
        let s := s.setReg b (BitVec.ofNat 64 ((a - lpFirst) / 4096))
        s.setReg e (BitVec.ofNat 64 ((a - lpFirst + len - 1) / 4096 + s.fld k SEC_CTX_KEYS.xts_slot * 2 ^ 28 + 2 ^ 33))) s) s

/-- As `setXts` for a confidential context. -/
def State.followXts (s : State) (c : Nat) : State := if c < 16 ∧ s.isConf c then s.setXts c else s

/-! ## The memory commands (R353) -/

/-- `s` with an allocation more; none where a confidential owner has no key range left for it. -/
def State.openAlloc (s : State) (owner : Nat) (x : Alloc) : Option State :=
  let s := { s with allocs := s.allocs ++ [x] }
  if decide (owner < 16) && s.isConf owner && !s.xtsFits owner then none else some (s.followXts owner)

/-- MEM_ALLOC. -/
def execMemAlloc (h : CmdHdr) (kind host : BitVec 8) (pages : BitVec 32) (s : State) : Host.Outcome State Fault Refusal :=
  let ok := decide (kind.toNat ≤ 2) && decide (host.toNat < 8) && decide (pages ≠ 0)
  .next (s.command h { op := 0x0401, need := .orDevice } ok (fun c s =>
    let owner := if c.ctx = 0xFF then 16 else c.ctx
    let n := pages.toNat * pageBytes
    match s.findSpace kind.toNat n with
    | none => s.reply c stNO_MEMORY 0
    | some a =>
      if host = 0 then
        (s.openAlloc owner { addr := a, bytes := n, owner := owner }).elim (s.reply c stNO_MEMORY 0) (fun t => t.ok c [(8, a)])
      else match s.freeRange 64 128 with
        | none => s.reply c stBUSY 0
        | some r =>
          let hb := host.toNat
          let x : Alloc := { addr := a, bytes := n, owner := owner, range := some r }
          let t := { s with allocs := s.allocs ++ [x] }
          (t.openAs r a n (bitOf hb 0) (bitOf hb 1) (bitOf hb 2)).ok c [(8, a)]))

/-- MEM_FREE: the allocations that CTX_CREATE made are not freed so. -/
def execMemFree (h : CmdHdr) (address : BitVec 64) (s : State) : Host.Outcome State Fault Refusal :=
  .next (s.command h { op := 0x0402 } true (fun c s =>
    match s.allocs.find? (fun x => x.addr == address.toNat && !x.created) with
    | none => s.reply c stBAD_PARAM 0
    | some x =>
      let s := if x.owner < 16 ∧ s.isConf x.owner then s.zeroRange x.addr x.bytes else s
      let s := match x.range with
        | some r => s.closeRange r
        | none => s
      (({ s with allocs := s.allocs.erase x } : State).followXts x.owner).ok c []))

/-- Whether a ring lies in the lower half of LPDDR5X within the allocations of its user. -/
def State.ringOk (s : State) (owner a n : Nat) : Bool :=
  decide (lpFirst ≤ a) && decide (a + n ≤ lpFirst + 2 ^ 39) && covered (a, n) ((s.allocsOf owner).map (fun x => (x.addr, x.bytes)))

/-- XE_ASSIGN: the rings of the engine start at index 0. -/
def execXeAssign (h : CmdHdr) (engine ringLog2 cplLog2 : BitVec 8) (ring cpl : BitVec 64) (s : State) :
    Host.Outcome State Fault Refusal :=
  let rl := ringLog2.toNat
  let cl := cplLog2.toNat
  let g := engine.toNat / 16
  let n := engine.toNat % 16
  let ok := decide (engine.toNat < 32) && decide (n ≥ 8) && decide (6 ≤ rl ∧ rl ≤ 16) && decide (6 ≤ cl ∧ cl ≤ 16) &&
    decide (ring.toNat % 4096 = 0) && decide (cpl.toNat % 4096 = 0)
  .next (s.command h { op := 0x0403, need := .orDevice } ok (fun c s =>
    let owner := if c.ctx = 0xFF then 16 else c.ctx
    if !s.bit (XE_ENG_STATUS g n) XE_ENG_STATUS.halted then s.reply c stWRONG_STATE 0
    else if !(s.ringOk owner ring.toNat (128 + 2 ^ rl * 64) && s.ringOk owner cpl.toNat (128 + 2 ^ cl * 32)) then s.reply c stACCESS 0
    else
      let a := XE_ENG_CFG g n
      let s := (s.setBit a XE_ENG_CFG.assigned true).setBit a XE_ENG_CFG.device_use (owner == 16)
      let s := s.setFld a XE_ENG_CFG.ctx (if owner = 16 then 0 else owner)
      let s := s.setReg (XE_ENG_RING g n) (BitVec.ofNat 64 (ring.toNat + rl * 2 ^ 52))
      let s := s.setReg (XE_ENG_CPL g n) (BitVec.ofNat 64 (cpl.toNat + cl * 2 ^ 52))
      let s := (s.setEng g n { last := (s.eng g n).last }).engView g n
      ((s.putNum (ring.toNat + 64) 8 0).putNum cpl.toNat 8 0).ok c []))

/-- Engines that XE_STOP and XE_RESUME may name. -/
def hostEngine (e : Nat) : Bool := decide (e < 32) && decide (e % 16 ≥ 8)

/-- XE_STOP: replies when the engine has stopped. -/
def execXeStop (h : CmdHdr) (engine : BitVec 8) (s : State) : Host.Outcome State Fault Refusal :=
  let e := engine.toNat
  .next (s.command h { op := 0x0404, forms := true } (hostEngine e) (fun c s =>
    if s.bit (XE_ENG_STATUS (e / 16) (e % 16)) XE_ENG_STATUS.halted then s.okForm c c.form [(4, 0)]
    else ((s.await c e 0).xeHalt (e / 16) (e % 16) c.form)))

/-- XE_RESUME: an engine that has not stopped is in the wrong state. -/
def execXeResume (h : CmdHdr) (engine : BitVec 8) (s : State) : Host.Outcome State Fault Refusal :=
  let e := engine.toNat
  .next (s.command h { op := 0x0405 } (hostEngine e) (fun c s =>
    if !s.bit (XE_ENG_STATUS (e / 16) (e % 16)) XE_ENG_STATUS.halted then s.reply c stWRONG_STATE 0
    else (s.xeResume (e / 16) (e % 16)).ok c []))

/-- Free bytes of a kind of memory. -/
def State.freeBytes (s : State) (kind : Nat) : Nat :=
  let got := kindSpan kind
  let lo := got.1
  let hi := got.2
  let mine := (s.allocs.filter (fun x => decide (lo ≤ x.addr ∧ x.addr < hi))).map (fun x => (x.addr, x.bytes))
  ((minusAll (lo, hi - lo) (mine ++ (if kind = 0 then s.hbmHoles else []))).map (fun x => x.2)).sum

/-- MEM_QUERY. -/
def execMemQuery (h : CmdHdr) (s : State) : Host.Outcome State Fault Refusal :=
  .next (s.command h { op := 0x0406 } true (fun c s =>
    s.ok c [(4, s.freeBytes 0 / 2 ^ 20), (4, (s.freeBytes 1 + s.freeBytes 2) / 2 ^ 20), (4, s.store.retired.length),
            (1, s.fld HBM_ILV HBM_ILV.mode)]))

end Sys2Proof.Machine
end

