-- ==== Sys2Proof/Machine/Testing.lean ====
section
/-! DEFINITION. Machine/Testing.lean: the rotation test (R273 to R280), retests (R264), the loupe (R290 to R294), and the
health commands of the opcode tables (R353). -/
namespace Sys2Proof.Machine

/-! ## What a test may do -/

/-- Whether router BIST can run on tile `p`: every route of a running context through its router has an alternate at the
router before it (R276). -/
def State.bistOk (s : State) (p : Nat) : Bool :=
  (List.range 16).all (fun c => s.cState c != 4 || (s.ctx c).paths.all (fun e =>
    e.1 == 0x10000 + p || !e.2.2.contains p ||
      (e.2.2.head? != some p && e.2.2.all (fun q =>
        let a := RT_ENTRY q e.2.1
        let o := s.fld a RT_ENTRY.primary
        !(decide (o < 4) && neighbour q o == p) || s.fld a RT_ENTRY.alternate != o))))

/-- The placed virtual tile that tile `p` holds: its context and number. -/
def State.workOn (s : State) (p : Nat) : Option (Nat × Nat) :=
  (s.lease p).bind (fun c => (s.placedOn c p).map (fun v => (c, v)))

/-- Whether a context's work may be moved for a test: loaded, and no heal window open. -/
def State.mayMove (s : State) (c : Nat) : Bool :=
  decide (3 ≤ s.cState c) && decide (s.cState c ≤ 6) && !s.bit (SCU_STR_STATE c) SCU_STR_STATE.heal_open

/-- Empties tile `p` of its work by a planned migration onto a free reserve: where the work went, and the state. -/
def State.emptyTile (s : State) (c v p : Nat) : Option (Moved × State) :=
  (s.healTarget c v true).bind (fun t => (s.migrate c v p t false).map (fun s => (⟨c, v, t⟩, s)))

/-- Tile `p` is under test. -/
def State.underTest (s : State) (p set_ : Nat) (skip : Bool) : State :=
  (s.setHealth p HLTH_TILE.in_test 1).testStart p set_ skip

/-! ## The order of the rotation test (R273) -/

/-- Tiles that are not FENCED, in the order of R273. -/
def State.rotationOrder (s : State) : List Nat :=
  let l := (List.range 256).filter (fun p => s.hState p != 3 && !s.bit (HLTH_TILE p) HLTH_TILE.in_test)
  let old := l.filter (fun p => s.hState p != 0)
  l.filter (fun p => s.hState p == 0) ++ sortBy (fun p => s.ageFrom p) old

/-- Whether the rotation test skips a tile: its context has no free reserve, its admitted classes would not fit with the
virtual tile displaced, or its work may not be moved now. -/
def State.skips (s : State) (p : Nat) : Bool :=
  match s.lease p with
  | none => false
  | some c =>
    if s.cState c = 2 then true
    else match s.placedOn c p with
      | none => false
      | some v =>
        !s.mayMove c || (s.freeReserves c).isEmpty ||
          (s.openSlots c).any (fun k => !s.classFits c (s.slotOf c k).cls [v])

/-- Starts the rotation test on tile `p`: none where its work cannot be moved. -/
def State.rotate (s : State) (p : Nat) : Option State :=
  let skip := !s.bistOk p
  let go := fun (m : Option Moved) (s : State) =>
    let s := { s with health := { s.health with rotation := some { tile := p, skipRouter := skip, moved := m } } }
    let s := (s.setFld HLTH_ROT_STATUS HLTH_ROT_STATUS.tile p).setBit HLTH_ROT_STATUS HLTH_ROT_STATUS.active true
    s.underTest p 0 skip
  match s.workOn p with
  | none => some (go none s)
  | some (c, v) => (s.emptyTile c v p).map (fun x => go (some x.1) x.2)

/-- ROTATION_SCHEDULE: the next tile in order that is not skipped goes under test, while the rotation test is enabled, not
paused and not held by the loupe, and no test of it is in progress. -/
def execRotationSchedule (s : State) : Host.Outcome State Fault Refusal :=
  .next (
    if !s.fwUp || !s.bit HLTH_CFG HLTH_CFG.rotation_en || s.bit HLTH_CFG HLTH_CFG.paused || !s.health.loupe.isEmpty ||
        s.health.rotation.isSome then s
    else
      let l := s.rotationOrder
      let s := (s.setFld HLTH_ROT_STATUS HLTH_ROT_STATUS.skipped (min 255 (l.countP (fun p => s.skips p)))).oldestView
      ((l.filter (fun p => !s.skips p)).findSome? (fun p => s.rotate p)).getD s)

/-! ## The loupe queue (R291) -/

/-- Starts the test of a queued tile, which holds no work. -/
def State.loupeGo (s : State) (x : LoupeTile) (m : Option Moved) : State :=
  let skip := !s.bistOk x.tile
  let y := { x with running := true, skipRouter := skip, moved := m, tb := s.tb }
  (({ s with health := { s.health with loupe := s.health.loupe.map (fun z => if z = x then y else z) } } : State).loupeView).underTest
    x.tile 1 skip

/-- Firmware takes up a queued tile: none where it is passed over. -/
def State.loupeTry (s : State) (x : LoupeTile) : Option State :=
  let p := x.tile
  if s.health.loupe.any (fun y => y.running && y.tile == p) then none
  else if x.retest then
    if s.hState p ≠ 3 ∨ s.bit (HLTH_TILE p) HLTH_TILE.permanent then some (s.loupeOut x)
    else if s.lease p = none then some (s.loupeGo x none) else none
  else if s.hState p = 3 then some (s.loupeResult x 4 0 0 false)
  else
    let s := s.abandonTest p
    match s.workOn p with
    | none => some (s.loupeGo x none)
    | some (c, v) =>
      if !s.mayMove c || s.health.loupe.any (fun y => y.running && (y.moved.map (fun m => m.ctx)) == some c) then none
      else match s.emptyTile c v p with
        | none => some (s.loupeResult x 3 0 0 false)
        | some (m, s) => some (s.loupeGo x (some m))

/-- LOUPE_START: the first queued tile that can be taken up, while fewer than four are under test. -/
def execLoupeStart (s : State) : Host.Outcome State Fault Refusal :=
  .next (
    if !s.fwUp || decide (s.health.loupe.countP (fun x => x.running) ≥ 4) then s
    else ((s.health.loupe.filter (fun x => !x.running)).findSome? (fun x => s.loupeTry x)).getD s)

/-! ## The end of a test (R264, R277, R293) -/

/-- Drains of the rotation test and of the loupe that wait for tests in progress are answered once none is left (R280,
R294). -/
def State.testsDone (s : State) (aborted : Bool) : State :=
  let form := if aborted then 2 else 0
  let s := if s.health.rotation.isNone then
      s.complete (fun w => w.op == 0x0504) (fun s w => s.okForm w.cmd form [])
    else s
  if s.health.loupe.any (fun x => x.running && !x.retest) then s
  else s.complete (fun w => w.op == 0x0503) (fun s w => s.okForm w.cmd form [(1, w.arg)])

/-- A tile has passed a test: its record, and the last-pass time where router BIST ran. -/
def State.passed (s : State) (p : Nat) (skip : Bool) : State :=
  let s := (s.passTile p).setHealth p HLTH_TILE.in_test 0
  if skip then s
  else
    let s := s.setReg (HLTH_TILE_PASS p) (BitVec.ofNat 64 s.tb)
    { s with health := { s.health with overdue := s.health.overdue.filter (fun q => q != p) } }

/-- Whether a condition of R256 leaves virtual tile `v` of context `c` in place on tile `p`: no blocked range meets one of
its regions. -/
def State.mayReturn (s : State) (p c v : Nat) : Bool :=
  !(s.health.blocked.any (fun b => b.1 == p && (s.ctx c).plate.regions.any (fun r => r.vtile == v && r.fld RGN_CFG.mode != 0 &&
    meets (b.2 * 0x10000) 0x10000 (r.fld RGN_CFG.base_4k * 4096) (r.fld RGN_CFG.size_4k * 4096))))

/-- The work that a test moved off tile `p` returns, or stays where a condition keeps it away; the reserve that it stands on
is then replaced (R271, R277). -/
def State.afterPass (s : State) (p : Nat) (m : Option Moved) : State :=
  match m with
  | none => if s.lease p = none then s.replenishAll else s
  | some m =>
    if s.mayReturn p m.ctx m.vtile then s.returnWork m p
    else
      let s := ((s.freePath m.ctx (0x10000 + p)).rebudget m.ctx).leaveLease p (s.isConf m.ctx)
      (s.recheck m.ctx).replenish m.ctx (s.ctx m.ctx).plate.reserveTiles

/-- A failed tile's work stays on its target, and its context's reserves are restored (R270, R271). -/
def State.afterFail (s : State) (m : Option Moved) : State :=
  match m with
  | none => s
  | some m => (s.recheck m.ctx).replenish m.ctx (s.ctx m.ctx).plate.reserveTiles

/-- What the test found of the vector lane groups: a first bad group is disabled, a second fails the tile (R256). -/
def State.outcomeOf (s : State) (p : Nat) (o : TestOutcome) : State × Option (Nat × Nat) :=
  match o with
  | .pass => (s, none)
  | .fail part ix => (s, some (part, ix.toNat))
  | .laneGroup g =>
    let old := s.fld (HLTH_TILE p) HLTH_TILE.vsp_group
    if old = 0xF ∨ old = g then ((s.setHealth p HLTH_TILE.vsp_group g).lanesView p, none) else (s, some (2, g))

/-- The cause of a failed test: a second lane group has its own. -/
def failCause (o : TestOutcome) (cause : Nat) : Nat :=
  match o with
  | .laneGroup _ => 0x0C
  | _ => cause

/-- The rotation test of tile `p` has ended. -/
def State.rotationDone (s : State) (r : Rotation) (o : TestOutcome) : State :=
  let p := r.tile
  let s := { s with health := { s.health with rotation := none } }
  let s := (s.setBit HLTH_ROT_STATUS HLTH_ROT_STATUS.active false).setBit HLTH_ROT_STATUS HLTH_ROT_STATUS.router_bist_skipped r.skipRouter
  match s.outcomeOf p o with
  | (s, none) => (((s.passed p r.skipRouter).addSat HLTH_ROT_STATUS HLTH_ROT_STATUS.passes 1).publish).afterPass p r.moved
  | (s, some _) => (s.fenceRecord p (failCause o 0x08) (failCause o 0x08 == 0x08) s.tb).afterFail r.moved

/-- A loupe test has ended. -/
def State.loupeDone (s : State) (x : LoupeTile) (o : TestOutcome) : State :=
  let p := x.tile
  match s.outcomeOf p o with
  | (s, none) =>
    let s := s.passed p x.skipRouter
    (s.loupeResult x (if s.hState p = 1 then 0 else 1) 0 0 x.skipRouter).afterPass p x.moved
  | (s, some (part, ix)) =>
    let s := (s.loupeOut x).fenceRecord p (failCause o 0x09) (failCause o 0x09 == 0x09) s.tb
    (s.loupeNote x 2 part ix x.skipRouter (s.fld HLTH_ID HLTH_ID.generation)).afterFail x.moved

/-- A retest has ended: the tile returns to service in one published change, or stays FENCED for good. -/
def State.retestDone (s : State) (x : LoupeTile) (o : TestOutcome) : State :=
  let p := x.tile
  let s := s.loupeOut x
  match s.outcomeOf p o with
  | (s, none) =>
    let s := ((s.passed p x.skipRouter).setHealth p HLTH_TILE.cause 0).addSat (HLTH_TILE p) HLTH_TILE.retests 1
    let s := { s with health := { s.health with retested := tset 0 s.health.retested p (s.tb + 1) } }
    ((s.unfenceTile p).publish).replenishAll
  | (s, some _) => ((s.recordFence p 0x0B true).setHealth p HLTH_TILE.in_test 0).publish

/-- TILE_TEST_DONE: the test of tile `p` ends with an outcome. -/
def execTileTestDone (p : Tile) (outcome : TestOutcome) (s : State) : Host.Outcome State Fault Refusal :=
  .next (
    if !s.bit (TILE_TEST_STATUS p) TILE_TEST_STATUS.busy then s
    else
      let s := s.resetTested p
      let got := match outcome with
        | .pass => (true, 4, 0)
        | .fail part ix => (false, part.val, ix.toNat)
        | .laneGroup g => (s.fld (HLTH_TILE p) HLTH_TILE.vsp_group == 0xF, 2, g.val)
      let ok := got.1
      let part := got.2.1
      let ix := got.2.2
      let s := s.setReg (TILE_TEST_STATUS p) (BitVec.ofNat 64 (b2n ok * 2 + 4 + part * 8 + ix * 256))
      match s.health.rotation.bind (fun r => if r.tile = p then some r else none) with
      | some r => ((s.rotationDone r outcome).oldestView).testsDone false
      | none =>
        match s.health.loupe.find? (fun x => x.tile == p.val && x.running) with
        | some x => ((if x.retest then s.retestDone x outcome else s.loupeDone x outcome).oldestView).testsDone false
        | none => s)

/-! ## Test age (R279) -/

/-- TEST_OVERDUE: every tile whose age exceeds the limit raises its event once, and is fenced where age_action says so. -/
def execTestOverdue (s : State) : Host.Outcome State Fault Refusal :=
  let limit := s.fld HLTH_CFG HLTH_CFG.test_age_limit_h * 360000000000
  .next (
    if !s.fwUp then s
    else (List.range 256).foldl (fun s p =>
      if s.hState p = 3 ∨ s.health.overdue.contains p ∨ s.tb - s.ageFrom p ≤ limit then s
      else
        let s := { s with health := { s.health with overdue := s.health.overdue ++ [p] } }
        let s := s.event 0x0007 0xFF (fieldsFrom 0 [(1, p), (8, (s.tb - s.ageFrom p) / 100000)])
        if s.bit HLTH_CFG HLTH_CFG.age_action then s.fenceRecord p 0x0E false s.tb else s) s.oldestView)

/-! ## Commands (R353) -/

/-- The registers of a table as bytes. -/
def State.image (s : State) (n : Nat) (a : Nat → Nat) : List Byte := (List.range n).flatMap (fun i => leBytes 8 (s.reg (a i)).toNat)

/-- The image that HEALTH_READ writes. -/
def State.healthImage (s : State) : List Byte :=
  leBytes 4 (s.fld HLTH_ID HLTH_ID.generation) ++ List.replicate 60 0 ++ s.image 256 HLTH_TILE ++ s.image 256 HLTH_TILE_PASS ++
    s.image 256 HLTH_PORT ++ s.image 24 HLTH_BRIDGE ++ s.image 48 HLTH_LANE ++ s.image 2048 (fun i => HLTH_REMAP (i / 8) (i % 8))

/-- HEALTH_READ: the map's image goes to a host buffer. -/
def execHealthRead (h : CmdHdr) (buffer : BitVec 64) (s : State) : Host.Outcome State Fault Refusal :=
  .next (s.command h { op := 0x0501, served := true } (buffer.toNat % 64 == 0) (fun c s =>
    if !inHost buffer.toNat 23168 then s.reply c stACCESS 0
    else (s.hostPut buffer.toNat s.healthImage).ok c [(4, s.fld HLTH_ID HLTH_ID.generation), (4, 23168)]))

/-- The tiles that a LOUPE_REQUEST names: none for a bad virtual tile or region. -/
def State.loupeTiles (s : State) (c sel count vtile region tiles : Nat) : Option (List Nat) :=
  match sel with
  | 0 => if count = 0 ∨ count > 16 then none else some ((List.range count).map (fun i => bits tiles (8 * i) 8))
  | 1 => (s.placed c vtile).map (fun p => [p])
  | 2 => (s.placed c vtile).bind (fun p => if region < 64 ∧ s.rMode p region ≠ mOff then some [p] else none)
  | _ => some (s.ctx c).lastMismatch

/-- LOUPE_REQUEST (R290). -/
def execLoupeRequest (h : CmdHdr) (selector count : BitVec 8) (vtile : BitVec 16) (region : BitVec 8) (tiles : BitVec 128)
    (s : State) : Host.Outcome State Fault Refusal :=
  let need := if selector.toNat = 0 then CtxNeed.none else CtxNeed.exists
  .next (s.command h { op := 0x0502, need := need } (decide (selector.toNat ≤ 3)) (fun c s =>
    match s.loupeTiles c.ctx selector.toNat count.toNat vtile.toNat region.toNat tiles.toNat with
    | none => s.reply c stBAD_PARAM 0
    | some l =>
      let l := l.eraseDups
      if s.health.loupe.countP (fun x => !x.running) + l.length > 16 then s.reply c stBUSY 0
      else
        let got := s.loupeQueue l
        let n := got.1
        let s := got.2
        s.ok c [(4, n), (1, l.length)]))

/-- LOUPE_STOP: queued tiles get ABANDONED; running ones too by ABORT, else the reply waits for them (R294). -/
def execLoupeStop (h : CmdHdr) (s : State) : Host.Outcome State Fault Refusal :=
  .next (s.command h { op := 0x0503, forms := true } true (fun c s =>
    let queued := s.health.loupe.filter (fun x => !x.running && !x.retest)
    let s := queued.foldl (fun s x => s.loupeResult x 5 0 0 false) s
    let runs := s.health.loupe.filter (fun x => x.running && !x.retest)
    if c.form = 1 then
      let s := runs.foldl (fun s x => s.abandonTest x.tile) s
      (s.okForm c 1 [(1, queued.length + runs.length)]).testsDone true
    else if runs.isEmpty then s.ok c [(1, queued.length)]
    else s.await c 0 queued.length))

/-- ROTATION_PAUSE: no further test starts; the one in progress is abandoned by ABORT, else the reply waits for it (R280). -/
def execRotationPause (h : CmdHdr) (s : State) : Host.Outcome State Fault Refusal :=
  .next (s.command h { op := 0x0504, forms := true } true (fun c s =>
    let s := s.setBit HLTH_CFG HLTH_CFG.paused true
    match s.health.rotation with
    | none => if c.form = 1 then (s.okForm c 1 []).testsDone true else s.ok c []
    | some r => if c.form = 1 then ((s.abandonTest r.tile).okForm c 1 []).testsDone true else s.await c 0 0))

/-- ROTATION_RESUME. -/
def execRotationResume (h : CmdHdr) (s : State) : Host.Outcome State Fault Refusal :=
  .next (s.command h { op := 0x0505 } true (fun c s => (s.setBit HLTH_CFG HLTH_CFG.paused false).ok c []))

/-- TILE_FENCE: the tile's work is moved off by a planned migration, and the tile is FENCED with cause HOST (R260). -/
def execTileFence (h : CmdHdr) (tile : BitVec 8) (s : State) : Host.Outcome State Fault Refusal :=
  let p := tile.toNat
  .next (s.command h { op := 0x0506 } true (fun c s =>
    if s.hState p = 3 then s.reply c stWRONG_STATE 0
    else
      let s := (s.abandonTest p).testsDone false
      let fence := fun (s : State) => s.fenceRecord p 0x0D true s.tb
      match s.workOn p with
      | none => (fence s).ok c []
      | some (x, v) =>
        if s.cState x = 2 then (fence s).ok c []
        else match s.emptyTile x v p with
          | none => s.refuse c 0x03
          | some (_, s) => ((fence s).replenish x (s.ctx x).plate.reserveTiles).ok c []))

/-- TILE_RETEST: a FENCED tile that is not permanent is retested once it holds no work (R264). -/
def execTileRetest (h : CmdHdr) (tile : BitVec 8) (s : State) : Host.Outcome State Fault Refusal :=
  let p := tile.toNat
  .next (s.command h { op := 0x0507 } true (fun c s =>
    if s.hState p ≠ 3 ∨ s.bit (HLTH_TILE p) HLTH_TILE.permanent then s.reply c stWRONG_STATE 0
    else if s.inLoupe p ∨ s.lease p ≠ none then s.ok c []
    else
      let q := s.health.loupe ++ [({ tile := p, retest := true } : LoupeTile)]
      (({ s with health := { s.health with loupe := q } } : State).loupeView).ok c []))

/-- HEALTH_CONFIG: remap_warn, age_action and test_age_limit_h, each with "keep". -/
def execHealthConfig (h : CmdHdr) (remapWarn ageAction ageLimit : BitVec 8) (s : State) : Host.Outcome State Fault Refusal :=
  let in_ := fun (v : BitVec 8) (lo hi : Nat) => v == 0xFF || (decide (lo ≤ v.toNat) && decide (v.toNat ≤ hi))
  .next (s.command h { op := 0x0508 } (in_ remapWarn 4 16 && in_ ageAction 0 1 && in_ ageLimit 4 168) (fun c s =>
    let put := fun (s : State) (f : Field) (v : BitVec 8) => s.setFld HLTH_CFG f (keepOr 8 v.toNat (s.fld HLTH_CFG f))
    let s := put (put (put s HLTH_CFG.remap_warn remapWarn) HLTH_CFG.age_action ageAction) HLTH_CFG.test_age_limit_h ageLimit
    let t := (List.range 256).foldl (fun s p => s.degrade p) s
    let t := if (List.range 256).any (fun p => s.reg (HLTH_TILE p) != t.reg (HLTH_TILE p)) then t.publish else t
    t.ok c []))

end Sys2Proof.Machine
end

