-- ==== Sys2Proof/Machine/Security.lean ====
section
/-! DEFINITION. Machine/Security.lean: the security engine: keys, signatures, attestation, weight keys, enrolment,
confidential mode and purges (R383 to R406). -/
namespace Sys2Proof.Machine

/-! ## Views -/

/-- Writes the 32 bytes of a digest into four registers, byte 8i + j in bits 8j of register i. -/
def State.setDigestRegs (s : State) (a : Nat → Nat) (l : List Byte) : State :=
  (List.range 4).foldl (fun s i => s.setReg (a i) (BitVec.ofNat 64 (ofBytes ((l.drop (8 * i)).take 8)))) s

/-- The 32 bytes that four registers hold. -/
def State.digestAt (s : State) (a : Nat → Nat) : List Byte := (List.range 4).flatMap (fun i => leBytes 8 (s.reg (a i)).toNat)

/-- A list of bytes cut or filled with zero to `n` bytes. -/
def padTo (n : Nat) (l : List Byte) : List Byte := (l ++ List.replicate n 0).take n

/-- The identity public key, 60 bytes (R386). -/
def identityPublic : List Byte := padTo 60 (Config.identityKey Config.serial)

/-- Key IDs of the enrolment slots, in order; zero for an empty one (R392). -/
def State.enrollIds (s : State) : List (List Byte) :=
  (List.range 16).map (fun k =>
    let key := s.enrolled.getD k []
    if key.isEmpty then List.replicate 32 0 else sha256 key)

/-- The enrolment registers and the security configuration measurement follow the enrolled keys, the restrictions and the
fused svn (R392). -/
def State.secView (s : State) : State :=
  let ids := s.enrollIds
  let s := s.setFld SEC_ENROLL_VALID SEC_ENROLL_VALID.valid
    (((List.range 16).filter (fun k => !(s.enrolled.getD k []).isEmpty)).map (fun k => 2 ^ k)).sum
  let s := (List.range 16).foldl (fun s k => s.setDigestRegs (SEC_ENROLL k) (ids.getD k [])) s
  let bits_ := s.fld SEC_STATUS SEC_STATUS.restricted * 2 ^ 16 + s.fld SEC_STATUS SEC_STATUS.lifecycle * 2 ^ 32
  s.setDigestRegs SEC_CFG_MEAS
    (sha256 (leBytes 8 bits_ ++ ids.flatten ++ leBytes 8 (s.fld SEC_SVN SEC_SVN.fused)))

/-- sign_queued follows the queue. -/
def State.signView (s : State) : State := s.setFld SEC_STATUS SEC_STATUS.sign_queued (min 255 s.sec.queue.length)

/-- keys_low and exhausted follow the leaves that are left (R390). -/
def State.leavesView (s : State) : State :=
  let left := 2 ^ 40 - s.fld SEC_LEAVES_USED SEC_LEAVES_USED.used
  (s.setBit SEC_STATUS SEC_STATUS.keys_low (decide (left < 65536))).setBit SEC_STATUS SEC_STATUS.exhausted (decide (left = 0))

/-- The filled weight key slots of a context. -/
def State.weightSlots (s : State) (c : Nat) : Nat :=
  (((List.range 16).filter (fun k => !(tget ({} : WeightKey) s.weightKeys (c * 16 + k)).key.isEmpty)).map (fun k => 2 ^ k)).sum

def State.slotsView (s : State) (c : Nat) : State := s.setFld (SEC_CTX_KEYS c) SEC_CTX_KEYS.weight_slots (s.weightSlots c)

/-! ## Confidential mode (R399, R400, R402, R406) -/

/-- Marks a context confidential or not; the restrictions and SEC_AON dirty follow whether any is. -/
def State.setConf (s : State) (c : Nat) (on : Bool) : State :=
  let s := s.setBit (SCU_CTX_STATE c) SCU_CTX_STATE.confidential on
  let s := s.setFld SEC_STATUS ⟨c % 16, 1⟩ (b2n on)
  let any_ := decide (s.fld SEC_STATUS SEC_STATUS.confidential ≠ 0)
  ((s.setBit SEC_STATUS SEC_STATUS.restricted any_).setBit SEC_AON SEC_AON.dirty any_).secView

/-- The lowest XTS key slot of the contexts' that is free. -/
def State.freeXts (s : State) : Option Nat :=
  let used := ((List.range 16).filter (fun c => s.bit (SEC_CTX_KEYS c) SEC_CTX_KEYS.xts_valid)).map
    (fun c => s.fld (SEC_CTX_KEYS c) SEC_CTX_KEYS.xts_slot)
  (List.range 16).find? (fun k => !used.contains k)

/-- A context's XTS key is drawn and its ranges are set; none where that cannot be. -/
def State.giveXts (s : State) (c : Nat) : Option State :=
  match s.freeXts with
  | none => none
  | some k =>
    let t := (s.setFld (SEC_CTX_KEYS c) SEC_CTX_KEYS.xts_slot k).setBit (SEC_CTX_KEYS c) SEC_CTX_KEYS.xts_valid true
    if t.xtsFits c then some (t.setXts c) else none

/-- A context's XTS key and ranges are cleared. -/
def State.dropXts (s : State) (c : Nat) : State :=
  let s := (s.setFld (SEC_CTX_KEYS c) SEC_CTX_KEYS.xts_slot 0).setBit (SEC_CTX_KEYS c) SEC_CTX_KEYS.xts_valid false
  s.setXts c

/-! ## Signatures (R386 to R390) -/

/-- A signature of 4,792 bytes over a digest with leaf `n` (R386). -/
def signature (n : Nat) (digest : List Byte) : List Byte := padTo 4792 (Config.hssSign n digest)

/-- A request joins the signing queue: handshakes go ahead of ATTEST (R389). -/
def State.queueSign (s : State) (r : SignReq) : State :=
  let q := s.sec.queue
  let q := if r.handshake then q.filter (fun x => x.handshake) ++ [r] ++ q.filter (fun x => !x.handshake) else q ++ [r]
  ({ s with sec := { s.sec with queue := q } } : State).signView

/-- Whether the limit of 100 signatures in any one second allows another. -/
def State.maySign (s : State) : Bool :=
  decide ((s.sec.signTimes.filter (fun t => decide (s.tb < t + 100000000))).length < 100)

/-- The end of the leaf block reserved for the next signature: the journal has the reservation before its first leaf is used
(R388). -/
def State.reserveLeaves (s : State) : State :=
  let used := s.fld SEC_LEAVES_USED SEC_LEAVES_USED.used
  if used < s.fld SEC_LEAVES_RESV SEC_LEAVES_RESV.reserved_end then s
  else
    let e := min (2 ^ 40) (used + 65536)
    ({ s with store := { s.store with leafEnd := e } } : State).setFld SEC_LEAVES_RESV SEC_LEAVES_RESV.reserved_end e

/-- One leaf is used: its number, and the counts that follow. -/
def State.useLeaf (s : State) : Nat × State :=
  let n := s.fld SEC_LEAVES_USED SEC_LEAVES_USED.used
  let s := (s.setFld SEC_LEAVES_USED SEC_LEAVES_USED.used (n + 1)).addSat SEC_SIGN SEC_SIGN.signatures 1
  let s := s.addSat SEC_SIGN SEC_SIGN.rebuilds (b2n (n % 1024 == 0) + b2n (n % 2 ^ 20 == 0))
  let times := (s.sec.signTimes.filter (fun t => decide (s.tb < t + 100000000))) ++ [s.tb]
  (n, ({ s with sec := { s.sec with signTimes := times } } : State).leavesView)

/-! ## The attestation report (R391 to R393) -/

/-- The entry of a context. -/
def State.attestEntry (s : State) (c : Nat) : List Byte :=
  let y := s.ctx c
  let has := y.loaded
  let z := fun (l : List Byte) => if has then padTo 32 l else List.replicate 32 0
  padTo 128 (leBytes 1 c ++ leBytes 1 (s.cState c) ++ leBytes 1 (b2n (s.isConf c)) ++ List.replicate 5 0 ++
    leBytes 8 (if has then y.plate.plateId else 0) ++ z y.plate.digest ++ z y.plate.signer ++ z y.plate.proof ++
    leBytes 2 (s.weightSlots c) ++ leBytes 1 (s.fld (SCU_PROOF_STATUS c) SCU_PROOF_STATUS.last_status))

/-- Contexts that a report of a scope covers. -/
def State.attestScope (s : State) (scope : Nat) : List Nat :=
  if scope = 0xFF then (List.range 16).filter (fun c => s.cState c != 0) else [scope]

/-- The bytes of a report before its signature. -/
def State.attestBody (s : State) (scope : Nat) (nonce : List Byte) : List Byte :=
  let l := s.attestScope scope
  let flags := b2n s.restricted + b2n (s.bit CAL_NS CAL_NS.valid) * 2 + s.fld SEC_STATUS SEC_STATUS.keys_low * 4
  [0x55, 0x52, 0x4B, 0x41, 0x54, 0x54, 0x53, 0x54] ++ leBytes 2 1 ++ leBytes 2 s.part.number ++
    leBytes 1 (s.fld SEC_SVN SEC_SVN.fused) ++ leBytes 1 scope ++ leBytes 2 l.length ++ leBytes 8 Config.serial ++
    leBytes 8 s.tb ++ leBytes 8 (s.fld CAL_SECONDS CAL_SECONDS.seconds) ++ leBytes 4 (s.fld CAL_NS CAL_NS.ns) ++ leBytes 4 flags ++
    padTo 32 nonce ++ s.digestAt SEC_FW_MEAS ++ s.digestAt SEC_CFG_MEAS ++ s.digestAt SEC_ID_KEY ++
    leBytes 8 (s.fld SEC_LEAVES_USED SEC_LEAVES_USED.used) ++ List.replicate 8 0 ++ padTo 1568 Config.kemKey ++
    l.flatMap (fun c => s.attestEntry c)

/-- Bytes that ATTEST writes: report, signature and chain. -/
def State.attestLength (s : State) (scope : Nat) : Nat := 0x6E0 + 128 * (s.attestScope scope).length + 4792 + Config.certChain.length

/-- The report is signed and written; its digest is kept (R393). -/
def State.finishAttest (s : State) (r : SignReq) : State :=
  let body := s.attestBody r.cmd.ctx r.nonce
  let got := s.useLeaf
  let n := got.1
  let s := got.2
  let report := body ++ signature n (sha256 body)
  let l := (s.sec.reports ++ [sha256 report])
  let s := { s with sec := { s.sec with reports := l.drop (l.length - 16) } }
  let out := report ++ Config.certChain
  (s.hostPut r.buffer out).replyRaw r.cmd.tag r.cmd.op stOK 0 0 r.cmd.event [(4, out.length)]

/-- Whether a named buffer is 64-byte aligned (R352). -/
def aligned64 (a : Nat) : Bool := decide (a % 64 = 0)

/-- ATTEST: the request waits in the signing queue. -/
def execAttest (h : CmdHdr) (nonce : BitVec 256) (buffer : BitVec 64) (s : State) : Host.Outcome State Fault Refusal :=
  .next (s.command h { op := 0x0701, need := .orDevice, served := true } (aligned64 buffer.toNat) (fun c s =>
    if !inHost buffer.toNat (s.attestLength c.ctx) then s.reply c stACCESS 0
    else if s.bit SEC_STATUS SEC_STATUS.exhausted then
      let got := s.draw 8
      let d := got.1
      let s := got.2
      s.refuse c d
    else
      let s := s.await c 0 0
      s.queueSign { cmd := (s.waiting.getLast?).getD {}, nonce := leBytes 32 nonce.toNat, buffer := buffer.toNat }))

/-! ## Weight keys (R394 to R396) -/

/-- HMAC-SHA-256 (RFC 2104). -/
def hmac (key msg : List Byte) : List Byte :=
  let k := padTo 64 (if key.length > 64 then sha256 key else key)
  sha256 (k.map (fun b => b ^^^ 0x5C) ++ sha256 (k.map (fun b => b ^^^ 0x36) ++ msg))

/-- The blocks of HKDF-Expand from block `i` on (RFC 5869). -/
def hkdfBlocks (fuel i : Nat) (prk info prev : List Byte) : List Byte :=
  match fuel with
  | 0 => []
  | n + 1 =>
    let t := hmac prk (prev ++ info ++ leBytes 1 i)
    t ++ hkdfBlocks n (i + 1) prk info t

/-- HKDF-SHA-256: salt, input, info, output length. -/
def hkdf (salt ikm info : List Byte) (n : Nat) : List Byte := (hkdfBlocks (n / 32 + 1) 1 (hmac salt ikm) info []).take n

/-- "URK weight key". -/
def infoWeight : List Byte := [0x55, 0x52, 0x4B, 0x20, 0x77, 0x65, 0x69, 0x67, 0x68, 0x74, 0x20, 0x6B, 0x65, 0x79]

/-- The weight key that an import buffer wraps; none where its tag fails (R395). -/
def unwrapKey (b : List Byte) : Option (List Byte) :=
  let aad := b.take 0x40
  let secret := Config.kemDecap Config.serial ((b.drop 0x40).take 1568)
  Config.gcmOpen (hkdf aad secret infoWeight 32) ((b.drop 0x660).take 12) aad ((b.drop 0x66C).take 48)

/-- import_refused says whether the last import was refused. -/
def State.importNote (s : State) (b : Bool) : State := s.setBit SEC_FAULT SEC_FAULT.import_refused b

/-- KEY_IMPORT. -/
def execKeyImport (h : CmdHdr) (slot : BitVec 16) (buffer : BitVec 64) (length : BitVec 32) (s : State) :
    Host.Outcome State Fault Refusal :=
  let k := slot.toNat
  .next (s.command h { op := 0x0702, need := .exists } (aligned64 buffer.toNat && decide (length.toNat = 1692)) (fun c s =>
    let b := s.bytes buffer.toNat 1692
    let st := s.cState c.ctx
    if !inHost buffer.toNat 1692 then s.reply c stACCESS 0
    else if ofBytes (b.take 4) ≠ 0x4B4B5255 ∨ ofBytes ((b.drop 4).take 2) ≠ 1 ∨ ofBytes ((b.drop 6).take 2) ≠ 0 then
      (s.importNote true).reply c stBAD_PARAM 0
    else if !s.isConf c.ctx then (s.importNote true).refuse c 1
    else if k > 15 then (s.importNote true).refuse c 2
    else if ofBytes ((b.drop 0x30).take 16) ≠ 0 ∧ !s.sec.reports.any (fun r => r.take 16 == (b.drop 0x30).take 16) then
      (s.importNote true).refuse c 3
    else if bitOf (s.weightSlots c.ctx) k ∧ (st = 2 ∨ st = 4 ∨ st = 5 ∨ st = 7) then (s.importNote true).refuse c 4
    else match unwrapKey b with
    | none => (s.importNote true).reply c stAUTH 0
    | some key =>
      let w : WeightKey := { key := padTo 32 key, signer := (b.drop 0x10).take 32, plateId := ofBytes ((b.drop 8).take 8) }
      let s := { s with weightKeys := tset {} s.weightKeys (c.ctx * 16 + k) w }
      ((s.slotsView c.ctx).importNote false).ok c []))

/-! ## Enrolment (R398) -/

/-- Whether a loaded plate names the key. -/
def State.keyNamed (s : State) (key : List Byte) : Bool :=
  (List.range 16).any (fun c => s.cState c ≥ 2 && !(s.ctx c).plate.signer.isEmpty && (s.ctx c).plate.signer == sha256 key)

/-- The lowest empty enrolment slot. -/
def State.emptySlot (s : State) : Option Nat := (List.range 16).find? (fun k => (s.enrolled.getD k []).isEmpty)

/-- The slot that holds a key. -/
def State.slotOfKey (s : State) (key : List Byte) : Option Nat := (List.range 16).find? (fun k => s.enrolled.getD k [] == key)

/-- Slot `k` holds `key`. -/
def State.setEnrolled (s : State) (k : Nat) (key : List Byte) : State :=
  ({ s with enrolled := (List.range 16).map (fun j => if j = k then key else s.enrolled.getD j []) } : State).secView

/-- KEY_ENROLL. -/
def execKeyEnroll (h : CmdHdr) (buffer : BitVec 64) (length : BitVec 32) (s : State) : Host.Outcome State Fault Refusal :=
  .next (s.command h { op := 0x0703 } (aligned64 buffer.toNat && decide (length.toNat = 64)) (fun c s =>
    let key := s.bytes (buffer.toNat + 4) 60
    let done := fun (s : State) => s.ok c [(32, ofBytes (sha256 key))]
    if !inHost buffer.toNat 64 then s.reply c stACCESS 0
    else match s.num buffer.toNat 4 with
    | 0 =>
      match s.slotOfKey key, s.emptySlot with
      | some _, _ => done s
      | none, some k => done (s.setEnrolled k key)
      | none, none => s.reply c stWRONG_STATE 0
    | 1 =>
      match s.slotOfKey key with
      | none => s.reply c stBAD_PARAM 0
      | some k => if s.keyNamed key then s.reply c stWRONG_STATE 0 else done (s.setEnrolled k [])
    | _ => s.reply c stBAD_PARAM 0))

/-- SEC_STATUS. -/
def execSecStatus (h : CmdHdr) (s : State) : Host.Outcome State Fault Refusal :=
  .next (s.command h { op := 0x0704, served := true } true (fun c s =>
    s.ok c [(1, s.fld SEC_SVN SEC_SVN.fused), (2, s.fld SEC_STATUS SEC_STATUS.confidential),
            (8, s.fld SEC_LEAVES_USED SEC_LEAVES_USED.used)]))

/-! ## Purges (R403) -/

/-- The SRAM contents of a tile are lost. -/
def State.loseSram (s : State) (p : Nat) : State := (s.loseRange (tsBase p) tsBytes).loseRange (osBase p) osBytes

/-- SEC_PURGE: removes the retention supply of a fenced tile of a confidential lease, which stays FENCED for good. -/
def execSecPurge (p : Tile) (s : State) : Host.Outcome State Fault Refusal :=
  let conf := match s.lease p with
    | some c => s.isConf c
    | none => false
  .next (
    if s.fenced p && conf then
      let s := s.loseSram p
      let s := (s.setBit (HLTH_TILE p) HLTH_TILE.permanent true).setBit SEC_FAULT SEC_FAULT.purge true
      let l := s.store.fences.filter (fun e => e.1 != p.val) ++ [(p.val, s.fld (HLTH_TILE p) HLTH_TILE.cause)]
      ({ s with store := { s.store with fences := l } } : State).publish
    else s)

end Sys2Proof.Machine
end

