-- ==== Sys2Proof/Machine/Zeroise.lean ====
section
/-! DEFINITION. Machine/Zeroise.lean: the end of a context or of its plate (R216, R311, R403, R405). -/
namespace Sys2Proof.Machine

/-! ## Zeroising (R216, R403, R405) -/

/-- Closes the ranges opened for a context's stream areas. -/
def State.closeStreams (s : State) (c : Nat) : State :=
  let y := s.ctx c
  let b := s.fld (SCU_STR_OUTRING c) SCU_STR_OUTRING.base
  let s := if y.configured then
      (List.range 64).foldl (fun s r =>
        match s.openRange r with
        | some (a, _, _, _, coh) => if coh && (a == b || a == y.inBase) then s.closeRange r else s
        | none => s) s
    else s
  s.setReg (SCU_STR_OUTRING c) 0

/-- A freed allocation: zeroised, and its opened range closed. -/
def State.freeAlloc (s : State) (x : Alloc) : State :=
  let s := s.zeroRange x.addr x.bytes
  let s := match x.range with
    | some r => s.closeRange r
    | none => s
  { s with allocs := s.allocs.erase x }

/-- Clears the weight key slots of a context. -/
def State.clearKeys (s : State) (c : Nat) : State :=
  { s with weightKeys := Sparse.clear s.weightKeys (fun k => k / 16 == c) }

/-- Ends a zeroising: tiles filled and released, allocations filled, the plate gone; at a destroy also every allocation
and the context itself. -/
def State.zeroised (s : State) (c : Nat) (destroy : Bool) : State :=
  let y := s.ctx c
  let s := if destroy then s.dropEngines c else s
  let s := ((s.dropHeals c).releaseAll c true).closeStreams c
  let got := s.spillOf c
  let sb := got.1
  let sn := got.2
  let s := ((s.zeroRange y.hbmBase y.hbmBytes).zeroRange sb sn).zeroRange y.lpBase y.lpBytes
  let s := { s with entries := s.entries.filter (fun e => e.ctx != c) }.snt
  let s := s.setCtx c y.empty
  let s := (s.setReg (SCU_STR_STATE c) 0).setReg (SCU_CTX_SILENT c) 0
  if destroy then
    let s := (s.clearKeys c).slotsView c
    let s := if s.isConf c then (s.dropXts c).setConf c false else s
    let s := (s.allocs.filter (fun x => x.owner == c)).foldl (fun s x => s.freeAlloc x) s
    let s := s.resetRegs (fun a => decide (SCU_CTX_STATE c ≤ a ∧ a < SCU_CTX_STATE c + 0x40))
    (s.setCtx c {}).publish
  else (s.setCState c 1).publish

/-- ZEROISE_COMPLETE: a zeroising context becomes IDLE, or FREE where it is being destroyed. -/
def execZeroiseComplete (c : Fin 16) (s : State) : Host.Outcome State Fault Refusal :=
  .next (
    if s.cState c ≠ 7 then s
    else
      let destroy := s.waiting.any (fun w => w.op == 0x0102 && w.ctx == c)
      let s := s.zeroised c destroy
      s.complete (fun w => (w.op == 0x0102 || w.op == 0x0202) && w.ctx == c)
        (fun s w => s.okForm w.cmd (if w.op = 0x0102 then 1 else 0) []))

end Sys2Proof.Machine
end

