-- ==== Sys2Proof/Machine/Commands.lean ====
section
/-! DEFINITION. Machine/Commands.lean: the device, context, plate, stream and diagnostics commands (R353). -/
namespace Sys2Proof.Machine

/-! ## Device group -/

/-- Contexts that are FREE. -/
def State.freeCtxs (s : State) : List Nat := (List.range 16).filter (fun c => s.cState c == 0)

/-- IDENTIFY. -/
def execIdentify (h : CmdHdr) (s : State) : Host.Outcome State Fault Refusal :=
  .next (s.command h { op := 0x0001, served := true } true (fun c s =>
    let v := fun f => s.fld SCU_CMD_VERSION f
    s.ok c [(2, s.part.number), (1, v SCU_CMD_VERSION.minor), (1, v SCU_CMD_VERSION.major), (4, v SCU_CMD_VERSION.fw_version),
            (8, Config.serial), (2, s.fld HLTH_SUMMARY HLTH_SUMMARY.good), (1, s.fld TL_STATUS TL_STATUS.version),
            (1, s.freeCtxs.length), (4, s.fld HLTH_ID HLTH_ID.generation)]))

/-- DEVICE_STATUS. -/
def execDeviceStatus (h : CmdHdr) (s : State) : Host.Outcome State Fault Refusal :=
  .next (s.command h { op := 0x0002, served := true } true (fun c s =>
    s.ok c [(1, s.fld SCU_CMD_STATUS SCU_CMD_STATUS.out_of_service), (1, s.fld PWR_STATUS PWR_STATUS.state),
            (4, s.fld SCU_RESET_STATUS SCU_RESET_STATUS.compute_resets), (4, s.fld SCU_AON_ESC SCU_AON_ESC.module_resets),
            (8, s.fld SCU_EVT_LOST SCU_EVT_LOST.lost)]))

/-- Whether the interleave of HBM may change (R302). -/
def State.mayInterleave (s : State) : Bool :=
  (List.range 16).all (fun c => s.cState c == 0) && !s.allocs.any (fun x => decide (x.addr < hbmEnd)) &&
    s.fld HBM_ILV HBM_ILV.failed == 0

/-- DEVICE_CONFIG: the interleave (R302), the enables of DRDY_N and the reset limits, which may only be lowered. -/
def execDeviceConfig (h : CmdHdr) (ilv drdyMask computeLimit moduleLimit : BitVec 8) (s : State) : Host.Outcome State Fault Refusal :=
  let m := drdyMask.toNat
  let cl := s.fld SCU_AON_ESC SCU_AON_ESC.compute_reset_limit
  let ml := s.fld SCU_AON_ESC SCU_AON_ESC.module_reset_limit
  let ok := (decide (ilv.toNat ≤ 1) || ilv == 0xFF) && (decide (m < 4) || m == 0xFF) &&
    (decide (computeLimit.toNat ≤ cl) || computeLimit == 0xFF) && (decide (moduleLimit.toNat ≤ ml) || moduleLimit == 0xFF)
  .next (s.command h { op := 0x0003 } ok (fun c s =>
    let old := s.fld HBM_ILV HBM_ILV.mode
    let new := keepOr 8 ilv.toNat old
    if new ≠ old ∧ !s.mayInterleave then s.reply c stWRONG_STATE 0
    else
      let s := s.setFld HBM_ILV HBM_ILV.mode new
      let s := if m = 0xFF then s
        else ((s.setBit TL_DRDY TL_DRDY.reply_en (bitOf m 0)).setBit TL_DRDY TL_DRDY.event_en (bitOf m 1)).drdy
      let s := s.setFld SCU_AON_ESC SCU_AON_ESC.compute_reset_limit (keepOr 8 computeLimit.toNat cl)
      (s.setFld SCU_AON_ESC SCU_AON_ESC.module_reset_limit (keepOr 8 moduleLimit.toNat ml)).ok c []))

/-! ## One command of a context at a time (R221) -/

/-- Whether a context or plate command of context `c` waits for its completion. -/
def State.ctxBusy (s : State) (c : Nat) : Bool :=
  s.waiting.any (fun w => (w.op / 256 == 1 || w.op / 256 == 2) && w.ctx == c)

/-- A context or plate command: while an earlier one of its context is under way it is not executed, unless it overtakes
(log 23). -/
def State.ctxCommand (s : State) (h : CmdHdr) (r : Row) (past params : Bool) (f : Cmd → State → State) : State :=
  if s.ctxBusy h.ctx.toNat && !past then s else s.command h r params f

/-! ## Context group -/

/-- An allocation for a context that is being created: none where there is no room. -/
def State.allocFor (s : State) (c kind n : Nat) : Option (Nat × State) :=
  if n = 0 then some (0, s)
  else (s.findSpace kind n).map (fun a =>
    (a, ({ s with allocs := s.allocs ++ [({ addr := a, bytes := n, owner := c, created := true } : Alloc)] } : State)))

/-- The registers that firmware keeps of a context start anew. -/
def State.freshCtx (s : State) (c : Nat) : State :=
  let near := fun (b a : Nat) => decide (b ≤ a) && decide (a < b + 0x40)
  s.resetRegs (fun a => near (SCU_CTX_STATE c) a || near (SCU_STR_STATE c) a || near (SCU_CTX_SILENT c) a)

/-- Takes the three allocations of a context. -/
def State.createCtx (s : State) (c hbm lp spill : Nat) : Option State :=
  (s.allocFor c 0 (roundUp (hbm * mib) pageBytes)).bind (fun (a, s) =>
    (s.allocFor c 1 (roundUp (lp * mib) pageBytes)).bind (fun (b, s) =>
      (s.allocFor c 0 (roundUp (spill * mib) pageBytes)).map (fun (d, s) =>
        let s := (s.freshCtx c).setCtx c
          { hbmBase := a, hbmBytes := roundUp (hbm * mib) pageBytes, lpBase := b, lpBytes := roundUp (lp * mib) pageBytes }
        let s := s.setFld (SCU_CTX_SPILL c) SCU_CTX_SPILL.base_mib (d / mib)
        (s.setFld (SCU_CTX_SPILL c) SCU_CTX_SPILL.size_mib spill).setCState c 1)))

/-- CTX_CREATE. -/
def execCtxCreate (h : CmdHdr) (hbmMib lpMib spillMib : BitVec 32) (conf : BitVec 8) (s : State) :
    Host.Outcome State Fault Refusal :=
  .next (s.command h { op := 0x0101, need := .free } (decide (conf.toNat ≤ 1)) (fun c s =>
    let n := if c.ctx = 0xFF then s.freeCtxs.headD 0 else c.ctx
    if conf = 1 ∧ ((s.tap.ir ≠ 0x3F ∧ s.tap.ir ≠ 1) ∨ s.bit SMP_STATUS SMP_STATUS.running) then s.reply c stCONFIDENTIAL 0
    else match s.createCtx n hbmMib.toNat lpMib.toNat spillMib.toNat with
    | none => s.reply c stNO_MEMORY 0
    | some t =>
      if conf = 1 then
        match (t.setConf n true).giveXts n with
        | none => s.reply c stCONFIDENTIAL 0
        | some t => t.ok c [(1, n)]
      else t.ok c [(1, n)]))

/-- CTX_DESTROY: a load is abandoned, a run or a stop ends by ABORT, and the context is zeroised (R216, R221). -/
def execCtxDestroy (h : CmdHdr) (s : State) : Host.Outcome State Fault Refusal :=
  let st := s.cState h.ctx.toNat
  .next (s.ctxCommand h { op := 0x0102, need := .exists, forms := true } (st == 5 || st == 2) true (fun c s =>
    let x := c.ctx
    match s.cState x with
    | 2 =>
      let s := (s.dropLoad x (0x18, noSect, noVtile) true).setCState x 7
      (s.complete (fun w => w.op == 0x0201 && w.ctx == x) (fun s w => s.refuse w.cmd 0x18)).await c 0 0
    | 4 => (((s.setCtx x { s.ctx x with after := .zeroise }).abortCtx x)).await c 0 0
    | 5 => (((s.setCtx x { s.ctx x with after := .zeroise }).abortCtx x)).await c 0 0
    | _ => ((s.endJoin x).setCState x 7).await c 0 0))

/-- CTX_TIMING: drain_timeout, progress_timeout and spill_width, each with "keep". -/
def execCtxTiming (h : CmdHdr) (drainMs progressUs : BitVec 16) (spillWidth : BitVec 8) (s : State) :
    Host.Outcome State Fault Refusal :=
  let d := drainMs.toNat
  let p := progressUs.toNat
  let w := spillWidth.toNat
  let ok := (d == 0xFFFF || (decide (1 ≤ d) && decide (d ≤ 1000))) && decide (32 ≤ p) &&
    (w == 0xFF || (decide (1 ≤ w) && decide (w ≤ 16)))
  .next (s.ctxCommand h { op := 0x0103, need := .exists } false ok (fun c s =>
    let a := SCU_CTX_TIMING c.ctx
    let s := s.setFld a SCU_CTX_TIMING.drain_timeout_ms (keepOr 16 d (s.fld a SCU_CTX_TIMING.drain_timeout_ms))
    let s := s.setFld a SCU_CTX_TIMING.progress_timeout_us (keepOr 16 p (s.fld a SCU_CTX_TIMING.progress_timeout_us))
    (s.setFld a SCU_CTX_TIMING.spill_width (keepOr 8 w (s.fld a SCU_CTX_TIMING.spill_width))).ok c []))

/-- A start commanded by CTX_START at gather origin `t0` (R216, R297). -/
def State.commandStart (s : State) (c t0 : Nat) : State :=
  let s := ((s.setReg (SCU_CTX_NDC c) 0).setBit (SCU_CTX_NDC_STATE c) SCU_CTX_NDC_STATE.incomplete false).ndcMark c
  let s := s.setReg (SCU_STR_T0 c) (BitVec.ofNat 64 t0)
  (s.setCtx c { s.ctx c with gathers := 0 }).startCtx c

/-- CTX_START: a FAULTED context first re-places the work that stands on FENCED tiles (R265). -/
def execCtxStart (h : CmdHdr) (launch : BitVec 64) (s : State) : Host.Outcome State Fault Refusal :=
  let l := launch.toNat
  .next (s.ctxCommand h { op := 0x0104, need := .exists } false (l == 0 || decide (s.tb ≤ l)) (fun c s =>
    let t0 := if l = 0 then s.tb + 10001 else l
    let done := fun (s : State) => (s.commandStart c.ctx t0).ok c [(8, t0)]
    if s.sb.estop then s.reply c stWRONG_STATE 0
    else match s.cState c.ctx with
    | 3 => done (s.endJoin c.ctx)
    | 6 =>
      match s.rehome c.ctx (s.onFenced c.ctx) with
      | none => s.refuse c 0x03
      | some t => done t
    | _ => s.reply c stWRONG_STATE 0))

/-- CTX_STOP: DRAIN of a running context, or ABORT of one that runs or drains; of a READY context that joins a job it ends the
join (R382). -/
def execCtxStop (h : CmdHdr) (s : State) : Host.Outcome State Fault Refusal :=
  let past := s.cState h.ctx.toNat == 5 && bitOf h.flags.toNat 0
  .next (s.ctxCommand h { op := 0x0105, need := .exists, forms := true } past true (fun c s =>
    let st := s.cState c.ctx
    if c.form = 1 ∧ (st = 4 ∨ st = 5) then (s.await c 0 0).abortCtx c.ctx
    else if c.form = 0 ∧ st = 4 then (s.await c 0 0).drainCtx c.ctx .ready
    else if st = 3 ∧ s.joins.any (fun e => e.1 == c.ctx) then (s.endJoin c.ctx).okForm c c.form [(4, 0)]
    else s.reply c stWRONG_STATE 0))

/-- CTX_QUERY. -/
def execCtxQuery (h : CmdHdr) (s : State) : Host.Outcome State Fault Refusal :=
  .next (s.ctxCommand h { op := 0x0106, need := .exists } false true (fun c s =>
    let x := c.ctx
    let g := fun f => s.fld (SCU_CTX_STATE x) f
    s.ok c [(1, g SCU_CTX_STATE.state), (1, g SCU_CTX_STATE.epoch), (1, s.fld (SCU_CTX_REASON x) SCU_CTX_REASON.code),
            (1, g SCU_CTX_STATE.reserves_free), (2, g SCU_CTX_STATE.tiles),
            (1, s.fld (SCU_CTX_NDC_STATE x) SCU_CTX_NDC_STATE.incomplete), (8, s.fld (SCU_CTX_NDC x) SCU_CTX_NDC.count)]))

/-! ## Plate group -/

/-- PLATE_LOAD: an IDLE context checks, places and stages the plate (R206 to R211). -/
def execPlateLoad (h : CmdHdr) (image length : BitVec 64) (s : State) : Host.Outcome State Fault Refusal :=
  let a := image.toNat
  .next (s.ctxCommand h { op := 0x0201, need := .exists } false (aligned64 a) (fun c s =>
    if !inHost a length.toNat then s.reply c stACCESS 0
    else if s.cState c.ctx ≠ 1 then s.reply c stWRONG_STATE 0
    else match s.checkPlate c.ctx a length.toNat (fun pl => s.remoteBad c.ctx pl) with
    | .inl r => (s.setReason c.ctx r.1 r.2.1 r.2.2).refuse c r.1
    | .inr pl => ((s.setCState c.ctx 2).await c 0 0).stageLoad c.ctx pl))

/-- PLATE_UNLOAD: a READY or FAULTED context is zeroised. -/
def execPlateUnload (h : CmdHdr) (s : State) : Host.Outcome State Fault Refusal :=
  .next (s.ctxCommand h { op := 0x0202, need := .exists } false true (fun c s =>
    let st := s.cState c.ctx
    if st = 3 ∨ st = 6 then ((s.endJoin c.ctx).setCState c.ctx 7).await c 0 0 else s.reply c stWRONG_STATE 0))

/-- PLATE_RECONFIGURE: a RUNNING context drains, and the change follows (R222). -/
def execPlateReconfigure (h : CmdHdr) (image length : BitVec 64) (s : State) : Host.Outcome State Fault Refusal :=
  let a := image.toNat
  .next (s.ctxCommand h { op := 0x0203, need := .exists } false (aligned64 a) (fun c s =>
    if !inHost a length.toNat then s.reply c stACCESS 0
    else if s.cState c.ctx ≠ 4 then s.reply c stWRONG_STATE 0
    else
      let s := s.setBit (SCU_CTX_STATE c.ctx) SCU_CTX_STATE.reconfiguring true
      let s := s.setCtx c.ctx { s.ctx c.ctx with newImg := a, newLen := length.toNat }
      (s.await c 0 0).drainCtx c.ctx .reconfigure))

/-! ## Stream group -/

/-- Whether an admitted stream holds a class. -/
def State.classUsed (s : State) (k : Nat) : Bool :=
  (List.range 16).any (fun c => (s.openSlots c).any (fun i => (s.slotOf c i).cls == k))

/-- CLASS_SET (R235). -/
def execClassSet (h : CmdHdr) (cls admitOn : BitVec 8) (boundUs jitterUs : BitVec 32) (s : State) :
    Host.Outcome State Fault Refusal :=
  let b := boundUs.toNat
  let j := jitterUs.toNat
  let ok := decide (cls.toNat < 4) && decide (admitOn.toNat ≤ 1) && decide (1000 ≤ b ∧ b ≤ 60000000) && decide (j + 1000 ≤ b)
  .next (s.command h { op := 0x0301 } ok (fun c s =>
    if s.classUsed cls.toNat then s.refuse c 0x09
    else
      let a := SCU_CLASS cls.toNat
      let s := (s.setFld a SCU_CLASS.bound_us b).setFld a SCU_CLASS.jitter_us j
      ((s.setFld a SCU_CLASS.admit_on admitOn.toNat).setBit a SCU_CLASS.valid true).ok c []))

/-- The rings of a context are laid out at `a` and behind it, opened to the host and empty. -/
def State.placeRings (s : State) (c a outBytes stride log2 r1 r2 : Nat) : State :=
  let m := s.smap c
  let b := a + outBytes
  let s := s.setReg (SCU_STR_OUTRING c) (BitVec.ofNat 64 (a + log2 * 2 ^ 52))
  let s := s.setCtx c { s.ctx c with configured := true, inBase := b, inStride := stride, outSeen := 0, unwritten := 0 }
  let s := s.openAs r1 a outBytes true true true
  let s := if m.slots = 0 then s else s.openAs r2 b (m.slots * stride) true true true
  let s := (List.range m.slots).foldl (fun s k =>
    (s.setSlot c k { s.slotOf c k with read := 0 }).putNum (b + k * stride + 64) 8 0) (s.putNum a 8 0)
  s.followXts c

/-- STREAM_CONFIG: the output ring and the input rings come from the context's LPDDR5X allocation (R227, R231, R311). -/
def execStreamConfig (h : CmdHdr) (log2Depth : BitVec 8) (s : State) : Host.Outcome State Fault Refusal :=
  let d := log2Depth.toNat
  .next (s.command h { op := 0x0302, need := .exists } (decide (10 ≤ d ∧ d ≤ 20)) (fun c s =>
    let x := c.ctx
    let m := s.smap x
    let y := s.ctx x
    let stride := roundUp (128 + m.inDepth * m.inRecord) 4096
    let outBytes := roundUp (128 + 2 ^ d * m.outRecord) 4096
    if s.cState x ≠ 3 then s.reply c stWRONG_STATE 0
    else if outBytes + m.slots * stride > y.lpBytes then s.reply c stNO_MEMORY 0
    else
      let t := s.closeStreams x
      match t.freeRange 0 64 with
      | none => s.reply c stBUSY 0
      | some r1 =>
        match (t.openAs r1 y.lpBase outBytes true true true).freeRange 0 64 with
        | none => s.reply c stBUSY 0
        | some r2 =>
          (t.placeRings x y.lpBase outBytes stride d r1 r2).ok c [(8, y.lpBase), (8, y.lpBase + outBytes), (4, stride)]))

/-- STREAM_OPEN: the admission decision (R236). -/
def execStreamOpen (h : CmdHdr) (cls shadow : BitVec 8) (s : State) : Host.Outcome State Fault Refusal :=
  .next (s.command h { op := 0x0303, need := .exists } (decide (cls.toNat < 4) && decide (shadow.toNat ≤ 1)) (fun c s =>
    let x := c.ctx
    match s.admission x cls.toNat (shadow == 1) with
    | .inl code => (s.setFld (SCU_STR_STATE x) SCU_STR_STATE.last_refusal code).refuse c code
    | .inr (k, need) =>
      let s := s.openStream x k cls.toNat (shadow == 1)
      s.ok c [(4, streamId x k (s.slotOf x k).gen), (4, need)]))

/-- Whether an identifier is current in its context. -/
def State.isCurrent (s : State) (c id : Nat) : Bool := s.currentId c (id % 4096) == some id

/-- STREAM_CLOSE: replies when the close is in effect (R250, R251). -/
def execStreamClose (h : CmdHdr) (id : BitVec 32) (s : State) : Host.Outcome State Fault Refusal :=
  let i := id.toNat
  .next (s.command h { op := 0x0304, need := .exists, forms := true } (s.isCurrent h.ctx.toNat i) (fun c s =>
    let k := i % 4096
    let x := s.slotOf c.ctx k
    let abort := c.form == 1
    let s := if x.phase = 1 ∨ (x.phase = 2 ∧ abort) then s.beginClose c.ctx k abort 0 else s
    s.okForm c (if abort then 1 else if x.phase = 3 then 2 else 0) [(4, x.lastSeq)]))

/-- Whether an identifier is that of a slot's stream or of its last one. -/
def State.isKnown (s : State) (c id : Nat) : Bool :=
  let k := id % 4096
  let x := s.slotOf c k
  x.gen != 0 && streamId c k x.gen == id

/-- STREAM_QUERY. -/
def execStreamQuery (h : CmdHdr) (id : BitVec 32) (s : State) : Host.Outcome State Fault Refusal :=
  let i := id.toNat
  .next (s.command h { op := 0x0305, need := .exists } (s.isKnown h.ctx.toNat i) (fun c s =>
    let k := i % 4096
    let x := s.slotOf c.ctx k
    let st := if x.phase = 1 then 0 else if x.phase = 2 ∨ x.phase = 3 then 1 else 2
    s.ok c [(1, st), (1, x.cls), (1, b2n x.atRisk), (1, b2n x.shadow), (4, x.lastSeq), (4, x.gap),
            (4, (s.openEntries c.ctx (fun e => e.slot == k && e.id == i)).length)]))

/-! ## Diagnostics group -/

/-- First address and bytes of a diagnostics window: 0 tile registers, 1 operand scratch, 2 global registers. -/
def diagWindow (w p : Nat) : Nat × Nat :=
  match w with
  | 0 => (tileRegs + p * 0x10000, 0x10000)
  | 1 => (osBase p, osBytes)
  | _ => (globalRegs, 0x1000000)

/-- The open range of a window that starts at `a`. -/
def State.diagRange (s : State) (a : Nat) : Option Nat :=
  (List.range 64).find? (fun r => match s.openRange r with
    | some (b, _, _, w, coh) => b == a && !w && !coh
    | none => false)

/-- How many diagnostics windows are open. -/
def State.diagCount (s : State) : Nat :=
  (List.range 64).countP (fun r => match s.openRange r with
    | some (b, _, _, w, coh) => !w && !coh && (inRegs b || (decide (scratchFirst ≤ b) && decide (b < 0x021008000000)))
    | none => false)

/-- Whether a tile is leased to a confidential context. -/
def State.confTile (s : State) (p : Nat) : Bool :=
  match s.lease p with
  | some c => s.isConf c
  | none => false

/-- DIAG_OPEN: opens a window to the host read-only. -/
def execDiagOpen (h : CmdHdr) (window tile : BitVec 8) (s : State) : Host.Outcome State Fault Refusal :=
  let got := diagWindow window.toNat tile.toNat
  let a := got.1
  let n := got.2
  .next (if s.inReset ∧ window.toNat < 2 then s else s.command h { op := 0x0801 } (decide (window.toNat ≤ 2)) (fun c s =>
    if window.toNat < 2 ∧ s.confTile tile.toNat then s.reply c stCONFIDENTIAL 0
    else match s.diagRange a with
    | some _ => s.ok c []
    | none =>
      if s.diagCount ≥ 8 then s.reply c stBUSY 0
      else match s.freeRange 0 64 with
      | none => s.reply c stBUSY 0
      | some r => (s.openAs r a n true false false).ok c []))

/-- DIAG_CLOSE: a window that is not open is in the wrong state (log 24). -/
def execDiagClose (h : CmdHdr) (window tile : BitVec 8) (s : State) : Host.Outcome State Fault Refusal :=
  .next (s.command h { op := 0x0802 } (decide (window.toNat ≤ 2)) (fun c s =>
    match s.diagRange (diagWindow window.toNat tile.toNat).1 with
    | none => s.reply c stWRONG_STATE 0
    | some r => (s.closeRange r).ok c []))

/-- COUNTERS_READ: the 64 KiB register window of a tile goes to a host buffer. -/
def execCountersRead (h : CmdHdr) (tile : BitVec 8) (buffer : BitVec 64) (s : State) : Host.Outcome State Fault Refusal :=
  .next (s.command h { op := 0x0804 } (aligned64 buffer.toNat) (fun c s =>
    if s.confTile tile.toNat then s.reply c stCONFIDENTIAL 0
    else if !inHost buffer.toNat 0x10000 then s.reply c stACCESS 0
    else (s.hostPut buffer.toNat (s.devBytes (tileRegs + tile.toNat * 0x10000) 0x10000)).ok c [(4, 0x10000)]))

end Sys2Proof.Machine
end

