-- ==== Sys2Proof/Machine/Time.lean ====
section
/-! DEFINITION. Machine/Time.lean: the timebase and the calendar: alignment, slews and SYNC_IN (R452 to R456, R475). -/
namespace Sys2Proof.Machine

/-! ## The timebase (R453) -/

/-- An offset in 1/64 counts as nanoseconds, rounded down (log 26). -/
def offsetNs (x : Int) : Int := x * 10 / 64

/-- TB_SLEW follows the slew in progress. -/
def State.slewView (s : State) : State :=
  (s.setFld TB_SLEW TB_SLEW.remaining_ns (toTwos 32 s.time.slew)).setBit TB_SLEW TB_SLEW.slewing (decide (s.time.slew ≠ 0))

/-- A slew of `ns` nanoseconds replaces any in progress. -/
def State.setSlew (s : State) (ns : Int) : State :=
  ({ s with time := { s.time with slew := ns, slewAt := s.tb } } : State).slewView

/-- The count moves by whole counts at once. -/
def State.stepTb (s : State) (ns : Int) : State :=
  s.setFld TB_COUNT TB_COUNT.count (toTwos 64 ((s.tb : Int) + ns / 10))

/-- Whether the timebase may be stepped: no context runs and the sentinel holds no entry. -/
def State.mayStep (s : State) : Bool :=
  (List.range 16).all (fun c => s.cState c != 4) && !s.entries.any (fun e => !e.closed)

/-- The alignment ends and its command replies. -/
def State.endAlign (s : State) (f : State → Waiting → State) : State :=
  ({ s with time := { s.time with align := none } } : State).complete (fun w => w.op == 0x0902) f

/-- A measured offset is corrected and returned: up to 1 ms by a slew, more by a step. -/
def State.align (s : State) (ns : Int) : State :=
  let done := fun (s : State) => s.endAlign (fun s w => s.ok w.cmd [(8, toTwos 64 ns)])
  if ns.natAbs ≤ 1000000 then done (s.setSlew ns)
  else if s.mayStep then done ((s.setSlew 0).stepTb ns)
  else s.endAlign (fun s w => s.refuse w.cmd 0x08)

/-- TB_SLEW_STEP: the one TBCLK cycle in 10,000 in which the count takes one more or none; the slew ends with the last whole
count of its offset (log 26). -/
def execTbSlewStep (s : State) : Host.Outcome State Fault Refusal :=
  let x := s.time.slew
  .next (
    if x = 0 ∨ s.tb < s.time.slewAt + 10000 then s
    else
      let y := if x ≥ 10 then x - 10 else if x ≤ -10 then x + 10 else 0
      let s := if x ≥ 10 then s.addMod TB_COUNT TB_COUNT.count 2
        else if x ≤ -10 then s else s.addMod TB_COUNT TB_COUNT.count 1
      s.setSlew y)

/-- SYNC_IN_EDGE: an edge latches the timebase where enabled, and ends an alignment to SYNC_IN; `frac` is the fraction of a
count at which it comes. -/
def execSyncInEdge (frac : BitVec 6) (s : State) : Host.Outcome State Fault Refusal :=
  .next (
    if !s.bit TB_SYNC_CFG TB_SYNC_CFG.enable then s
    else
      let s := (s.setReg TB_SYNC_LATCH (BitVec.ofNat 64 s.tb)).setFld TB_SYNC_CFG TB_SYNC_CFG.frac frac.toNat
      match s.time.align with
      | none => s
      | some a =>
        if a.source ≠ 16 then s
        else
          let e := s.fld TB_SYNC_EXPECT TB_SYNC_EXPECT.expect
          let off := signed 64 ((e + 2 ^ 64 - s.tb) % 2 ^ 64) * 64 - frac.toNat
          let s := s.setFld TB_SYNC_EXPECT TB_SYNC_EXPECT.expect (e + s.fld TB_SYNC_CFG TB_SYNC_CFG.period_counts)
          s.align (offsetNs off))

/-- NO_SYNC: an alignment to SYNC_IN has seen no edge within 2 s. -/
def execNoSync (s : State) : Host.Outcome State Fault Refusal :=
  .next (match s.time.align with
    | none => s
    | some a => if a.source = 16 ∧ s.tb ≥ a.tb + 200000000 then s.endAlign (fun s w => s.refuse w.cmd 0x09) else s)

/-- TB_READ. -/
def execTbRead (h : CmdHdr) (s : State) : Host.Outcome State Fault Refusal :=
  .next (s.command h { op := 0x0901, served := true } true (fun c s =>
    s.ok c [(8, s.tb), (8, s.fld CAL_SECONDS CAL_SECONDS.seconds), (4, s.fld CAL_NS CAL_NS.ns)]))

/-! ## The calendar (R455, R456) -/

/-- The calendar moves by `ns` nanoseconds; it does not go below 0. -/
def State.calAdd (s : State) (ns : Int) : State :=
  let t := ((s.fld CAL_SECONDS CAL_SECONDS.seconds * 1000000000 + s.fld CAL_NS CAL_NS.ns : Nat) : Int) + ns
  let t := t.toNat
  (s.setFld CAL_SECONDS CAL_SECONDS.seconds (t / 1000000000)).setFld CAL_NS CAL_NS.ns (t % 1000000000)

/-- A calendar slew replaces any in progress. -/
def State.setCalSlew (s : State) (ns : Int) : State := { s with time := { s.time with calSlew := ns, calAt := s.tb } }

/-- CAL_SET: the calendar steps at once and is valid. -/
def execCalSet (h : CmdHdr) (seconds : BitVec 64) (ns : BitVec 32) (s : State) : Host.Outcome State Fault Refusal :=
  .next (s.command h { op := 0x0903 } (decide (ns.toNat < 1000000000)) (fun c s =>
    let s := (s.setFld CAL_SECONDS CAL_SECONDS.seconds seconds.toNat).setFld CAL_NS CAL_NS.ns ns.toNat
    ((s.setBit CAL_NS CAL_NS.valid true).setCalSlew 0).ok c []))

/-- CAL_DISCIPLINE: the added trim, and an offset that is slewed up to 1 s and stepped beyond. -/
def execCalDiscipline (h : CmdHdr) (offset : BitVec 64) (trim : BitVec 32) (s : State) : Host.Outcome State Fault Refusal :=
  let o := offset.toInt
  .next (s.command h { op := 0x0904 } (decide (trim.toInt.natAbs ≤ 100000)) (fun c s =>
    let s := s.setFld CAL_TRIM CAL_TRIM.trim_ppb trim.toNat
    (if o.natAbs ≤ 1000000000 then s.setCalSlew o else (s.setCalSlew 0).calAdd o).ok c []))

/-- CAL_SLEW_STEP: 10 ns of a calendar slew in every 2,000 TBCLK cycles, which is 500 ppm. -/
def execCalSlewStep (s : State) : Host.Outcome State Fault Refusal :=
  let x := s.time.calSlew
  .next (
    if x = 0 ∨ s.tb < s.time.calAt + 2000 then s
    else
      let d := if x > 10 then 10 else if x < -10 then -10 else x
      (s.calAdd d).setCalSlew (x - d))

/-- VBAT_LOW: the backup supply falls below 2.5 V or recovers. -/
def execVbatLow (low : Bool) (s : State) : Host.Outcome State Fault Refusal :=
  .next (s.setBit CAL_NS CAL_NS.vbat_low low)

end Sys2Proof.Machine
end

