-- ==== Sys2Proof/Machine/Lanel.lean ====
section
/-! DEFINITION. Machine/Lanel.lean: Lanel ports: lanes and training, frames and keys, states and timeouts, handshakes and rekeys,
and the commands that enable and disable a port (R355 to R373). -/
namespace Sys2Proof.Machine

/-! ## Ports -/

def State.port (s : State) (n : Nat) : Port := tget {} s.ports n
def State.setPort (s : State) (n : Nat) (x : Port) : State := { s with ports := tset {} s.ports n x }

/-- State of a port: 0 OFF, 1 TRAINING, 2 HANDSHAKE, 3 ACTIVE, 4 REKEY, 5 DOWN, 6 FENCED (R360). -/
def State.lnState (s : State) (n : Nat) : Nat := s.fld (LN_STATUS n) LN_STATUS.state

/-- A port enters a state. -/
def State.setLn (s : State) (n v : Nat) : State :=
  (s.setFld (LN_STATUS n) LN_STATUS.state v).setPort n { s.port n with since := s.tb }

/-- Whether a port carries traffic. -/
def State.lnUp (s : State) (n : Nat) : Bool := s.lnState n == 3 || s.lnState n == 4

/-! ## Frames (R366, R369) -/

/-- Kinds of management frames; the codes follow the order of R369 (log 27). -/
def fHELLO : Nat := 0x30
def fKEM : Nat := 0x31
def fSIGN : Nat := 0x32
def fFINISHED : Nat := 0x33
def fKEEPALIVE : Nat := 0x34
def fREKEY : Nat := 0x35
def fSWITCH : Nat := 0x36
def fCLOSE : Nat := 0x37
def fTBREQ : Nat := 0x38
def fTBRSP : Nat := 0x39
def fJOINREQ : Nat := 0x3A
def fJOINDATA : Nat := 0x3B
def fJOINEND : Nat := 0x3C
def fCREDIT : Nat := 0x20

/-- Header fields of a frame that are not 0. -/
structure LnHdr where
  kind : Nat
  lvc : Nat := 3
  hop : Nat := 1
  hops : Nat := 1
  route : Nat := 0
  rch : Nat := 0
  tok : Nat := 0
  amount : Nat := 0
  vid : Nat := 0
  part : Nat := 0
  parts : Nat := 0

/-- The header of a frame with its payload, its counter still 0. -/
def LnHdr.frame (h : LnHdr) (payload : List Byte) : List Byte :=
  leBytes 1 h.kind ++ leBytes 1 h.lvc ++ leBytes 1 h.hop ++ leBytes 1 h.hops ++ leBytes 16 h.route ++ leBytes 2 h.rch ++
    leBytes 2 payload.length ++ leBytes 16 h.tok ++ leBytes 4 h.amount ++ leBytes 1 h.vid ++ leBytes 1 h.part ++
    leBytes 1 h.parts ++ List.replicate 17 0 ++ payload

/-- The number in `n` bytes of a frame from byte `o` on. -/
def fNum (f : List Byte) (o n : Nat) : Nat := ofBytes ((f.drop o).take n)

def fKind (f : List Byte) : Nat := fNum f 0 1
def fPayload (f : List Byte) : List Byte := (f.drop 64).take (fNum f 22 2)

/-- Whether a received frame is as long as its header says. -/
def fWhole (f : List Byte) : Bool := decide (fNum f 22 2 ≤ 8192) && f.length == 80 + fNum f 22 2

/-- A header with its counter. -/
def withCounter (hdr : List Byte) (c : Nat) : List Byte := hdr.take 48 ++ leBytes 8 c ++ (hdr.drop 56).take 8

/-- The nonce of a counter: the salt and the counter, big-endian. -/
def lnNonce (k : LnKey) (c : Nat) : List Byte := k.salt ++ (leBytes 8 c).reverse

/-- 64-byte units of link credits that a frame takes. -/
def lnUnits (f : List Byte) : Nat := ceilDiv (f.length + 16) 64

/-! ## Leaving service -/

/-- Frames queued at a port are discarded and counted. -/
def State.lnDrop (s : State) (n : Nat) : State :=
  let p := s.port n
  (s.addSat (LN_CRYPTO n) LN_CRYPTO.dropped p.queue.length).setPort n { p with queue := [], stalled := [none, none, none, none] }

/-- What waited for a port that leaves ACTIVE ends with PORT_DOWN: an alignment (R379), a join that imports (R382). -/
def State.lnLost (s : State) (n : Nat) : State :=
  let s := match s.time.align with
    | some a => if a.source = n then s.endAlign (fun s w => s.refuse w.cmd 0x07) else s
    | none => s
  (List.range 16).foldl (fun s c =>
    match s.joins.find? (fun e => e.1 == c && e.2.port == n && !e.2.imported) with
    | none => s
    | some _ =>
      ({ s with joins := s.joins.filter (fun e => e.1 != c) } : State).complete (fun w => w.op == 0x0A04 && w.ctx == c)
        (fun s w => s.refuse w.cmd 0x07)) s

/-- The keys, the handshake and the queue of a port are gone. -/
def State.lnClear (s : State) (n : Nat) : State :=
  let s := s.lnDrop n
  let s := s.setPort n { s.port n with hs := {}, tx := {}, rx := {}, nextTx := none, nextRx := none, credits := [0, 0, 0, 0],
                                       failedReplays := 0 }
  let s := ({ s with sec := { s.sec with queue := s.sec.queue.filter (fun r => !(r.handshake && r.port == n)) } } : State).signView
  s.lnLost n

/-- A port enters DOWN with a reason (R361). -/
def State.lnDown (s : State) (n reason : Nat) : State :=
  let s := s.lnClear n
  let s := (s.setLn n 5).setFld (LN_STATUS n) LN_STATUS.down_reason reason
  let s := s.addSat (LN_RETRY n) LN_RETRY.downs 1
  let got := s.draw 88
  let v := got.1
  let s := got.2
  s.linkError n (bits v 0 8) (bits v 8 16) (bits v 24 64)

/-- The command that enables a port is refused. -/
def State.lnRefused (s : State) (n detail : Nat) : State :=
  s.complete (fun w => w.op == 0x0A01 && w.obj == n) (fun s w => s.refuse w.cmd detail)

/-- A port is FENCED with a cause (R362, R363). -/
def State.lnFence (s : State) (n cause : Nat) : State :=
  (((s.lnClear n).setLn n 6).setFld (LN_STATUS n) LN_STATUS.fence_cause cause).lnRefused n 0x03

/-- A port goes to OFF: the commands that disable it reply, and one that enables it is CANCELLED. `aborted` says whether the
stop ended by ABORT (R364). -/
def State.lnOff (s : State) (n : Nat) (aborted : Bool) : State :=
  let s := s.lnClear n
  let p := s.port n
  let fenced := s.lnState n = 6
  let s := (s.setReg (LN_STATUS n) 0).setPort n { since := s.tb, badLanes := p.badLanes, sent := p.sent,
                                                   hsFails := if fenced then 0 else p.hsFails }
  let s := s.complete (fun w => w.op == 0x0A01 && w.obj == n) (fun s w => s.reply w.cmd stCANCELLED 0)
  s.complete (fun w => w.op == 0x0A02 && w.obj == n)
    (fun s w => s.okForm w.cmd (if w.form = 1 then 1 else if aborted then 2 else 0) [])

/-! ## Sending (R366, R367, R372) -/

/-- Since when each LVC of a port holds frames with no credit (R361). -/
def Port.stalls (p : Port) (tb : Nat) : Port :=
  { p with stalled := (List.range 4).map (fun l =>
      if p.queue.any (fun q => q.1 == l) && p.credits.getD l 0 == 0 then some ((p.stalled.getD l none).getD tb) else none) }

/-- The frame that a port sends next: LVC3 first, each LVC in order. -/
def Port.next (p : Port) (lvcs : List Nat) : Option Nat :=
  (lvcs.filterMap (fun l => (p.queue.findIdx? (fun q => q.1 == l)).bind (fun i =>
    match p.queue[i]? with
    | some q => if lnUnits q.2.2 ≤ p.credits.getD l 0 then some i else none
    | none => none))).head?

/-- A rekey whose keys are both in use is complete (R367). -/
def State.rekeyEnd (s : State) (n : Nat) : State :=
  let p := s.port n
  if s.lnState n = 4 ∧ !p.hs.digest.isEmpty ∧ p.nextTx.isNone ∧ p.nextRx.isNone then
    ((s.setLn n 3).setPort n { p with since := s.tb, hs := {}, keyFrom := s.tb }).addSat (LN_CRYPTO n) LN_CRYPTO.rekeys 1
  else s

/-- A timebase count in 1/64 counts, as taken at the physical coding sublayer; the fraction is free (log 26). -/
def State.stamp (s : State) : Nat × State :=
  let got := s.draw 6
  let x := got.1
  let s := got.2
  (s.tb * 64 + x, s)

/-- A timebase frame is stamped as it goes out: a TB_REQ gives the alignment its t1, a TB_RSP carries its t3 behind its t2
(R379). -/
def State.lnStamp (s : State) (n : Nat) (f : List Byte) : List Byte × State :=
  if fKind f = fTBREQ then
    let got := s.stamp
    let x := got.1
    let s := got.2
    match s.time.align with
    | some a => (f, if a.source = n then { s with time := { s.time with align := some { a with t1 := x } } } else s)
    | none => (f, s)
  else if fKind f = fTBRSP then
    let got := s.stamp
    let x := got.1
    let s := got.2
    (f.take 80 ++ leBytes 16 x, s)
  else (f, s)

/-- One frame goes out: in clear with a tag that no key makes, or encrypted under the next counter. -/
def State.lnSend (s : State) (n : Nat) (clear : Bool) (f : List Byte) : State :=
  let p := s.port n
  let c := s.fld (LN_TX_CTR n) LN_TX_CTR.counter
  let got := if clear then s.draw 128 else (0, s)
  let tag := got.1
  let s := got.2
  let got := s.lnStamp n f
  let f := got.1
  let s := got.2
  let h := withCounter (f.take 64) c
  let out := if clear then f ++ leBytes 16 tag else h ++ Config.gcmSeal p.tx.key (lnNonce p.tx c) h (f.drop 64)
  let s := if clear then s else s.setReg (LN_TX_CTR n) (BitVec.ofNat 64 (c + 1))
  let s := (s.setPort n { p with sent := p.sent ++ [out], lastSent := s.tb }).addWrap (LN_FRAMES_TX n) 1
  if fKind f = fSWITCH then
    ((s.setPort n { s.port n with tx := p.nextTx.getD p.tx, nextTx := none }).setReg (LN_TX_CTR n) 0).rekeyEnd n
  else s

/-- Frames go out while credits and the counter allow. -/
def State.lnPumpN (s : State) (n fuel : Nat) : State :=
  match fuel with
  | 0 => s
  | k + 1 =>
    let p := s.port n
    let lvcs := if s.lnUp n then [3, 2, 1, 0] else if s.lnState n = 2 then [3] else []
    match p.next lvcs with
    | none => s
    | some i =>
      match p.queue[i]? with
      | none => s
      | some (l, clear, f) =>
        if !clear && decide (s.fld (LN_TX_CTR n) LN_TX_CTR.counter ≥ 2 ^ 40 + 2 ^ 24) then s
        else
          let s := s.setPort n { p with queue := p.queue.eraseIdx i,
                                        credits := p.credits.set l (p.credits.getD l 0 - lnUnits f) }
          (s.lnSend n clear f).lnPumpN n k

/-- As `lnPumpN` for all that is queued. -/
def State.lnPump (s : State) (n : Nat) : State :=
  let s := s.lnPumpN n (s.port n).queue.length
  s.setPort n ((s.port n).stalls s.tb)

/-- A draining port whose queue is empty sends CLOSE, and is OFF once that is sent (R364). -/
def State.lnDrained (s : State) (n : Nat) : State :=
  let p := s.port n
  if !p.draining || !p.queue.isEmpty || !s.lnUp n then s
  else if p.closing then s.lnOff n false
  else
    let s := (s.setPort n { p with closing := true, queue := [(3, false, ({ kind := fCLOSE } : LnHdr).frame [])] }).lnPump n
    if (s.port n).queue.isEmpty then s.lnOff n false else s

/-- A frame is queued at a port; one that is not in service drops it. -/
def State.lnQueue (s : State) (n lvc : Nat) (clear : Bool) (f : List Byte) : State :=
  if s.lnUp n || s.lnState n == 2 then
    let p := s.port n
    ((s.setPort n { p with queue := p.queue ++ [(lvc, clear, f)] }).lnPump n).lnDrained n
  else s.addSat (LN_CRYPTO n) LN_CRYPTO.dropped 1

/-- A management frame is queued. -/
def State.lnManage (s : State) (n : Nat) (clear : Bool) (h : LnHdr) (payload : List Byte) : State :=
  s.lnQueue n 3 clear (h.frame payload)

/-- LVC_CREDIT: control flits return credits of an LVC. -/
def execLvcCredit (n : LnPort) (lvc : Fin 4) (units : BitVec 16) (s : State) : Host.Outcome State Fault Refusal :=
  .next (
    if s.lnUp n || s.lnState n == 2 then
      let p := s.port n
      let s := s.setPort n { p with credits := p.credits.set lvc (p.credits.getD lvc 0 + units.toNat) }
      (s.lnPump n).lnDrained n
    else s)

/-! ## Receiving (R362, R366) -/

/-- A frame that does not authenticate is discarded and counted; more than 64 in any second fence the port. -/
def State.lnAuthFail (s : State) (n : Nat) : State :=
  let p := s.port n
  let l := p.authTimes.filter (fun t => decide (s.tb < t + 100000000)) ++ [s.tb]
  let s := (s.addSat (LN_AUTH n) LN_AUTH.auth_failures 1).setFld (LN_AUTH n) LN_AUTH.last_second (min 65 l.length)
  let s := s.setPort n { p with authTimes := l }
  if l.length > 64 then s.lnFence n 1 else s

/-- A received frame is authenticated: its plaintext, header and payload, where its counter and tag hold. -/
def State.lnOpen (s : State) (n : Nat) (f : List Byte) : Option (List Byte) × State :=
  let p := s.port n
  let c := s.fld (LN_RX_CTR n) LN_RX_CTR.counter
  let h := f.take 64
  if !fWhole f || fNum f 48 8 != c then (none, s.lnAuthFail n)
  else match Config.gcmOpen p.rx.key (lnNonce p.rx c) h (f.drop 64) with
  | none => (none, s.lnAuthFail n)
  | some b =>
    let s := (s.setReg (LN_RX_CTR n) (BitVec.ofNat 64 (c + 1))).setPort n { p with lastAuth := s.tb }
    (some (h ++ b), s.addWrap (LN_FRAMES_RX n) 1)

/-- A management frame of a kind reaches a port in service: what its plaintext does. -/
def State.lnGot (s : State) (n kind : Nat) (f : List Byte) (g : List Byte → State → State) : State :=
  if !s.lnUp n || fKind f != kind then s
  else match s.lnOpen n f with
  | (none, s) => s
  | (some b, s) => g b s

/-- A frame with no ingress entry or no route to forward it on is discarded and counted (R362). -/
def State.lnUnknown (s : State) (n : Nat) : State := s.addSat (LN_AUTH n) LN_AUTH.unknown_rch 1

/-- KEEPALIVE. -/
def execKeepalive (n : LnPort) (frame : LnFrame) (s : State) : Host.Outcome State Fault Refusal :=
  .next (s.lnGot n fKEEPALIVE frame (fun _ s => s))

/-- KEEPALIVE_SEND: a port that has sent nothing for 10 µs. -/
def execKeepaliveSend (n : LnPort) (s : State) : Host.Outcome State Fault Refusal :=
  .next (if s.lnUp n ∧ s.tb ≥ (s.port n).lastSent + 1000 then s.lnManage n false { kind := fKEEPALIVE } [] else s)

/-- KEEPALIVE_TIMEOUT. -/
def execKeepaliveTimeout (n : LnPort) (s : State) : Host.Outcome State Fault Refusal :=
  let t := s.fld (LN_TIMERS n) LN_TIMERS.keepalive_timeout_us * 100
  .next (if s.lnUp n ∧ s.tb ≥ (s.port n).lastAuth + t then s.lnDown n 1 else s)

/-- CREDIT_TIMEOUT: an LVC has held frames without credits for credit_timeout. -/
def execCreditTimeout (n : LnPort) (s : State) : Host.Outcome State Fault Refusal :=
  let t := s.fld (LN_TIMERS n) LN_TIMERS.credit_timeout_ms * 100000
  let late := (s.port n).stalled.any (fun x => match x with
    | some b => decide (s.tb ≥ b + t)
    | none => false)
  .next (if s.lnUp n && late then s.lnDown n 2 else s)

/-- CLOSE: the partner closes the link. -/
def execClose (n : LnPort) (frame : LnFrame) (s : State) : Host.Outcome State Fault Refusal :=
  .next (s.lnGot n fCLOSE frame (fun _ s => s.lnDown n 5))

/-! ## Link flits (R358, R359) -/

/-- LN_REPLAY: what a link flit meets on a lane: corrected, replayed, or a replay that fails. -/
def execLnReplay (n : LnPort) (lane : Fin 4) (flit : LinkFlit) (s : State) : Host.Outcome State Fault Refusal :=
  let p := s.port n
  .next (
    if !s.lnUp n && s.lnState n != 2 then s
    else match flit with
    | .corrected =>
      let s := s.addSat (LN_ERR n) LN_ERR.fec_corrected 1
      (s.addSat (LN_LANE n lane) LN_LANE.corrected 1).addSat (HLTH_LANE (4 * n + lane)) HLTH_LANE.corrected 1
    | .replayed =>
      ((s.addSat (LN_ERR n) LN_ERR.fec_uncorrected 1).addSat (LN_RETRY n) LN_RETRY.replays 1).setPort n { p with failedReplays := 0 }
    | .failed =>
      ((s.addSat (LN_ERR n) LN_ERR.fec_uncorrected 1).addSat (LN_RETRY n) LN_RETRY.replays 1).setPort n
        { p with failedReplays := p.failedReplays + 1 })

/-- LN_RETRAIN: after eight failed replays in a row or loss of block lock; the third retrain within 1 s takes the port DOWN. -/
def execLnRetrain (n : LnPort) (lockLost : Bool) (s : State) : Host.Outcome State Fault Refusal :=
  let p := s.port n
  .next (
    if !s.lnUp n || !(lockLost || decide (p.failedReplays ≥ 8)) then s
    else
      let l := p.retrains.filter (fun t => decide (s.tb < t + 100000000)) ++ [s.tb]
      let s := s.addSat (LN_RETRY n) LN_RETRY.retrains 1
      let s := s.setPort n { p with retrains := l, failedReplays := 0 }
      if l.length ≥ 3 then s.lnDown n 3 else s)

/-! ## Handshake (R363, R365) -/

/-- A handshake has failed: DOWN, and after the third in a row FENCED. -/
def State.lnFail (s : State) (n : Nat) : State :=
  let k := (s.port n).hsFails + 1
  let s := s.setPort n { s.port n with hsFails := k }
  if k ≥ 3 then s.lnFence n 2 else (s.lnDown n 6).lnRefused n 0x02

/-- The pieces of at most 8,192 bytes of a list. -/
def pieces (fuel : Nat) (l : List Byte) : List (List Byte) :=
  match fuel with
  | 0 => []
  | k + 1 => if l.length ≤ 8192 then [l] else l.take 8192 :: pieces k (l.drop 8192)

/-- The handshake starts: the HELLO frames go out. -/
def State.lnHello (s : State) (n : Nat) : State :=
  let got := s.draw 256
  let r := got.1
  let s := got.2
  let r := leBytes 32 r
  let l := pieces 16 (r ++ identityPublic ++ Config.certChain)
  let frames := ((List.range l.length).zip l).map (fun e =>
    ({ kind := fHELLO, part := e.1, parts := l.length } : LnHdr).frame e.2)
  let s := (s.setLn n 2).setPort n { s.port n with
    since := s.tb, hs := { active := true, tb := s.tb, rand := r, mine := frames }, credits := [1024, 1024, 128, 256] }
  frames.foldl (fun s f => s.lnQueue n 3 true f) s

/-- The frame of a received handshake frame that the transcript holds: header and payload. -/
def fSigned (f : List Byte) : List Byte := f.take 64 ++ fPayload f

/-- The initiator sends its encapsulation key. -/
def State.lnKemStart (s : State) (n : Nat) (clear : Bool) : State :=
  let got := s.draw 512
  let seed := got.1
  let s := got.2
  let f := ({ kind := fKEM } : LnHdr).frame (padTo 1568 (Config.kemPublic seed))
  let p := s.port n
  (s.setPort n { p with hs := { p.hs with seed := seed, kem := [f] } }).lnQueue n 3 clear f

/-- A digest as a big-endian number. -/
def beNum (l : List Byte) : Nat := ofBytes l.reverse

/-- The parts of the partner's HELLO are complete: the roles follow from the keys. -/
def State.lnHelloDone (s : State) (n : Nat) (b : List Byte) : State :=
  let p := s.port n
  let key := (b.drop 32).take 60
  let first := decide (beNum (sha256 identityPublic) < beNum (sha256 key))
  let s := s.setPort n { p with hs := { p.hs with
    partnerRand := b.take 32, partnerKey := key, chain := b.drop 92, haveHello := true, initiator := first } }
  let s := s.setBit (LN_STATUS n) LN_STATUS.initiator first
  if first then s.lnKemStart n true else s

/-- Whether a clear frame of a kind is due at a port. -/
def State.lnClearDue (s : State) (n kind : Nat) (f : List Byte) : Bool :=
  s.lnState n == 2 && (s.port n).hs.active && fKind f == kind && fWhole f

/-- HELLO: one part of the partner's. -/
def execHello (n : LnPort) (frame : LnFrame) (s : State) : Host.Outcome State Fault Refusal :=
  let p := s.port n
  let k := fNum frame 46 1
  .next (
    if !s.lnClearDue n fHELLO frame then s
    else
      let s := s.addWrap (LN_FRAMES_RX n) 1
      let parts := tset [] p.hs.parts (fNum frame 45 1) (fSigned frame)
      let s := s.setPort n { p with hs := { p.hs with parts := parts } }
      if p.hs.haveHello ∨ fNum frame 45 1 ≥ k then s.lnFail n
      else if (List.range k).all (fun i => parts.any (fun e => e.1 == i)) then
        s.lnHelloDone n ((List.range k).flatMap (fun i => (tget [] parts i).drop 64))
      else s)

/-- The frames of a handshake's transcript in the order sent: HELLO of the initiator and of the responder, key, ciphertext. -/
def Handshake.transcript (h : Handshake) : List Byte :=
  let theirs := h.parts.map (fun e => e.2)
  ((if h.rekey then [] else if h.initiator then h.mine ++ theirs else theirs ++ h.mine) ++ h.kem).flatten

/-- The keys of a link as derived: both directions of this side. -/
def Handshake.keys (h : Handshake) (salt : List Byte) : LnKey × LnKey :=
  let b := hkdf salt h.secret h.digest 72
  let i : LnKey := { key := b.take 32, salt := (b.drop 64).take 4 }
  let r : LnKey := { key := (b.drop 32).take 32, salt := (b.drop 68).take 4 }
  if h.initiator then (i, r) else (r, i)

/-- Both sides hold the secret: the keys follow, and a handshake asks for its signature (R365, R389), a rekey switches
(R367). -/
def State.lnDerive (s : State) (n : Nat) (secret : List Byte) : State :=
  let p := s.port n
  let h := { p.hs with secret := secret, digest := sha256 p.hs.transcript }
  if h.rekey then
    let old := if h.initiator then p.tx.key ++ p.rx.key else p.rx.key ++ p.tx.key
    let got := h.keys old
    let t := got.1
    let r := got.2
    (s.setPort n { p with hs := h, nextTx := some t, nextRx := some r }).lnManage n false { kind := fSWITCH } []
  else
    let got := h.keys (if h.initiator then h.rand ++ h.partnerRand else h.partnerRand ++ h.rand)
    let t := got.1
    let r := got.2
    let s := (s.setReg (LN_TX_CTR n) 0).setReg (LN_RX_CTR n) 0
    let s := s.setPort n { p with hs := h, tx := t, rx := r }
    if s.bit SEC_STATUS SEC_STATUS.exhausted then s.lnFail n
    else s.queueSign { handshake := true, port := n, digest := h.digest }

/-- A rekey begins at this side (R367). -/
def State.lnRekey (s : State) (n : Nat) : State :=
  let p := s.port n
  let first := s.bit (LN_STATUS n) LN_STATUS.initiator
  (s.setLn n 4).setPort n { p with since := s.tb, hs := { active := true, rekey := true, tb := s.tb, initiator := first } }

/-- A KEM frame, header and payload: the key for the responder, the ciphertext for the initiator; a bad one fails. -/
def State.lnKem (s : State) (n : Nat) (f : List Byte) (clear : Bool) (fail : State → State) : State :=
  let p := s.port n
  let h := p.hs
  let b := f.drop 64
  if b.length ≠ 1568 then fail s
  else if h.initiator then
    if h.kem.length ≠ 1 then fail s
    else (s.setPort n { p with hs := { h with kem := h.kem ++ [f] } }).lnDerive n (Config.kemOpen h.seed b)
  else if !h.kem.isEmpty then fail s
  else
    let got := s.draw 256
    let seed := got.1
    let s := got.2
    let c := ({ kind := fKEM } : LnHdr).frame (padTo 1568 (Config.kemEncap b seed))
    let s := s.setPort n { p with hs := { h with seed := seed, kem := [f, c] } }
    (s.lnQueue n 3 clear c).lnDerive n (Config.kemSecret b seed)

/-- KEM: of a handshake in clear, of a rekey under the current keys. -/
def execKem (n : LnPort) (frame : LnFrame) (s : State) : Host.Outcome State Fault Refusal :=
  .next (
    if s.lnClearDue n fKEM frame then
      let s := s.addWrap (LN_FRAMES_RX n) 1
      if !(s.port n).hs.haveHello then s.lnFail n else s.lnKem n (fSigned frame) true (fun s => s.lnFail n)
    else s.lnGot n fKEM frame (fun b s =>
      let s := if s.lnState n = 3 ∧ !s.bit (LN_STATUS n) LN_STATUS.initiator then s.lnRekey n else s
      if s.lnState n = 4 then s.lnKem n b false (fun s => s.lnDown n 6) else s))

/-- The handshake is complete: the port is ACTIVE, and the command that enabled it replies. -/
def State.lnActive (s : State) (n : Nat) : State :=
  let p := s.port n
  let d := sha256 p.hs.partnerKey
  let s := (s.setDigestRegs (LN_PARTNER n) d).addSat (LN_CRYPTO n) LN_CRYPTO.handshakes 1
  let s := (s.setLn n 3).setFld (LN_STATUS n) LN_STATUS.down_reason 0
  let s := s.setPort n { s.port n with hs := {}, hsFails := 0, keyFrom := s.tb, lastAuth := s.tb, retrains := [] }
  (s.lnPump n).complete (fun w => w.op == 0x0A01 && w.obj == n) (fun s w => s.ok w.cmd [(32, ofBytes d)])

/-- FINISHED goes out once this side has signed and verified, and the handshake ends with the partner's. -/
def State.lnFinish (s : State) (n : Nat) : State :=
  let h := (s.port n).hs
  let s := if h.signed && h.verified && !h.finSent then
      (s.setPort n { s.port n with hs := { h with finSent := true } }).lnManage n false { kind := fFINISHED } []
    else s
  let h := (s.port n).hs
  if s.lnState n = 2 ∧ h.finSent ∧ h.finGot then s.lnActive n else s

/-- SIGN: the partner's signature of the transcript and its chain are verified. -/
def execSign (n : LnPort) (frame : LnFrame) (s : State) : Host.Outcome State Fault Refusal :=
  let p := s.port n
  .next (
    if !s.lnClearDue n fSIGN frame then s
    else
      let s := s.addWrap (LN_FRAMES_RX n) 1
      if !p.hs.digest.isEmpty && Config.chainOk p.hs.chain p.hs.partnerKey &&
          Config.hssVerify p.hs.partnerKey p.hs.digest (fPayload frame) then
        (s.setPort n { p with hs := { p.hs with verified := true } }).lnFinish n
      else s.lnFail n)

/-- FINISHED: the partner holds the same keys. -/
def execFinished (n : LnPort) (frame : LnFrame) (s : State) : Host.Outcome State Fault Refusal :=
  .next (
    if s.lnState n ≠ 2 ∨ fKind frame ≠ fFINISHED then s
    else if (s.port n).hs.digest.isEmpty then s.lnFail n
    else match s.lnOpen n frame with
    | (none, s) => if s.lnState n = 2 then s.lnFail n else s
    | (some _, s) => (s.setPort n { s.port n with hs := { (s.port n).hs with finGot := true } }).lnFinish n)

/-- HANDSHAKE_TIMEOUT: a handshake not complete within 200 ms has failed. -/
def execHandshakeTimeout (n : LnPort) (s : State) : Host.Outcome State Fault Refusal :=
  .next (if s.lnState n = 2 ∧ s.tb ≥ (s.port n).hs.tb + 20000000 then s.lnFail n else s)

/-- SIGNING_QUEUE: the next request is signed where the limit of R389 allows. A reservation of leaves is journalled first; one
that cannot be leaves the request waiting (R388), and with no leaf left signatures fail (R390). -/
def execSigningQueue (journalOk : Bool) (s : State) : Host.Outcome State Fault Refusal :=
  .next (match s.sec.queue with
    | [] => s
    | r :: rest =>
      let pop := fun (s : State) => ({ s with sec := { s.sec with queue := rest } } : State).signView
      if s.bit SEC_STATUS SEC_STATUS.exhausted then
        if r.handshake then (pop s).lnFail r.port
        else
          let got := (pop s).draw 8
          let d := got.1
          let s := got.2
          s.complete (fun w => w == r.cmd) (fun s w => s.refuse w.cmd d)
      else if !s.maySign then s
      else if !journalOk ∧ s.fld SEC_LEAVES_USED SEC_LEAVES_USED.used ≥ s.fld SEC_LEAVES_RESV SEC_LEAVES_RESV.reserved_end then
        s.setBit SEC_FAULT SEC_FAULT.journal_fault true
      else
        let s := (pop s).reserveLeaves
        if r.handshake then
          let got := s.useLeaf
          let k := got.1
          let s := got.2
          let s := s.lnManage r.port true { kind := fSIGN } (signature k r.digest)
          (s.setPort r.port { s.port r.port with hs := { (s.port r.port).hs with signed := true } }).lnFinish r.port
        else
          let s := { s with waiting := s.waiting.erase r.cmd }
          s.finishAttest r)

/-! ## Rekey (R367) -/

/-- Whether a port's keys are due to be replaced. -/
def State.rekeyDue (s : State) (n : Nat) : Bool :=
  decide (s.fld (LN_TX_CTR n) LN_TX_CTR.counter ≥ 2 ^ 40) || decide (s.fld (LN_RX_CTR n) LN_RX_CTR.counter ≥ 2 ^ 40) ||
    decide (s.tb ≥ (s.port n).keyFrom + s.fld (LN_TIMERS n) LN_TIMERS.rekey_hours * 360000000000)

/-- REKEY: with no frame, the port's own limit; with one, the partner asks for a rekey. The initiator of the handshake sends its
key; the responder asks it to (log 27). -/
def execRekey (n : LnPort) (frame : Option LnFrame) (s : State) : Host.Outcome State Fault Refusal :=
  let first := s.bit (LN_STATUS n) LN_STATUS.initiator
  .next (match frame with
    | none =>
      if s.lnState n = 3 ∧ s.rekeyDue n then
        if first then (s.lnRekey n).lnKemStart n false else (s.lnRekey n).lnManage n false { kind := fREKEY } []
      else s
    | some f => s.lnGot n fREKEY f (fun _ s => if s.lnState n = 3 ∧ first then (s.lnRekey n).lnKemStart n false else s))

/-- REKEY_SWITCH: the old receive key is retired; with both keys switched the rekey is complete. -/
def execRekeySwitch (n : LnPort) (frame : LnFrame) (s : State) : Host.Outcome State Fault Refusal :=
  .next (s.lnGot n fSWITCH frame (fun _ s =>
    match (s.port n).nextRx with
    | none => s
    | some k => ((s.setPort n { s.port n with rx := k, nextRx := none }).setReg (LN_RX_CTR n) 0).rekeyEnd n))

/-- REKEY_TIMEOUT: a rekey not complete within 200 ms takes the port DOWN. -/
def execRekeyTimeout (n : LnPort) (s : State) : Host.Outcome State Fault Refusal :=
  .next (if s.lnState n = 4 ∧ s.tb ≥ (s.port n).hs.tb + 20000000 then s.lnDown n 6 else s)

/-! ## Training (R355, R356, R360) -/

/-- Whether lane `l` of a port is FENCED. -/
def State.laneOut (s : State) (n l : Nat) : Bool := s.fld (HLTH_LANE (4 * n + l)) HLTH_LANE.state = 3

/-- The width that the lanes of a port allow: none where no pair is whole, else half width and the upper pair. -/
def State.lnWidth (s : State) (n : Nat) : Option (Bool × Bool) :=
  let out := fun l => s.laneOut n l
  if !out 0 && !out 1 && !out 2 && !out 3 then some (false, false)
  else if !out 0 && !out 1 then some (true, false)
  else if !out 2 && !out 3 then some (true, true)
  else none

/-- Lanes that fail twice in a row are FENCED; whether a lane that is not FENCED has failed. -/
def State.lnLanes (s : State) (n : Nat) (x : LnTrain) : Bool × State :=
  let p := s.port n
  let tried := (List.range 4).filter (fun l => !s.laneOut n l)
  let bad := tried.filter (fun l => bitOf x.bad.toNat l)
  let twice_ := bad.filter (fun l => bitOf p.badLanes l)
  let s := twice_.foldl (fun s l => s.setFld (HLTH_LANE (4 * n + l)) HLTH_LANE.state 3) s
  let s := bad.foldl (fun s l => s.setFld (LN_LANE n l) LN_LANE.state 3) s
  let s := s.setPort n { p with badLanes := (bad.map (fun l => 2 ^ l)).sum }
  let s := if twice_.isEmpty then s else s.publish
  (bad.length != twice_.length, s)

/-- Training is complete on the lanes of a width. -/
def State.lnTrained (s : State) (n : Nat) (half upper : Bool) (x : LnTrain) : State :=
  let got := s.drawList 4 8
  let eyes := got.1
  let s := got.2
  let s := ((List.range 4).zip eyes).foldl (fun s e =>
    let l := e.1
    if s.laneOut n l then s
    else
      let used := !half || decide (l / 2 = b2n upper)
      let a := LN_LANE n l
      let s := (s.setFld a LN_LANE.state (if used then 1 else 2)).setBit a LN_LANE.inverted (bitOf x.inverted.toNat l)
      (s.setFld a LN_LANE.eye_mv e.2).setFld (HLTH_LANE (4 * n + l)) HLTH_LANE.state 1) s
  let s := (s.setBit (LN_STATUS n) LN_STATUS.half_width half).setBit (LN_STATUS n) LN_STATUS.upper_pair upper
  s.lnHello n

/-- A port trains: with no partner it stays in TRAINING; a lane that fails for the first time takes it DOWN. -/
def State.lnTrain (s : State) (n : Nat) (x : Option LnTrain) : State :=
  let s := s.setLn n 1
  match x with
  | none => s
  | some t =>
    let got := s.lnLanes n t
    let failed := got.1
    let s := got.2
    if failed then (s.lnDown n 4).lnRefused n 0x07
    else match s.lnWidth n with
    | none => (s.lnDown n 4).lnRefused n 0x07
    | some (h, u) => s.lnTrained n h u t

/-- LN_PORT_ENABLE: the enable bit of LN_CTRL; `train` is what training finds, none with no partner. -/
def execLnPortEnable (n : LnPort) (train : Option LnTrain) (s : State) : Host.Outcome State Fault Refusal :=
  .next (if s.lnState n = 0 then s.lnTrain n train else s)

/-- TRAIN_TIMEOUT. -/
def execTrainTimeout (n : LnPort) (s : State) : Host.Outcome State Fault Refusal :=
  let t := s.fld (LN_TIMERS n) LN_TIMERS.train_timeout_ms * 100000
  .next (if s.lnState n = 1 ∧ s.tb ≥ (s.port n).since + t then (s.lnDown n 0).lnRefused n 0x01 else s)

/-- DOWN_RETRY: a DOWN port trains again after 1 s, unless it is being disabled. -/
def execDownRetry (n : LnPort) (train : Option LnTrain) (s : State) : Host.Outcome State Fault Refusal :=
  .next (
    if s.lnState n = 5 ∧ s.tb ≥ (s.port n).since + 100000000 ∧ !(s.port n).draining then s.lnTrain n train else s)

/-- LN_ENABLE. -/
def execLnEnable (h : CmdHdr) (port : BitVec 8) (train : Option LnTrain) (s : State) : Host.Outcome State Fault Refusal :=
  let n := port.toNat
  .next (s.command h { op := 0x0A01 } (decide (n < 12)) (fun c s =>
    if s.lnState n = 6 then s.refuse c 0x03
    else if s.lnState n ≠ 0 then s.reply c stWRONG_STATE 0
    else if (s.lnWidth n).isNone then s.refuse c 0x07
    else (s.await c n 0).lnTrain n train))

/-! ## Disabling (R364) -/

/-- A port begins to be disabled: a DRAIN of a port in service takes its time. -/
def State.lnDisable (s : State) (n : Nat) (abort : Bool) : State :=
  let p := s.port n
  if abort || !(s.lnUp n || p.draining) then s.lnOff n true
  else if p.draining then s
  else (s.setPort n { p with draining := true, drainFrom := s.tb }).lnDrained n

/-- LN_DISABLE. -/
def execLnDisable (h : CmdHdr) (port : BitVec 8) (s : State) : Host.Outcome State Fault Refusal :=
  let n := port.toNat
  .next (s.command h { op := 0x0A02, forms := true } (decide (n < 12)) (fun c s =>
    if s.lnState n = 0 then s.reply c stWRONG_STATE 0
    else if c.form = 0 ∧ !(s.lnUp n || (s.port n).draining) then (s.lnOff n true).ok c []
    else (s.await c n 0).lnDisable n (c.form == 1)))

/-- LN_DISABLE_REQ: the disable_req bit of LN_CTRL. -/
def execLnDisableReq (n : LnPort) (mode : BitVec 2) (s : State) : Host.Outcome State Fault Refusal :=
  let s := s.setFld (LN_CTRL n) LN_CTRL.disable_mode mode.toNat
  .next (if s.lnState n = 0 ∨ mode.toNat ≥ 2 then s else s.lnDisable n (mode == 1))

/-- LN_DRAIN_TIMEOUT: a DRAIN past drain_timeout proceeds as ABORT. -/
def execLnDrainTimeout (n : LnPort) (s : State) : Host.Outcome State Fault Refusal :=
  let p := s.port n
  let t := max 1 (s.fld (LN_CTRL n) LN_CTRL.drain_timeout_ms) * 100000
  .next (if p.draining ∧ s.tb ≥ p.drainFrom + t then s.lnOff n true else s)

/-- LN_STATUS: lanes in use, frames refused, rekeys and the partner. -/
def execLnStatus (h : CmdHdr) (port : BitVec 8) (s : State) : Host.Outcome State Fault Refusal :=
  let n := port.toNat
  .next (s.command h { op := 0x0A03 } (decide (n < 12)) (fun c s =>
    let lanes := (List.range 4).countP (fun l => s.fld (LN_LANE n l) LN_LANE.state == 1)
    let bad := s.fld (LN_AUTH n) LN_AUTH.auth_failures + s.fld (LN_AUTH n) LN_AUTH.unknown_rch
    s.ok c [(1, s.lnState n), (1, lanes), (4, min (2 ^ 32 - 1) bad), (4, s.fld (LN_CRYPTO n) LN_CRYPTO.rekeys),
            (32, ofBytes (s.digestAt (LN_PARTNER n)))]))

end Sys2Proof.Machine
end

