-- ==== Sys2Proof/Machine/Proxies.lean ====
section
/-! DEFINITION. Machine/Proxies.lean: the egress and ingress proxies of remote channels, frames in transit, and the rows of
mesh messages, at a tile or at a proxy (R364 to R372, R374 to R378). -/
namespace Sys2Proof.Machine

def State.eg (s : State) (k : Nat) : EgProxy := tget {} s.egress k
def State.setEg (s : State) (k : Nat) (x : EgProxy) : State := { s with egress := tset {} s.egress k x }
def State.ing (s : State) (k : Nat) : InProxy := tget {} s.ingress k
def State.setIng (s : State) (k : Nat) (x : InProxy) : State := { s with ingress := tset {} s.ingress k x }

/-- 64-byte units that a message takes of a proxy's buffer and credits (R376). -/
def Msg.units (m : Msg) : Nat := ceilDiv (m.payload.length + 64) 64

/-! ## Egress (R375, R376) -/

/-- Placement of a message in an egress proxy's buffer of `size` bytes by the rule of R122; none where it has no room. -/
def EgProxy.place (x : EgProxy) (size : Nat) (m : Msg) : Option EgProxy :=
  let need := 64 * m.units
  let toEnd := size - x.tail
  let free := size - (x.buf.map (fun e => e.2)).sum
  if need ≤ toEnd ∧ need ≤ free then some { x with buf := x.buf ++ [(m, need)], tail := (x.tail + need) % size }
  else if need > toEnd ∧ toEnd + need ≤ free then some { x with buf := x.buf ++ [(m, toEnd + need)], tail := need }
  else none

/-- The tile beside the edge of die `d` (0 W, 1 E) in row `y`. -/
def edgeTile (d y : Nat) : Nat := y * 16 + 15 * d

/-- A message enters the mesh from edge die `d` at tile `p`. -/
def State.edgeSend (s : State) (d p : Nat) (m : Msg) : State :=
  { s with net := s.net ++ [({ msg := m, loc := p, inPort := if d = 0 then 3 else 1 } : NetMsg)] }

/-- The answer of edge die `d` to a message. -/
def State.edgeReply (s : State) (d : Nat) (m : Msg) (kind reason : Nat) : State :=
  s.edgeSend d (edgeTile d (m.srcTile / 16 % 16))
    { kind := kind, vc := 2, ctx := m.ctx, destTile := m.srcTile, destEp := m.srcEp, srcTile := 256 + d,
      srcEp := m.destEp, srcVtile := m.srcVtile, chanSeq := m.chanSeq, operand := reason }

/-- The port on which an egress proxy sends: nibble 0 of its route. -/
def State.egPort (s : State) (d i : Nat) : Nat := s.fld (LN_EGRESS_W1 d i) LN_EGRESS_W1.route % 16

/-- Whether a port leaves service or has left it (R364). -/
def State.lnLeaving (s : State) (n : Nat) : Bool := (s.port n).draining || s.lnState n == 0

/-- The first message of a kind that has arrived at egress proxies of die `d` is placed and acknowledged, or refused. -/
def State.egressTake (s : State) (d kind : Nat) : State :=
  match s.arrivedFor (256 + d) [kind] (fun m => d == 1 || !s.isOutput m) with
  | none => s
  | some (j, x) =>
    let m := x.msg
    let i := m.destEp % 64
    let s := s.netDrop j
    let a := LN_EGRESS_W0 d i
    let g := s.eg (d * 64 + i)
    if !s.bit a LN_EGRESS_W0.valid || s.fld a LN_EGRESS_W0.ctx != m.ctx || s.lnLeaving (s.egPort d i) then
      s.edgeReply d m kNack 0x06
    else if before32 m.chanSeq g.expected then s.edgeReply d m kAck 0
    else if m.chanSeq ≠ g.expected then s.edgeReply d m kNack 0x03
    else match g.place (s.fld a LN_EGRESS_W0.buffer_kib * 1024) m with
    | none => s.edgeReply d m kNack 0x01
    | some g => (s.setEg (d * 64 + i) { g with expected := (g.expected + 1) % 2 ^ 32 }).edgeReply d m kAck 0

/-- The frame of a message of egress proxy `i`; a COMBINE carries its index in the amount field (log 28). -/
def State.egFrame (s : State) (d i : Nat) (m : Msg) : List Byte :=
  let a := LN_EGRESS_W0 d i
  ({ kind := m.kind, lvc := s.fld a LN_EGRESS_W0.lvc, hops := s.fld a LN_EGRESS_W0.hop_count,
     route := s.fld (LN_EGRESS_W1 d i) LN_EGRESS_W1.route + s.fld (LN_EGRESS_W2 d i) LN_EGRESS_W2.route * 2 ^ 64,
     rch := s.fld a LN_EGRESS_W0.rch, tok := encodeHdr m.tok,
     amount := if m.kind = kCombine then m.addr else if m.kind = kAdd then m.operand else 0,
     vid := if m.kind = kAdd then m.addr else 0 } : LnHdr).frame m.payload

/-- EGRESS_SEND: an egress proxy sends its head message when it holds the credits and its port takes frames. -/
def execEgressSend (die : Fin 2) (proxy : Fin 64) (s : State) : Host.Outcome State Fault Refusal :=
  let g := s.eg (die * 64 + proxy)
  let w := LN_EGRESS_W3 die proxy
  let n := s.egPort die proxy
  .next (match g.buf with
    | [] => s
    | (m, _) :: rest =>
      if s.lnUp n && !(s.port n).draining && decide (m.units ≤ s.fld w LN_EGRESS_W3.credits) then
        let f := s.egFrame die proxy m
        let s := s.setFld w LN_EGRESS_W3.credits (s.fld w LN_EGRESS_W3.credits - m.units)
        (s.setEg (die * 64 + proxy) { g with buf := rest }).lnQueue n (s.fld (LN_EGRESS_W0 die proxy) LN_EGRESS_W0.lvc) false f
      else s)

/-! ## Frames that arrive (R370, R371) -/

/-- Nibble `i` of a route. -/
def nibble (route i : Nat) : Nat := bits route (4 * i) 4

/-- The first `k` nibbles of a route in reverse order. -/
def reverseRoute (route k : Nat) : Nat := ((List.range k).map (fun i => nibble route (k - 1 - i) * 16 ^ i)).sum

/-- A frame with its route and hop replaced. -/
def withRoute (f : List Byte) (hop route : Nat) : List Byte :=
  f.take 2 ++ leBytes 1 hop ++ (f.drop 3).take 1 ++ leBytes 16 route ++ f.drop 20

/-- The route of a received frame with the ingress port written into nibble hop − 1. -/
def routeIn (f : List Byte) (n : Nat) : Nat :=
  let r := fNum f 4 16
  let i := fNum f 2 1 - 1
  r - nibble r i * 16 ^ i + n * 16 ^ i

/-- Whether a frame carries a message or proxy credits: any kind but the management kinds. -/
def fRouted (f : List Byte) : Bool := fKind f / 16 != 3

/-- Whether this module is the frame's last, or its hop is out of range. -/
def fFinal (f : List Byte) : Bool := fNum f 2 1 == 0 || decide (fNum f 3 1 ≤ fNum f 2 1)

/-- A frame that the row is for reaches a port in service; one whose hop is 0 or above hop_count is discarded (R370). -/
def State.lnRouted (s : State) (n : Nat) (f : List Byte) (due : Bool) (g : List Byte → State → State) : State :=
  if !s.lnUp n || !due then s
  else match s.lnOpen n f with
  | (none, s) => s
  | (some b, s) => if fNum b 2 1 = 0 ∨ fNum b 2 1 > fNum b 3 1 then s.lnUnknown n else g b s

/-- TRANSIT_FRAME: a frame on its way is forwarded on the port of the same die that its route names. -/
def execTransitFrame (n : LnPort) (frame : LnFrame) (s : State) : Host.Outcome State Fault Refusal :=
  .next (s.lnRouted n frame (fRouted frame && !fFinal frame) (fun b s =>
    let route := routeIn b n
    let hop := fNum b 2 1
    let out := nibble route hop
    if out > 11 ∨ out / 6 ≠ n.val / 6 then s.lnUnknown n
    else if !s.lnUp out || (s.port out).draining then s.addSat (LN_CRYPTO out) LN_CRYPTO.dropped 1
    else s.lnQueue out (fNum b 1 1 % 4) false (withRoute b (hop + 1) route)))

/-- PROXY_CREDIT: credits return to the egress proxy of the port's die with the frame's rch. -/
def execProxyCredit (n : LnPort) (frame : LnFrame) (s : State) : Host.Outcome State Fault Refusal :=
  .next (s.lnRouted n frame (fKind frame == fCREDIT && fFinal frame) (fun b s =>
    let d := n.val / 6
    match (List.range 64).find? (fun i => s.bit (LN_EGRESS_W0 d i) LN_EGRESS_W0.valid &&
        s.fld (LN_EGRESS_W0 d i) LN_EGRESS_W0.rch == fNum b 20 2) with
    | none => s.lnUnknown n
    | some i => s.addSat (LN_EGRESS_W3 d i) LN_EGRESS_W3.credits (fNum b 40 4)))

/-! ## Ingress (R377) -/

/-- The tile at which what an ingress proxy sends enters the mesh: the first of its route's path. -/
def State.inEntry (s : State) (d i : Nat) : Nat :=
  let a := LN_INGRESS_W0 d i
  let c := s.ctx (s.fld a LN_INGRESS_W0.ctx)
  let path := (c.plate.remotes.find? (fun r => r.role == 2 && r.die == d && r.proxy == i)).bind (fun r =>
    (c.paths.find? (fun e => e.1 == r.routeIx)).bind (fun e => e.2.2.head?))
  path.getD (entryTile (256 + d) (s.fld a LN_INGRESS_W0.dest_tile))

/-- A message of an ingress proxy goes into the mesh, to the receiver as its entry names it now. -/
def State.inInject (s : State) (d i : Nat) (m : Msg) : State :=
  let a := LN_INGRESS_W0 d i
  s.edgeSend d (s.inEntry d i)
    { m with vc := if m.kind = kToken ∨ m.kind = kCombine then 1 else s.fld a LN_INGRESS_W0.lvc, ctx := s.fld a LN_INGRESS_W0.ctx,
             routeId := s.fld a LN_INGRESS_W0.route_id, destTile := s.fld a LN_INGRESS_W0.dest_tile,
             destEp := s.fld a LN_INGRESS_W0.dest_ep, srcTile := 256 + d, srcVtile := 0x800 + 64 * d + i, srcEp := 0 }

/-- A counter add for a virtual counter, as the transfer engine group of die `d` maps it; none where it is not mapped. -/
def State.inMapped (s : State) (d i : Nat) (m : Msg) : Option Msg :=
  if m.kind = kAdd then
    let v := XE_VMAP d (s.fld (LN_INGRESS_W0 d i) LN_INGRESS_W0.ctx) (m.addr % 256)
    if s.bit v XE_VMAP.valid then some { m with addr := s.fld v XE_VMAP.counter } else none
  else some m

/-- An ingress proxy sends while its buffer holds messages and its window has room. A counter add whose counter is not mapped
is discarded and is a fault of the context. -/
def State.inPump (s : State) (d i fuel : Nat) : State :=
  match fuel with
  | 0 => s
  | k + 1 =>
    let x := s.ing (d * 64 + i)
    match x.buf with
    | [] => s
    | m :: rest =>
      if x.stopped || decide (x.win.length ≥ 4) then s
      else match s.inMapped d i m with
      | none =>
        ((s.setIng (d * 64 + i) { x with buf := rest }).signal
          { kind := .note, tile := s.fld (LN_INGRESS_W0 d i) LN_INGRESS_W0.dest_tile, arg := 0x46,
            log := s.fld (LN_INGRESS_W0 d i) LN_INGRESS_W0.ctx, time := s.tb }).inPump d i k
      | some m =>
        let m := { m with chanSeq := s.fld (LN_INGRESS_W1 d i) LN_INGRESS_W1.next_seq }
        let s := s.addMod (LN_INGRESS_W1 d i) LN_INGRESS_W1.next_seq 1
        ((s.setIng (d * 64 + i) { x with buf := rest, win := x.win ++ [{ msg := m }] }).inInject d i m).inPump d i k

/-- As `inPump` for all that is in the buffer. -/
def State.inPumpAll (s : State) (d i : Nat) : State := s.inPump d i (s.ing (d * 64 + i)).buf.length

/-- 64-byte units that an ingress proxy's buffer holds, its window included. -/
def InProxy.held (x : InProxy) : Nat := (x.buf.map (fun m => m.units)).sum + (x.win.map (fun w => w.msg.units)).sum

/-- The message that a frame carries. -/
def frameMsg (b : List Byte) : Msg :=
  { kind := fKind b, tok := decodeHdr (fNum b 24 16), payload := fPayload b,
    addr := if fKind b = kCombine then fNum b 40 4 else if fKind b = kAdd then fNum b 44 1 else 0,
    operand := if fKind b = kAdd then fNum b 40 4 else 0 }

/-- The kinds of frame that an ingress proxy takes. -/
def ingressKinds : List Nat := [kData, kToken, kAdd, kCombine]

/-- INGRESS_FRAME: a frame at its last module goes to the ingress proxy of its rch, which sends it into the mesh. The first
frame gives the return route. -/
def execIngressFrame (n : LnPort) (frame : LnFrame) (s : State) : Host.Outcome State Fault Refusal :=
  .next (s.lnRouted n frame (fRouted frame && fKind frame != fCREDIT && fFinal frame) (fun b s =>
    let d := n.val / 6
    match (List.range 64).find? (fun i => s.bit (LN_INGRESS_W0 d i) LN_INGRESS_W0.valid &&
        s.fld (LN_INGRESS_W0 d i) LN_INGRESS_W0.rch == fNum b 20 2 && ingressKinds.contains (fKind b)) with
    | none => s.lnUnknown n
    | some i =>
      let x := s.ing (d * 64 + i)
      let hops := fNum b 3 1
      let back := reverseRoute (routeIn b n) hops
      let s := if x.returnHops = 0 then
          (s.setReg (LN_INGRESS_W2 d i) (BitVec.ofNat 64 back)).setReg (LN_INGRESS_W3 d i) (BitVec.ofNat 64 (back / 2 ^ 64))
        else s
      let x := if x.returnHops = 0 then { x with returnHops := hops } else x
      let m := frameMsg b
      if x.held + m.units > s.fld (LN_INGRESS_W1 d i) LN_INGRESS_W1.buffer_kib * 16 then
        (s.setIng (d * 64 + i) x).addSat (LN_CRYPTO n) LN_CRYPTO.dropped 1
      else (s.setIng (d * 64 + i) { x with buf := x.buf ++ [m] }).inPumpAll d i))

/-- Credits of `u` units go back on the return route of an ingress proxy. -/
def State.inCredit (s : State) (d i u : Nat) : State :=
  let route := (s.reg (LN_INGRESS_W2 d i)).toNat + (s.reg (LN_INGRESS_W3 d i)).toNat * 2 ^ 64
  let x := s.ing (d * 64 + i)
  s.lnQueue (nibble route 0) 2 false
    (({ kind := fCREDIT, lvc := 2, hops := x.returnHops, route := route,
        rch := s.fld (LN_INGRESS_W0 d i) LN_INGRESS_W0.rch, amount := u } : LnHdr).frame [])

/-- The ingress proxy of die `d` that an answer is for, and its window entry. -/
def State.inEntryOf (s : State) (d : Nat) (m : Msg) : Option (Nat × WinEntry) :=
  let i := (m.srcVtile - 0x800) % 64
  if 0x800 + 64 * d ≤ m.srcVtile ∧ m.srcVtile < 0x800 + 64 * d + 64 then
    ((s.ing (d * 64 + i)).win.find? (fun w => w.msg.chanSeq == m.chanSeq)).map (fun w => (i, w))
  else none

/-- ACK at die `d`: the proxy's buffer space is free, and its credits go back. -/
def State.inAck (s : State) (d : Nat) : State :=
  match s.arrivedAt (256 + d) [kAck] with
  | none => s
  | some (j, x) =>
    let s := s.netDrop j
    match s.inEntryOf d x.msg with
    | none => s
    | some (i, w) =>
      let g := s.ing (d * 64 + i)
      ((s.setIng (d * 64 + i) { g with win := g.win.erase w }).inCredit d i w.msg.units).inPumpAll d i

/-- NACK at die `d`: the message waits for its round, is discarded, or the proxy stops, a fault of the context. -/
def State.inNack (s : State) (d : Nat) : State :=
  match s.arrivedAt (256 + d) [kNack] with
  | none => s
  | some (j, x) =>
    let s := s.netDrop j
    let reason := x.msg.operand % 256
    match s.inEntryOf d x.msg with
    | none => s
    | some (i, w) =>
      let g := s.ing (d * 64 + i)
      if retryReason reason then
        s.setIng (d * 64 + i) { g with
          roundNacked := true, win := g.win.map (fun e => if e = w then { e with nacked := true } else e) }
      else if reason = 0x06 then (s.setIng (d * 64 + i) { g with win := g.win.erase w }).inPumpAll d i
      else (s.setIng (d * 64 + i) { g with stopped := true }).signal
        { kind := .note, tile := s.fld (LN_INGRESS_W0 d i) LN_INGRESS_W0.dest_tile, arg := 0x43,
          log := s.fld (LN_INGRESS_W0 d i) LN_INGRESS_W0.ctx, time := s.tb }

/-- The round of an ingress proxy: every NACKed message goes again in chan_seq order. -/
def State.inRetry (s : State) (d i : Nat) : State :=
  let g := s.ing (d * 64 + i)
  if g.roundNacked && !g.stopped then
    let s := s.setIng (d * 64 + i) { g with roundNacked := false, win := g.win.map (fun w => { w with nacked := false }) }
    (g.win.filter (fun w => w.nacked)).foldl (fun s w => s.inInject d i w.msg) s
  else s

/-- Entry `j` of an ingress proxy's window goes again after ack_timeout. -/
def State.inTimeout (s : State) (d i j : Nat) : State :=
  let g := s.ing (d * 64 + i)
  match g.win[j]? with
  | none => s
  | some w => if g.stopped || w.nacked then s else s.inInject d i w.msg

/-! ## The rows of mesh messages -/

/-- What a row does at a tile or, at edge die W or E, with the proxies. -/
def State.atPlace (s : State) (p : MeshPlace) (tile edge : Nat → State) : State :=
  if p.val < 256 then tile p else if p.val < 258 then edge (p.val - 256) else s

/-- DATA. -/
def execData (at_ : MeshPlace) (s : State) : Host.Outcome State Fault Refusal :=
  .next (s.atPlace at_ (fun p => s.dataAt p) (fun d => s.egressTake d kData))

/-- TOKEN. -/
def execToken (at_ : MeshPlace) (s : State) : Host.Outcome State Fault Refusal :=
  .next (s.atPlace at_ (fun p => s.tokenAt p) (fun d => s.egressTake d kToken))

/-- COUNTER_ADD. -/
def execCounterAdd (at_ : MeshPlace) (s : State) : Host.Outcome State Fault Refusal :=
  .next (s.atPlace at_ (fun p => s.addAt p) (fun d => s.egressTake d kAdd))

/-- COMBINE. -/
def execCombine (at_ : MeshPlace) (s : State) : Host.Outcome State Fault Refusal :=
  .next (s.atPlace at_ (fun p => s.combineMsg p) (fun d => s.egressTake d kCombine))

/-- ACK. -/
def execAck (at_ : MeshPlace) (s : State) : Host.Outcome State Fault Refusal :=
  .next (s.atPlace at_ (fun p => s.ackAt p) (fun d => s.inAck d))

/-- NACK. -/
def execNack (at_ : MeshPlace) (s : State) : Host.Outcome State Fault Refusal :=
  .next (s.atPlace at_ (fun p => s.nackAt p) (fun d => s.inNack d))

/-- RETRY_ROUND, of endpoint `e` of a tile or of ingress proxy `e` of a die. -/
def execRetryRound (at_ : MeshPlace) (e : Fin 64) (s : State) : Host.Outcome State Fault Refusal :=
  .next (s.atPlace at_ (fun p => s.retryRound p e) (fun d => s.inRetry d e))

/-- ACK_TIMEOUT of window entry `i`. -/
def execAckTimeout (at_ : MeshPlace) (e : Fin 64) (i : Fin 4) (s : State) : Host.Outcome State Fault Refusal :=
  .next (s.atPlace at_ (fun p => s.ackTimeout p e i) (fun d => s.inTimeout d e i))

end Sys2Proof.Machine
end

