-- ==== Sys2Proof/Machine/Joins.lean ====
section
/-! DEFINITION. Machine/Joins.lean: timebase alignment and joining a running job (R379, R381, R382, R453). -/
namespace Sys2Proof.Machine

/-! ## Timebase alignment (R379) -/

/-- The next exchange of an alignment: a TB_REQ. -/
def State.tbAsk (s : State) (n : Nat) : State := s.lnManage n false { kind := fTBREQ } []

/-- TB_ALIGN: one at a time; a Lanel source must be ACTIVE. -/
def execTbAlign (h : CmdHdr) (source : BitVec 8) (s : State) : Host.Outcome State Fault Refusal :=
  let n := source.toNat
  .next (
    if s.time.align.isSome then s
    else s.command h { op := 0x0902 } (decide (n < 12) || n == 16) (fun c s =>
      if n < 12 ∧ s.lnState n ≠ 3 then s.refuse c 0x07
      else
        let s := { s.await c n 0 with time := { s.time with align := some { source := n, tb := s.tb } } }
        if n < 12 then s.tbAsk n else s))

/-- TB_REQ: the partner's request is stamped and answered. -/
def execTbReq (n : LnPort) (frame : LnFrame) (s : State) : Host.Outcome State Fault Refusal :=
  .next (s.lnGot n fTBREQ frame (fun _ s =>
    let got := s.stamp
    let t2 := got.1
    let s := got.2
    s.lnManage n false { kind := fTBRSP } (leBytes 16 t2 ++ leBytes 16 0)))

/-- The exchange with the smaller round trip, the earlier where they are equal. -/
def betterExchange (old : Option (Int × Int)) (new : Int × Int) : Int × Int :=
  match old with
  | none => new
  | some o => if new.1 < o.1 then new else o

/-- TB_RSP: one exchange is complete; after sixteen the best gives the offset. -/
def execTbRsp (n : LnPort) (frame : LnFrame) (s : State) : Host.Outcome State Fault Refusal :=
  .next (s.lnGot n fTBRSP frame (fun b s =>
    match s.time.align with
    | none => s
    | some a =>
      if a.source ≠ n.val then s
      else
        let got := s.stamp
        let x4 := got.1
        let s := got.2
        let t1 : Int := a.t1
        let t2 : Int := fNum b 64 16
        let t3 : Int := fNum b 80 16
        let t4 : Int := x4
        let best := betterExchange a.best ((t4 - t1) - (t3 - t2), (t2 - t1) - (t4 - t3))
        let a := { a with done := a.done + 1, best := some best }
        if a.done < 16 then ({ s with time := { s.time with align := some a } } : State).tbAsk n
        else
          let off := best.2 * 10 / 128
          let s := (s.setFld (LN_TB n) LN_TB.offset_ns (toTwos 32 off)).setFld (LN_TB n) LN_TB.delay_ns
            (min (2 ^ 16 - 1) (best.1 * 10 / 128).toNat)
          s.align off))

/-! ## Joining (R381, R382) -/

/-- The EXPORT entries of a plate: index in the stream map, entry, offset in a slot's shadow image, bytes. -/
def Plate.exports (pl : Plate) : List (Nat × StateEntry × Nat × Nat) :=
  let all := (pl.smap.entries.foldl (fun (r : List (Nat × StateEntry × Nat × Nat) × Nat × Nat) e =>
    let got := r
    let l := got.1
    let i := got.2.1
    let at_ := got.2.2
    let n := if e.shadowable then min e.slotBytes (pl.smap.shadowBytes - at_) else 0
    (l ++ [(i, e, at_, n)], i + 1, at_ + n)) ([], 0, 0)).1
  all.filter (fun x => x.2.1.shadowable &&
    pl.remotes.any (fun r => r.role == 3 && r.vtile == x.2.1.vtile && r.ep == x.2.1.region))

/-- The join of a context. -/
def State.joinOf (s : State) (c : Nat) : Option Join := (s.joins.find? (fun e => e.1 == c)).map (fun e => e.2)
def State.setJoin (s : State) (c : Nat) (x : Join) : State := { s with joins := s.joins.filter (fun e => e.1 != c) ++ [(c, x)] }
def State.dropJoin (s : State) (c : Nat) : State := { s with joins := s.joins.filter (fun e => e.1 != c) }

/-- LN_JOIN replies through `f`. -/
def State.joinReply (s : State) (c : Nat) (f : State → Cmd → State) : State :=
  s.complete (fun w => w.op == 0x0A04 && w.ctx == c) (fun s w => f s w.cmd)

/-- LN_JOIN: a READY context asks the partner on a port for the state of the job that its plate belongs to. -/
def execLnJoin (h : CmdHdr) (port vid : BitVec 8) (step : BitVec 64) (s : State) : Host.Outcome State Fault Refusal :=
  let n := port.toNat
  .next (s.command h { op := 0x0A04, need := .exists } (decide (n < 12)) (fun c s =>
    let pl := (s.ctx c.ctx).plate
    let up := (pl.remotes.filter (fun r => r.role == 1)).all (fun r => s.lnState (nibble r.nibbles 0) == 3)
    if s.cState c.ctx ≠ 3 ∨ !up ∨ (s.joinOf c.ctx).isSome ∨ s.sb.estop then s.reply c stWRONG_STATE 0
    else if !s.bit (XE_VMAP 0 c.ctx vid.toNat) XE_VMAP.valid then s.reply c stBAD_PARAM 0
    else if s.lnState n ≠ 3 then s.refuse c 0x07
    else
      let s := (s.await c n 0).setJoin c.ctx { port := n, vid := vid.toNat, step := step.toNat }
      s.lnManage n false { kind := fJOINREQ } (leBytes 8 pl.plateId ++ padTo 32 pl.proof)))

/-- The end of an import goes to the partner with a status: 0, or a reason code of R382. -/
def State.joinEnd (s : State) (n status : Nat) : State := s.lnManage n false { kind := fJOINEND } (leBytes 1 status)

/-- Bytes of a slot image in one JOIN_DATA frame. -/
def joinPiece : Nat := 8192 - 16

/-- One slot image of an EXPORT region goes out in pieces: the entry, the slot, the offset, the step and the bytes. -/
def State.joinImage (s : State) (n c k : Nat) (x : Nat × StateEntry × Nat × Nat) : State :=
  let got := x
  let ix := got.1
  let at_ := got.2.2.1
  let len := got.2.2.2
  let step := s.fld (SCU_STR_STEP c) SCU_STR_STEP.gather
  (List.range (ceilDiv len joinPiece)).foldl (fun s i =>
    let o := i * joinPiece
    let m := min joinPiece (len - o)
    s.lnManage n false { kind := fJOINDATA }
      (leBytes 1 1 ++ leBytes 1 ix ++ leBytes 2 k ++ leBytes 4 o ++ leBytes 8 step ++ s.bytes (s.shadowAt c k + at_ + o) m)) s

/-- The export of a running context: its gather origin and period, every slot image of every EXPORT region, the end. -/
def State.joinExport (s : State) (n c : Nat) : State :=
  let s := s.lnManage n false { kind := fJOINDATA }
    (leBytes 1 0 ++ leBytes 3 0 ++ leBytes 4 (s.smap c).stepPeriod ++ leBytes 8 (s.fld (SCU_STR_T0 c) SCU_STR_T0.t0))
  let s := (s.ctx c).plate.exports.foldl (fun s x =>
    (List.range (s.smap c).slots).foldl (fun s k => s.joinImage n c k x) s) s
  s.joinEnd n 0

/-- JOIN_REQ: the partner asks to join; a running context of the same plate exports, unless it is confidential. -/
def execJoinReq (n : LnPort) (frame : LnFrame) (s : State) : Host.Outcome State Fault Refusal :=
  .next (s.lnGot n fJOINREQ frame (fun b s =>
    let mine := (List.range 16).find? (fun c => s.cState c == 4 && (s.ctx c).plate.plateId == fNum b 64 8 &&
      padTo 32 (s.ctx c).plate.proof == (b.drop 72).take 32)
    match mine with
    | none => s.joinEnd n 0x04
    | some c => if s.isConf c then s.joinEnd n 0x05 else s.joinExport n c))

/-- The context that imports on a port. -/
def State.importing (s : State) (n : Nat) : Option (Nat × Join) := s.joins.find? (fun e => e.2.port == n && !e.2.imported)

/-- JOIN_DATA: the partner's origin and period, or a piece of a slot image, written to the region and the shadow area. -/
def execJoinData (n : LnPort) (frame : LnFrame) (s : State) : Host.Outcome State Fault Refusal :=
  .next (s.lnGot n fJOINDATA frame (fun b s =>
    match s.importing n with
    | none => s
    | some (c, x) =>
      if fNum b 64 1 = 0 then s.setJoin c { x with period := fNum b 68 4, t0 := fNum b 72 8 }
      else
        let k := fNum b 66 2
        let o := fNum b 68 4
        let l := (fPayload b).drop 16
        match (s.ctx c).plate.exports.find? (fun e => e.1 == fNum b 65 1) with
        | none => s
        | some (_, e, at_, len) =>
          if k ≥ (s.smap c).slots ∨ o + l.length > len then s
          else
            let s := s.setBytes (s.shadowAt c k + at_ + o) l
            match s.placed c e.vtile with
            | some p => s.setBytes (tsBase p + s.rBase p e.region + e.slotBase + k * e.slotBytes + o) l
            | none => s))

/-- Whether the counter that a join names has reached its step (R191). -/
def State.joinReached (s : State) (c : Nat) (x : Join) : Bool :=
  let v := XE_VMAP 0 c x.vid
  s.reached (s.fld v XE_VMAP.tile) (s.fld v XE_VMAP.counter) x.step

/-- JOIN_END: the partner's refusal, or the end of the import: the context runs with gathering paused, unless the counter has
already reached the step. -/
def execJoinEnd (n : LnPort) (frame : LnFrame) (s : State) : Host.Outcome State Fault Refusal :=
  .next (s.lnGot n fJOINEND frame (fun b s =>
    match s.importing n with
    | none => s
    | some (c, x) =>
      let status := fNum b 64 1
      if status ≠ 0 then (s.dropJoin c).joinReply c (fun s w => s.refuse w status)
      else
        let t := s.commandStart c x.t0
        if t.joinReached c x then (s.dropJoin c).joinReply c (fun s w => s.refuse w 0x06)
        else
          let t := (t.setBit (SCU_STR_STATE c) SCU_STR_STATE.gather_paused true).setBit (SCU_STR_STATE c)
            SCU_STR_STATE.admission_open false
          t.setJoin c { x with imported := true }))

/-- JOIN_STEP_REACHED: the counter has reached the step: gathering begins at the partner's next gather instant. -/
def execJoinStepReached (c : Fin 16) (s : State) : Host.Outcome State Fault Refusal :=
  .next (match s.joinOf c with
    | none => s
    | some x =>
      if !x.imported || !s.joinReached c x then s
      else
        let k := if x.period = 0 ∨ s.tb < x.t0 then 0 else (s.tb - x.t0) / x.period + 1
        let s := (s.dropJoin c).setCtx c { s.ctx c with gathers := k }
        let s := s.setBit (SCU_STR_STATE c) SCU_STR_STATE.admission_open true
        let s := if s.health.heals.any (fun h => h.ctx == c.val) then s
          else s.setBit (SCU_STR_STATE c) SCU_STR_STATE.gather_paused false
        s.joinReply c (fun s w => s.ok w []))

end Sys2Proof.Machine
end

