-- ==== Sys2Proof/Machine/Sheet.lean ====
section
/-! DEFINITION. Machine/Sheet.lean: the contact sheet (R420 to R425). -/
namespace Sys2Proof.Machine

/-- First address of the contact sheet, and its bytes (R310, R421). -/
def sheetBase : Nat := lpFirst + 0x20000000
def sheetBytes : Nat := 0x10000000

/-- "URKSHEET". -/
def sheetMagic : List Byte := [0x55, 0x52, 0x4B, 0x53, 0x48, 0x45, 0x45, 0x54]

/-- The state of the sheet: 0 empty, 1 writing, 2 complete, 3 partial; an area without the magic holds none. -/
def State.sheetState (s : State) : Nat := if s.bytes sheetBase 8 = sheetMagic then s.num (sheetBase + 0x00A) 1 else 0

/-- A header field of the sheet; 0 where the area holds none. -/
def State.sheetFld (s : State) (o n : Nat) : Nat := if s.sheetState = 0 then 0 else s.num (sheetBase + o) n

/-- SCU_SHEET_STATUS follows the header. -/
def State.sheetView (s : State) : State :=
  let a := SCU_SHEET_STATUS
  let s := s.setFld a SCU_SHEET_STATUS.state s.sheetState
  let s := s.setFld a SCU_SHEET_STATUS.read (s.sheetFld 0x048 1)
  let s := s.setFld a SCU_SHEET_STATUS.later_events (s.sheetFld 0x04C 4)
  let s := s.setFld a SCU_SHEET_STATUS.redacted (s.sheetFld 0x04A 2)
  s.setFld a SCU_SHEET_STATUS.sequence (s.sheetFld 0x00C 4)

/-! ## Sections (R421) -/

/-- The record of a tile's control state, 4 KiB. -/
def State.sheetTile (s : State) (p : Nat) : List Byte :=
  let b := tileRegs + p * 0x10000
  let part := fun (o n m : Nat) => padTo m (s.devBytes (b + o) n)
  padTo 0x1000 (part 0x0000 0x100 256 ++ part 0x0200 0x40 64 ++ part 0x1000 0x70 128 ++ part 0x2000 0x50 128 ++
    part 0x3000 0x40 64 ++ padTo 256 (s.devBytes (b + 0x4000) 0x90 ++ s.devBytes (b + 0x40C0) 0x30) ++
    (List.range 4).flatMap (fun n => s.devBytes (b + 0x5000 + n * 0x400) 0x40) ++
    (List.range 64).flatMap (fun r => [RGN_CFG p r, RGN_HEAD p r, RGN_TAIL p r, RGN_READ p r, RGN_STATUS p r].flatMap
      (fun a => leBytes 8 (s.reg a).toNat)) ++
    part 0xC000 0x48 128 ++ part 0x7200 0x20 64)

/-- Bytes 0 to 15 of a header flit (R141). -/
def Msg.headBytes (m : Msg) : List Byte :=
  leBytes 1 m.kind ++ leBytes 1 (m.vc % 8 + b2n m.escaped * 8 + b2n m.adaptive * 16) ++ leBytes 1 m.hops ++
    leBytes 1 (m.flits - 1) ++ leBytes 2 (m.routeId % 1024 + (m.ctx % 16) * 4096) ++ leBytes 1 m.destTile ++ leBytes 1 m.destEp ++
    leBytes 1 m.srcTile ++ leBytes 1 m.srcEp ++ leBytes 2 m.srcVtile ++ leBytes 4 m.chanSeq

/-- The record of one input port and virtual channel of a router; the head flit of a confidential context is withheld
(R423). The credits and the STOP state are free values. -/
def State.sheetVc (s : State) (t port vc : Nat) : (List Byte × Bool) × State :=
  let got := s.draw 16
  let x := got.1
  let s := got.2
  let head := s.net.find? (fun m => m.loc == t && m.inPort == port && m.msg.vc == vc && !m.arrived)
  let got := match head with
    | none => (([] : List Byte), false)
    | some m => if s.isConf m.msg.ctx then ([], true) else (m.msg.headBytes, false)
  let b := got.1
  let held := got.2
  ((padTo 32 (leBytes 1 (s.occupancy t port vc) ++ leBytes 2 x ++ List.replicate 5 0 ++ padTo 16 b), held), s)

/-- The record of a router, 4 KiB, and whether something of it is withheld. -/
def State.sheetRouter (s : State) (t : Nat) : (List Byte × Bool) × State :=
  let b := tileRegs + t * 0x10000 + 0x8000
  let got := (List.range 25).foldl (fun (r : (List Byte × Bool) × State) i =>
    let got := r.2.sheetVc t (i / 5) (i % 5)
    let x := got.1
    let s := got.2
    ((r.1.1 ++ x.1, r.1.2 || x.2), s)) (([], false), s)
  let l := got.1
  let s := got.2
  ((padTo 0x1000 (padTo 0x100 (s.devBytes b 0xE0) ++ s.devBytes (b + 0x100) 0x80 ++ s.devBytes (RT_BUDGET t 0 0) 0x200 ++ l.1), l.2), s)

/-- The link state: the registers of Treup one range behind the other, each Lanel port, and the proxies. -/
def State.sheetLinks (s : State) : List Byte :=
  padTo 0x1000 (s.devBytes TL_ID 0x50 ++ s.devBytes (TL_ID + 0x400) 0x100) ++
    padTo 0xF000 ((List.range 12).flatMap (fun n => padTo 0x1000 (s.devBytes (LN_ID n) 0x120))) ++
    [0, 1].flatMap (fun d => s.devBytes (LN_EGRESS_W0 d 0) 0x800 ++ s.devBytes (LN_INGRESS_W0 d 0) 0x800)

/-- The memory state, its ranges one behind the other. -/
def State.sheetMemory (s : State) : List Byte :=
  (List.range 8).flatMap (fun i => s.devBytes (HBM_STATUS i) 0x20) ++ s.devBytes HBM_ILV 8 ++
    (List.range 8).flatMap (fun n => s.devBytes (LP_STATUS n) 0x20) ++
    (List.range 32).flatMap (fun e => s.devBytes (XE_ENG_CFG (e / 16) (e % 16)) 0x28 ++
      padTo 1024 (s.eng (e / 16) (e % 16)).last.flatten)

/-- The last event records, oldest first. -/
def State.sheetEvents (s : State) : List Byte :=
  let n := min 4096 s.tl.evtIx
  (List.range n).flatMap (fun i => s.bytes (evtRing + ((s.tl.evtIx - n + i) % 4096) * 32) 32)

/-- One tensor excerpt (R424): its header and its bytes, cut to the region, to 16 MiB and to `room`. -/
def State.sheetExcerpt (s : State) (c room : Nat) (e : Nat × Nat × Nat × Nat) : List Byte :=
  let got := e
  let v := got.1
  let r := got.2.1
  let o := got.2.2.1
  let n := got.2.2.2
  match s.placed c v with
  | none => []
  | some p =>
    if room < 64 then []
    else
      let k := min (min n 0x1000000) (min (s.rSize p r - o) (room - 64))
      padTo 64 (leBytes 1 c ++ [0] ++ leBytes 2 v ++ leBytes 1 p ++ leBytes 1 r ++ leBytes 1 (b2n (decide (k < n))) ++ [0] ++
        leBytes 4 o ++ leBytes 4 k) ++ s.bytes (tsBase p + s.rBase p r + o) k

/-- The first `n` excerpts of the contexts, in order; none of a confidential context, which is noted. -/
def State.sheetExcerpts (s : State) (n : Nat) : List Byte × Bool :=
  let all := (List.range 16).flatMap (fun c => (s.ctx c).plate.excerpts.map (fun e => (c, e)))
  (((all.filter (fun x => !s.isConf x.1)).take n).foldl (fun l x => l ++ s.sheetExcerpt x.1 (0xFB80000 - l.length) x.2) [],
    all.any (fun x => s.isConf x.1))

/-- A section: offset, length, status. -/
abbrev SheetEntry := Nat × Nat × Nat

/-- Writes section `i` of the seven behind the header: its entry. -/
def State.sheetSection (s : State) (excerpts i : Nat) : SheetEntry × State :=
  match i with
  | 0 => ((0x1000, 0xFF000, 1), s.loseRange (sheetBase + 0x1000) 0xFF000)
  | 1 =>
    let s := (s.zeroRange (sheetBase + 0x100000) 0x20000).setBytes (sheetBase + 0x100000) s.sheetEvents
    ((0x100000, 0x100000, 1), s.loseRange (sheetBase + 0x120000) 0xE0000)
  | 2 => ((0x200000, 0x100000, 1),
      (List.range 256).foldl (fun s p => s.setBytes (sheetBase + 0x200000 + p * 0x1000) (s.sheetTile p)) s)
  | 3 =>
    let got := (List.range 256).foldl (fun (r : Bool × State) t =>
      let got := r.2.sheetRouter t
      let x := got.1
      let s := got.2
      (r.1 || x.2, s.setBytes (sheetBase + 0x300000 + t * 0x1000) x.1)) (false, s)
    let held := got.1
    let s := got.2
    ((0x300000, 0x100000, if held then 2 else 1), s)
  | 4 => ((0x400000, 0x40000, 1), (s.zeroRange (sheetBase + 0x400000) 0x40000).setBytes (sheetBase + 0x400000) s.sheetLinks)
  | 5 => ((0x440000, 0x40000, 1), (s.zeroRange (sheetBase + 0x440000) 0x40000).setBytes (sheetBase + 0x440000) s.sheetMemory)
  | _ =>
    let got := s.sheetExcerpts excerpts
    let l := got.1
    let held := got.2
    ((0x480000, l.length, if held then 2 else 1), s.setBytes (sheetBase + 0x480000) l)

/-! ## Writing (R420, R422, R423) -/

/-- Writes an entry of the section table. -/
def State.sheetEntry (s : State) (i : Nat) (e : SheetEntry) (crc : Nat) : State :=
  s.setBytes (sheetBase + 0x080 + 16 * i) (leBytes 4 e.1 ++ leBytes 4 e.2.1 ++ leBytes 1 e.2.2 ++ [0, 0, 0] ++ leBytes 4 crc)

/-- Writes the sections `i` to `n - 1` behind the header, each with its entry: where the last one ends. -/
def State.sheetSections (s : State) (excerpts i fuel : Nat) : State :=
  match fuel with
  | 0 => s
  | k + 1 =>
    let got := s.sheetSection excerpts i
    let e := got.1
    let s := got.2
    let s := s.sheetEntry (i + 1) e (crc32c (s.bytes (sheetBase + e.1) e.2.1))
    (s.setNum (sheetBase + 0x040) 8 (e.1 + e.2.1)).sheetSections excerpts (i + 1) k

/-- A later event is added to the sheet that is kept; a full list stays. -/
def State.sheetLater (s : State) (cause : Nat) : State :=
  let n := s.sheetFld 0x04C 4
  if n ≥ 32 then s
  else
    let b := leBytes 8 s.tb ++ leBytes 8 (s.fld CAL_SECONDS CAL_SECONDS.seconds) ++ leBytes 1 cause
    ((s.setBytes (sheetBase + 0x100 + 32 * n) (padTo 32 b)).setNum (sheetBase + 0x04C) 4 (n + 1)).sheetView

/-- Writes a sheet: the header with state writing, the first `sections` of the seven sections behind it, and state complete
once all are written. An unread complete or partial sheet only takes a later event. The CRC of the header's own entry is a
free value. -/
def State.writeSheet (s : State) (cause sections excerpts : Nat) : State :=
  if (s.sheetState = 2 ∨ s.sheetState = 3) ∧ s.sheetFld 0x048 1 = 0 then s.sheetLater cause
  else
    let seq := s.sheetFld 0x00C 4 + 1
    let red := s.fld SEC_STATUS SEC_STATUS.confidential
    let head := sheetMagic ++ leBytes 2 1 ++ [1] ++ leBytes 1 cause ++ leBytes 4 seq ++ leBytes 8 s.tb ++
      leBytes 8 (s.fld CAL_SECONDS CAL_SECONDS.seconds) ++ s.digestAt SEC_FW_MEAS ++ leBytes 8 0x1000 ++ [0, 0] ++ leBytes 2 red
    let got := s.draw 32
    let crc := got.1
    let s := got.2
    let s := ((s.zeroRange sheetBase 0x1000).setBytes sheetBase head).sheetEntry 0 (0, 0x1000, 1) crc
    let s := s.sheetSections excerpts 0 sections
    (if sections ≥ 7 then s.setNum (sheetBase + 0x00A) 1 2 else s).sheetView

/-- A sheet that a boot finds still being written is partial (R420). -/
def State.sheetPartial (s : State) : State := (if s.sheetState = 1 then s.setNum (sheetBase + 0x00A) 1 3 else s).sheetView

/-! ## Reading (R425) -/

/-- SHEET_READ. -/
def execSheetRead (h : CmdHdr) (buffer offset length : BitVec 64) (s : State) : Host.Outcome State Fault Refusal :=
  let e := offset.toNat + length.toNat
  .next (s.command h { op := 0x0803, served := true } (aligned64 buffer.toNat && decide (e ≤ sheetBytes)) (fun c s =>
    if !inHost buffer.toNat length.toNat then s.reply c stACCESS 0
    else
      let valid := decide (s.sheetState = 2 ∨ s.sheetState = 3)
      let s := s.hostPut buffer.toNat (s.bytes (sheetBase + offset.toNat) length.toNat)
      let s := if valid ∧ e ≥ s.sheetFld 0x040 8 then (s.setNum (sheetBase + 0x048) 1 1).sheetView else s
      s.ok c [(8, length.toNat), (1, b2n valid)]))

end Sys2Proof.Machine
end

