-- ==== Sys2Proof/Machine/Reset.lean ====
section
/-! DEFINITION. Machine/Reset.lean: the reset domains: module reset with its escalation, compute reset with the end states of
contexts, the heartbeat and its watchdog, the dump stub (R407 to R419, R426, R427, R436, R478). -/
namespace Sys2Proof.Machine

/-! ## Module reset (R415, R418, R452) -/

/-- Registers that the always-on domain holds. -/
def alwaysOn (a : Nat) : Bool :=
  [CAL_SECONDS, CAL_NS, CAL_TRIM, SEC_AON, SCU_AON_ESC, SCU_AON_MRST 0, SCU_AON_MRST 1].contains a

/-- Where the timebase starts (R452). -/
def State.startTb (s : State) : Nat :=
  if s.bit CAL_NS CAL_NS.valid then
    (s.fld CAL_SECONDS CAL_SECONDS.seconds * 100000000 + s.fld CAL_NS CAL_NS.ns / 10) % 2 ^ 64
  else 0

/-- Memory that a module reset loses: HBM, every tile store and operand scratch, the ranges whose XTS keys go with it (R309,
R406), and LPDDR5X where its supply is lost. -/
def State.loseMemory (s : State) (lp : Bool) : State :=
  let xts := (List.range 16).flatMap (fun c => if s.isConf c then s.xtsRanges c 0 ++ s.xtsRanges c 1 else [])
  let s := xts.foldl (fun s r => s.loseRange r.1 r.2) s
  let s := ((s.loseRange 0 hbmEnd).loseRange (tsBase 0) (256 * tsBytes)).loseRange (osBase 0) (256 * osBytes)
  let s := { s with ue := Sparse.clear s.ue (fun w => decide (w < lpFirst) || decide (lpFirst + 2 ^ 40 ≤ w ∧ w < hostFirst)) }
  if lp then s.loseRange lpFirst (2 ^ 40) else s

/-- The module as a reset of everything but the always-on domain leaves it, at the start of its boot: what has been sent, the
non-volatile store, the TAP, the input supply and RESET_N are no part of that. -/
def State.restart (s : State) (cause : Option Nat) (lp : Bool) : State :=
  let s := s.loseMemory lp
  let t : State :=
    { pending := s.pending, freeCtr := s.freeCtr, part := s.part, regs := Sparse.clear s.regs (fun a => !alwaysOn a),
      mem := s.mem, lost := s.lost, ue := s.ue, enrolled := s.enrolled, store := s.store, tap := s.tap,
      tl := { sent := s.tl.sent }, ports := (List.range 12).foldl (fun l n => tset {} l n { sent := (s.port n).sent }) [],
      power := { vinA := s.power.vinA, vinB := s.power.vinB },
      boot := { powered := s.boot.powered, resetHeld := s.boot.resetHeld, cause := cause } }
  let t := (t.setFld CLK_STATUS CLK_STATUS.multiplier s.part.mult).setFld PWR_CFG PWR_CFG.limit_w s.part.limitW
  let t := t.setFld TB_COUNT TB_COUNT.count s.startTb
  { t with boot := { t.boot with tbStage := t.tb } }

/-- A module reset is counted; one that the host has not commanded enters the history of R418, and at the limit the boot that
follows ends out of service. -/
def State.countModule (s : State) (host : Bool) : State :=
  let now := s.fld CAL_SECONDS CAL_SECONDS.seconds
  let s := s.addSat SCU_AON_ESC SCU_AON_ESC.module_resets 1
  if host then s
  else
    let n := [0, 1].countP (fun i => let t := s.fld (SCU_AON_MRST i) SCU_AON_MRST.cal_s; t != 0 && decide (now ≤ t + 7200))
    let s := (s.setReg (SCU_AON_MRST 1) (s.reg (SCU_AON_MRST 0))).setFld (SCU_AON_MRST 0) SCU_AON_MRST.cal_s now
    if n + 1 ≥ s.fld SCU_AON_ESC SCU_AON_ESC.module_reset_limit then s.setBit SCU_AON_ESC SCU_AON_ESC.out_of_service true else s

/-- More excerpt entries than the contact sheet has room for. -/
def allExcerpts : Nat := 0x400000

/-- A module reset with a cause of R427; `stub` says that the dump stub has written the sheet. -/
def State.moduleReset (s : State) (cause : Nat) (stub : Bool) : State :=
  let s := if (cause = 5 ∨ cause = 6 ∨ cause = 7) ∧ !stub then s.writeSheet cause 7 allExcerpts else s
  (s.countModule (cause == 1)).restart (some cause) false

/-! ## The trigger of a compute reset (R409, R410 step 1, R418) -/

/-- Counted compute resets within the last 900 s. -/
def State.recentResets (s : State) : Nat :=
  (List.range 3).countP (fun i =>
    let t := s.fld (SCU_ESC_HIST i) SCU_ESC_HIST.tb_count
    t != 0 && decide (s.tb ≤ t + 90000000000))

/-- A compute reset enters the history. -/
def State.countCompute (s : State) : State :=
  let s := (s.setReg (SCU_ESC_HIST 2) (s.reg (SCU_ESC_HIST 1))).setReg (SCU_ESC_HIST 1) (s.reg (SCU_ESC_HIST 0))
  s.setFld (SCU_ESC_HIST 0) SCU_ESC_HIST.tb_count s.tb

/-- Step 1: gathering pauses, the units and endpoints of every context halt by ABORT, and descriptors that touch tile stores
are aborted. -/
def State.quiesce (s : State) : State :=
  let s := (List.range 16).foldl (fun s c =>
    let s := if s.cState c = 4 then s.setBit (SCU_STR_STATE c) SCU_STR_STATE.gather_paused true else s
    if s.cState c ≥ 2 then s.haltCtx c else s) s
  s.abortTileDescs

/-- A compute reset is triggered: while another runs, or at the limit of R418, a module reset takes its place. -/
def State.computeTrigger (s : State) (cause : Nat) (stub : Bool) : State :=
  if s.inReset then s.moduleReset 7 stub
  else if cause ≠ 1 ∧ s.recentResets + 1 ≥ s.fld SCU_AON_ESC SCU_AON_ESC.compute_reset_limit then s.moduleReset 5 stub
  else
    let s := if cause = 1 then s else s.countCompute
    let s := if cause = 1 ∨ stub then s else s.writeSheet cause 7 allExcerpts
    let a := SCU_RESET_STATUS
    let s := (s.setFld a SCU_RESET_STATUS.last_cause cause).setBit a SCU_RESET_STATUS.last_module false
    let s := (s.setFld a SCU_RESET_STATUS.step 1).addSat a SCU_RESET_STATUS.compute_resets 1
    (s.setFld SCU_RESET_TIME SCU_RESET_TIME.tb_count s.tb).quiesce

/-- DEVICE_RESET with kind 0: the reply follows the reset. -/
def execDeviceResetCompute (h : CmdHdr) (s : State) : Host.Outcome State Fault Refusal :=
  .next (s.command h { op := 0x0004 } true (fun c s => (s.await c 0 0).computeTrigger 1 false))

/-- DEVICE_RESET with kind 1: the reply, and then a module reset that clears OUT_OF_SERVICE and the history of R418 (R419). -/
def execDeviceResetModule (h : CmdHdr) (s : State) : Host.Outcome State Fault Refusal :=
  .next (s.command h { op := 0x0004, served := true } true (fun c s =>
    let s := ((s.ok c []).setReg (SCU_AON_MRST 0) 0).setReg (SCU_AON_MRST 1) 0
    (s.setBit SCU_AON_ESC SCU_AON_ESC.out_of_service false).moduleReset 1 false))

/-- DRAIN_FAILED: the ABORT that a drain has become has not halted the units of a context within 1 ms (R220). -/
def execDrainFailed (c : Fin 16) (s : State) : Host.Outcome State Fault Refusal :=
  .next (
    if s.cState c = 5 ∧ (s.ctx c).drainAgain ∧ s.tb ≥ s.drainLimit c + 100000 then s.computeTrigger 3 false else s)

/-! ## What a compute reset clears (R407, R408, R411, R414) -/

/-- Registers of the compute domain that firmware writes back from its copy as they were: leases, route entries, budgets and
multicast trees (R410 step 5). -/
def writtenBack (a : Nat) : Bool :=
  let o := (a - tileRegs) % 0x10000
  decide (o = TILE_CTX 0 - tileRegs) || decide (0x8100 ≤ o ∧ o < 0x8180) || decide (0x8200 ≤ o ∧ o < 0x8400) ||
    decide (0xA000 ≤ o ∧ o < 0xC000)

/-- Whether a compute reset resets the register at `a` (R408). -/
def computeResets (a : Nat) : Bool :=
  decide (tileRegs ≤ a) && decide (a < tileRegs + 0x1000000) && domainOf a == some .compute && !writtenBack a

/-- Steps 2 and 4: tiles, routers and mesh are reset and hold nothing; the counts that the health manager and the contexts
have taken from them start anew; the unchecked blocks of resident weights are known to firmware. -/
def State.computeClear (s : State) : State :=
  let kept := (List.range 256).map (fun p => s.fld (ME_CHECK_SKIPPED p) ME_CHECK_SKIPPED.resident_unchecked)
  let s := s.resetRegs computeResets
  let s := { s with me := [], vsp := [], ag := [], agFifo := [], mu := [], popped := [], foldEob := [], eps := [], reorder := [],
                    signals := [], net := [] }
  let s := (List.range 16).foldl (fun s c => s.setCtx c { s.ctx c with ndcSeen := [], progress := [], consumed := 0 }) s
  (List.range 256).foldl (fun s p => s.setFld (ME_CHECK_SKIPPED p) ME_CHECK_SKIPPED.resident_unchecked (kept.getD p 0)) s

/-- A BIST failure of step 3 is recorded: of a port or channel at both ends, of a router by a fence of its tile (R259, R260). -/
def State.bistFailed (s : State) (tiles ports : Nat) : State :=
  let s := (List.range 2048).foldl (fun s i =>
    if !bitOf ports i then s
    else
      let p := i / 8
      let t := i % 8
      let q := neighbour p (t % 4)
      let s := s.portRecord p t 2
      if q < 256 then s.portRecord q (opposite (t % 4) + (if t < 4 then 0 else 4)) 2 else s) s
  (List.range 256).foldl (fun s p =>
    if (bitOf tiles p ∨ s.routerDown p) ∧ s.hState p ≠ 3 then s.recordFence p 0x06 true else s) s

/-- Step 3: every tile, port and channel that the map holds FENCED is fenced again, and vector lane groups are disabled again
(R94). -/
def State.refence (s : State) : State :=
  (List.range 256).foldl (fun s p =>
    let s := (List.range 8).foldl (fun s t => if s.portHealth p t = 3 then s.setFence p t true else s) s
    let s := s.lanesView p
    if s.hState p = 3 then
      let s := (s.setBit (TILE_FENCE p) TILE_FENCE.fenced true).setFld (TILE_FENCE p) TILE_FENCE.cause
        (s.fld (HLTH_TILE p) HLTH_TILE.cause)
      s.setBit (RT_STATUS p) RT_STATUS.local_closed true
    else s) s

/-- Step 4: the SRAM of every tile that is not FENCED is filled; the contents of the others are not guaranteed (R127). -/
def State.fillAfterReset (s : State) : State :=
  (List.range 256).foldl (fun s p => if s.hState p = 3 then s.loseSram p else s.fillAll p 0) s

/-- Frames that the proxies hold are discarded, and each ingress proxy's next_seq takes its load value (R411). -/
def State.dropFrames (s : State) : State :=
  (List.range 128).foldl (fun s k =>
    (s.setEg k { s.eg k with buf := [], expected := 0 }).setIng k
      { s.ing k with buf := [], win := [], roundNacked := false, stopped := false })
    ((List.range 16).foldl (fun s c =>
      ((s.ctx c).plate.remotes.filter (fun r => r.role == 2)).foldl (fun s r =>
        s.setFld (LN_INGRESS_W1 r.die r.proxy) LN_INGRESS_W1.next_seq ((s.ctx c).plate.proxySeq r)) s) s)

/-- Work that tests have moved off their tiles: the tile and what moved. -/
def State.testedWork (s : State) : List (Nat × Moved) :=
  (match s.health.rotation with
    | some r => (r.moved.toList).map (fun m => (r.tile, m))
    | none => []) ++
  s.health.loupe.flatMap (fun x => (x.moved.toList).map (fun m => (x.tile, m)))

/-- Heals, proof rounds and tests are abandoned; the loupe queue starts again (R414). -/
def State.dropWork (s : State) : State :=
  let s := (List.range 16).foldl (fun s c => ((s.dropHeals c).abandonRound c).endJoin c) s
  let s := (List.range 256).foldl (fun s p => s.setHealth p HLTH_TILE.in_test 0) s
  let q := s.health.loupe.map (fun (x : LoupeTile) => { x with running := false, moved := none })
  (({ s with health := { s.health with rotation := none, loupe := q } } : State).setBit HLTH_ROT_STATUS
    HLTH_ROT_STATUS.active false).loupeView

/-! ## End states (R412, R413) -/

/-- An unused reserve that is FENCED leaves its lease. -/
def State.dropReserves (s : State) (c : Nat) : State :=
  ((s.reserveTiles c).filter (fun p => s.hState p == 3 && (s.placedOn c p).isNone)).foldl (fun s p =>
    (((s.freePath c (0x10000 + p)).rebudget c).leaveLease p (s.isConf c)).leaseView c) s

/-- Steps 5 and 6 for one context: work on FENCED tiles is placed again, registers are rewritten, content is restored, units
are halted; with a fault code where something of it cannot be. -/
def State.restoreCtx (s : State) (c : Nat) : Option Nat × State :=
  let s := s.dropReserves c
  let got := match s.rehome c (s.onFenced c) with
    | none => (some 0x49, s)
    | some t => ((none : Option Nat), t)
  let code := got.1
  let s := got.2
  let here := (s.placedTiles c).filter (fun e => s.hState e.2 != 3)
  let s := s.configure c (here.map (fun e => e.1))
  let got := here.foldl (fun (r : Option Nat × State) e =>
    match r.2.restoreVtile c e.1 e.2 with
    | none => (some (r.1.getD 0x4A), r.2)
    | some t => (r.1, t)) (code, s)
  let code := got.1
  let s := got.2
  (code, (((s.setCounters c).haltCtx c).setDrained c true).replenish c (s.ctx c).plate.reserveTiles)

/-- END_OF_STREAM tokens that had not come back are lost with the mesh, and are due again. -/
def State.eosAgain (s : State) (c : Nat) : State :=
  (s.usedSlots c).foldl (fun s k => let x := s.slotOf c k; s.setSlot c k { x with eosSent := x.eosBack }) s

/-- A context that was running restarts: streams whose state is lost end, the others keep their slots (R413). -/
def State.restartCtx (s : State) (c : Nat) : State :=
  let s := (s.setBit (SCU_CTX_STATE c) SCU_CTX_STATE.reconfiguring false).eosAgain c
  let s := ((s.openSlots c).filter (fun k => s.stateLostAt c k (fun _ => true))).foldl (fun s k => s.loseStream c k) s
  (s.restartKept c).ndcMark c

/-- A context that stops at the end of a compute reset, with what follows its stop. -/
def State.stopAfterReset (s : State) (c : Nat) (after : AfterStop) : State :=
  ((s.setCtx c { s.ctx c with after := after }).setCState c 4).abortCtx c

/-- Step 7 for one context: its end state. -/
def State.endCtx (s : State) (c : Nat) : State :=
  let st := s.cState c
  let within := s.bit (SCU_CTX_STATE c) SCU_CTX_STATE.reconfiguring
  let runs := st = 4 ∨ (st = 5 ∧ within)
  if st = 2 then s.zeroised c false
  else if st < 3 ∨ st = 7 then s
  else
    let s := if st = 4 ∨ st = 5 then s.setBit (SCU_CTX_NDC_STATE c) SCU_CTX_NDC_STATE.incomplete true else s
    let got := (s.setCState c 3).restoreCtx c
    let fault := got.1
    let s := got.2
    match fault with
    | some code =>
      let after : AfterStop := if (s.ctx c).after = .zeroise then .zeroise else .faulted code noVtile
      if runs then s.stopAfterReset c (.faulted code noVtile)
      else if st = 5 then ((s.setCtx c { s.ctx c with after := after }).setCState c 5).endStop c true
      else if st = 3 then s.toFaulted c code noVtile
      else s.setCState c st
    | none =>
      if runs then (if s.sb.estop then s.stopAfterReset c .ready else s.restartCtx c)
      else if st = 5 then (s.setCState c 5).endStop c true
      else s.setCState c st

/-! ## The commands that it interrupts (R351, R411) -/

/-- Whether a command that waits is not interrupted: of the device, time and diagnostics groups, CTX_STOP, CTX_DESTROY and
what a zeroising replies to (R412). -/
def Waiting.keeps (w : Waiting) : Bool :=
  w.op / 256 == 0x00 || w.op / 256 == 0x08 || w.op / 256 == 0x09 || w.op == 0x0102 || w.op == 0x0105 || w.op == 0x0202

/-- Interrupted commands complete with CANCELLED, and what they asked for is given up. -/
def State.cancelCommands (s : State) : State :=
  let s := s.complete (fun w => !w.keeps) (fun s w => s.reply w.cmd stCANCELLED 0)
  let s := { s with sec := { s.sec with queue := s.sec.queue.filter (fun r => r.handshake) } }.signView
  match s.power.target with
  | none => s
  | some _ =>
    let s := { s with power := { s.power with target := none, save := [], drained := [] } }
    if s.fld PWR_STATUS PWR_STATUS.state = 5 then s.setFld PWR_STATUS PWR_STATUS.state 0 else s

/-! ## What an emergency stop does (R482) -/

/-- Firmware's stage of an emergency stop: every context stops by ABORT, every Lanel port is disabled by ABORT, and a POWER event
follows. -/
def State.estopAct (s : State) : State :=
  let s := (List.range 16).foldl (fun s c => if s.cState c = 4 ∨ s.cState c = 5 then s.abortCtx c else s.endJoin c) s
  let s := (List.range 12).foldl (fun s n => if s.lnState n = 0 then s else s.lnDisable n true) s
  ({ s with sb := { s.sb with estopHeld := false, result := if s.sb.code = 0x20 then 0 else s.sb.result } } : State).powerEvent 7

/-- A stop that was held acts now. -/
def State.estopHeldActs (s : State) : State := if s.sb.estop ∧ s.sb.estopHeld then s.estopAct else s

/-! ## The compute reset (R410) -/

/-- Row repairs under way start again. -/
def State.remapsAgain (s : State) (l : Tab MuWork) : State :=
  l.foldl (fun s e => match e.2.remap with
    | some (m, bank, row, _) => s.repairRow e.1 (m == 1) bank row
    | none => s) s

/-- COMPUTE_RESET: the compute reset that has been triggered runs through its steps 2 to 7; `tiles` and `ports` (8 for each
tile: link ports, then channels) fail BIST in step 3. -/
def execComputeReset (tiles : BitVec 256) (ports : BitVec 2048) (s : State) : Host.Outcome State Fault Refusal :=
  .next (
    if !s.inReset then s
    else
      let work := s.testedWork
      let mu := s.mu
      let s := s.cancelCommands.dropWork
      let s := (s.computeClear.bistFailed tiles.toNat ports.toNat).refence.fillAfterReset
      let s := (List.range 16).foldl (fun s c => s.endCtx c) s.dropFrames
      let s := (work.foldl (fun s e => s.returnWork e.2 e.1) s).remapsAgain mu
      let s := (s.setFld SCU_RESET_STATUS SCU_RESET_STATUS.step 0).smpEnables
      let s := if tiles = 0 ∧ ports = 0 then s else s.publish
      let a := SCU_RESET_STATUS
      let s := s.event 0x0011 0xFF
        (fieldsFrom 0 [(1, s.fld a SCU_RESET_STATUS.last_cause), (4, s.fld a SCU_RESET_STATUS.compute_resets)])
      let s := { s with sb := { s.sb with result := if s.sb.code = 0x30 ∧ s.sb.result = 1 then 0 else s.sb.result } }
      (s.complete (fun w => w.op == 0x0004) (fun s w => s.ok w.cmd [])).estopHeldActs)

/-! ## Causes that firmware or hardware finds -/

/-- Whether the module is powered and its root clock runs. -/
def State.clocked (s : State) : Bool := s.boot.powered && s.fld PWR_STATUS PWR_STATUS.state != 4

/-- MODULE_RESET: RECOVERY_TIMEOUT, a step of a compute reset having exceeded its bound (R410). The resets of the other causes
of R427 are parts of what brings them about. -/
def execModuleReset (s : State) : Host.Outcome State Fault Refusal :=
  .next (if s.inReset then s.moduleReset 6 false else s)

/-- RESET_N: asserted for at least 10 µs, and released (R428, R450, R478). -/
def execResetN (held : Bool) (s : State) : Host.Outcome State Fault Refusal :=
  .next (
    let s := if held ∧ s.boot.powered then s.moduleReset 1 false else s
    { s with boot := { s.boot with resetHeld := held } })

/-- PLL_UNLOCK: the root PLL loses lock, or REFCLK shows no edge for 1 µs (R437). -/
def execPllUnlock (s : State) : Host.Outcome State Fault Refusal :=
  .next (if s.clocked then s.moduleReset 9 false else s)

/-! ## The heartbeat and the dump stub (R416, R417, R436) -/

/-- Firmware's heartbeat write: the first one arms the watchdog. -/
def State.beat (s : State) : State :=
  let s := s.addMod BELFRY_COUNT BELFRY_COUNT.count 1
  let s := (s.setBit SCU_WDT_STATUS SCU_WDT_STATUS.armed true).setFld SCU_WDT_STATUS SCU_WDT_STATUS.since_write_ms 0
  { s with wdt := { s.wdt with lastWrite := s.tb } }

/-- BELFRY_COUNT: firmware writes count + 1 while it serves. -/
def execBelfryCount (s : State) : Host.Outcome State Fault Refusal :=
  .next (if s.fwUp && s.clocked then s.beat else s)

/-- WATCHDOG_FIRE: no write has changed the count for 20 ms. The stub writes the first `sections` sections of its sheet, with
the first `excerpts` excerpts; it goes on to the warm restart once it has written all seven. -/
def execWatchdogFire (sections : Fin 8) (excerpts : BitVec 16) (s : State) : Host.Outcome State Fault Refusal :=
  let a := SCU_WDT_STATUS
  .next (
    if s.bit a SCU_WDT_STATUS.armed && s.fwUp && s.clocked && decide (s.tb ≥ s.wdt.lastWrite + 2000000) then
      let s := (s.setBit a SCU_WDT_STATUS.fired true).addSat a SCU_WDT_STATUS.fires 1
      let s := (s.setFld a SCU_WDT_STATUS.since_write_ms 20).setBit a SCU_WDT_STATUS.stub_active true
      ({ s with wdt := { s.wdt with firedAt := s.tb } } : State).writeSheet 2 sections.val excerpts.toNat
    else s)

/-- The measured copy of firmware. -/
def State.fwCopy (s : State) : List Byte := s.bytes loadArea (s.fld SCU_BOOT_STATUS SCU_BOOT_STATUS.image_length)

/-- WARM_RESTART: the stub, its sheet written, starts the measured copy where its hash is the measurement; firmware then
performs a compute reset. -/
def execWarmRestart (s : State) : Host.Outcome State Fault Refusal :=
  .next (
    if !s.bit SCU_WDT_STATUS SCU_WDT_STATUS.stub_active ∨ s.sheetState = 1 then s
    else if sha256 s.fwCopy ≠ s.digestAt SEC_FW_MEAS then s.setBit SEC_FAULT SEC_FAULT.fw_copy_mismatch true
    else
      let s := s.setBit SCU_WDT_STATUS SCU_WDT_STATUS.stub_active false
      ({ s with wdt := { s.wdt with lastWrite := s.tb } } : State).computeTrigger 2 true)

/-- STUB_TIMEOUT: no warm restart has started within 100 ms of the watchdog firing. -/
def execStubTimeout (s : State) : Host.Outcome State Fault Refusal :=
  .next (
    if s.bit SCU_WDT_STATUS SCU_WDT_STATUS.stub_active && decide (s.tb ≥ s.wdt.firedAt + 10000000) then s.moduleReset 8 true
    else s)

end Sys2Proof.Machine
end

