-- ==== Sys2Proof/Machine/RegWrite.lean ====
section
/-! DEFINITION. Machine/RegWrite.lean: an agent's write to a register at its address: access codes, guarded registers and the
actions of WO fields (R7 to R11), and the configuration and heal messages that carry such writes over VCM (R161, R210). -/
namespace Sys2Proof.Machine

/-- The state that a command leaves. -/
def State.after (s : State) (f : State → Host.Outcome State Fault Refusal) : State :=
  match f s with
  | .next t => t
  | _ => s

/-- A trigger: `f` where bit `i` is written as 1. -/
def State.onBit (s : State) (v i : Nat) (f : State → Host.Outcome State Fault Refusal) : State := if bitOf v i then s.after f else s

/-- The 2-bit mode field [2:1] of a control register. -/
def modeBits (v : Nat) : BitVec 2 := BitVec.ofNat 2 (bits v 1 2)

/-- A write to offset `o` of a tile's window where the register takes it under a condition of its own (R57, R94, R107, R119,
R160, R178, R186); none for another register. -/
def State.guardedWrite (s : State) (p : Tile) (o v : Nat) : Option State :=
  let w := BitVec.ofNat 64 v
  let ch := (o - 0xC400) / 0x20
  let rg := (o - 0x6000) / 0x40
  if o = 0x10 then some (s.after (execTileEpochWrite p (BitVec.ofNat 4 v)))
  else if o = 0x2048 then some (s.after (execVspLaneDisable p w))
  else if 0x5000 ≤ o ∧ o < 0x6000 ∧ 0x40 ≤ o % 0x400 ∧ o % 0x400 ≤ 0x50 then
    some (s.after (execAgHashM p (Fin.ofNat 4 ((o - 0x5000) / 0x400)) (Fin.ofNat 3 ((o % 0x400 - 0x40) / 8)) w))
  else if 0x6000 ≤ o ∧ o < 0x7000 ∧ o % 0x40 < 0x20 then
    some (s.after (execRgnWrite p (Fin.ofNat 64 rg) (Fin.ofNat 4 (o % 0x40 / 8)) w))
  else if 0xA000 ≤ o ∧ o < 0xC000 then some (s.after (execRtEntry p (Fin.ofNat 1024 ((o - 0xA000) / 8)) w))
  else if 0xC400 ≤ o ∧ o < 0xCC00 ∧ o % 0x20 < 0x10 then
    let e := Fin.ofNat 64 ch
    some (s.after (execChConfigWrite p (if o % 0x20 = 0 then .cfg e else .dest e) w))
  else if 0xCC00 ≤ o ∧ o < 0xD400 then some (s.after (execChConfigWrite p (.sender (Fin.ofNat 256 ((o - 0xCC00) / 8))) w))
  else none

/-- The actions that a write to offset `o` of a tile's window triggers. -/
def State.tileTrigger (s : State) (p : Tile) (o v : Nat) : State :=
  let n := Fin.ofNat 4 ((o - 0x5000) / 0x400)
  let e := Fin.ofNat 64 ((o - 0xC400) / 0x20)
  let m := modeBits v
  match o with
  | 0x0038 => s.onBit v 9 (execForceSwitch p)
  | 0x00C0 => s.onBit v 32 (execCfgCrcClear p)
  | 0x0200 => ((s.onBit v 1 (execTileFenceReq p (Fin.ofNat 16 (bits v 8 4)))).onBit v 2 (execTileReset p)).onBit v 3 (execTileUnfence p)
  | 0x0218 => (s.onBit v 0 (execTestStart p (Fin.ofNat 4 (bits v 2 2)) (bitOf v 4))).onBit v 1 (execTestAbandon p)
  | 0x1008 => (s.onBit v 0 (execMeHaltReq p m)).onBit v 3 (execMeResume p)
  | 0x2008 => (s.onBit v 0 (execVspHaltReq p m)).onBit v 3 (execVspResume p)
  | 0x3008 => (s.onBit v 0 (execSuHaltReq p m)).onBit v 3 (execSuResume p)
  | 0x4060 => if bitOf v (MU_ROWCE_REQ.valid.lo) then s.after (execRowceRelease p) else s
  | 0x4068 =>
    let bank := Fin.ofNat 64 (bits v 3 6)
    let row := Fin.ofNat 1024 (bits v 9 10)
    let spare := Fin.ofNat 16 (bits v 19 4)
    s.onBit v 0 (fun s =>
      if bitOf v 1 then execRemap p (bitOf v 2) bank row spare s else execRemapLoad p (bitOf v 2) bank row spare s)
  | 0x4080 =>
    s.onBit v 0 (fun s =>
      if bitOf v 1 then execFillRange p (Fin.ofNat 0x4000 (bits v 2 14)) (Fin.ofNat 0x8000 (bits v 16 15)) s
      else execFillTile p s)
  | 0x40C0 => (s.onBit v 0 (execProofHashGo p (Fin.ofNat 64 (bits v 1 6)))).onBit v 7 (execProofHashAbandon p)
  | 0x7228 => s.after (execSyncSetCmd p (Fin.ofNat 64 v))
  | 0x7230 => s.after (execSyncAdd p (Fin.ofNat 64 v) (BitVec.ofNat 32 (bits v 32 32)))
  | 0x8008 =>
    (s.onBit v 0 (execRtFenceReq p (Fin.ofNat 16 (bits v 2 4)) false)).onBit v 1 (execRtUnfence p (Fin.ofNat 16 (bits v 2 4)))
  | _ =>
    if 0x5000 ≤ o ∧ o < 0x6000 ∧ o % 0x400 = 8 then
      ((s.onBit v 0 (execAgHaltReq p n m)).onBit v 3 (execAgResume p n)).onBit v 4 (execAgRestart p n)
    else if 0xC400 ≤ o ∧ o < 0xCC00 ∧ o % 0x20 = 0x18 then
      (((s.onBit v 0 (execChEpHaltReq p e m)).onBit v 3 (execChEpResume p e)).onBit v 4 (execOverflowOn p e)).onBit v 5
        (execMarkAcked p e)
    else if 0xC400 ≤ o ∧ o < 0xCC00 ∧ o % 0x20 = 0x10 then
      s.after (execChConfigWrite p (.nextSeq e) (BitVec.ofNat 64 (CH_EP_STATE.next_seq.get (BitVec.ofNat 64 v))))
    else s

/-- The actions that a write to a global register triggers. -/
def State.globalTrigger (s : State) (a v : Nat) : State :=
  if a = TL_CTRL then (s.onBit v 0 execRetrain).onBit v 1 execFullTrain
  else if a = TL_DRDY then s.drdy
  else if a = SEC_PURGE then s.after (execSecPurge (Fin.ofNat 256 v))
  else if a = SMP_CTRL then (s.onBit v 0 execSamplerStart).onBit v 1 execSamplerStop
  else
    let s := (List.range 32).foldl (fun (s : State) k =>
      let g := Fin.ofNat 2 (k / 16)
      let n := Fin.ofNat 16 k
      if a = XE_ENG_CTRL g n then (s.onBit v 0 (execXeHaltReq g n (modeBits v))).onBit v 3 (execXeEngResume g n) else s) s
    (List.range 12).foldl (fun (s : State) k =>
      let n := Fin.ofNat 12 k
      if a = LN_CTRL n then s.onBit v 1 (execLnDisableReq n (BitVec.ofNat 2 (bits v 2 2))) else s) s

/-- A write of a whole aligned word to the register at `a`; nothing where no register is. -/
def State.regWrite (s : State) (a v : Nat) : State :=
  (descOf a).elim s (fun d =>
    if tileRegs ≤ a ∧ a < tileRegs + 0x1000000 then
      let p := Fin.ofNat 256 ((a - tileRegs) / 0x10000)
      let o := (a - tileRegs) % 0x10000
      let next := if 0xC400 ≤ o ∧ o < 0xCC00 ∧ o % 0x20 = 0x10 then s.fld a CH_EP_STATE.next_seq else 0
      let t := s.writeDesc d a (BitVec.ofNat 64 v)
      let t := if 0xC400 ≤ o ∧ o < 0xCC00 ∧ o % 0x20 = 0x10 then t.setFld a CH_EP_STATE.next_seq next else t
      (s.guardedWrite p o v).getD (t.tileTrigger p o v)
    else (s.writeDesc d a (BitVec.ofNat 64 v)).globalTrigger a v)

/-- REGISTER_WRITE: `whole` says that the access is one of 64 bits; a narrower or misaligned one is refused, and a write where
no register is has no effect (R7, R9, R10). -/
def execRegisterWrite (addr : BitVec 52) (whole : Bool) (v : BitVec 64) (s : State) : Host.Outcome State Fault Refusal :=
  .next (if whole ∧ addr.toNat % 8 = 0 then s.regWrite addr.toNat v.toNat else s)

/-! ## Messages that write registers (R161, R210) -/

/-- A VCM message of a kind enters the mesh at the router of tile `p` and goes to its end: the tiles that took it, in order,
and the state. -/
def State.vcmDeliver (s : State) (p kind route steps : Nat) : List Nat × State :=
  let m : Msg := { kind := kind, vc := 4, destEp := steps, srcTile := p, vcmRoute := route }
  let t := ({ s with net := s.net ++ [({ msg := m, loc := p, inPort := 3 } : NetMsg)] } : State).vcmWalk 1024
  ((t.net.filter (fun e => e.msg.vc == 4 && e.arrived)).map (fun e => e.loc),
    { t with net := t.net.filter (fun e => !(e.msg.vc == 4)) })

/-- A tile takes register writes: it folds each into TILE_CFG_CRC and performs it. -/
def State.vcmWrites (s : State) (p : Nat) (l : List (BitVec 16 × BitVec 64)) : State :=
  l.foldl (fun s w =>
    let o := w.1.toNat - w.1.toNat % 8
    let crc := crc32cFrom (s.fld (TILE_CFG_CRC p) TILE_CFG_CRC.crc) (leBytes 4 o ++ leBytes 8 w.2.toNat)
    (s.setFld (TILE_CFG_CRC p) TILE_CFG_CRC.crc crc).regWrite (tileRegs + p * 0x10000 + o) w.2.toNat) s

/-- VCM_CONFIG: a configuration message with register writes, from the router of tile `p` along its source route or tree;
every tile that takes it performs them. -/
def execVcmConfig (p : Tile) (route : BitVec 64) (steps : Fin 32) (writes : List (BitVec 16 × BitVec 64)) (s : State) :
    Host.Outcome State Fault Refusal :=
  let r := s.vcmDeliver p 0x0A route.toNat steps
  .next (r.1.foldl (fun s q => s.vcmWrites q writes) r.2)

/-- VCM_HEAL: a heal message of the health manager acts on each tile that takes it through one write of a register of its
block (R262, R263). -/
def execVcmHeal (p : Tile) (route : BitVec 64) (steps : Fin 32) (offset : BitVec 16) (v : BitVec 64) (s : State) :
    Host.Outcome State Fault Refusal :=
  let r := s.vcmDeliver p 0x0B route.toNat steps
  .next (r.1.foldl (fun s q => s.regWrite (tileRegs + q * 0x10000 + (offset.toNat - offset.toNat % 8)) v.toNat) r.2)

end Sys2Proof.Machine
end

