-- ==== Sys2Proof/Machine/Boot.lean ====
section
/-! DEFINITION. Machine/Boot.lean: the input supply, the boot ROM, the image, firmware's initialisation (R428 to R438, R455). -/
namespace Sys2Proof.Machine

/-! ## The input (R428, R438, R474) -/

/-- The voltages of the two blade pairs and the current are read; the lower pair is the input voltage. -/
def State.readInput (s : State) (a b iin : Nat) : State :=
  let v := min a b
  let s := { s with power := { s.power with vinA := a, vinB := b } }
  let s := (s.setFld PWR_INPUT PWR_INPUT.vin_mv v).setFld PWR_INPUT PWR_INPUT.iin_10ma iin
  (s.setBit PWR_INPUT PWR_INPUT.uv_warn (decide (v < 40000))).setBit PWR_INPUT PWR_INPUT.ov_warn (decide (v > 52000))

/-- Whether an input voltage in mV lies in the operating range. -/
def inOperating (v : Nat) : Bool := decide (40000 ≤ v) && decide (v ≤ 52000)

/-- POWER_ON: with both pairs in range the rails rise, power-good is released, and the boot starts at step 1. -/
def execPowerOn (vinA vinB : BitVec 16) (s : State) : Host.Outcome State Fault Refusal :=
  let v := min vinA.toNat vinB.toNat
  .next (
    if s.boot.powered then s
    else if inOperating v then
      let s := { s with boot := { s.boot with powered := true } }
      let s := (s.setBit SCU_BOOT_STATUS SCU_BOOT_STATUS.cold true).setFld TB_COUNT TB_COUNT.count s.startTb
      ({ s with boot := { s.boot with tbStage := s.tb } } : State).readInput vinA.toNat vinB.toNat 0
    else { s with power := { s.power with vinA := vinA.toNat, vinB := vinB.toNat } })

/-- INPUT_RANGE: a measurement of the input. A change of its warnings is reported, and SB_ALERT_N goes low on entry. -/
def execInputRange (vinA vinB iin : BitVec 16) (s : State) : Host.Outcome State Fault Refusal :=
  let v := min vinA.toNat vinB.toNat
  .next (
    if !s.boot.powered then { s with power := { s.power with vinA := vinA.toNat, vinB := vinB.toNat } }
    else
      let was := s.bit PWR_INPUT PWR_INPUT.uv_warn || s.bit PWR_INPUT PWR_INPUT.ov_warn
      let s := s.readInput vinA.toNat vinB.toNat iin.toNat
      let warn := !inOperating v
      let bad := decide (v < 38000) || decide (v > 56000)
      let since := if bad then some (s.power.badSince.getD s.tb) else none
      let s := { s with power := { s.power with badSince := since } }
      let s := if was != warn && s.fwUp && s.clocked then s.powerEvent 1 else s
      if warn && !was then s.alert else s)

/-- INPUT_SHUTDOWN: the input has been out of range for 50 µs: every rail goes off, and LPDDR5X is lost too. -/
def execInputShutdown (s : State) : Host.Outcome State Fault Refusal :=
  .next (
    match s.power.badSince with
    | some t =>
      if s.boot.powered ∧ t + 5000 ≤ s.tb then
        let s := s.restart none true
        { s with boot := { s.boot with powered := false }, power := { s.power with badSince := none } }
      else s
    | none => s)

/-- VBAT_LOSS: with 44 V and VBAT both lost the always-on domain is lost. -/
def execVbatLoss (s : State) : Host.Outcome State Fault Refusal :=
  .next (if s.boot.powered then s else s.resetRegs alwaysOn)

/-! ## Steps 1 to 5 (R429, R430, R433) -/

/-- The boot stops where it stands with a failure code. -/
def State.bootHalt (s : State) (code : Nat) : State := (s.setFld SCU_BOOT_STATUS SCU_BOOT_STATUS.fail code).setStage 0x0F

/-- Step 3: what the non-volatile store holds is read: the leaf journal and the enrolled keys. -/
def State.bootStore (s : State) : State :=
  let s := s.setFld SEC_LEAVES_USED SEC_LEAVES_USED.used s.store.leafEnd
  (s.setFld SEC_LEAVES_RESV SEC_LEAVES_RESV.reserved_end s.store.leafEnd).leavesView.secView

/-- The fills of R406 where SEC_AON dirty is set. -/
def State.dirtyFill (s : State) : State :=
  if s.bit SEC_AON SEC_AON.dirty then
    let s := ((s.zeroRange (tsBase 0) (256 * tsBytes)).zeroRange (osBase 0) (256 * osBytes)).zeroRange 0 hbmEnd
    (s.setBit SEC_AON SEC_AON.dirty false).setBit SCU_BOOT_STATUS SCU_BOOT_STATUS.dirty_fill true
  else s

/-- Step 4a: the field repairs of tiles are loaded, and the self-test leaves its pattern in the SRAMs of the tiles that it
tests. -/
def State.selfTest (s : State) (x : BootRun) : State :=
  let s := s.store.repairs.foldl (fun s r => s.setRepair r.1 r.2.1 r.2.2.1 r.2.2.2.2 r.2.2.2.1) s
  let s := (List.range 256).foldl (fun s p => if s.store.fences.any (fun f => f.1 == p) then s else s.loseSram p) s
  { s with boot := { s.boot with
      badTiles := x.tiles.toNat
      badPorts := ((List.range 2048).filter (fun i => bitOf x.ports.toNat i)).map (fun i => (i / 8, i % 8)) } }

/-- Step 4b: the stacks train; one that fails forces the interleave NONE (R302). -/
def State.trainHbm (s : State) (x : BootRun) : State :=
  let s := if x.hbm = 0 then s
    else (s.setFld HBM_ILV HBM_ILV.failed x.hbm.toNat).setFld HBM_ILV HBM_ILV.mode 1
  (List.range 8).foldl (fun s i =>
    if bitOf x.hbm.toNat i then s.setFld (HBM_STATUS i) HBM_STATUS.state 3
    else
      let a := HBM_STATUS i
      let s := (s.setFld a HBM_STATUS.state 1).setFld a HBM_STATUS.lanes_repaired (bits x.lanes.toNat (8 * i) 8)
      let s := s.setFld a HBM_STATUS.sppr_done (min 0xFFFF (s.store.hbmRepairs.countP (fun r => r.1 == i)))
      s.setFld a HBM_STATUS.pages_retired (min 0xFFFF (s.store.retired.countP (fun p => s.stackOf p == i)))) s

/-- Step 4c: the LPDDR5X controllers train. -/
def State.trainLp (s : State) (ok : Bool) : State :=
  (List.range 8).foldl (fun s n => s.setFld (LP_STATUS n) LP_STATUS.state (if ok then 1 else 3)) s

/-- Steps 1 to 5 of a boot. -/
def State.bootRom (s : State) (x : BootRun) : State :=
  if !x.pll then s.bootHalt 1
  else
    let s := ((s.setBit CLK_STATUS CLK_STATUS.locked true).setBit CLK_STATUS CLK_STATUS.refclk_ok true).setStage 2
    if !x.fuse then s.bootHalt 2
    else
      let s := (s.setFld SEC_SVN SEC_SVN.fused s.store.svn).setFld SEC_STATUS SEC_STATUS.lifecycle 0x5A
      let s := (s.setDigestRegs SEC_FW_ROOT (padTo 32 Config.rootHash)).setStage 3
      if !x.store then s.bootHalt 3
      else
        let s := ((s.bootStore.setStage 4).dirtyFill.selfTest x).trainHbm x
        if !x.lp then (s.trainLp false).bootHalt 4
        else ((s.trainLp true).setStage 5).mailboxUp

/-- BOOT_SEQUENCE: from the release of reset the boot ROM runs to the opening of the mailbox, or halts. -/
def execBootSequence (x : BootRun) (s : State) : Host.Outcome State Fault Refusal :=
  .next (
    if s.boot.powered && !s.boot.resetHeld && s.stage == 1 && s.fld PWR_STATUS PWR_STATUS.state != 4 then s.bootRom x else s)

/-! ## Step 6: the image (R384, R431, R433) -/

/-- The failure code of an image of a requested length; none where it is accepted. -/
def State.imageFault (s : State) (n : Nat) (img : List Byte) : Option Nat :=
  if n = 0 ∨ n > loadBytes ∨ n ≠ Config.imageLength img then some 9
  else if sha256 (Config.imageRoot img) ≠ padTo 32 Config.rootHash then some 6
  else if !Config.imageSigned img then some 7
  else if Config.imageSvn img < s.fld SEC_SVN SEC_SVN.fused then some 8
  else none

/-- An image is accepted: it becomes the measured copy, and firmware starts. -/
def State.acceptImage (s : State) (n : Nat) (img : List Byte) : State :=
  let s := s.setFld SCU_BOOT_STATUS SCU_BOOT_STATUS.image_length n
  let s := (s.setFld SEC_SVN SEC_SVN.image (Config.imageSvn img)).setBit SEC_SVN SEC_SVN.commit_pending (Config.imageCommit img)
  let s := { s with boot := { s.boot with version := Config.imageVersion img % 2 ^ 32, fwFrom := s.tb } }
  s.setStage 8

/-- An image is refused: the mailbox opens again, and the code is kept. -/
def State.refuseImage (s : State) (code : Nat) : State :=
  let s := (s.addSat SCU_BOOT_STATUS SCU_BOOT_STATUS.refused 1).setFld SCU_BOOT_STATUS SCU_BOOT_STATUS.fail code
  ({ s with boot := { s.boot with mailbox := 1 } } : State).setStage 6

/-- IMAGE_LOAD_REQUEST: the watch of the request line has fired: the load area and the request line close to the host, and
the image is checked. -/
def execImageLoadRequest (s : State) : Host.Outcome State Fault Refusal :=
  .next (
    if s.stage = 6 ∧ s.boot.mailbox = 1 ∧ s.tl.fired.contains requestLine then
      let s := s.unfire requestLine
      let n := s.num requestLine 8
      let s := { s with boot := { s.boot with mailbox := 2, tag := s.num (requestLine + 8) 4 } }
      let s := s.setStage 7
      let img := s.bytes loadArea (min n loadBytes)
      match s.imageFault n img with
      | some code => s.refuseImage code
      | none => s.acceptImage n img
    else s)

/-! ## Step 7: firmware's initialisation (R434, R435) -/

/-- The records of the tiles in the first health map (R257, R258): permanent fences from the store, the tiles that failed the
self-test FENCED with BOOT_FAIL, the others as they pass. -/
def State.firstTiles (s : State) : State :=
  let s := ((s.store.repairs.filter (fun r => !r.2.1)).map (fun r => (r.1, r.2.2.1))).eraseDups.foldl
    (fun s e => s.remapView e.1 e.2) s
  (List.range 256).foldl (fun s p =>
    match s.store.fences.find? (fun f => f.1 == p) with
    | some f => ((s.setHealth p HLTH_TILE.state 3).setHealth p HLTH_TILE.cause f.2).setHealth p HLTH_TILE.permanent 1
    | none => if bitOf s.boot.badTiles p then s.recordFence p 0x0F false else s.passTile p) s

/-- The port and bridge records of the first health map (R259). -/
def State.firstPorts (s : State) : State :=
  let s := (List.range 256).foldl (fun s p => s.setReg (HLTH_PORT p) 0x11111111) s
  let s := (List.range 24).foldl (fun s e => s.setFld (HLTH_BRIDGE e) HLTH_BRIDGE.pair_untested 0) s
  s.bistFailed 0 ((s.boot.badPorts.map (fun e => 2 ^ (8 * e.1 + e.2))).sum)

/-- Item 2: the first health map is published as generation 1, without an event. -/
def State.firstMap (s : State) : State := (s.firstTiles.firstPorts.summaryView.setFld HLTH_ID HLTH_ID.generation 1).sheetPartial

/-- Item 3: tiles that are not FENCED are initialised; the multicast trees, whose layout the spec leaves to firmware, and what
TILE_CFG_CRC comes to are free. -/
def State.initTiles (s : State) : State :=
  let s := s.refence
  (List.range 256).foldl (fun s p =>
    if s.hState p = 3 then s
    else
      let s := (List.range 16).foldl (fun (s : State) t =>
        let got := s.draw 5
        let n := got.1
        let s := got.2
        s.setReg (RT_MCAST p t) (BitVec.ofNat 64 n)) s
      let got := s.draw 32
      let n := got.1
      let s := got.2
      s.setFld (TILE_CFG_CRC p) TILE_CFG_CRC.crc n) s

/-- Item 5: the svn is committed where the image asks for it; `ok` says that every fuse bit could be blown (R385). -/
def State.commitSvn (s : State) (ok : Bool) : State :=
  if !s.bit SEC_SVN SEC_SVN.commit_pending then s
  else if ok then
    let n := max s.store.svn (s.fld SEC_SVN SEC_SVN.image)
    let s := { s with store := { s.store with svn := n } }
    ((s.setFld SEC_SVN SEC_SVN.fused n).setBit SEC_SVN SEC_SVN.commit_pending false).secView
  else s.setBit SEC_FAULT SEC_FAULT.svn_fault true

/-- Item 6: the command windows open with every index 0, and the mailbox closes (log 31). -/
def State.openWindows (s : State) : State :=
  let s := s.zeroRange lpFirst 0x180
  let s := { s with tl := { s.tl with repSeen := 0, evtSeen := 0, evtIx := 0, repIx := 0 } }
  let s := ((s.openAs 0 lpFirst 4096 true true true).openAs 1 cmdWindow 0x50000 true true true).drdy
  { s with boot := { s.boot with mailbox := 0 } }

/-- What firmware posts when the boot ends: READY, OUT_OF_SERVICE where it is, RESET after a module reset. -/
def State.postReady (s : State) : State :=
  let oos := s.bit SCU_AON_ESC SCU_AON_ESC.out_of_service
  let s := (s.setFld SCU_BOOT_READY SCU_BOOT_READY.tb_count s.tb).setStage (if oos then 0x0A else 0x09)
  let s := s.oldestView.beat
  let g := fun f => s.fld SCU_CMD_VERSION f
  let s := s.event 0x0001 0xFF (fieldsFrom 0 [(1, g SCU_CMD_VERSION.minor), (1, g SCU_CMD_VERSION.major),
    (4, g SCU_CMD_VERSION.fw_version), (4, s.fld HLTH_ID HLTH_ID.generation)])
  let n := s.fld SCU_RESET_STATUS SCU_RESET_STATUS.compute_resets
  let s := if oos then
      s.event 0x0013 0xFF (fieldsFrom 0 [(4, s.fld SCU_AON_ESC SCU_AON_ESC.module_resets), (4, n)])
    else s
  match s.boot.cause with
  | none => s
  | some c =>
    let s := (s.setFld SCU_RESET_STATUS SCU_RESET_STATUS.last_cause c).setBit SCU_RESET_STATUS SCU_RESET_STATUS.last_module true
    let s := { s with boot := { s.boot with cause := none } }
    s.event 0x0011 0xFF (fieldsFrom 0 [(1, c + 0x80), (4, n)])

/-- FW_INIT: step 7 ends: firmware measures P_base, and the module serves. -/
def execFwInit (baseW : BitVec 12) (svnOk : Bool) (s : State) : Host.Outcome State Fault Refusal :=
  .next (
    if s.stage ≠ 8 then s
    else
      let s := (s.setDigestRegs SEC_FW_MEAS (sha256 s.fwCopy)).setDigestRegs SEC_ID_KEY (sha256 identityPublic)
      let s := s.firstMap.initTiles
      let oos := s.bit SCU_AON_ESC SCU_AON_ESC.out_of_service
      let s := (s.setBit SCU_RESET_STATUS SCU_RESET_STATUS.out_of_service oos).setBit SCU_CMD_STATUS SCU_CMD_STATUS.out_of_service oos
      let s := (s.commitSvn svnOk).openWindows
      let s := s.setFld SCU_CMD_VERSION SCU_CMD_VERSION.fw_version s.boot.version
      let s := (s.setFld PWR_BASE PWR_BASE.base_w baseW.toNat).powerView.postReady
      let s := (List.range 256).foldl (fun s p => s.queueRetest p) s
      if s.sb.estopHeld then s.alert.estopHeldActs else s)

/-- FW_INIT_TIMEOUT: step 7 exceeds 2 s. -/
def execFwInitTimeout (s : State) : Host.Outcome State Fault Refusal :=
  .next (
    if s.stage = 8 ∧ s.boot.fwFrom + 200000000 ≤ s.tb then
      (s.setFld SCU_BOOT_STATUS SCU_BOOT_STATUS.fail 0x0A).moduleReset 6 false
    else s)

end Sys2Proof.Machine
end

