-- ==== Sys2Proof/Machine/Power.lean ====
section
/-! DEFINITION. Machine/Power.lean: the power limit and its gates, temperature, the power ladder (R439 to R451). -/
namespace Sys2Proof.Machine

/-! ## Gates (R441, R442) -/

/-- A POWER event, while firmware serves. -/
def State.powerNote (s : State) (k : Nat) : State := if s.fwUp && s.clocked then s.powerEvent k else s

/-- The protected tiles. -/
def State.protectedTiles (s : State) : List Nat := (List.range 256).filter (fun p => s.protected_ p)

/-- Steps below 64 of the gate of tile `p`, as protected. -/
def State.lowGate (s : State) (p : Nat) : Nat := tget 0 s.power.lowGates p

/-- Whether every protected gate is at 64. -/
def State.protFull (s : State) : Bool := s.protectedTiles.all (fun p => s.lowGate p == 0)

/-- Since when the protected gates are at 64. -/
def State.fullView (s : State) : State :=
  { s with power := { s.power with fullSince := if s.protFull then some (s.power.fullSince.getD s.tb) else none } }

/-- throttled, prot_gate_min and throttle_ms follow the gates; throttling starts and ends with a POWER event. -/
def State.gateView (s : State) : State :=
  let was := s.bit PWR_STATUS PWR_STATUS.throttled
  let s : State := if was then
      let n := (s.tb - s.power.throttleAt) / 100000
      let s := s.addSat PWR_GATE PWR_GATE.throttle_ms n
      { s with power := { s.power with throttleAt := s.power.throttleAt + n * 100000 } }
    else { s with power := { s.power with throttleAt := s.tb } }
  let most : Nat := s.protectedTiles.foldl (fun (m : Nat) p => max m (s.lowGate p)) 0
  let now := s.gatesShut || decide (s.fld PWR_GATE PWR_GATE.host_gate < 64) || decide (s.fld PWR_GATE PWR_GATE.unprot_gate < 64) ||
    decide (most ≠ 0)
  let s := (s.setFld PWR_GATE PWR_GATE.prot_gate_min (64 - most)).setBit PWR_STATUS PWR_STATUS.throttled now
  let s := s.fullView
  if was != now then s.powerNote (if now then 8 else 9) else s

/-- Every gate goes to 0 (R444, R482). -/
def State.shutGates (s : State) : State :=
  let s := (s.setFld PWR_GATE PWR_GATE.host_gate 0).setFld PWR_GATE PWR_GATE.unprot_gate 0
  { s with power := { s.power with lowGates := (List.range 256).foldl (fun l p => tset 0 l p 64) [] } }

/-- One step down of the unprotected gates: the host transfer engines, then the unprotected tiles. Whether there was one. -/
def State.lowerFree (s : State) : Bool × State :=
  let h := s.fld PWR_GATE PWR_GATE.host_gate
  let u := s.fld PWR_GATE PWR_GATE.unprot_gate
  if h > 0 then (true, s.setFld PWR_GATE PWR_GATE.host_gate (h - 1))
  else if u > 0 then (true, s.setFld PWR_GATE PWR_GATE.unprot_gate (u - 1))
  else (false, s)

/-- One step down of the gates of some protected tiles. -/
def State.lowerTiles (s : State) (l : List Nat) : State :=
  { s with power := { s.power with lowGates := l.foldl (fun g p => tset 0 g p (min 64 (tget 0 g p + 1))) s.power.lowGates } }

/-- One step up, in the reverse order: protected tiles, unprotected tiles, host transfer engines. -/
def State.raiseGates (s : State) : State :=
  let h := s.fld PWR_GATE PWR_GATE.host_gate
  let u := s.fld PWR_GATE PWR_GATE.unprot_gate
  if !s.protFull then
    { s with power := { s.power with lowGates := s.power.lowGates.foldl (fun g e => tset 0 g e.1 (e.2 - 1)) [] } }
  else
    let s := { s with power := { s.power with lowGates := [] } }
    if u < 64 then s.setFld PWR_GATE PWR_GATE.unprot_gate (u + 1)
    else if h < 64 then s.setFld PWR_GATE PWR_GATE.host_gate (h + 1)
    else s

/-- GATE_STEP_DOWN: `watts` is the 100 µs average of input power. -/
def execGateStepDown (watts : BitVec 12) (s : State) : Host.Outcome State Fault Refusal :=
  .next (
    if !s.clocked then s
    else if watts.toNat ≤ s.fld PWR_CFG PWR_CFG.limit_w then { s with power := { s.power with overSince := none } }
    else if s.gatesShut then s
    else
      let got := s.lowerFree
      let was := got.1
      let s := got.2
      let s := if was then { s with power := { s.power with overSince := none } }
        else { s with power := { s.power with overSince := some (s.power.overSince.getD s.tb) } }
      let s := if !was && s.bit PWR_STATUS PWR_STATUS.over_limit then s.lowerTiles s.protectedTiles else s
      s.gateView)

/-- GATE_STEP_UP: `watts` is the 1 ms average of input power; `ctxWatts` the 1 s averages of the contexts' power, 12 bits
each, of which the highest while a context holds streams counts (R443). -/
def execGateStepUp (watts : BitVec 12) (ctxWatts : BitVec 192) (s : State) : Host.Outcome State Fault Refusal :=
  .next (
    if !s.clocked then s
    else
      let s := s.setFld PWR_STATUS PWR_STATUS.power_w watts.toNat
      let peak := (List.range 16).foldl (fun l c =>
        if s.holdsStream c then tset 0 l c (max (tget 0 l c) (bits ctxWatts.toNat (12 * c) 12)) else l) s.power.peak
      let s := ({ s with power := { s.power with peak := peak } } : State).powerView
      let may := decide (watts.toNat * 100 < s.fld PWR_CFG PWR_CFG.limit_w * 98) && !s.gatesShut && !s.power.warm &&
        !s.bit PWR_STATUS PWR_STATUS.emergency
      (if may then s.raiseGates else s).gateView)

/-- OVER_LIMIT: the average has exceeded limit_w for 1 ms with every unprotected gate at 0. -/
def execOverLimit (s : State) : Host.Outcome State Fault Refusal :=
  .next (
    match s.power.overSince with
    | some t =>
      if s.clocked ∧ !s.bit PWR_STATUS PWR_STATUS.over_limit ∧ t + 100000 ≤ s.tb then
        ((s.setBit PWR_STATUS PWR_STATUS.over_limit true).lowerTiles s.protectedTiles).gateView.powerNote 2
      else s
    | none => s)

/-- OVER_LIMIT_CLEAR: the protected gates have stayed at 64 for 1 s. -/
def execOverLimitClear (s : State) : Host.Outcome State Fault Refusal :=
  .next (
    match s.power.fullSince with
    | some t =>
      if s.clocked ∧ s.bit PWR_STATUS PWR_STATUS.over_limit ∧ s.protFull ∧ t + 100000000 ≤ s.tb then
        s.setBit PWR_STATUS PWR_STATUS.over_limit false
      else s
    | none => s)

/-! ## Temperature (R444, R445) -/

/-- The spire of a tile. -/
def spireOf (p : Nat) : Nat := 4 * (p / 16 / 4) + p % 16 / 4

/-- A thermal emergency begins. -/
def State.emergency (s : State) : State :=
  if s.bit PWR_STATUS PWR_STATUS.emergency then s
  else
    let s := (s.setBit PWR_STATUS PWR_STATUS.emergency true).addSat PWR_THERM PWR_THERM.emergencies 1
    let s := (s.setFld PWR_GATE PWR_GATE.host_gate 0).setFld PWR_GATE PWR_GATE.unprot_gate 0
    (({ s with power := { s.power with thermAlert := true, coolSince := none } } : State).powerNote 3).alert

/-- `now` while a condition lasts: its start. -/
def sinceWhen (b : Bool) (old : Option Nat) (now : Nat) : Option Nat := if b then some (old.getD now) else none

/-- SENSOR_READ. -/
def execSensorRead (x : Sensors) (s : State) : Host.Outcome State Fault Refusal :=
  let t := fun (p : Nat) => bits x.tiles.toNat (8 * p) 8
  let st := fun (i : Nat) => bits x.hbm.toNat (8 * i) 8
  let tile := (List.range 256).foldl (fun m p => if t p > t m then p else m) 0
  let stack := (List.range 8).foldl (fun m i => if st i > st m then i else m) 0
  let tj := (List.range 8).foldl (fun m e => max m (bits x.edges.toNat (8 * e) 8)) (t tile)
  let th := st stack
  .next (
    if !s.clocked then s
    else
      let s := ((s.setFld PWR_THERM PWR_THERM.tj_max_c tj).setFld PWR_THERM PWR_THERM.tj_tile tile)
      let s := ((s.setFld PWR_THERM PWR_THERM.hbm_max_c th).setFld PWR_THERM PWR_THERM.hbm_stack stack)
      let s := s.setFld PWR_STATUS PWR_STATUS.inlet_c x.inlet.toNat
      let s := (List.range 8).foldl (fun s i => s.setBit (HBM_STATUS i) HBM_STATUS.hot (decide (st i ≥ 85))) s
      let inlet := decide (x.inlet.toNat > 40)
      let s := if inlet && !s.power.inletHot then s.powerNote 5 else s
      let hot := (List.range 256).filter (fun p => decide (t p ≥ 105))
      let w := s.power
      let s := { s with power := { w with
        inletHot := inlet, warm := decide (tj ≥ 95), hotTiles := hot
        hotSince := sinceWhen (decide (tj ≥ 105)) w.hotSince s.tb
        stackSince := sinceWhen (decide (th ≥ 95)) w.stackSince s.tb
        coolSince := sinceWhen (decide (tj < 95) && decide (th < 90)) w.coolSince s.tb } }
      let s := if tj ≥ 115 ∧ !s.bit PWR_STATUS PWR_STATUS.trip then
          ((s.setBit PWR_STATUS PWR_STATUS.trip true).addSat PWR_THERM PWR_THERM.trips 1).shutGates.emergency
        else if tj ≤ 100 then s.setBit PWR_STATUS PWR_STATUS.trip false
        else s
      let s := if s.gatesShut then s
        else if s.bit PWR_STATUS PWR_STATUS.emergency then
          let spires := hot.map (fun p => spireOf p)
          s.lowerTiles (s.protectedTiles.filter (fun p => spires.contains (spireOf p)))
        else if tj ≥ 95 then s.lowerFree.2
        else s
      s.gateView)

/-- Whether a condition has lasted `n` counts. -/
def State.lasted (s : State) (since : Option Nat) (n : Nat) : Bool :=
  match since with
  | some t => decide (t + n ≤ s.tb)
  | none => false

/-- THERMAL_EMERGENCY: a junction at 105 °C or a stack at 95 °C for 1 ms. -/
def execThermalEmergency (s : State) : Host.Outcome State Fault Refusal :=
  .next (
    if s.clocked && !s.bit PWR_STATUS PWR_STATUS.emergency &&
        (s.lasted s.power.hotSince 100000 || s.lasted s.power.stackSince 100000) then s.emergency.gateView
    else s)

/-- THERMAL_EMERGENCY_END: every reading has been below its threshold for 1 s. -/
def execThermalEmergencyEnd (s : State) : Host.Outcome State Fault Refusal :=
  .next (
    if s.clocked && s.bit PWR_STATUS PWR_STATUS.emergency && !s.bit PWR_STATUS PWR_STATUS.trip &&
        s.lasted s.power.coolSince 100000000 then
      let s := s.setBit PWR_STATUS PWR_STATUS.emergency false
      ({ s with power := { s.power with thermAlert := false } } : State).powerNote 4
    else s)

/-! ## The power ladder (R446 to R451) -/

/-- Whether any context is confidential. -/
def State.anyConf (s : State) : Bool := (List.range 16).any (fun c => s.cState c != 0 && s.isConf c)

/-- Whether `n` bytes at `a` lie in one allocation of context `c` in LPDDR5X. -/
def State.inLpAlloc (s : State) (c a n : Nat) : Bool :=
  s.allocs.any (fun x => x.owner == c && decide (lpFirst ≤ x.addr) && decide (x.addr ≤ a) && decide (a + n ≤ x.addr + x.bytes))

/-- One entry of a save buffer (R449): context, region, virtual tile, destination; none where its destination does not hold the
region, the region is a proof region, or it names no region of a placed virtual tile. -/
def State.saveEntry (s : State) (a : Nat) : Option (Nat × Nat × Nat × Nat) :=
  let c := s.num a 1
  let r := s.num (a + 1) 1
  let v := s.num (a + 2) 2
  let dest := s.num (a + 8) 8
  if c ≥ 16 ∨ r ≥ 64 then none
  else match s.placed c v with
  | none => none
  | some p =>
    if s.rMode p r = mOff ∨ (s.ctx c).plate.proofRegions.contains (v, r) ∨ !s.inLpAlloc c dest (s.rSize p r) then none
    else some (c, r, v, dest)

/-- The regions that a save buffer names, or the status that refuses it. -/
def State.saveList (s : State) (a : Nat) : Nat ⊕ List (Nat × Nat × Nat × Nat) :=
  let n := s.num a 4
  if !inHost a 8 then .inl stACCESS
  else if n > 1024 then .inl stBAD_PARAM
  else if !inHost a (8 + 16 * n) then .inl stACCESS
  else
    let l := (List.range n).map (fun i => s.saveEntry (a + 8 + 16 * i))
    if l.any (fun e => e.isNone) then .inl stACCESS else .inr (l.filterMap id)

/-- Steps 2 and 3: the rotation test pauses, loupe work stops, running contexts and host engines stop. -/
def State.powerStops (s : State) (abort : Bool) : State :=
  let s := s.setBit HLTH_CFG HLTH_CFG.paused true
  let s := (s.health.loupe.filter (fun x => !x.running && !x.retest)).foldl (fun s x => s.loupeResult x 5 0 0 false) s
  let s := if abort then
      let s := match s.health.rotation with
        | some r => s.abandonTest r.tile
        | none => s
      (s.health.loupe.filter (fun x => x.running && !x.retest)).foldl (fun s x => s.abandonTest x.tile) s
    else s
  let s := (List.range 16).foldl (fun s c =>
    if abort then (if s.cState c = 4 ∨ s.cState c = 5 then s.abortCtx c else s)
    else if s.cState c = 4 then
      let s := s.drainCtx c .ready
      { s with power := { s.power with drained := s.power.drained ++ [c] } }
    else s) s
  hostEngines.foldl (fun s e => s.xeHalt e.1 e.2 (b2n abort)) s

/-- Whether steps 2 and 3 are complete; a state that unloads plates waits for loads and zeroisings too (log 30). -/
def State.workStopped (s : State) (st : Nat) : Bool :=
  s.health.rotation.isNone && !s.health.loupe.any (fun x => x.running && !x.retest) &&
    (List.range 16).all (fun c => let k := s.cState c; k != 4 && k != 5 && (decide (st < 3) || (k != 2 && k != 7))) &&
    hostEngines.all (fun e => s.bit (XE_ENG_STATUS e.1 e.2) XE_ENG_STATUS.halted)

/-- Step 4: the Lanel ports are disabled. -/
def State.powerPorts (s : State) (abort : Bool) : State :=
  (List.range 12).foldl (fun s n => if s.lnState n = 0 ∨ s.lnState n = 6 then s else s.lnDisable n abort) s

/-- Step 5: a region is copied to its destination and entered in the save directory. -/
def State.saveRegion (s : State) (e : Nat × Nat × Nat × Nat) : State :=
  let got := e
  let c := got.1
  let r := got.2.1
  let v := got.2.2.1
  let dest := got.2.2.2
  match s.placed c v with
  | none => s
  | some p =>
    let s := s.copyRange (tsBase p + s.rBase p r) dest (s.rSize p r)
    let y := s.ctx c
    s.setCtx c { y with saved := y.saved.filter (fun x => !(x.1 == v && x.2.1 == r)) ++ [(v, r, dest, y.plate.plateId)] }

/-- Steps 5 and 6: plates are unloaded for Slumber, contexts destroyed for Safelight. -/
def State.powerUnload (s : State) (st : Nat) : State :=
  (List.range 16).foldl (fun s c =>
    if s.cState c = 0 then s
    else if st = 4 then (s.endJoin c).zeroised c true
    else if s.cState c = 3 ∨ s.cState c = 6 then (s.endJoin c).zeroised c false
    else s) s

/-- What Slumber does not keep: HBM, the SRAMs, tiles and mesh; firmware initialises the tiles again. -/
def State.slumberLoss (s : State) : State :=
  let s := ((s.loseRange 0 hbmEnd).loseRange (tsBase 0) (256 * tsBytes)).loseRange (osBase 0) (256 * osBytes)
  let s := { s with ue := Sparse.clear s.ue (fun w => decide (w < lpFirst) || decide (lpFirst + 2 ^ 40 ≤ w ∧ w < hostFirst)) }
  s.computeClear.refence

/-- An entry under way ends with its replies. -/
def State.powerReply (s : State) (f : State → Waiting → State) (result : Nat) : State :=
  let s := { s with power := { s.power with target := none, save := [], drained := [] } }
  let s := { s with sb := { s.sb with result := if s.sb.code = 0x10 ∧ s.sb.result = 1 then result else s.sb.result } }
  s.complete (fun w => w.op == 0x0B01) f

/-- The target state is entered; for Slumber and Safelight the reply is the last act on the link. -/
def State.powerEnter (s : State) (st form : Nat) : State :=
  if st = 4 ∧ s.anyConf then
    (s.setFld PWR_STATUS PWR_STATUS.state 0).powerReply (fun s w => s.reply w.cmd stCONFIDENTIAL 0) 2
  else
    let fell := form == 1 || s.power.drained.any (fun c => s.fld (SCU_CTX_STATE c) SCU_CTX_STATE.stop_mode == 1)
    let s := if st = 3 then s.power.save.foldl (fun s e => s.saveRegion e) s else s
    let s := if st ≥ 3 then s.powerUnload st else s
    let s := (s.enterPower st).powerReply
      (fun s w => s.okForm w.cmd (if w.form = 1 then 1 else if fell then 2 else 0) []) 0
    let s := if st ≥ 3 then s.tlDown 0 else s
    if st = 3 then s.slumberLoss else s

/-- An entry under way goes on as far as it can (R448). -/
def State.powerGo (s : State) : State :=
  match s.power.target with
  | none => s
  | some (st, form) =>
    if !s.health.heals.isEmpty ∨ s.inReset then s
    else
      let s := s.powerStops (form == 1)
      if !s.workStopped st then s
      else
        let s := if st ≥ 2 then s.powerPorts (form == 1) else s
        if st ≥ 2 ∧ (List.range 12).any (fun n => s.lnState n != 0 && s.lnState n != 6) then s else s.powerEnter st form

/-- An entry begins. -/
def State.powerBegin (s : State) (st form : Nat) (l : List (Nat × Nat × Nat × Nat)) : State :=
  let s := { s with power := { s.power with target := some (st, form), save := l, drained := [] } }
  (s.setFld PWR_STATUS PWR_STATUS.state 5).powerGo

/-- An ABORT overtakes the entry under way (R351, R451). -/
def State.powerOvertake (s : State) (st : Nat) : State :=
  ({ s with power := { s.power with target := some (st, 1) } } : State).powerGo

/-- Whether an entry under way by DRAIN has this target. -/
def State.powerOver (s : State) (st : Nat) (abort : Bool) : Bool := abort && s.power.target == some (st, 0)

/-- PWR_STATE: waits behind an entry under way and sideband requests, but for an ABORT that overtakes. -/
def execPwrState (h : CmdHdr) (state : BitVec 8) (save : BitVec 64) (s : State) : Host.Outcome State Fault Refusal :=
  let st := state.toNat
  let a := save.toNat
  let past := s.powerOver st (bitOf h.flags.toNat 0)
  .next (
    if (s.power.target.isSome ∨ !s.sb.queue.isEmpty) ∧ !past then s
    else s.command h { op := 0x0B01, forms := true } (decide (st ≤ 4) && aligned64 a) (fun c s =>
      if st = 4 ∧ s.anyConf then s.reply c stCONFIDENTIAL 0
      else if s.powerOver st (c.form == 1) then (s.await c 0 st).powerOvertake st
      else if st = 0 then s.okForm c c.form []
      else match (if st = 3 ∧ a ≠ 0 then s.saveList a else .inr []) with
      | .inl status => s.reply c status 0
      | .inr l => (s.await c 0 st).powerBegin st c.form l))

/-- PWR_LIMIT. -/
def execPwrLimit (h : CmdHdr) (limit : BitVec 16) (s : State) : Host.Outcome State Fault Refusal :=
  .next (
    if s.power.target.isSome then s
    else s.command h { op := 0x0B02 } true (fun c s =>
      if limit.toNat * 10 < s.powerNeed none ∨ limit.toNat > s.part.limitW then s.refuse c 0x07
      else (s.setFld PWR_CFG PWR_CFG.limit_w limit.toNat).ok c []))

/-- PWR_STATUS. -/
def execPwrStatus (h : CmdHdr) (s : State) : Host.Outcome State Fault Refusal :=
  .next (
    if s.power.target.isSome then s
    else s.command h { op := 0x0B03 } true (fun c s =>
      let g := fun f => s.fld PWR_STATUS f
      s.ok c [(1, g PWR_STATUS.state), (1, g PWR_STATUS.throttled), (1, g PWR_STATUS.emergency), (2, g PWR_STATUS.power_w),
        (2, g PWR_STATUS.inlet_c)]))

/-- The sideband wake (R450): from Slumber firmware trains Treup; from Safelight the boot runs from step 1, no sheet written and
no reset counted; a stop that was held acts. -/
def State.wake (s : State) : State :=
  match s.fld PWR_STATUS PWR_STATUS.state with
  | 3 =>
    let s := ((s.setFld PWR_STATUS PWR_STATUS.state 0).memPower 0).setTl 0
    let s := s.powerEvent 6
    if s.sb.estopHeld then s.alert.estopHeldActs else s
  | 4 => { (s.restart none true) with sb := s.sb }
  | 1 => s.enterPower 0
  | 2 => s.enterPower 0
  | _ => s

end Sys2Proof.Machine
end

