-- ==== Sys2Proof/Machine/Sideband.lean ====
section
/-! DEFINITION. Machine/Sideband.lean: the sideband management bus (R479 to R483) and the test access port (R484, R485). -/
namespace Sys2Proof.Machine

/-! ## Block reads (R479, R480) -/

/-- Whether the health fields of the mirror are older than firmware's refresh of 10 ms. -/
def State.mirrorStale (s : State) : Bool := decide (s.sb.mirrorTb + 1000000 < s.tb)

/-- Bytes that a block read returns. -/
def State.sbAnswer (s : State) (l : List Byte) : State := { s with sb := { s.sb with answer := l } }

/-- The flags of STATUS. -/
def State.sbFlags (s : State) : Nat :=
  let g := fun f => s.fld PWR_STATUS f
  s.fld SCU_RESET_STATUS SCU_RESET_STATUS.out_of_service + g PWR_STATUS.emergency * 2 + g PWR_STATUS.trip * 4 + b2n s.sb.estop * 8 +
    b2n s.linkActive * 16 + b2n s.mirrorStale * 32 + g PWR_STATUS.over_limit * 64 + b2n s.restricted * 128

/-- STATUS: releases SB_ALERT_N. -/
def execStatus (s : State) : Host.Outcome State Fault Refusal :=
  .next (
    if !s.boot.powered then s
    else
      let t := s.sbAnswer (leBytes 1 s.stage ++ leBytes 1 (s.fld SCU_BOOT_STATUS SCU_BOOT_STATUS.fail) ++
        leBytes 1 (s.fld PWR_STATUS PWR_STATUS.state) ++ leBytes 1 s.sbFlags ++ leBytes 1 s.sb.code ++ leBytes 1 s.sb.result ++ [0, 0])
      { t with sb := { t.sb with alert := false } })

/-- TELEMETRY. -/
def execTelemetry (s : State) : Host.Outcome State Fault Refusal :=
  .next (
    if !s.boot.powered then s
    else s.sbAnswer (leBytes 2 (s.fld PWR_INPUT PWR_INPUT.vin_mv) ++ leBytes 2 (s.fld PWR_INPUT PWR_INPUT.iin_10ma) ++
      leBytes 2 (s.fld PWR_STATUS PWR_STATUS.power_w) ++ leBytes 2 (s.fld PWR_CFG PWR_CFG.limit_w) ++
      leBytes 1 (s.fld PWR_STATUS PWR_STATUS.inlet_c) ++ leBytes 1 (s.fld PWR_THERM PWR_THERM.tj_max_c) ++
      leBytes 1 (s.fld PWR_THERM PWR_THERM.hbm_max_c) ++ [0] ++ leBytes 2 s.power.vinA ++
      leBytes 2 (min 0xFFFF ((s.tb - s.sb.mirrorTb) / 100000))))

/-- HEALTH: from the mirror. -/
def execHealth (s : State) : Host.Outcome State Fault Refusal :=
  let m := fun i => s.sb.mirror.getD i 0
  .next (
    if !s.boot.powered then s
    else s.sbAnswer (leBytes 2 (m 0) ++ leBytes 2 (m 1) ++ leBytes 2 (m 2) ++ leBytes 2 (m 3) ++ leBytes 4 (m 4) ++ leBytes 2 (m 5) ++
      [0, 0]))

/-- BOOT: bytes 8 to 27 of the status line. -/
def execBoot (s : State) : Host.Outcome State Fault Refusal :=
  .next (if !s.boot.powered then s else s.sbAnswer ((s.bootBytes.drop 8).take 20))

/-- MIRROR_REFRESH: firmware refreshes the health fields. -/
def execMirrorRefresh (s : State) : Host.Outcome State Fault Refusal :=
  .next (
    if s.takesCommands then
      let t := s.oldestView
      let g := fun f => t.fld HLTH_SUMMARY f
      let l := [g HLTH_SUMMARY.good, g HLTH_SUMMARY.degraded, g HLTH_SUMMARY.fenced, g HLTH_SUMMARY.untested,
        t.fld HLTH_ID HLTH_ID.generation, min 0xFFFF (t.fld HLTH_OLDEST HLTH_OLDEST.age_ms / 3600000)]
      { t with sb := { t.sb with mirror := l, mirrorTb := t.tb } }
    else s)

/-! ## Writes (R480 to R482) -/

/-- A write on the bus: one with a wrong PEC is ignored and counted. -/
def State.sbWrite (s : State) (pec : Bool) (f : State → State) : State :=
  if !s.boot.powered then s
  else if !pec then { s with sb := { s.sb with pecFaults := s.sb.pecFaults + 1 } }
  else f s

/-- The code of the last request, and its result: 0 done, 1 pending, 2 refused. -/
def State.sbResult (s : State) (code result : Nat) : State := { s with sb := { s.sb with code := code, result := result } }

/-- A power request comes to execution, as PWR_STATE without a save buffer. -/
def State.sbPower (s : State) (st form : Nat) : State :=
  let s := s.wake
  if st = 0 then s.sbResult 0x10 0 else (s.sbResult 0x10 1).powerBegin st form []

/-- Whether a power request is refused: a reserved state; firmware not serving, or out of service, or asleep; Slumber with an
admitted stream; Safelight with a confidential context (R351, R448, R481). -/
def State.sbRefused (s : State) (st : Nat) : Bool :=
  decide (st > 4) || !s.takesCommands || s.bit SCU_CMD_STATUS SCU_CMD_STATUS.out_of_service ||
    (st == 3 && (List.range 16).any (fun c => s.holdsStream c)) || (st == 4 && s.anyConf)

/-- POWER_REQ. -/
def execPowerReq (value : BitVec 8) (pec : Bool) (s : State) : Host.Outcome State Fault Refusal :=
  let st := bits value.toNat 0 3
  let form := bits value.toNat 3 1
  .next (s.sbWrite pec (fun s =>
    let pw := s.fld PWR_STATUS PWR_STATUS.state
    if st = 0 ∧ (pw = 3 ∨ pw = 4) then s.wake.sbResult 0x10 0
    else if s.sbRefused st then s.sbResult 0x10 2
    else if s.powerOver st (form == 1) then (s.sbResult 0x10 1).powerOvertake st
    else if s.power.target.isSome ∨ s.inReset then
      ({ s with sb := { s.sb with queue := s.sb.queue ++ [(st, form)] } } : State).sbResult 0x10 1
    else s.sbPower st form))

/-- The first power request in the queue, once nothing holds it. -/
def State.sbNext (s : State) : State :=
  match s.sb.queue with
  | [] => s
  | (st, form) :: l =>
    if s.power.target.isSome ∨ s.inReset ∨ !s.takesCommands then s
    else
      let s := { s with sb := { s.sb with queue := l } }
      if s.sbRefused st then s.sbResult 0x10 2 else s.sbPower st form

/-- ESTOP: the hardware shuts every gate; firmware stops contexts and ports once it runs (R482). -/
def execEstop (value : BitVec 8) (pec : Bool) (s : State) : Host.Outcome State Fault Refusal :=
  .next (s.sbWrite pec (fun s =>
    if value ≠ 0xE5 then s
    else if s.sb.estop then s.sbResult 0x20 (b2n s.sb.estopHeld)
    else
      let s := { s with sb := { s.sb with estop := true } }
      let s := s.shutGates.gateView.sbResult 0x20 0
      if !s.takesCommands then (({ s with sb := { s.sb with estopHeld := true } } : State).sbResult 0x20 1)
      else if s.inReset then (({ s with sb := { s.sb with estopHeld := true } } : State).sbResult 0x20 1).alert
      else s.alert.estopAct))

/-- ESTOP_RELEASE: the gates rise as R441 gives. -/
def execEstopRelease (value : BitVec 8) (pec : Bool) (s : State) : Host.Outcome State Fault Refusal :=
  .next (s.sbWrite pec (fun s =>
    if value ≠ 0x5E then s
    else (({ s with sb := { s.sb with estop := false, estopHeld := false } } : State).sbResult 0x21 0).gateView))

/-- RESET_REQ. -/
def execResetReq (value : BitVec 8) (pec : Bool) (s : State) : Host.Outcome State Fault Refusal :=
  .next (s.sbWrite pec (fun s =>
    if value ≠ 0 then s
    else if s.stage = 9 ∧ s.takesCommands ∧ !s.bit SCU_CMD_STATUS SCU_CMD_STATUS.out_of_service then
      (s.sbResult 0x30 1).computeTrigger 4 false
    else s.sbResult 0x30 2))

/-! ## The test access port (R484, R485) -/

/-- Whether only BYPASS and IDCODE are decoded: in confidential mode, and before the boot's fill (R400, R406). -/
def State.tapRestricted (s : State) : Bool := s.restricted || s.bit SEC_AON SEC_AON.dirty

/-- Whether the boundary register may drive contacts: RESET_N held low with PWRGD released. -/
def State.mayDrive (s : State) : Bool := s.boot.resetHeld && !s.tapRestricted

/-- The instruction register takes an opcode, and TDO shows a value. -/
def State.tapLoad (s : State) (ir tdo : Nat) : State :=
  if s.boot.powered then { s with tap := { ir := ir, tdo := tdo } } else s

/-- BYPASS: one bit that captures 0. -/
def execBypass (s : State) : Host.Outcome State Fault Refusal := .next (s.tapLoad 0x3F 0)

/-- The device identity (R484). -/
def State.idcode (s : State) : Nat := (Config.revision % 16) * 2 ^ 28 + s.part.number * 2 ^ 12 + 0x0F3 * 2 + 1

/-- IDCODE. -/
def execIdcode (s : State) : Host.Outcome State Fault Refusal := .next (s.tapLoad 1 s.idcode)

/-- A boundary-scan instruction, decoded as BYPASS where it is not available; what the boundary register shifts out is free. -/
def State.scan (s : State) (ir : Nat) (may : Bool) : State :=
  if may then
    let got := s.draw 64
    let n := got.1
    let s := got.2
    s.tapLoad ir n
  else s.tapLoad ir 0

/-- SAMPLE/PRELOAD. -/
def execSamplePreload (s : State) : Host.Outcome State Fault Refusal := .next (s.scan 2 (!s.tapRestricted))

/-- EXTEST. -/
def execExtest (s : State) : Host.Outcome State Fault Refusal := .next (s.scan 3 s.mayDrive)

/-- CLAMP: the bypass bit is selected while the contacts are held, so TDO is as in BYPASS. -/
def execClamp (s : State) : Host.Outcome State Fault Refusal := .next (s.tapLoad 4 0)

/-- HIGHZ: the bypass bit is selected while the contacts float. -/
def execHighz (s : State) : Host.Outcome State Fault Refusal := .next (s.tapLoad 5 0)

/-- Whether the tile of a register address is leased to a confidential context (R31). -/
def State.closedTile (s : State) (a : Nat) : Bool :=
  decide (tileRegs ≤ a) && decide (a < tileRegs + 0x1000000) && s.confTile ((a - tileRegs) / 0x10000)

/-- Whether DEBUG reaches the register at `a`. -/
def State.debugReaches (s : State) (a : Nat) : Bool := decide (a % 8 = 0) && inRegs a && (descOf a).isSome && !s.closedTile a

/-- What every access reads on TDO that a reset cuts off. -/
def allOnes : Nat := 2 ^ 64 - 1

/-- DEBUG: decoded as BYPASS where it is not available. A read or a write of a register passes the checks of R31; what TDO
shows of an access that they refuse is free, and an access that a reset cuts off shows all ones. The SCU's debug unit is not
described. -/
def execDebug (access : DebugAccess) (s : State) : Host.Outcome State Fault Refusal :=
  if s.tapRestricted || !s.boot.powered then .next (s.tapLoad 0x20 0)
  else match access with
  | .scu => .refused .scuDebugUnit
  | .read a =>
    if s.inReset || s.boot.resetHeld then .next (s.tapLoad 0x20 allOnes)
    else if s.clocked && s.debugReaches a.toNat then .next (s.tapLoad 0x20 (s.reg a.toNat).toNat)
    else
      let got := s.draw 64
      let n := got.1
      let t := got.2
      .next (t.tapLoad 0x20 n)
  | .write a v =>
    if s.inReset || s.boot.resetHeld then .next (s.tapLoad 0x20 allOnes)
    else if s.clocked && s.debugReaches a.toNat then .next ((s.regWrite a.toNat v.toNat).tapLoad 0x20 0)
    else
      let got := s.draw 64
      let n := got.1
      let t := got.2
      .next (t.tapLoad 0x20 n)

/-- TAP_RESET: IDCODE is selected; the module is not affected. -/
def execTapReset (s : State) : Host.Outcome State Fault Refusal := .next (s.tapLoad 1 s.idcode)

end Sys2Proof.Machine
end

