-- ==== Sys2Proof/Machine/Dispatch.lean ====
section
/-! DEFINITION. Machine/Dispatch.lean: one arm for each command. -/
namespace Sys2Proof.Machine

/-- The effect of a command on everything but the queue. -/
def exec (i : Instr) (s : State) : Host.Outcome State Fault Refusal :=
  match i with
  | .identify h => Sys2Proof.Machine.execIdentify h s
  | .deviceStatus h => Sys2Proof.Machine.execDeviceStatus h s
  | .deviceConfig h ilv drdyMask computeLimit moduleLimit => Sys2Proof.Machine.execDeviceConfig h ilv drdyMask computeLimit moduleLimit s
  | .deviceResetCompute h => Sys2Proof.Machine.execDeviceResetCompute h s
  | .deviceResetModule h => Sys2Proof.Machine.execDeviceResetModule h s
  | .ctxCreate h hbmMib lpMib spillMib conf => Sys2Proof.Machine.execCtxCreate h hbmMib lpMib spillMib conf s
  | .ctxDestroy h => Sys2Proof.Machine.execCtxDestroy h s
  | .ctxTiming h drainMs progressUs spillWidth => Sys2Proof.Machine.execCtxTiming h drainMs progressUs spillWidth s
  | .ctxStart h launch => Sys2Proof.Machine.execCtxStart h launch s
  | .ctxStop h => Sys2Proof.Machine.execCtxStop h s
  | .ctxQuery h => Sys2Proof.Machine.execCtxQuery h s
  | .plateLoad h image length => Sys2Proof.Machine.execPlateLoad h image length s
  | .plateUnload h => Sys2Proof.Machine.execPlateUnload h s
  | .plateReconfigure h image length => Sys2Proof.Machine.execPlateReconfigure h image length s
  | .classSet h cls admitOn boundUs jitterUs => Sys2Proof.Machine.execClassSet h cls admitOn boundUs jitterUs s
  | .streamConfig h log2Depth => Sys2Proof.Machine.execStreamConfig h log2Depth s
  | .streamOpen h cls shadow => Sys2Proof.Machine.execStreamOpen h cls shadow s
  | .streamClose h id => Sys2Proof.Machine.execStreamClose h id s
  | .streamQuery h id => Sys2Proof.Machine.execStreamQuery h id s
  | .memAlloc h kind host pages => Sys2Proof.Machine.execMemAlloc h kind host pages s
  | .memFree h address => Sys2Proof.Machine.execMemFree h address s
  | .xeAssign h engine ringLog2 cplLog2 ring cpl => Sys2Proof.Machine.execXeAssign h engine ringLog2 cplLog2 ring cpl s
  | .xeStop h engine => Sys2Proof.Machine.execXeStop h engine s
  | .xeResume h engine => Sys2Proof.Machine.execXeResume h engine s
  | .memQuery h => Sys2Proof.Machine.execMemQuery h s
  | .healthRead h buffer => Sys2Proof.Machine.execHealthRead h buffer s
  | .loupeRequest h selector count vtile region tiles => Sys2Proof.Machine.execLoupeRequest h selector count vtile region tiles s
  | .loupeStop h => Sys2Proof.Machine.execLoupeStop h s
  | .rotationPause h => Sys2Proof.Machine.execRotationPause h s
  | .rotationResume h => Sys2Proof.Machine.execRotationResume h s
  | .tileFence h tile => Sys2Proof.Machine.execTileFence h tile s
  | .tileRetest h tile => Sys2Proof.Machine.execTileRetest h tile s
  | .healthConfig h remapWarn ageAction ageLimit => Sys2Proof.Machine.execHealthConfig h remapWarn ageAction ageLimit s
  | .proofConfig h steps ms enable auto => Sys2Proof.Machine.execProofConfig h steps ms enable auto s
  | .proofRound h => Sys2Proof.Machine.execProofRound h s
  | .proofRead h => Sys2Proof.Machine.execProofRead h s
  | .proofRegions h buffer => Sys2Proof.Machine.execProofRegions h buffer s
  | .attest h nonce buffer => Sys2Proof.Machine.execAttest h nonce buffer s
  | .keyImport h slot buffer length => Sys2Proof.Machine.execKeyImport h slot buffer length s
  | .keyEnroll h buffer length => Sys2Proof.Machine.execKeyEnroll h buffer length s
  | .secStatus h => Sys2Proof.Machine.execSecStatus h s
  | .diagOpen h window tile => Sys2Proof.Machine.execDiagOpen h window tile s
  | .diagClose h window tile => Sys2Proof.Machine.execDiagClose h window tile s
  | .sheetRead h buffer offset length => Sys2Proof.Machine.execSheetRead h buffer offset length s
  | .countersRead h tile buffer => Sys2Proof.Machine.execCountersRead h tile buffer s
  | .tbRead h => Sys2Proof.Machine.execTbRead h s
  | .tbAlign h source => Sys2Proof.Machine.execTbAlign h source s
  | .calSet h seconds ns => Sys2Proof.Machine.execCalSet h seconds ns s
  | .calDiscipline h offset trim => Sys2Proof.Machine.execCalDiscipline h offset trim s
  | .lnEnable h port train => Sys2Proof.Machine.execLnEnable h port train s
  | .lnDisable h port => Sys2Proof.Machine.execLnDisable h port s
  | .lnStatus h port => Sys2Proof.Machine.execLnStatus h port s
  | .lnJoin h port vid step => Sys2Proof.Machine.execLnJoin h port vid step s
  | .pwrState h state save => Sys2Proof.Machine.execPwrState h state save s
  | .pwrLimit h limit => Sys2Proof.Machine.execPwrLimit h limit s
  | .pwrStatus h => Sys2Proof.Machine.execPwrStatus h s
  | .submissionWatch => Sys2Proof.Machine.execSubmissionWatch s
  | .watchPoll => Sys2Proof.Machine.execWatchPoll s
  | .read tag addr lines => Sys2Proof.Machine.execRead tag addr lines s
  | .write tag addr lines data poison => Sys2Proof.Machine.execWrite tag addr lines data poison s
  | .writeMasked tag addr mask data poison => Sys2Proof.Machine.execWriteMasked tag addr mask data poison s
  | .atomic tag addr kind operands => Sys2Proof.Machine.execAtomic tag addr kind operands s
  | .share tag addr => Sys2Proof.Machine.execShare tag addr s
  | .own tag addr => Sys2Proof.Machine.execOwn tag addr s
  | .returnLine tag addr dirty data poison => Sys2Proof.Machine.execReturnLine tag addr dirty data poison s
  | .snoopRsp addr dirty data poison => Sys2Proof.Machine.execSnoopRsp addr dirty data poison s
  | .cpl tag status data poison => Sys2Proof.Machine.execCpl tag status data poison s
  | .snoopTimeout addr => Sys2Proof.Machine.execSnoopTimeout addr s
  | .cplTimeout tag => Sys2Proof.Machine.execCplTimeout tag s
  | .tlReplay lane flit => Sys2Proof.Machine.execTlReplay lane flit s
  | .tlRecovery late badLanes => Sys2Proof.Machine.execTlRecovery late badLanes s
  | .tlTraining x => Sys2Proof.Machine.execTlTraining x s
  | .tlDown => Sys2Proof.Machine.execTlDown s
  | .tlDownRetry => Sys2Proof.Machine.execTlDownRetry s
  | .retrain => Sys2Proof.Machine.execRetrain s
  | .fullTrain => Sys2Proof.Machine.execFullTrain s
  | .messageSend p e => Sys2Proof.Machine.execMessageSend p e s
  | .routeLookup p => Sys2Proof.Machine.execRouteLookup p s
  | .linkRetry p port flit => Sys2Proof.Machine.execLinkRetry p port flit s
  | .hopDeclaredFailed p port caught => Sys2Proof.Machine.execHopDeclaredFailed p port caught s
  | .data at_ => Sys2Proof.Machine.execData at_ s
  | .token at_ => Sys2Proof.Machine.execToken at_ s
  | .counterAdd at_ => Sys2Proof.Machine.execCounterAdd at_ s
  | .ack at_ => Sys2Proof.Machine.execAck at_ s
  | .nack at_ => Sys2Proof.Machine.execNack at_ s
  | .retryRound at_ e => Sys2Proof.Machine.execRetryRound at_ e s
  | .ackTimeout at_ e j => Sys2Proof.Machine.execAckTimeout at_ e j s
  | .remoteWrite at_ => Sys2Proof.Machine.execRemoteWrite at_ s
  | .remoteRead at_ => Sys2Proof.Machine.execRemoteRead at_ s
  | .readResp p => Sys2Proof.Machine.execReadResp p s
  | .combine at_ => Sys2Proof.Machine.execCombine at_ s
  | .combineEmit p e index => Sys2Proof.Machine.execCombineEmit p e index s
  | .vcmConfig p route steps writes => Sys2Proof.Machine.execVcmConfig p route steps writes s
  | .vcmHeal p route steps offset v => Sys2Proof.Machine.execVcmHeal p route steps offset v s
  | .vcmMgmt p route steps => Sys2Proof.Machine.execVcmMgmt p route steps s
  | .progressSample => Sys2Proof.Machine.execProgressSample s
  | .overflowReturn p e => Sys2Proof.Machine.execOverflowReturn p e s
  | .selectOp p j => Sys2Proof.Machine.execSelectOp p j s
  | .switchOp p j => Sys2Proof.Machine.execSwitchOp p j s
  | .gateOp p j => Sys2Proof.Machine.execGateOp p j s
  | .repeatOp p j => Sys2Proof.Machine.execRepeatOp p j s
  | .mergeArrival p j => Sys2Proof.Machine.execMergeArrival p j s
  | .endOp p j => Sys2Proof.Machine.execEndOp p j s
  | .mePass p vec scale upset => Sys2Proof.Machine.execMePass p vec scale upset s
  | .weightBlockLoad p addr => Sys2Proof.Machine.execWeightBlockLoad p addr s
  | .sliceSetEmit p => Sys2Proof.Machine.execSliceSetEmit p s
  | .vspVector p => Sys2Proof.Machine.execVspVector p s
  | .agAccess p n ecc => Sys2Proof.Machine.execAgAccess p n ecc s
  | .queuePush p r hdr => Sys2Proof.Machine.execQueuePush p r hdr s
  | .queuePop p r => Sys2Proof.Machine.execQueuePop p r s
  | .recordRelease p r off => Sys2Proof.Machine.execRecordRelease p r off s
  | .waitMet p u => Sys2Proof.Machine.execWaitMet p u s
  | .foldQuotaExpiry p => Sys2Proof.Machine.execFoldQuotaExpiry p s
  | .foldSwitch p => Sys2Proof.Machine.execFoldSwitch p s
  | .scrubRead p sc word ecc => Sys2Proof.Machine.execScrubRead p sc word ecc s
  | .rowceRelease p => Sys2Proof.Machine.execRowceRelease p s
  | .remapLoad p sc bank row spare => Sys2Proof.Machine.execRemapLoad p sc bank row spare s
  | .remap p sc bank row spare => Sys2Proof.Machine.execRemap p sc bank row spare s
  | .remapComplete p => Sys2Proof.Machine.execRemapComplete p s
  | .fillTile p => Sys2Proof.Machine.execFillTile p s
  | .fillRange p base len => Sys2Proof.Machine.execFillRange p base len s
  | .fillDone p => Sys2Proof.Machine.execFillDone p s
  | .proofHashGo p r => Sys2Proof.Machine.execProofHashGo p r s
  | .proofHashAbandon p => Sys2Proof.Machine.execProofHashAbandon p s
  | .proofHashDone p => Sys2Proof.Machine.execProofHashDone p s
  | .meHaltReq p mode => Sys2Proof.Machine.execMeHaltReq p mode s
  | .meResume p => Sys2Proof.Machine.execMeResume p s
  | .injectCheck p => Sys2Proof.Machine.execInjectCheck p s
  | .injectCombine p => Sys2Proof.Machine.execInjectCombine p s
  | .vspHaltReq p mode => Sys2Proof.Machine.execVspHaltReq p mode s
  | .vspResume p => Sys2Proof.Machine.execVspResume p s
  | .suHaltReq p mode => Sys2Proof.Machine.execSuHaltReq p mode s
  | .suResume p => Sys2Proof.Machine.execSuResume p s
  | .agHaltReq p n mode => Sys2Proof.Machine.execAgHaltReq p n mode s
  | .agResume p n => Sys2Proof.Machine.execAgResume p n s
  | .agRestart p n => Sys2Proof.Machine.execAgRestart p n s
  | .unitHaltComplete p u => Sys2Proof.Machine.execUnitHaltComplete p u s
  | .unitDrainTimeout p u => Sys2Proof.Machine.execUnitDrainTimeout p u s
  | .vspLaneDisable p v => Sys2Proof.Machine.execVspLaneDisable p v s
  | .agHashM p n j v => Sys2Proof.Machine.execAgHashM p n j v s
  | .rgnWrite p r which v => Sys2Proof.Machine.execRgnWrite p r which v s
  | .rtFenceReq p target caught => Sys2Proof.Machine.execRtFenceReq p target caught s
  | .rtUnfence p target => Sys2Proof.Machine.execRtUnfence p target s
  | .rtEntry p j v => Sys2Proof.Machine.execRtEntry p j v s
  | .chEpHaltReq p e mode => Sys2Proof.Machine.execChEpHaltReq p e mode s
  | .chEpResume p e => Sys2Proof.Machine.execChEpResume p e s
  | .overflowOn p e => Sys2Proof.Machine.execOverflowOn p e s
  | .markAcked p e => Sys2Proof.Machine.execMarkAcked p e s
  | .endpointHaltComplete p e => Sys2Proof.Machine.execEndpointHaltComplete p e s
  | .endpointDrainTimeout p e => Sys2Proof.Machine.execEndpointDrainTimeout p e s
  | .chConfigWrite p which v => Sys2Proof.Machine.execChConfigWrite p which v s
  | .syncSetCmd p n => Sys2Proof.Machine.execSyncSetCmd p n s
  | .syncAdd p n amount => Sys2Proof.Machine.execSyncAdd p n amount s
  | .forceSwitch p => Sys2Proof.Machine.execForceSwitch p s
  | .tileEpochWrite p v => Sys2Proof.Machine.execTileEpochWrite p v s
  | .cfgCrcClear p => Sys2Proof.Machine.execCfgCrcClear p s
  | .tileFenceReq p cause => Sys2Proof.Machine.execTileFenceReq p cause s
  | .tileReset p => Sys2Proof.Machine.execTileReset p s
  | .tileUnfence p => Sys2Proof.Machine.execTileUnfence p s
  | .testStart p set_ skipRouter => Sys2Proof.Machine.execTestStart p set_ skipRouter s
  | .testAbandon p => Sys2Proof.Machine.execTestAbandon p s
  | .tileTestDone p outcome => Sys2Proof.Machine.execTileTestDone p outcome s
  | .xeHaltReq g n mode => Sys2Proof.Machine.execXeHaltReq g n mode s
  | .xeEngResume g n => Sys2Proof.Machine.execXeEngResume g n s
  | .xeDrainTimeout g n => Sys2Proof.Machine.execXeDrainTimeout g n s
  | .xeDescriptorStart g n => Sys2Proof.Machine.execXeDescriptorStart g n s
  | .xeDescriptorComplete g n j => Sys2Proof.Machine.execXeDescriptorComplete g n j s
  | .lnPortEnable n train => Sys2Proof.Machine.execLnPortEnable n train s
  | .lnDisableReq n mode => Sys2Proof.Machine.execLnDisableReq n mode s
  | .samplerStart => Sys2Proof.Machine.execSamplerStart s
  | .samplerStop => Sys2Proof.Machine.execSamplerStop s
  | .secPurge p => Sys2Proof.Machine.execSecPurge p s
  | .belfryCount => Sys2Proof.Machine.execBelfryCount s
  | .registerWrite addr whole v => Sys2Proof.Machine.execRegisterWrite addr whole v s
  | .inputRingRead c k => Sys2Proof.Machine.execInputRingRead c k s
  | .gather c => Sys2Proof.Machine.execGather c s
  | .shadowCopy c k => Sys2Proof.Machine.execShadowCopy c k s
  | .completion => Sys2Proof.Machine.execCompletion s
  | .deadlineTimer => Sys2Proof.Machine.execDeadlineTimer s
  | .overflowRecord c => Sys2Proof.Machine.execOverflowRecord c s
  | .streamEnd c k => Sys2Proof.Machine.execStreamEnd c k s
  | .endTimeout c k => Sys2Proof.Machine.execEndTimeout c k s
  | .contextDrainComplete c => Sys2Proof.Machine.execContextDrainComplete c s
  | .contextDrainTimeout c => Sys2Proof.Machine.execContextDrainTimeout c s
  | .drainFailed c => Sys2Proof.Machine.execDrainFailed c s
  | .loadReady c => Sys2Proof.Machine.execLoadReady c s
  | .zeroiseComplete c => Sys2Proof.Machine.execZeroiseComplete c s
  | .faultSignal => Sys2Proof.Machine.execFaultSignal s
  | .unitHang p u => Sys2Proof.Machine.execUnitHang p u s
  | .heal c v => Sys2Proof.Machine.execHeal c v s
  | .healComplete c => Sys2Proof.Machine.execHealComplete c s
  | .rotationSchedule => Sys2Proof.Machine.execRotationSchedule s
  | .loupeStart => Sys2Proof.Machine.execLoupeStart s
  | .testOverdue => Sys2Proof.Machine.execTestOverdue s
  | .proofRoundEnd c => Sys2Proof.Machine.execProofRoundEnd c s
  | .computeReset tiles ports => Sys2Proof.Machine.execComputeReset tiles ports s
  | .moduleReset => Sys2Proof.Machine.execModuleReset s
  | .watchdogFire sections excerpts => Sys2Proof.Machine.execWatchdogFire sections excerpts s
  | .warmRestart => Sys2Proof.Machine.execWarmRestart s
  | .stubTimeout => Sys2Proof.Machine.execStubTimeout s
  | .powerOn vinA vinB => Sys2Proof.Machine.execPowerOn vinA vinB s
  | .bootSequence x => Sys2Proof.Machine.execBootSequence x s
  | .imageLoadRequest => Sys2Proof.Machine.execImageLoadRequest s
  | .fwInit baseW svnOk => Sys2Proof.Machine.execFwInit baseW svnOk s
  | .fwInitTimeout => Sys2Proof.Machine.execFwInitTimeout s
  | .resetN held => Sys2Proof.Machine.execResetN held s
  | .pllUnlock => Sys2Proof.Machine.execPllUnlock s
  | .inputRange vinA vinB iin => Sys2Proof.Machine.execInputRange vinA vinB iin s
  | .inputShutdown => Sys2Proof.Machine.execInputShutdown s
  | .vbatLoss => Sys2Proof.Machine.execVbatLoss s
  | .gateStepDown watts => Sys2Proof.Machine.execGateStepDown watts s
  | .gateStepUp watts ctxWatts => Sys2Proof.Machine.execGateStepUp watts ctxWatts s
  | .overLimit => Sys2Proof.Machine.execOverLimit s
  | .overLimitClear => Sys2Proof.Machine.execOverLimitClear s
  | .sensorRead x => Sys2Proof.Machine.execSensorRead x s
  | .thermalEmergency => Sys2Proof.Machine.execThermalEmergency s
  | .thermalEmergencyEnd => Sys2Proof.Machine.execThermalEmergencyEnd s
  | .tbSlewStep => Sys2Proof.Machine.execTbSlewStep s
  | .syncInEdge frac => Sys2Proof.Machine.execSyncInEdge frac s
  | .hbmEcsPoll j count bad => Sys2Proof.Machine.execHbmEcsPoll j count bad s
  | .memCeRate k => Sys2Proof.Machine.execMemCeRate k s
  | .sampleInstant => Sys2Proof.Machine.execSampleInstant s
  | .egressSend die proxy => Sys2Proof.Machine.execEgressSend die proxy s
  | .ingressFrame n frame => Sys2Proof.Machine.execIngressFrame n frame s
  | .transitFrame n frame => Sys2Proof.Machine.execTransitFrame n frame s
  | .proxyCredit n frame => Sys2Proof.Machine.execProxyCredit n frame s
  | .lnReplay n lane flit => Sys2Proof.Machine.execLnReplay n lane flit s
  | .lnRetrain n lockLost => Sys2Proof.Machine.execLnRetrain n lockLost s
  | .trainTimeout n => Sys2Proof.Machine.execTrainTimeout n s
  | .downRetry n train => Sys2Proof.Machine.execDownRetry n train s
  | .keepaliveSend n => Sys2Proof.Machine.execKeepaliveSend n s
  | .keepaliveTimeout n => Sys2Proof.Machine.execKeepaliveTimeout n s
  | .creditTimeout n => Sys2Proof.Machine.execCreditTimeout n s
  | .hello n frame => Sys2Proof.Machine.execHello n frame s
  | .kem n frame => Sys2Proof.Machine.execKem n frame s
  | .sign n frame => Sys2Proof.Machine.execSign n frame s
  | .finished n frame => Sys2Proof.Machine.execFinished n frame s
  | .handshakeTimeout n => Sys2Proof.Machine.execHandshakeTimeout n s
  | .rekey n frame => Sys2Proof.Machine.execRekey n frame s
  | .rekeySwitch n frame => Sys2Proof.Machine.execRekeySwitch n frame s
  | .rekeyTimeout n => Sys2Proof.Machine.execRekeyTimeout n s
  | .close n frame => Sys2Proof.Machine.execClose n frame s
  | .lnDrainTimeout n => Sys2Proof.Machine.execLnDrainTimeout n s
  | .tbReq n frame => Sys2Proof.Machine.execTbReq n frame s
  | .tbRsp n frame => Sys2Proof.Machine.execTbRsp n frame s
  | .joinReq n frame => Sys2Proof.Machine.execJoinReq n frame s
  | .joinData n frame => Sys2Proof.Machine.execJoinData n frame s
  | .joinEnd n frame => Sys2Proof.Machine.execJoinEnd n frame s
  | .joinStepReached c => Sys2Proof.Machine.execJoinStepReached c s
  | .status => Sys2Proof.Machine.execStatus s
  | .telemetry => Sys2Proof.Machine.execTelemetry s
  | .health => Sys2Proof.Machine.execHealth s
  | .boot => Sys2Proof.Machine.execBoot s
  | .powerReq value pec => Sys2Proof.Machine.execPowerReq value pec s
  | .estop value pec => Sys2Proof.Machine.execEstop value pec s
  | .estopRelease value pec => Sys2Proof.Machine.execEstopRelease value pec s
  | .resetReq value pec => Sys2Proof.Machine.execResetReq value pec s
  | .bypass => Sys2Proof.Machine.execBypass s
  | .idcode => Sys2Proof.Machine.execIdcode s
  | .samplePreload => Sys2Proof.Machine.execSamplePreload s
  | .extest => Sys2Proof.Machine.execExtest s
  | .clamp => Sys2Proof.Machine.execClamp s
  | .highz => Sys2Proof.Machine.execHighz s
  | .debug access => Sys2Proof.Machine.execDebug access s
  | .tapReset => Sys2Proof.Machine.execTapReset s
  | .controllerPatrolScrub k line row spare ecc => Sys2Proof.Machine.execControllerPatrolScrub k line row spare ecc s
  | .signingQueue journalOk => Sys2Proof.Machine.execSigningQueue journalOk s
  | .noSync => Sys2Proof.Machine.execNoSync s
  | .calSlewStep => Sys2Proof.Machine.execCalSlewStep s
  | .keepalive n frame => Sys2Proof.Machine.execKeepalive n frame s
  | .mirrorRefresh => Sys2Proof.Machine.execMirrorRefresh s
  | .vbatLow low => Sys2Proof.Machine.execVbatLow low s
  | .lvcCredit n lvc units => Sys2Proof.Machine.execLvcCredit n lvc units s
  | .tlCredit pw np snp => Sys2Proof.Machine.execTlCredit pw np snp s

end Sys2Proof.Machine
end

