-- ==== Sys2Proof/Machine/Tick.lean ====
section
/-! DEFINITION. Machine/Tick.lean: what one TBCLK cycle does (R416, R448, R452, R455). -/
namespace Sys2Proof.Machine

/-- The calendar advances by 10 ns (R455). -/
def State.calTick (s : State) : State :=
  let n := s.fld CAL_NS CAL_NS.ns + 10
  if n < 1000000000 then s.setFld CAL_NS CAL_NS.ns n
  else (s.setFld CAL_NS CAL_NS.ns (n - 1000000000)).setFld CAL_SECONDS CAL_SECONDS.seconds
    (s.fld CAL_SECONDS CAL_SECONDS.seconds + 1)

/-- The timebase counts one in every state but Safelight and Off (R452). -/
def State.tbTick (s : State) : State := if s.clocked then s.addMod TB_COUNT TB_COUNT.count 1 else s

/-- since_write_ms follows the heartbeat until it fires (R416). -/
def State.wdtTick (s : State) : State :=
  if s.bit SCU_WDT_STATUS SCU_WDT_STATUS.armed && s.clocked && !s.bit SCU_WDT_STATUS SCU_WDT_STATUS.stub_active then
    s.setFld SCU_WDT_STATUS SCU_WDT_STATUS.since_write_ms (min 20 ((s.tb - s.wdt.lastWrite) / 100000))
  else s

/-- The step of an idle queue (log 1): the timebase counts one and the calendar advances; an entry into a power state that is
under way and power requests of the sideband go on (log 30). -/
def State.tick (s : State) : State := s.calTick.tbTick.wdtTick.powerGo.sbNext

end Sys2Proof.Machine
end

