-- ==== Sys2Proof/Safety.lean ====
section
/-! DEFINITION. Safety.lean: what a well-formed state of the module is: its memory and its register file are in the
canonical form, and no byte whose contents are lost is listed in memory; and the frames that statements use. -/
namespace Sys2Proof.Machine

/-- The memory of a state is in its canonical form. -/
def State.memWf (s : State) : Prop := Memory.wf s.mem = true

/-- The register file of a state is in its canonical form. -/
def State.regsWf (s : State) : Prop := Sparse.wf resetOf s.regs = true

/-- No byte of a lost range is listed, so one of the two settles what it reads as. -/
def State.lostApart (s : State) : Prop := ∀ c ∈ s.mem, lostIx s.lost c.1 = none

/-- The invariant of every step. -/
def State.Inv (s : State) : Prop := s.memWf ∧ s.regsWf ∧ s.lostApart

/-- Operator `j` of the steering unit, of kind `k`, may be evaluated: the unit runs, every queue that it names is one, and no
input holds a stale entry (R98, R99, R103). -/
def State.suReady (s : State) (p j k : Nat) : Prop :=
  s.mayStart p uSu = true ∧ s.running (haltSu p) = true ∧ s.suCfg p j SU_OP_CFG.kind = k ∧
    (∀ r ∈ (s.suQueues p j k).1 ++ (s.suQueues p j k).2, s.isQueue p r = true) ∧
    (∀ r ∈ (s.suQueues p j k).1, ∀ x ∈ s.rEnts p r, s.waitsPop p r x = true → s.stale p x.hdr = false)

/-- A command as firmware takes it from its header (R345). -/
def cmdOf (h : CmdHdr) (op : Nat) : Cmd :=
  ⟨h.tag.toNat, op, h.ctx.toNat, b2n (bitOf h.flags.toNat 0), bitOf h.flags.toNat 1⟩

/-- The checks of R349 that every command passes before its parameters, as row `r`: firmware takes commands and the module is in
Run and in no reset; the version is spoken, the tag is free, the module is in service, the flags are known and the context is
as the row needs it; no byte after the parameters is set. -/
def State.runs (s : State) (h : CmdHdr) (r : Row) : Prop :=
  let u := s.takeCmd h.tag.toNat r.op
  s.takesCommands = true ∧ s.inReset = false ∧ s.fld PWR_STATUS PWR_STATUS.state = 0 ∧ s.tagHeld h.tag.toNat r.op = false ∧
    h.major.toNat = u.fld SCU_CMD_VERSION SCU_CMD_VERSION.major ∧ h.minor.toNat ≤ u.fld SCU_CMD_VERSION SCU_CMD_VERSION.minor ∧
    (u.bit SCU_CMD_STATUS SCU_CMD_STATUS.out_of_service = false ∨ r.served = true) ∧ h.flags.toNat < 4 ∧
    (bitOf h.flags.toNat 0 = false ∨ r.forms = true) ∧ u.ctxOk r.need h.ctx.toNat = true ∧ h.tail = false

/-! ## Frames -/

/-- `t` reads as `s` in every register but those of `l`. -/
def State.regsBut (s t : State) (l : List Nat) : Prop := ∀ a, a ∉ l → t.reg a = s.reg a

/-- `t` is `s` but for the registers of `l`: memory and every other part of the state are the same. -/
def State.onlyRegs (s t : State) (l : List Nat) : Prop := t = { s with regs := t.regs } ∧ s.regsBut t l

/-- Every register outside tile `p`'s window reads as before. -/
def State.tileOnly (s t : State) (p : Nat) : Prop :=
  ∀ a, a < tileRegs + 0x10000 * p ∨ tileRegs + 0x10000 * (p + 1) ≤ a → t.reg a = s.reg a

/-- Every byte of memory reads as before. -/
def State.sameMem (s t : State) : Prop := ∀ a, t.byte a = s.byte a

/-- Every byte of memory outside `n` bytes at `b` reads as before. -/
def State.memBut (s t : State) (b n : Nat) : Prop := ∀ a, a < b ∨ b + n ≤ a → t.byte a = s.byte a

end Sys2Proof.Machine
end

