-- ==== Sys2Proof/Certificates/Slice0/Obligations.lean ====
section
/-! DEFINITION. Certificates/Slice0/Obligations.lean: what is stated of the machine, for the provers. -/
open Sys2Proof Sys2Proof.Machine

/-- A step takes the command at the front of the queue and executes it on the state with the queue's rest (log 1). -/
def Obligations.FrontCommandRuns : Prop :=
  ∀ (s : State) (c : Instr) (rest : List Instr), s.pending = c :: rest → step s = exec c { s with pending := rest }

/-- Log 1: on an empty queue one TBCLK cycle passes. Where no power entry is under way and no sideband request waits, TB_COUNT counts one
while the module is powered and not in Safelight, CAL_NS counts 10 ns below its second, and memory stays as it is. The table gives
no row any bits (log 3), so a table word spells no command. -/
def Obligations.IdleStepTicks : Prop :=
  (∀ s : State, s.pending = [] → step s = .next s.tick) ∧
  (∀ s : State, s.pending = [] → s.power.target = none → s.sb.queue = [] → ∃ t, step s = .next t ∧
    t.fld TB_COUNT TB_COUNT.count =
      (if s.clocked then (s.fld TB_COUNT TB_COUNT.count + 1) % 2 ^ 64 else s.fld TB_COUNT TB_COUNT.count) ∧
    (s.fld CAL_NS CAL_NS.ns + 10 < 1000000000 → t.fld CAL_NS CAL_NS.ns = s.fld CAL_NS CAL_NS.ns + 10) ∧
    s.onlyRegs t [CAL_NS, CAL_SECONDS, TB_COUNT, SCU_WDT_STATUS]) ∧
  (∀ nbits w : Nat, decodeTableWord nbits w = none ∧ ∀ s : State, s.withFetchWord nbits w = s)

/-- Every step keeps the invariant: memory and the register file stay in their canonical form, and no byte whose contents are lost is
listed in memory. -/
def Obligations.StepKeepsInv : Prop :=
  ∀ s t : State, s.Inv → step s = .next t → t.Inv

/-- The state after reset meets the invariant; its queue is empty, no command waits, no context's work is under way, and every register
reads as its reset value. -/
def Obligations.ResetHasInv : Prop :=
  State.reset.Inv ∧ State.reset.pending = [] ∧ State.reset.waiting = [] ∧ State.reset.entries = [] ∧ State.reset.net = [] ∧
  (∀ a, State.reset.reg a = resetOf a) ∧ ∀ a, State.reset.byte a = 0

/-- What no command touches: a command that answers a next state leaves the queue of commands that wait, and the part, as they are. -/
def Obligations.CommandsKeepQueue : Prop :=
  ∀ (c : Instr) (s t : State), exec c s = .next t → t.pending = s.pending ∧ t.part = s.part

/-- R484, R485: every command answers a next state in every state, but DEBUG where it reaches the SCU's debug unit, which the spec does
not describe: that access is refused. -/
def Obligations.OnlyDebugStops : Prop :=
  (∀ (c : Instr) (s : State), (∀ x, c ≠ .debug x) → ∃ t, exec c s = .next t) ∧
  (∀ (x : DebugAccess) (s : State), (∃ t, exec (.debug x) s = .next t) ∨
    (exec (.debug x) s = .refused .scuDebugUnit ∧ x = .scu ∧ s.tapRestricted = false ∧ s.boot.powered = true))

/-- R66, R95, R103, R115: a halt request of mode DRAIN starts the drain of a unit that is not halted; one of mode ABORT halts
it at once. Registers other than the unit's control and status registers stay as they are, and memory does.
R66, R95, R103, R115: a resume clears `halted` of a unit of a tile that is not fenced, and changes nothing else; on a fenced
tile it changes nothing. -/
def Obligations.UnitHalts : Prop :=
  (∀ (s : State) (p : Tile) (n : Fin 4) (c : BitVec 2 → Instr) (ctl : Nat) (h : HaltRegs),
    (c, ctl, h) ∈ ([(Instr.meHaltReq p, ME_CTRL p, haltMe p), (Instr.vspHaltReq p, VSP_CTRL p, haltVsp p),
      (Instr.suHaltReq p, SU_CTRL p, haltSu p), (Instr.agHaltReq p n, AG_CTRL p n, haltAg p n)] :
        List ((BitVec 2 → Instr) × Nat × HaltRegs)) →
    s.isHalted h = false →
    (∃ t, exec (c 0) s = .next t ∧ t.isHalting h = true ∧ t.isHalted h = false ∧ s.onlyRegs t [ctl, h.status]) ∧
    (∃ t, exec (c 1) s = .next t ∧ t.isHalting h = false ∧ t.isHalted h = true ∧ s.sameMem t ∧ s.regsBut t [ctl, h.status])) ∧
  (∀ (s : State) (p : Tile) (n : Fin 4) (c : Instr) (h : HaltRegs),
    (c, h) ∈ [(Instr.meResume p, haltMe p), (Instr.vspResume p, haltVsp p), (Instr.suResume p, haltSu p),
      (Instr.agResume p n, haltAg p n)] →
    (s.fenced p = false → ∃ t, exec c s = .next t ∧ t.isHalted h = false ∧ s.onlyRegs t [h.status]) ∧
    (s.fenced p = true → exec c s = .next s))

/-- R66, R95, R103, R115: a unit that is halting is halted when its drain completes; a drain that takes too long ends as ABORT with
drain_fallback. The matrix engine's emission of complete entries at the end of a drain is SLICE_SET_EMIT's: here it has none.
R114: AG_RESTART sets the active slot's program of a generator back to its first iteration. -/
def Obligations.UnitDrainsAndRestarts : Prop :=
  (∀ (s : State) (p : Tile) (n : Fin 4) (u : UnitId) (h : HaltRegs),
    (u, h) ∈ [(UnitId.me, haltMe p), (UnitId.vsp, haltVsp p), (UnitId.su, haltSu p), (UnitId.ag n, haltAg p n)] →
    s.isHalting h = true →
    ((s.meU p).acc.any (fun e => e.2.done) = false → (s.agP p n (s.slot p)).awaiting = false →
      ∃ t, exec (.unitHaltComplete p u) s = .next t ∧ t.isHalting h = false ∧ t.isHalted h = true ∧ s.sameMem t ∧
        s.regsBut t [h.status]) ∧
    (∃ t, exec (.unitDrainTimeout p u) s = .next t ∧ t.isHalting h = false ∧ t.isHalted h = true ∧
      t.bit h.fault h.fallback = true ∧ s.sameMem t ∧ s.regsBut t [h.status, h.fault])) ∧
  (∀ (s : State) (p : Tile) (n : Fin 4), ∃ t, exec (.agRestart p n) s = .next t ∧
    t.bit (AG_STATUS p n) AG_STATUS.done = false ∧ t.bit (AG_STATUS p n) AG_STATUS.stopped = false ∧
    (t.agP p n (s.slot p)).pos = [0, 0, 0, 0, 0, 0] ∧ (t.agP p n (s.slot p)).ended = false ∧ s.sameMem t ∧
    s.regsBut t [AG_STATUS p n])

/-- R69: fault injection acts on a tile that is UNTESTED or out of service under a test, and elsewhere does nothing.
R94: a write of VSP_LANE_DISABLE that disables at most one group while the pipeline is not busy is taken; any other is
discarded with config_fault. -/
def Obligations.UnitSettings : Prop :=
  (∀ (s : State) (p : Tile) (c : Instr) (f : Field),
    (c, f) ∈ [(Instr.injectCheck p, ME_CTRL.inject_check), (Instr.injectCombine p, ME_CTRL.inject_combine)] →
    ((s.fld (HLTH_TILE p) HLTH_TILE.state = 0 ∨ s.bit (HLTH_TILE p) HLTH_TILE.in_test = true) →
      ∃ t, exec c s = .next t ∧ t.bit (ME_CTRL p) f = true ∧ s.onlyRegs t [ME_CTRL p]) ∧
    (s.fld (HLTH_TILE p) HLTH_TILE.state ≠ 0 → s.bit (HLTH_TILE p) HLTH_TILE.in_test = false → exec c s = .next s)) ∧
  (∀ (s : State) (p : Tile) (v : BitVec 64),
    (((List.range 8).countP (fun i => bitOf (VSP_LANE_DISABLE.group_disable.get v) i) ≤ 1 ∧
        s.bit (VSP_STATUS p) VSP_STATUS.busy = false) →
      ∃ t, exec (.vspLaneDisable p v) s = .next t ∧
        t.fld (VSP_LANE_DISABLE p) VSP_LANE_DISABLE.group_disable = VSP_LANE_DISABLE.group_disable.get v ∧
        t.fld (VSP_STATUS p) VSP_STATUS.groups_enabled = 255 - VSP_LANE_DISABLE.group_disable.get v ∧
        s.onlyRegs t [VSP_LANE_DISABLE p, VSP_STATUS p]) ∧
    (¬ ((List.range 8).countP (fun i => bitOf (VSP_LANE_DISABLE.group_disable.get v) i) ≤ 1 ∧
        s.bit (VSP_STATUS p) VSP_STATUS.busy = false) →
      ∃ t, exec (.vspLaneDisable p v) s = .next t ∧ t.bit (VSP_FAULT p) VSP_FAULT.config_fault = true ∧
        s.onlyRegs t [VSP_FAULT p]))

/-- R109: a write of a matrix register that keeps R107 while no region in use names the matrix is taken; one that breaks R107
sets hash_fault and writes nothing else, and so does any write while a region that is not OFF names the matrix. -/
def Obligations.HashMatrixWrites : Prop :=
  ∀ (s : State) (p : Tile) (n : Fin 4) (i : Fin 3) (v : BitVec 64) (a : Nat),
    (i, a) ∈ [(0, AG_HASH_M0 p n), (1, AG_HASH_M1 p n), (2, AG_HASH_M2 p n)] →
    (hashOk (((s.agRows p n).set (2 * i.val) (bits v.toNat 0 26)).set (2 * i.val + 1) (bits v.toNat 32 26)) = true →
      (∀ r < 64, s.rMode p r ≠ mOff → s.fld (RGN_CFG p r) RGN_CFG.hash_sel ≠ 4 + n.val) →
      ∃ t, exec (.agHashM p n i v) s = .next t ∧
        t.reg a = BitVec.ofNat 64 (bits v.toNat 0 26 + bits v.toNat 32 26 * 2 ^ 32) ∧ s.onlyRegs t [a]) ∧
    (hashOk (((s.agRows p n).set (2 * i.val) (bits v.toNat 0 26)).set (2 * i.val + 1) (bits v.toNat 32 26)) = false →
      ∃ t, exec (.agHashM p n i v) s = .next t ∧ t.bit (AG_FAULT p n) AG_FAULT.hash_fault = true ∧ s.onlyRegs t [AG_FAULT p n]) ∧
    (∀ r < 64, s.rMode p r ≠ mOff → s.fld (RGN_CFG p r) RGN_CFG.hash_sel = 4 + n.val →
      ∃ t, exec (.agHashM p n i v) s = .next t ∧ t.bit (AG_FAULT p n) AG_FAULT.hash_fault = true ∧ s.onlyRegs t [AG_FAULT p n])

/-- R119: a write of a region's registers takes effect while the region is OFF alone, and sets the offset to the written value mod
size; in any other mode it sets cfg_fault and nothing else. -/
def Obligations.RegionWrites : Prop :=
  ∀ (s : State) (p : Tile) (r : Fin 64) (v : BitVec 64),
    (s.rMode p r = mOff →
      (∃ t, exec (.rgnWrite p r 0 v) s = .next t ∧ t.reg (RGN_CFG p r) = BitVec.ofNat 64 (v.toNat % 2 ^ 53) ∧
        s.onlyRegs t [RGN_CFG p r]) ∧
      (∃ t, exec (.rgnWrite p r 1 v) s = .next t ∧ t.reg (RGN_HEAD p r) = v ∧
        (0 < s.rSize p r → t.fld (RGN_OFFS p r) RGN_OFFS.head_off = v.toNat % s.rSize p r % 2 ^ RGN_OFFS.head_off.width) ∧
        s.sameMem t ∧
        s.regsBut t [RGN_HEAD p r, RGN_OFFS p r]) ∧
      (∃ t, exec (.rgnWrite p r 2 v) s = .next t ∧ t.reg (RGN_TAIL p r) = v ∧
        (0 < s.rSize p r → t.fld (RGN_OFFS p r) RGN_OFFS.tail_off = v.toNat % s.rSize p r % 2 ^ RGN_OFFS.tail_off.width) ∧
        s.onlyRegs t [RGN_TAIL p r, RGN_OFFS p r]) ∧
      (∃ t, exec (.rgnWrite p r 3 v) s = .next t ∧ t.reg (RGN_READ p r) = v ∧
        (0 < s.rSize p r → t.fld (RGN_STATUS p r) RGN_STATUS.read_off = v.toNat % s.rSize p r % 2 ^ RGN_STATUS.read_off.width) ∧
        s.sameMem t ∧
        s.regsBut t [RGN_READ p r, RGN_STATUS p r])) ∧
    (s.rMode p r ≠ mOff → ∀ i : Fin 4, ∃ t, exec (.rgnWrite p r i v) s = .next t ∧
      t.bit (RGN_STATUS p r) RGN_STATUS.cfg_fault = true ∧ s.onlyRegs t [RGN_STATUS p r])

/-- R155: a fence request on a link port or a DNC fences it and marks its record FENCED; a reserved target does nothing. An
unfence of a link port whose records at both ends are GOOD lifts the fence and clears its count of failures in a row.
R160: a route entry is written while the owning context, the present one and the new one, is drained; any other write is
discarded with write_refused. -/
def Obligations.RouterCommands : Prop :=
  (∀ (s : State) (p : Tile) (k : Fin 16),
    (k.val < 4 → ∃ t, exec (.rtFenceReq p k false) s = .next t ∧ t.portFenced p k = true ∧
      t.fld (RT_LINK_ERR p k) RT_LINK_ERR.state = 2 ∧
      t = { s with regs := t.regs } ∧
        (∀ a ∉ [RT_CTRL p, RT_STATUS p, RT_LINK_ERR p k], (∀ i < 1024, a ≠ RT_ENTRY p i) → t.reg a = s.reg a)) ∧
    (4 ≤ k.val → k.val < 8 → ∃ t, exec (.rtFenceReq p k false) s = .next t ∧
      bitOf (t.fld (RT_STATUS p) RT_STATUS.dnc_fenced) (k.val - 4) = true ∧
      t.fld (RT_DNC_ERR p (k.val - 4)) RT_DNC_ERR.state = 2 ∧ s.onlyRegs t [RT_CTRL p, RT_STATUS p, RT_DNC_ERR p (k.val - 4)]) ∧
    (8 ≤ k.val → ∃ t, exec (.rtFenceReq p k false) s = .next t ∧ s.onlyRegs t [RT_CTRL p]) ∧
    (k.val < 4 → s.portHealth p k = 1 → (256 ≤ neighbour p k ∨ s.portHealth (neighbour p k) (opposite k) = 1) →
      ∃ t, exec (.rtUnfence p k) s = .next t ∧ t.portFenced p k = false ∧ t.fld (RT_LINK_ERR p k) RT_LINK_ERR.state = 0 ∧
        t.fld (RT_LINK_ERR p k) RT_LINK_ERR.consec_fail = 0 ∧
        t = { s with regs := t.regs } ∧
        (∀ a ∉ [RT_CTRL p, RT_STATUS p, RT_LINK_ERR p k], (∀ i < 1024, a ≠ RT_ENTRY p i) → t.reg a = s.reg a))) ∧
  (∀ (s : State) (p : Tile) (i : Fin 1024) (v : BitVec 64),
    (((s.bit (RT_ENTRY p i) RT_ENTRY.valid = false ∨
        bitOf (s.fld (RT_CTX_DRAINED p) RT_CTX_DRAINED.drained) (s.fld (RT_ENTRY p i) RT_ENTRY.ctx) = true) ∧
        bitOf (s.fld (RT_CTX_DRAINED p) RT_CTX_DRAINED.drained) (RT_ENTRY.ctx.get v) = true) →
      ∃ t, exec (.rtEntry p i v) s = .next t ∧ t.fld (RT_ENTRY p i) RT_ENTRY.primary = RT_ENTRY.primary.get v ∧
        t.fld (RT_ENTRY p i) RT_ENTRY.alternate = RT_ENTRY.alternate.get v ∧
        t.fld (RT_ENTRY p i) RT_ENTRY.ctx = RT_ENTRY.ctx.get v ∧
        t.fld (RT_ENTRY p i) RT_ENTRY.valid = RT_ENTRY.valid.get v ∧ s.onlyRegs t [RT_ENTRY p i]) ∧
    (bitOf (s.fld (RT_CTX_DRAINED p) RT_CTX_DRAINED.drained) (RT_ENTRY.ctx.get v) = false →
      ∃ t, exec (.rtEntry p i v) s = .next t ∧ t.bit (RT_FAULT p) RT_FAULT.write_refused = true ∧
        s.onlyRegs t [RT_FAULT p, RT_FAULT_LOG p, RT_FAULT_TIME p]))

/-- R172, R185: DRAIN of an endpoint sets halting; ABORT empties its retain window and halts it. A halting endpoint that has
drained is halted; one whose drain takes too long is aborted with drain_fallback. Resume clears halted, but on a fenced tile.
R181: OVERFLOW_ON puts a halted receiving endpoint into overflow with an empty area; MARK_ACKED empties the window of a
halted sending one. On an endpoint that is not halted both do nothing. -/
def Obligations.Endpoints : Prop :=
  (∀ (s : State) (p : Tile) (e : Fin 64),
    (s.epBit p e CH_EP_STATE.halted = false →
      (∃ t, exec (.chEpHaltReq p e 0) s = .next t ∧ t.epBit p e CH_EP_STATE.halting = true ∧
        t.epBit p e CH_EP_STATE.halted = false ∧ s.onlyRegs t [CH_EP_CTRL p e, CH_EP_STATE p e]) ∧
      (∃ t, exec (.chEpHaltReq p e 1) s = .next t ∧ t.epBit p e CH_EP_STATE.halted = true ∧
        t.epBit p e CH_EP_STATE.halting = false ∧ (t.ep p e).win = [] ∧
        ((∀ w ∈ (s.ep p e).win, w.src = none) → s.sameMem t ∧ s.regsBut t [CH_EP_CTRL p e, CH_EP_STATE p e]))) ∧
    (s.epBit p e CH_EP_STATE.halting = true → s.epDrained p e = true →
      ∃ t, exec (.endpointHaltComplete p e) s = .next t ∧ t.epBit p e CH_EP_STATE.halted = true ∧
        t.epBit p e CH_EP_STATE.halting = false ∧ s.onlyRegs t [CH_EP_STATE p e]) ∧
    (s.epBit p e CH_EP_STATE.halting = true →
      ∃ t, exec (.endpointDrainTimeout p e) s = .next t ∧ t.epBit p e CH_EP_STATE.halted = true ∧
        t.epBit p e CH_EP_STATE.halting = false ∧ (t.ep p e).win = [] ∧ t.bit (CH_FAULT p) CH_FAULT.drain_fallback = true ∧
        ((∀ w ∈ (s.ep p e).win, w.src = none) → s.sameMem t ∧ s.regsBut t [CH_FAULT p, CH_EP_STATE p e])) ∧
    (s.fenced p = false → ∃ t, exec (.chEpResume p e) s = .next t ∧ t.epBit p e CH_EP_STATE.halted = false ∧
      (t.ep p e).win = (s.ep p e).win ∧ s.sameMem t ∧ s.regsBut t [CH_EP_STATE p e]) ∧
    (s.fenced p = true → exec (.chEpResume p e) s = .next s)) ∧
  (∀ (s : State) (p : Tile) (e : Fin 64),
    (s.epRole p e = 2 → s.epBit p e CH_EP_STATE.halted = true → s.epBit p e CH_EP_STATE.overflow = false →
      ∃ t, exec (.overflowOn p e) s = .next t ∧ t.epBit p e CH_EP_STATE.overflow = true ∧ (t.ep p e).ovf = [] ∧
        s.sameMem t ∧ s.regsBut t [CH_EP_STATE p e]) ∧
    (s.epRole p e = 1 → s.epBit p e CH_EP_STATE.halted = true →
      ∃ t, exec (.markAcked p e) s = .next t ∧ (t.ep p e).win = [] ∧
        ((∀ w ∈ (s.ep p e).win, w.src = none) → s.sameMem t ∧ s.regsBut t [CH_EP_STATE p e])) ∧
    (s.epBit p e CH_EP_STATE.halted = false →
      exec (.overflowOn p e) s = .next s ∧ exec (.markAcked p e) s = .next s))

/-- R186: a register of the channel block is written while the endpoint concerned is halted; any other write is discarded with
config_fault. -/
def Obligations.ChannelWrites : Prop :=
  ∀ (s : State) (p : Tile) (e : Fin 64) (i : Fin 256) (v : BitVec 64),
    (s.epBit p e CH_EP_STATE.halted = true →
      (∃ t, exec (.chConfigWrite p (.cfg e) v) s = .next t ∧ t.reg (CH_EP_CFG p e) = v &&& ~~~ (1#64 <<< 31) ∧
        s.onlyRegs t [CH_EP_CFG p e]) ∧
      (∃ t, exec (.chConfigWrite p (.dest e) v) s = .next t ∧ t.reg (CH_EP_DEST p e) = BitVec.ofNat 64 (v.toNat % 2 ^ 30) ∧
        s.onlyRegs t [CH_EP_DEST p e]) ∧
      (∃ t, exec (.chConfigWrite p (.nextSeq e) v) s = .next t ∧
        t.fld (CH_EP_STATE p e) CH_EP_STATE.next_seq = v.toNat % 2 ^ CH_EP_STATE.next_seq.width ∧
        s.onlyRegs t [CH_EP_STATE p e])) ∧
    (s.epBit p e CH_EP_STATE.halted = false → ∀ w ∈ [ChReg.cfg e, .dest e, .nextSeq e],
      ∃ t, exec (.chConfigWrite p w v) s = .next t ∧ t.bit (CH_FAULT p) CH_FAULT.config_fault = true ∧
        s.onlyRegs t [CH_FAULT p]) ∧
    (((s.bit (CH_SND p i) CH_SND.valid = false ∨
        s.epBit p (s.fld (CH_SND p i) CH_SND.endpoint) CH_EP_STATE.halted = true) ∧
        s.epBit p (CH_SND.endpoint.get v) CH_EP_STATE.halted = true) →
      ∃ t, exec (.chConfigWrite p (.sender i) v) s = .next t ∧ t.reg (CH_SND p i) = v &&& ~~~ (1#64 <<< 31) ∧
        s.onlyRegs t [CH_SND p i]) ∧
    (((s.bit (CH_SND p i) CH_SND.valid = true ∧ s.epBit p (s.fld (CH_SND p i) CH_SND.endpoint) CH_EP_STATE.halted = false) ∨
        s.epBit p (CH_SND.endpoint.get v) CH_EP_STATE.halted = false) →
      ∃ t, exec (.chConfigWrite p (.sender i) v) s = .next t ∧ t.bit (CH_FAULT p) CH_FAULT.config_fault = true ∧
        s.onlyRegs t [CH_FAULT p])

/-- R187, R189: an add goes to an enabled counter mod 2^64 and sets its wrapped bit on passing 2^64, and to a disabled counter
it sets counter_off; SYNC_SET_CMD sets a disabled counter, and on an enabled one sets set_refused.
R191: a unit that waits and whose counter has reached its target resumes, and the target grows by the step. -/
def Obligations.SyncCounters : Prop :=
  (∀ (s : State) (p : Tile) (n : Fin 64) (amount : BitVec 32),
    (bitOf (s.fld (SYNC_EN p) SYNC_EN.enable) n = true →
      (∃ t, exec (.syncAdd p n amount) s = .next t ∧
        t.fld (SYNC_CNT p n) SYNC_CNT.value = (s.fld (SYNC_CNT p n) SYNC_CNT.value + amount.toNat) % 2 ^ 64 ∧
        (2 ^ 64 ≤ s.fld (SYNC_CNT p n) SYNC_CNT.value + amount.toNat → t.fld (SYNC_WRAPPED p) ⟨n, 1⟩ = 1) ∧
        (s.fld (SYNC_CNT p n) SYNC_CNT.value + amount.toNat < 2 ^ 64 → s.onlyRegs t [SYNC_CNT p n]) ∧
        s.onlyRegs t [SYNC_CNT p n, SYNC_WRAPPED p]) ∧
      (∃ t, exec (.syncSetCmd p n) s = .next t ∧ t.bit (SYNC_FAULT p) SYNC_FAULT.set_refused = true ∧
        s.onlyRegs t [SYNC_FAULT p])) ∧
    (bitOf (s.fld (SYNC_EN p) SYNC_EN.enable) n = false →
      (∃ t, exec (.syncAdd p n amount) s = .next t ∧ t.bit (SYNC_FAULT p) SYNC_FAULT.counter_off = true ∧
        s.onlyRegs t [SYNC_FAULT p]) ∧
      (∃ t, exec (.syncSetCmd p n) s = .next t ∧
        t.fld (SYNC_CNT p n) SYNC_CNT.value = s.fld (SYNC_SET_VALUE p) SYNC_SET_VALUE.value ∧ s.onlyRegs t [SYNC_CNT p n]))) ∧
  (∀ (s : State) (p : Tile) (u : Fin 8), s.unitWaiting p u = true → s.waitMet p (s.slot p) u = true →
    ∃ t, exec (.waitMet p u) s = .next t ∧ t.unitWaiting p u = false ∧
      t.fld (SYNC_WAIT_TGT p (s.slot p) u) SYNC_WAIT_TGT.target =
        (s.fld (SYNC_WAIT_TGT p (s.slot p) u) SYNC_WAIT_TGT.target +
          s.fld (SYNC_WAIT_CFG p (s.slot p) u) SYNC_WAIT_CFG.step) % 2 ^ SYNC_WAIT_TGT.target.width ∧
      s.sameMem t ∧ s.regsBut t [SYNC_STATUS p, SYNC_WAIT_TGT p (s.slot p) u])

/-- R219: a request for a switch, by firmware or by the end of the quota, while two slots or more are enabled and hold is clear,
makes a switch pending to the next slot. At the switch point the pending switch takes place.
R210, R217, R218: the epoch of a tile is written while its context is drained, and the write is otherwise discarded with
epoch_refused; CFG_CRC_CLEAR clears the running checksum of the tile's configuration. -/
def Obligations.FoldAndEpoch : Prop :=
  (∀ (s : State) (p : Tile),
    (2 ≤ s.enabledSlots p → s.bit (TILE_FOLD_CTRL p) TILE_FOLD_CTRL.hold = false →
      ∀ c : Instr, (c = .forceSwitch p ∨
          (c = .foldQuotaExpiry p ∧ s.fld (TILE_FOLD_SLOT p (s.slot p)) TILE_FOLD_SLOT.quota ≠ 0)) →
        ∃ t, exec c s = .next t ∧ t.bit (TILE_FOLD_STATUS p) TILE_FOLD_STATUS.switch_pending = true ∧
          t.fld (TILE_FOLD_STATUS p) TILE_FOLD_STATUS.next_slot = s.nextSlot p ∧ t.slot p = s.slot p ∧
          s.onlyRegs t [TILE_FOLD_STATUS p]) ∧
    (s.bit (TILE_FOLD_STATUS p) TILE_FOLD_STATUS.switch_pending = true → s.atSwitchPoint p = true → s.fenced p = false →
      ∃ t, exec (.foldSwitch p) s = .next t ∧ t.slot p = s.switchTarget p ∧
        t.bit (TILE_FOLD_STATUS p) TILE_FOLD_STATUS.switch_pending = false ∧ s.sameMem t ∧ s.tileOnly t p)) ∧
  (∀ (s : State) (p : Tile) (v : BitVec 4),
    (bitOf (s.fld (RT_CTX_DRAINED p) RT_CTX_DRAINED.drained) (s.fld (TILE_CTX p) TILE_CTX.ctx) = true →
      (∀ r < 64, s.rMode p r ≠ mQueue ∧ s.rMode p r ≠ mReceive) →
      ∃ t, exec (.tileEpochWrite p v) s = .next t ∧ t.fld (TILE_EPOCH p) TILE_EPOCH.epoch = v.toNat ∧
        s.onlyRegs t [TILE_EPOCH p]) ∧
    (bitOf (s.fld (RT_CTX_DRAINED p) RT_CTX_DRAINED.drained) (s.fld (TILE_CTX p) TILE_CTX.ctx) = false →
      ∃ t, exec (.tileEpochWrite p v) s = .next t ∧ t.bit (TILE_FAULT p) TILE_FAULT.epoch_refused = true ∧
        s.onlyRegs t [TILE_FAULT p]) ∧
    (∃ t, exec (.cfgCrcClear p) s = .next t ∧ t.fld (TILE_CFG_CRC p) TILE_CFG_CRC.crc = 0 ∧ s.onlyRegs t [TILE_CFG_CRC p]))

/-- R262, R263: a fence takes its cause, halts every unit and closes the Local port; a tile that is already fenced keeps its
first cause. A tile reset acts while the tile is fenced and puts the tile's registers, its router's and TILE_FENCE apart, at
their reset values. The fence of a tile whose record is not FENCED is lifted on request. -/
def Obligations.TileFences : Prop :=
  ∀ (s : State) (p : Tile) (cause : Fin 16),
    (s.fenced p = false → ∃ t, exec (.tileFenceReq p cause) s = .next t ∧ t.fenced p = true ∧
      t.fld (TILE_FENCE p) TILE_FENCE.cause = cause ∧ t.bit (RT_STATUS p) RT_STATUS.local_closed = true ∧
      t.isHalted (haltMe p) = true ∧ t.isHalted (haltVsp p) = true ∧ t.isHalted (haltSu p) = true ∧
      (∀ n : Fin 4, t.isHalted (haltAg p n) = true) ∧ s.sameMem t ∧ s.tileOnly t p) ∧
    (s.fenced p = true → exec (.tileFenceReq p cause) s = .next s ∧
      ∃ t, exec (.tileReset p) s = .next t ∧ (∀ a, tileResets p a = true → t.reg a = resetOf a) ∧
        (∀ a, tileResets p a = false → t.reg a = s.reg a) ∧ s.sameMem t) ∧
    (s.fenced p = false → exec (.tileReset p) s = .next s) ∧
    (s.fld (HLTH_TILE p) HLTH_TILE.state ≠ 3 → ∃ t, exec (.tileUnfence p) s = .next t ∧ t.fenced p = false ∧
      t.bit (RT_STATUS p) RT_STATUS.local_closed = false ∧ s.onlyRegs t [TILE_FENCE p, RT_STATUS p])

/-- R275, R277, R280: a test set starts on a tile that holds no work and runs no test; a test under way is abandoned on request.
When a test passes the tile has been reset and its status says that it passed. -/
def Obligations.TileTests : Prop :=
  ∀ (s : State) (p : Tile) (set_ : Fin 4) (skip : Bool),
    (s.holdsWork p = false → set_.val ≠ 3 → s.bit (TILE_TEST_STATUS p) TILE_TEST_STATUS.busy = false →
      ∃ t, exec (.testStart p set_ skip) s = .next t ∧ t.bit (TILE_TEST_STATUS p) TILE_TEST_STATUS.busy = true ∧
        t.fld (TILE_TEST_CTRL p) TILE_TEST_CTRL.set = set_ ∧ t.bit (TILE_TEST_CTRL p) TILE_TEST_CTRL.skip_router = skip ∧
        s.onlyRegs t [TILE_TEST_CTRL p, TILE_TEST_STATUS p]) ∧
    (s.bit (TILE_TEST_STATUS p) TILE_TEST_STATUS.busy = true →
      (∃ t, exec (.testAbandon p) s = .next t ∧ t.bit (TILE_TEST_STATUS p) TILE_TEST_STATUS.busy = false ∧
        s.onlyRegs t [TILE_TEST_STATUS p]) ∧
      (s.health.rotation = none → s.health.loupe = [] →
        ∃ t, exec (.tileTestDone p .pass) s = .next t ∧ t.bit (TILE_TEST_STATUS p) TILE_TEST_STATUS.busy = false ∧
          t.bit (TILE_TEST_STATUS p) TILE_TEST_STATUS.pass = true ∧ s.sameMem t ∧
          (∀ a, tileResets p a = false → a ≠ TILE_TEST_STATUS p → t.reg a = s.reg a)))

/-- R118, R120: a push into a QUEUE region with room writes the header's 16 bytes at tail and advances tail; without room it
sets full. A pop of the entry that a QUEUE presents, no entry being stale, takes it and writes no memory.
R124: the release of a record of a RECEIVE region sets its released bit, in byte 17 of the record, and writes no other
byte of memory; a release of a record that is already released changes nothing. -/
def Obligations.QueuesAndRecords : Prop :=
  (∀ (s : State) (p : Tile) (r : Fin 64) (hdr : BitVec 128) (e : Ent),
    s.rMode p r = mQueue → s.rSound p r = true →
    (16 ≤ s.rFree p r → ∃ t, exec (.queuePush p r hdr) s = .next t ∧
      t.bytes (tsBase p + s.rBase p r + s.rTailOff p r) 16 = leBytes 16 (encodeHdr (decodeHdr hdr.toNat)) ∧
      s.memBut t (tsBase p + s.rBase p r + s.rTailOff p r) 16 ∧
      t.fld (RGN_TAIL p r) RGN_TAIL.pointer = (s.rTail p r + 16) % 2 ^ 64 ∧ t.bit (RGN_STATUS p r) RGN_STATUS.full = false ∧
      s.regsBut t [RGN_TAIL p r, RGN_OFFS p r, RGN_STATUS p r]) ∧
    (s.rFree p r < 16 → ∃ t, exec (.queuePush p r hdr) s = .next t ∧ t.bit (RGN_STATUS p r) RGN_STATUS.full = true ∧
      s.onlyRegs t [RGN_STATUS p r]) ∧
    ((∀ x ∈ s.rEnts p r, s.waitsPop p r x = true → s.stale p x.hdr = false) → s.present p r (s.slot p) = some e →
      ∃ t, exec (.queuePop p r) s = .next t ∧ t.present p r (s.slot p) ≠ some e ∧ s.sameMem t ∧
        s.regsBut t [RGN_HEAD p r, RGN_OFFS p r])) ∧
  (∀ (s : State) (p : Tile) (r : Fin 64) (off : Fin 0x4000000) (e : Ent),
    s.rMode p r = mReceive → (s.rEnts p r).find? (fun x => x.off == off.val && x.kind != 3) = some e →
    (e.released = false → ∃ t, exec (.recordRelease p r off) s = .next t ∧
      t.bytes (tsBase p + s.rBase p r + off + 17) 1 =
        [BitVec.ofNat 8 (s.num (tsBase p + s.rBase p r + off + 17) 1 ||| 1)] ∧
      s.memBut t (tsBase p + s.rBase p r + off + 17) 1 ∧
      s.regsBut t [RGN_HEAD p r, RGN_OFFS p r, RGN_STATUS p r, CH_PROGRESS p]) ∧
    (e.released = true → exec (.recordRelease p r off) s = .next s))

/-- R132, R133: a scrub read that meets no error moves the scrub position on, counting a pass when it wraps; with the scrub off
nothing happens. Clearing the row request, where none waits, clears its valid bit. -/
def Obligations.ScrubAndRows : Prop :=
  ∀ (s : State) (p : Tile) (sc : Bool) (word : Fin 0x100000),
    (s.bit (MU_CTRL p) MU_CTRL.scrub_en = true → s.ue = [] →
      ∃ t, exec (.scrubRead p sc word .none) s = .next t ∧
        t.fld (MU_SCRUB_STATUS p) MU_SCRUB_STATUS.position =
          (s.fld (MU_SCRUB_STATUS p) MU_SCRUB_STATUS.position + 1) % 2 ^ MU_SCRUB_STATUS.position.width ∧
        s.onlyRegs t [MU_SCRUB_STATUS p]) ∧
    (s.bit (MU_CTRL p) MU_CTRL.scrub_en = false → ∀ ecc, exec (.scrubRead p sc word ecc) s = .next s) ∧
    ((∀ x ∈ (s.muW p).rows, x.waiting = false) → ∃ t, exec (.rowceRelease p) s = .next t ∧
      t.bit (MU_ROWCE_REQ p) MU_ROWCE_REQ.valid = false ∧ s.onlyRegs t [MU_ROWCE_REQ p])

/-- R134 to R136: while no remap runs, an entry of an UNTESTED tile is loaded without a copy; a live remap of a free spare
starts, and a second command meanwhile sets the remap_busy fault.
R135, R136, R257: the copy of a live remap ends: the entry is valid, the repair goes into the health store, and the map is
published. Here no other repair of the tile waits and the tile is no context's. -/
def Obligations.RowRepairsAndRemaps : Prop :=
  (∀ (s : State) (p : Tile) (sc : Bool) (bank : Fin 64) (row : Fin 1024) (spare : Fin 16),
    remapInRange sc bank row spare = true →
    (s.bit (MU_STATUS p) MU_STATUS.remap_busy = false →
      (s.fld (HLTH_TILE p) HLTH_TILE.state = 0 → ∃ t, exec (.remapLoad p sc bank row spare) s = .next t ∧
        t.repair p sc bank spare = (row + 2 ^ 14 + 2 ^ 15) % 2 ^ (repairField p sc bank spare).2.width ∧
        t.fld (MU_REMAP_STATUS p) MU_REMAP_STATUS.result = 0 ∧ t.bit (MU_REMAP_STATUS p) MU_REMAP_STATUS.done = true ∧
        s.onlyRegs t [(repairField p sc bank spare).1, MU_REMAP_STATUS p]) ∧
      (repairValid (s.repair p sc bank spare) = false → spare.val < spares sc →
        ∃ t, exec (.remap p sc bank row spare) s = .next t ∧ t.bit (MU_STATUS p) MU_STATUS.remap_busy = true ∧
          (t.muW p).remap = some (b2n sc, bank.val, row.val, spare.val) ∧ s.sameMem t ∧ s.regsBut t [MU_STATUS p])) ∧
    (s.bit (MU_STATUS p) MU_STATUS.remap_busy = true → ∀ c ∈ [Instr.remapLoad p sc bank row spare, .remap p sc bank row spare],
      ∃ t, exec c s = .next t ∧ t.bit (MU_FAULT p) MU_FAULT.remap_busy = true ∧ s.onlyRegs t [MU_FAULT p])) ∧
  (∀ (s : State) (p : Tile) (sc : Bool) (bank row spare : Nat),
    (s.muW p).remap = some (b2n sc, bank, row, spare) → s.health.remaps = [] → s.health.rewrites = [] →
    s.lease p = none →
    let old := s.store.repairs.filter
      (fun x => !(x.1 == p.val && x.2.1 == sc && x.2.2.1 == bank && x.2.2.2.2 == spare))
    let t : State := { s.remapDone p with store := { s.store with repairs := old ++ [(p.val, sc, bank, row, spare)] } }
    exec (.remapComplete p) s = .next (if sc then t.publish else ((t.remapView p bank).degrade p).publish))

/-- R137: a fill starts while none runs and its range lies in the tile store, and is refused otherwise; when it ends the bytes of
its range are written, and no others.
R285: a hash of a region that is not OFF starts while none runs, is abandoned on request, and ends with its digest; here the
tile is no context's. -/
def Obligations.FillsAndHashes : Prop :=
  (∀ (s : State) (p : Tile) (base : Fin 0x4000) (len : Fin 0x8000),
    (s.bit (MU_FILL_STATUS p) MU_FILL_STATUS.busy = false →
      (∃ t, exec (.fillTile p) s = .next t ∧ t.bit (MU_FILL_STATUS p) MU_FILL_STATUS.busy = true ∧
        (t.muW p).fill = some (0, 0, 0) ∧ s.sameMem t ∧ s.regsBut t [MU_FILL_STATUS p, MU_STATUS p]) ∧
      (len.val ≠ 0 → base.val + len.val ≤ 16384 → ∃ t, exec (.fillRange p base len) s = .next t ∧
        t.bit (MU_FILL_STATUS p) MU_FILL_STATUS.busy = true ∧ (t.muW p).fill = some (1, base.val, len.val) ∧ s.sameMem t ∧
        s.regsBut t [MU_FILL_STATUS p, MU_STATUS p]) ∧
      ((len.val = 0 ∨ 16384 < base.val + len.val) → ∃ t, exec (.fillRange p base len) s = .next t ∧
        t.bit (MU_FILL_STATUS p) MU_FILL_STATUS.refused = true ∧ s.onlyRegs t [MU_FILL_STATUS p])) ∧
    ((s.muW p).fill = some (1, base.val, len.val) → ∃ t, exec (.fillDone p) s = .next t ∧
      (∀ i < len.val * 512, t.num (tsBase p + base * 4096 + 8 * i) 8 = s.fld (MU_FILL_PATTERN p) MU_FILL_PATTERN.pattern) ∧
      s.memBut t (tsBase p + base * 4096) (len * 4096) ∧ t.bit (MU_FILL_STATUS p) MU_FILL_STATUS.done = true ∧
      t.bit (MU_FILL_STATUS p) MU_FILL_STATUS.busy = false ∧ s.regsBut t [MU_FILL_STATUS p, MU_STATUS p]) ∧
    ((s.muW p).fill = some (0, 0, 0) → ∃ t, exec (.fillDone p) s = .next t ∧
      (∀ i < tsBytes / 8, t.num (tsBase p + 8 * i) 8 = s.fld (MU_FILL_PATTERN p) MU_FILL_PATTERN.pattern) ∧
      (∀ i < osBytes / 8, t.num (osBase p + 8 * i) 8 = s.fld (MU_FILL_PATTERN p) MU_FILL_PATTERN.pattern) ∧
      t.bit (MU_FILL_STATUS p) MU_FILL_STATUS.done = true ∧ s.regsBut t [MU_FILL_STATUS p, MU_STATUS p])) ∧
  (∀ (s : State) (p : Tile) (r : Fin 64),
    (s.bit (MU_PROOF_STATUS p) MU_PROOF_STATUS.busy = false → s.rMode p r ≠ mOff →
      ∃ t, exec (.proofHashGo p r) s = .next t ∧ t.bit (MU_PROOF_STATUS p) MU_PROOF_STATUS.busy = true ∧
        t.fld (MU_PROOF_STATUS p) MU_PROOF_STATUS.region = r ∧ (t.muW p).hash = some (r.val, 0) ∧ s.sameMem t ∧
        s.regsBut t [MU_PROOF_STATUS p]) ∧
    (∃ t, exec (.proofHashAbandon p) s = .next t ∧ t.bit (MU_PROOF_STATUS p) MU_PROOF_STATUS.busy = false ∧
      (t.muW p).hash = none ∧ s.sameMem t ∧ s.regsBut t [MU_PROOF_STATUS p]) ∧
    (s.bit (MU_CTRL p) MU_CTRL.proof_en = true → (s.muW p).hash = some (r.val, 0) → s.lease p = none → s.ue = [] →
      ∃ t, exec (.proofHashDone p) s = .next t ∧ t.bit (MU_PROOF_STATUS p) MU_PROOF_STATUS.done = true ∧
        t.bit (MU_PROOF_STATUS p) MU_PROOF_STATUS.busy = false ∧
        (∀ i < 4, t.reg (MU_PROOF_DIGEST p i) =
          BitVec.ofNat 64 (ofBytes (((s.regionDigest p r).drop (8 * i)).take 8))) ∧
        (t.muW p).hash = none ∧ s.sameMem t))

/-- R98, R100: SELECT passes the head of in1 or in0, by the low bit of the control token, and SWITCH passes the head of in0 to
out1 or out0; the control token and the data token are popped. Here neither is an end token at the control queue.
R100, R101: MERGE takes the token of its reference input and turns the reference, and where the reference input is empty takes
the other and counts a deviation; END passes a token on, and with END_OF_STREAM also a control token that carries its value. -/
def Obligations.SelectSwitchMergeEnd : Prop :=
  (∀ (s : State) (p : Tile) (j : Fin 8) (c d : Ent),
    let g := fun f => s.suCfg p j f
    let one := c.hdr.offVal % 2 = 1
    let done := fun (out r : Nat) => (((((s.pushIn p out d.hdr).suPop p r d).suPop p (g SU_OP_CFG.ctl) c).suEob p d.hdr).suWaiting
      p j false).suFired p
    s.suHead p (g SU_OP_CFG.ctl) = some c → c.hdr.isEnd = false →
    (s.suReady p j 1 → s.suHead p (if one then g SU_OP_CFG.in1 else g SU_OP_CFG.in0) = some d →
      s.hasRoom p (g SU_OP_CFG.out0) = true →
      exec (.selectOp p j) s = .next (done (g SU_OP_CFG.out0) (if one then g SU_OP_CFG.in1 else g SU_OP_CFG.in0))) ∧
    (s.suReady p j 2 → s.suHead p (g SU_OP_CFG.in0) = some d →
      s.hasRoom p (if one then g SU_OP_CFG.out1 else g SU_OP_CFG.out0) = true →
      exec (.switchOp p j) s = .next (done (if one then g SU_OP_CFG.out1 else g SU_OP_CFG.out0) (g SU_OP_CFG.in0)))) ∧
  (∀ (s : State) (p : Tile) (j : Fin 8) (a : Ent) (k : Fin 2),
    let st := SU_OP_STATE p (s.slot p) j
    let s0 := s.setFld st SU_OP_STATE.merge_held 0
    let fired := fun (t : State) => (t.suWaiting p j false).suFired p
    s.hasRoom p (s.suCfg p j SU_OP_CFG.out0) = true → a.hdr.isEnd = false →
    (s.suReady p j 5 → s.suHead p (s.mergeIn p j k) = some a → s.suHead p (s.mergeIn p j (1 - k.val)) = none →
      s0.hasRoom p (s.suCfg p j SU_OP_CFG.out0) = true →
      (s0.fld st SU_OP_STATE.merge_ref = k →
        exec (.mergeArrival p j) s = .next (fired ((s0.mergeTake p j k a).setFld st SU_OP_STATE.merge_ref (1 - k.val)))) ∧
      (s0.fld st SU_OP_STATE.merge_ref = 1 - k.val →
        exec (.mergeArrival p j) s = .next (fired ((s0.mergeTake p j k a).addMod (SU_MERGE_DEV p) SU_MERGE_DEV.count 1)))) ∧
    (s.suReady p j 6 → s.suHead p (s.suCfg p j SU_OP_CFG.in0) = some a →
      exec (.endOp p j) s = .next (fired (((s.pushIn p (s.suCfg p j SU_OP_CFG.out0) a.hdr).suPop p
        (s.suCfg p j SU_OP_CFG.in0) a).suEob p a.hdr))))

/-- R100: GATE passes a data token where the control value is not 0 and discards it where it is 0; REPEAT sends one copy a
firing, as often as the control value says, and discards the token where that is 0. -/
def Obligations.GateAndRepeat : Prop :=
  ∀ (s : State) (p : Tile) (j : Fin 8) (c d : Ent),
    let ctl := s.suCfg p j SU_OP_CFG.ctl
    let r := s.suCfg p j SU_OP_CFG.in0
    let out := s.suCfg p j SU_OP_CFG.out0
    let st := SU_OP_STATE p (s.slot p) j
    let n := c.hdr.offVal % 2 ^ 16
    let fired := fun (t : State) => (t.suWaiting p j false).suFired p
    s.suHead p ctl = some c → c.hdr.isEnd = false → s.suHead p r = some d → d.hdr.typ = tData → s.hasRoom p out = true →
    (s.suReady p j 3 → c.hdr.offVal ≠ 0 → exec (.gateOp p j) s =
      .next (fired ((((s.pushIn p out d.hdr).suPop p r d).suPop p ctl c).suEob p d.hdr))) ∧
    (s.suReady p j 3 → c.hdr.offVal = 0 → exec (.gateOp p j) s = .next (fired ((s.suDiscard p r d).suPop p ctl c))) ∧
    (s.suReady p j 4 → n = 0 → exec (.repeatOp p j) s = .next (fired ((s.suDiscard p r d).suPop p ctl c))) ∧
    (s.suReady p j 4 → s.fld st SU_OP_STATE.repeat_count + 1 < n → exec (.repeatOp p j) s =
      .next (fired ((s.pushIn p out d.hdr).setFld st SU_OP_STATE.repeat_count (s.fld st SU_OP_STATE.repeat_count + 1)))) ∧
    (s.suReady p j 4 → n ≠ 0 → n ≤ s.fld st SU_OP_STATE.repeat_count + 1 → exec (.repeatOp p j) s =
      .next (fired ((((s.pushIn p out d.hdr).setFld st SU_OP_STATE.repeat_count 0).suPop p r d).suPop p ctl c)))

/-- R40, R43, R60, R62: a pass of a ready engine runs the dot products of the active block, waits for weights where no block is active,
and waits for output where its entry is not yet emitted; a slot whose settings are not valid sets config_fault. -/
def Obligations.EnginePasses : Prop :=
  ∀ (s : State) (p : Tile) (vec scale : ScratchOff) (upset : MeUpset), s.meReady p = true →
    (s.meValid p (s.slot p) = true → vec.val + fmtBytes (s.meAf p (s.slot p)) 128 ≤ osBytes → scale.val + 4 ≤ osBytes →
      ((s.meU p).active ≠ [] → (tget {} (s.meU p).acc (s.meU p).pass).done = false →
        exec (.mePass p vec scale upset) s = .next (s.mePass p vec scale upset)) ∧
      ((s.meU p).active = [] → exec (.mePass p vec scale upset) s = .next (s.meStall p (ME_STALL_WEIGHT p)))) ∧
    (s.meValid p (s.slot p) = false → ∃ t, exec (.mePass p vec scale upset) s = .next t ∧
      t.bit (ME_FAULT p) ME_FAULT.config_fault = true ∧ t.meU p = s.meU p ∧ s.sameMem t)

/-- R59, R60: a block image with no uncorrectable word enters the empty shadow buffer, and is active at once where no block is.
R35, R62: complete accumulator entries go to the empty output port of an engine that is not halted, and leave the file. -/
def Obligations.WeightsAndSliceSets : Prop :=
  (∀ (s : State) (p : Tile) (addr : ScratchOff),
    let n := meArrayBytes (meMode (s.meWf p (s.slot p))) + sideBytes
    s.meReady p = true → s.meValid p (s.slot p) = true → addr.val + n ≤ osBytes → (s.meU p).shadow = [] → s.ue = [] →
    ∃ t, exec (.weightBlockLoad p addr) s = .next t ∧
      ((s.meU p).active = [] → (t.meU p).active = s.bytes (osBase p + addr) n ∧ (t.meU p).shadow = []) ∧
      ((s.meU p).active ≠ [] → (t.meU p).active = (s.meU p).active ∧ (t.meU p).shadow = s.bytes (osBase p + addr) n) ∧
      (t.meU p).acc = (s.meU p).acc ∧ s.sameMem t ∧ s.regsBut t [ME_STATUS p]) ∧
  (∀ (s : State) (p : Tile), s.fenced p = false → s.isHalted (haltMe p) = false →
    s.fld (ME_SLOT_CFG p (s.slot p)) ME_SLOT_CFG.emit_target = 0 → (s.meU p).out = [] →
    (s.meU p).acc.any (fun e => e.2.done) = true →
    ∃ t, exec (.sliceSetEmit p) s = .next t ∧ (t.meU p).acc = (s.meU p).acc.filter (fun e => !e.2.done) ∧
      (t.meU p).out = (s.portVectors (((s.meU p).acc.filter (fun e => e.2.done)).map (fun e => e.2))).1 ∧
      (t.meU p).active = (s.meU p).active ∧ s.sameMem t ∧ s.regsBut t [ME_STATUS p])

/-- R72, R77, R110, R116: the pipeline and a generator that may start take one step of their program, the pipeline after it has loaded the constants
of its slot; a slot that cannot start sets the config fault of its unit and moves nothing. A fenced tile runs neither. -/
def Obligations.PipelineAndGenerators : Prop :=
  ∀ (s : State) (p : Tile) (n : Fin 4),
    (s.mayStart p uVsp = true → s.running (haltVsp p) = true →
      (s.vspValid p (s.slot p) = true →
        exec (.vspVector p) s = .next ((s.vspLoad p (s.slot p)).vspStep p (s.slot p))) ∧
      (s.vspValid p (s.slot p) = false → ∃ t, exec (.vspVector p) s = .next t ∧
        t.bit (VSP_FAULT p) VSP_FAULT.config_fault = true ∧ s.sameMem t ∧ s.regsBut t [VSP_FAULT p])) ∧
    (s.mayStart p (uAg n) = true → s.running (haltAg p n) = true → s.agCfg p n AG_S_CFG.enable ≠ 0 →
      (s.agValid p n = true → s.bit (AG_STATUS p n) AG_STATUS.stopped = false → (s.agP p n (s.slot p)).ended = false →
        exec (.agAccess p n .none) s = .next ((s.setFld (AG_STATUS p n) AG_STATUS.active_slot (s.slot p)).agStep p n)) ∧
      (s.agValid p n = false → ∃ t, exec (.agAccess p n .none) s = .next t ∧
        t.bit (AG_FAULT p n) AG_FAULT.config_fault = true ∧ s.sameMem t ∧ s.regsBut t [AG_FAULT p n])) ∧
    (s.fenced p = true → exec (.vspVector p) s = .next s ∧ ∀ ecc, exec (.agAccess p n ecc) s = .next s)

/-- R157, R161, R170: an endpoint that may send, with room in its window and no announce add due, sends the header that its source
queue presents and pops it; a router forwards the first message that can go; a management message enters the mesh and is
delivered. No stale entry stands in the queue here. -/
def Obligations.MessagesGoOut : Prop :=
  ∀ (s : State) (p : Tile) (e : Fin 64) (x : Ent),
    (let q := s.epQueue p e
     s.chMaySend p e = true → s.fld (CH_EP_CFG p e) CH_EP_CFG.announce = 0 → (s.ep p e).win.length < 4 →
      (s.ep p e).announceDue = false →
      (∀ y ∈ s.rEnts p q, s.waitsPop p q y = true → s.stale p y.hdr = false) → s.present p q (s.slot p) = some x →
      exec (.messageSend p e) s = .next (((s.chSendHdr p e q x.hdr).pop p q x).chAfter p e x.hdr)) ∧
    (∀ i inPort m o m', s.atRouter p = [(i, { msg := m, loc := p.val, inPort := inPort })] →
      s.route p inPort m = .out o m' →
      exec (.routeLookup p) s = .next (s.routeDo p i inPort m (.out o m'))) ∧
    (∀ route steps, ∃ t, exec (.vcmMgmt p route steps) s = .next t ∧ ∀ y ∈ t.net, y.msg.vc ≠ 4)

/-- R166, R170, R172 to R178, R189: each kind of message is taken where it stands, at a tile by its channel block and at an edge die
by its proxies. -/
def Obligations.MessagesArrive : Prop :=
  ∀ (s : State) (p : MeshPlace) (e : Fin 64) (i : Fin 4) (c : Instr) (tile edge : Nat → State),
    (c, tile, edge) ∈ [(Instr.data p, s.dataAt, fun d => s.egressTake d kData),
      (Instr.token p, s.tokenAt, fun d => s.egressTake d kToken),
      (Instr.counterAdd p, s.addAt, fun d => s.egressTake d kAdd),
      (Instr.combine p, s.combineMsg, fun d => s.egressTake d kCombine),
      (Instr.ack p, s.ackAt, s.inAck), (Instr.nack p, s.nackAt, s.inNack),
      (Instr.retryRound p e, (fun q => s.retryRound q e), fun d => s.inRetry d e),
      (Instr.ackTimeout p e i, (fun q => s.ackTimeout q e i), fun d => s.inTimeout d e i)] →
    (p.val < 256 → exec c s = .next (tile p)) ∧
    (256 ≤ p.val → p.val < 258 → exec c s = .next (edge (p.val - 256))) ∧
    (258 ≤ p.val → exec c s = .next s)

/-- R170, R173: an ACK takes its message out of the sender's window and sets nack_run to 0; a NACK of a reason that is retried marks
it for the next round; the round sends what is marked again and clears the marks. The window entry retains no record here. -/
def Obligations.AcksAndRounds : Prop :=
  ∀ (s : State) (p : Tile) (e : Fin 64) (i : Nat) (x : NetMsg) (w : WinEntry),
    x.msg.destEp = e.val → (s.ep p e).entry x.msg.chanSeq = some w →
    (s.arrivedAt p [kAck] = some (i, x) → w.src = none → ∃ t, exec (.ack ⟨p, by omega⟩) s = .next t ∧
      (t.ep p e).win = (s.ep p e).win.erase w ∧ t.fld (CH_EP_STATE p e) CH_EP_STATE.nack_run = 0 ∧
      t.net = s.net.eraseIdx i ∧ s.sameMem t ∧ s.regsBut t [CH_EP_STATE p e]) ∧
    (s.arrivedAt p [kNack] = some (i, x) → retryReason (x.msg.operand % 256) = true →
      ∃ t, exec (.nack ⟨p, by omega⟩) s = .next t ∧ (t.ep p e).roundNacked = true ∧
        (t.ep p e).win = (s.ep p e).win.map (fun y => if y = w then { y with nacked := true } else y) ∧
        t.net = s.net.eraseIdx i ∧ s.sameMem t ∧ s.regsBut t [CH_EP_STATE p e, CH_NACKS p]) ∧
    (s.chMayResend p e = true → (s.ep p e).roundNacked = true →
      ∃ t, exec (.retryRound ⟨p, by omega⟩ e) s = .next t ∧ (t.ep p e).roundNacked = false ∧
        (t.ep p e).win = (s.ep p e).win.map (fun y => { y with nacked := false }) ∧
        t.net.length = s.net.length + (s.ep p e).win.countP (fun y => y.nacked) ∧ s.sameMem t ∧
        s.regsBut t [CH_EP_STATE p e])

/-- R142, R113: the first remote write that has arrived writes its payload at its address, where that is memory; the first remote
read is answered on its channel with the bytes at its address; a response delivers its bytes to the generator that waits. -/
def Obligations.RemoteAccesses : Prop :=
  ∀ (s : State) (at_ : MeshPlace) (p : Tile) (i : Nat) (x : NetMsg),
    (s.arrivedAt at_ [kRemoteWrite] = some (i, x) → exec (.remoteWrite at_) s =
      .next (if s.mapped x.msg.addr then (s.netDrop i).agentPut x.msg.addr x.msg.payload else s.netDrop i)) ∧
    (s.arrivedAt at_ [kRemoteRead] = some (i, x) → s.homeBusy x.msg.addr x.msg.operand false = [] →
      ∃ t y, exec (.remoteRead at_) s = .next t ∧ t.net = s.net.eraseIdx i ++ [y] ∧ y.msg.kind = kReadResp ∧
        y.msg.destTile = x.msg.srcTile ∧ y.msg.destEp = x.msg.srcEp ∧ y.msg.vc = x.msg.vc ∧
        y.msg.payload = (if s.mapped x.msg.addr then s.bytes x.msg.addr x.msg.operand else []) ∧
        t = { s with net := t.net }) ∧
    (∀ t, s.arrivedAt p [kReadResp] = some (i, x) → (s.agP p (x.msg.destEp % 4) (s.slot p)).awaiting = true →
      x.msg.payload ≠ [] → x.msg.tok.mark = false →
      s.agDeliver p (x.msg.destEp % 4) (x.msg.payload.map (fun b => { b := b, mark := false })) = some t →
      exec (.readResp p) s = .next ((t.netDrop i).agAdvance p (x.msg.destEp % 4)))

/-- R153, R154: a corrected flit, a replay and a failed replay are counted in the error register of an unfenced link port, a failed replay
counting up the failures in a row to 8; with 8 the hop is declared failed at both ends, and with fewer nothing happens. -/
def Obligations.LinkErrors : Prop :=
  ∀ (s : State) (p : Tile) (k : Fin 8), k.val < 4 →
    let a := RT_LINK_ERR p k
    (s.portFenced p k = false → bridgeOf p k = none →
      (∃ t, exec (.linkRetry p k .corrected) s = .next t ∧ t.fld a RT_LINK_ERR.consec_fail = 0 ∧
        t.fld a RT_LINK_ERR.corrected = min (s.fld a RT_LINK_ERR.corrected + 1) (2 ^ RT_LINK_ERR.corrected.width - 1) ∧
        s.onlyRegs t [a]) ∧
      (∃ t, exec (.linkRetry p k .replayed) s = .next t ∧ t.fld a RT_LINK_ERR.consec_fail = 0 ∧
        t.fld a RT_LINK_ERR.retries = min (s.fld a RT_LINK_ERR.retries + 1) (2 ^ RT_LINK_ERR.retries.width - 1) ∧
        s.onlyRegs t [a]) ∧
      (∃ t, exec (.linkRetry p k .failed) s = .next t ∧
        t.fld a RT_LINK_ERR.consec_fail = min 8 (s.fld a RT_LINK_ERR.consec_fail + 1) ∧
        t.fld a RT_LINK_ERR.retries = min (s.fld a RT_LINK_ERR.retries + 1) (2 ^ RT_LINK_ERR.retries.width - 1) ∧
        s.onlyRegs t [a])) ∧
    (s.portFenced p k = true → ∀ flit, exec (.linkRetry p k flit) s = .next s) ∧
    (∀ caught, 8 ≤ s.fld a RT_LINK_ERR.consec_fail → exec (.hopDeclaredFailed p k caught) s = .next (s.hopFailed p k caught)) ∧
    (∀ caught, s.fld a RT_LINK_ERR.consec_fail < 8 → exec (.hopDeclaredFailed p k caught) s = .next s)

/-- R178 to R183, R210, R262: a complete combine entry is emitted and reset; a configuration message performs its writes, and a heal
message its one, at each tile that takes it; an overflowing endpoint returns its oldest record; the progress of each running or
stopping context is sampled, and a module without one is left as it is. -/
def Obligations.MeshServices : Prop :=
  ∀ (s : State) (p : Tile) (e : Fin 64),
    (∀ index a t, s.epRole p e = 3 → s.combineAt p e (BitVec.toNat (w := 32) index) = some a → bitOf (s.num (a + 3) 1) 1 = true →
      let op := s.fld (CH_EP_CFG p e) CH_EP_CFG.combine_op
      let n := accBytes op (s.num (a + 4) 4)
      let st := decodeHdr (s.num (a + 16) 16)
      s.emitItem p (s.epQueue p e)
        { typ := tData, slot := st.slot, epoch := st.epoch, mark := bitOf (s.num (a + 3) 1) 2, itemTag := st.itemTag }
        (combineResult op (words32 (s.bytes (a + 64) n))) = some t →
      exec (.combineEmit p e index) s = .next ((if bitOf (s.num (a + 3) 1) 0 then t.addMod (CH_NDC p) CH_NDC.count 1 else t).combineReset
        op a n)) ∧
    (∀ (route : BitVec 64) (steps : Fin 32) (q : Nat) (t : State) (o : BitVec 16) (v : BitVec 64),
      (s.vcmDeliver p 0x0B route.toNat steps = ([q], t) → exec (.vcmHeal p route steps o v) s =
        .next (t.regWrite (tileRegs + q * 0x10000 + (o.toNat - o.toNat % 8)) v.toNat)) ∧
      (s.vcmDeliver p 0x0A route.toNat steps = ([q], t) → exec (.vcmConfig p route steps [(o, v)]) s =
        .next (t.vcmWrites q [(o, v)]))) ∧
    (s.epBit p e CH_EP_STATE.overflow = true → exec (.overflowReturn p e) s = .next (s.ovfReturn p e)) ∧
    (s.epBit p e CH_EP_STATE.overflow = false → exec (.overflowReturn p e) s = .next s) ∧
    (∀ c : Fin 16, (∀ d < c.val, s.cState d ≠ 4 ∧ s.cState d ≠ 5) → s.cState c = 4 →
      (∀ d < 16, c.val < d → (s.sampleCtx c).cState d ≠ 4 ∧ (s.sampleCtx c).cState d ≠ 5) →
      exec .progressSample s = .next (s.sampleCtx c)) ∧
    ((∀ d < 16, s.cState d ≠ 4 ∧ s.cState d ≠ 5) → exec .progressSample s = .next s)

/-- R328, R331, R333, R334: with nothing waiting and credits at hand, a READ of lines that the host may read is completed with
their bytes, and SHARE and OWN of a coherent line enter it in the filter, writable for OWN. None of the three writes memory. -/
def Obligations.HostReadsAndGrants : Prop :=
  ∀ (s : State) (tag : BitVec 12) (addr : BitVec 52) (lines : Fin 8) (own : Bool),
    let a := addr.toNat
    s.linkActive = true → s.tl.inq = [] → s.tl.held = [] → a % 64 = 0 →
    (lines.val + 1 ≤ s.maxLines → s.hostMayRead a (64 * (lines.val + 1)) = true → s.tl.snoops = [] →
      s.badWords a (64 * (lines.val + 1)) = [] →
      s.tl.hasCredit (.cpl tag.toNat tlOK false false (s.devBytes a (64 * (lines.val + 1)))) = true →
      ∃ t, exec (.read tag addr lines) s = .next t ∧
        t.tl.sent = s.tl.sent ++ [.cpl tag.toNat tlOK false false (s.devBytes a (64 * (lines.val + 1)))] ∧
        t.tl.inq = [] ∧ t = { s with tl := t.tl }) ∧
    (s.snooping a = false → s.coherent a = true → (if own then s.hostMayWrite a 64 else s.hostMayRead a 64) = true →
      s.tl.filter.length < 524288 →
      ∃ t, exec (if own then .own tag addr else .share tag addr) s = .next t ∧
        t.hostCopy a = some { line := a, m := own || ((s.hostCopy a).map (fun e => e.m)).getD false } ∧
        (∀ b, b ≠ a → t.hostCopy b = s.hostCopy b) ∧ s.sameMem t ∧ s.regsBut t [TL_COH])

/-- R328, R331: with nothing waiting and no copy of the line out, a write of memory that the host may write stores its bytes, a
masked write those of its mask, and an atomic its result; no other byte changes.
R334, R335: a returned line leaves the filter and, dirty and held M, stores its data; an answer to a snoop for which nothing waits
drops the copy and ends the snoop. A return of a line that the host does not hold is refused and writes nothing. -/
def Obligations.HostWritesAndReturns : Prop :=
  (∀ (s : State) (tag : BitVec 12) (addr : BitVec 52),
    let a := addr.toNat
    s.linkActive = true → s.tl.inq = [] → inRegs a = false → s.tl.filter = [] → s.tl.snoops = [] →
    (∀ (lines : Fin 8) (data : BitVec 4096), a % 64 = 0 → lines.val + 1 ≤ s.maxLines →
      s.hostMayWrite a (64 * (lines.val + 1)) = true →
      ∃ t, exec (.write tag addr lines data false) s = .next t ∧
        t.bytes a (64 * (lines.val + 1)) = leBytes (64 * (lines.val + 1)) data.toNat ∧
        s.memBut t a (64 * (lines.val + 1)) ∧ s.regsBut t [TL_DRDY]) ∧
    (∀ (mask : BitVec 64) (data : BitVec 512), a % 64 = 0 → s.hostMayWrite a 64 = true → s.badWords a 64 = [] →
      ∃ t, exec (.writeMasked tag addr mask data false) s = .next t ∧
        t.bytes a 64 = maskBytes mask.toNat (s.bytes a 64) (leBytes 64 data.toNat) ∧
        s.memBut t a 64 ∧ s.regsBut t [TL_DRDY]) ∧
    (∀ (op : Fin 4) (x : BitVec 256), (op.val = 3 → s.feature 3 = true) → a % (if op.val = 3 then 16 else 8) = 0 →
      s.hostMayWrite a (if op.val = 3 then 16 else 8) = true → s.badWords a (if op.val = 3 then 16 else 8) = [] →
      ∃ t, exec (.atomic tag addr (BitVec.ofNat 8 op) x) s = .next t ∧
        t.num a (if op.val = 3 then 16 else 8) =
          atomicNew op (s.num a (if op.val = 3 then 16 else 8)) (leBytes 32 x.toNat) ∧
        s.memBut t a (if op.val = 3 then 16 else 8) ∧ s.regsBut t [TL_DRDY])) ∧
  (∀ (s : State) (tag : BitVec 12) (addr : BitVec 52) (dirty : Bool) (data : BitVec 512),
    let a := addr.toNat
    s.linkActive = true → s.tl.inq = [] → inRegs a = false →
    (∀ e, s.hostCopy a = some e → s.snooping a = false →
      ∃ t, exec (.returnLine tag addr dirty data false) s = .next t ∧ t.hostCopy a = none ∧
        ((dirty && e.m) = true → t.bytes a 64 = leBytes 64 data.toNat ∧ s.memBut t a 64) ∧
        ((dirty && e.m) = false → s.sameMem t) ∧ s.regsBut t [TL_COH, TL_DRDY]) ∧
    (s.hostCopy a = none → ∃ t, exec (.returnLine tag addr dirty data false) s = .next t ∧ s.sameMem t ∧
      t.hostCopy a = none ∧ s.regsBut t [TL_ERR_LOG, TL_ERR_TIME]) ∧
    (∀ x, s.tl.snoops.find? (fun y => y.line == a) = some x → x.kind = 0 → x.waiting = [] → a ≠ repProdLine →
      a ≠ evtProdLine → s.hostCopy a = none →
      ∃ t, exec (.snoopRsp addr dirty data false) s = .next t ∧ t.snooping a = false ∧ t.hostCopy a = none ∧
        s.sameMem t ∧ s.regsBut t [TL_COH]))

/-- R324 to R326: flits that meet errors are counted on their lane and their link; RECOVERY asked for ends at full width where no lane is
bad and DOWN where it is late; retrain and FULL_TRAIN start a training of a DOWN link.
R323, R324, R337, R339: a training that fails brings DOWN with reason 1; one in which every lane is good and a version is shared
makes the link ACTIVE with that version and the features of both sides. A link that fails enters DOWN with the reason of its state,
and after down_retry_ms it trains again. Returned credits are added. -/
def Obligations.LinkRecoveryAndTraining : Prop :=
  (∀ (s : State) (lane : Fin 32),
    (s.linkActive = true →
      (∃ t, exec (.tlReplay lane .corrected) s = .next t ∧ t.fld TL_FLIT_ERR TL_FLIT_ERR.fec_corrected =
          min (s.fld TL_FLIT_ERR TL_FLIT_ERR.fec_corrected + 1) (2 ^ TL_FLIT_ERR.fec_corrected.width - 1) ∧
        s.onlyRegs t [TL_FLIT_ERR, TL_LANE lane]) ∧
      (∃ t, exec (.tlReplay lane .replayed) s = .next t ∧ t.tl.failedReplays = 0 ∧ t.tlState = 4 ∧ s.sameMem t ∧
        s.regsBut t [TL_FLIT_ERR, TL_RECOVERY]) ∧
      (s.tl.failedReplays < 7 → ∃ t, exec (.tlReplay lane .failed) s = .next t ∧
        t.tl.failedReplays = s.tl.failedReplays + 1 ∧ t.tlState = 4 ∧ s.sameMem t ∧
        s.regsBut t [TL_FLIT_ERR, TL_RECOVERY]) ∧
      exec .retrain s = .next ({ s with tl := { s.tl with viaRetrain := true } } : State).enterRecovery) ∧
    (s.tlState = 5 → (∀ bad, exec (.tlRecovery true bad) s = .next (s.tlDown 2)) ∧
      (s.tl.viaRetrain = true → exec (.tlRecovery false 0) s = .next (s.tlActive false false 0))) ∧
    (s.tlState = 6 → ∃ t, exec .retrain s = .next t ∧ t.tlState = 0 ∧ s.onlyRegs t [TL_STATUS]) ∧
    (∃ t, exec .fullTrain s = .next t ∧ t.tlState = 0 ∧ s.onlyRegs t [TL_STATUS])) ∧
  (∀ (s : State) (x : TlTrain),
    (s.tlState < 4 → s.trainsTreup = true →
      (x.fails = true → exec (.tlTraining x) s = .next (s.tlDown 1)) ∧
      (∀ v, x.fails = false → x.badLanes = 0 → topVersion (x.versions.toNat &&& s.fld TL_ID TL_ID.versions) = some v →
        ∃ t, exec (.tlTraining x) s = .next t ∧ t.tlState = 4 ∧ t.bit TL_STATUS TL_STATUS.half_width = false ∧
          t.fld TL_STATUS TL_STATUS.version = v % 2 ^ TL_STATUS.version.width ∧
          t.fld TL_FEATURES TL_FEATURES.enabled = (x.features.toNat &&& featuresOf v) % 2 ^ TL_FEATURES.enabled.width ∧
          t.fld TL_STATUS TL_STATUS.down_reason = 0)) ∧
    (s.tlState = 4 → exec .tlDown s = .next (s.tlDown 4)) ∧ (s.tlState = 5 → exec .tlDown s = .next (s.tlDown 2)) ∧
    (s.tlState < 4 → exec .tlDown s = .next (s.tlDown 1)) ∧
    (s.tlState = 6 → exec .tlDown s = .next s ∧
      (s.tl.downAt + s.fld TL_CTRL TL_CTRL.down_retry_ms * 100000 ≤ s.tb →
        ∃ t, exec .tlDownRetry s = .next t ∧ t.tlState = 0 ∧ s.onlyRegs t [TL_STATUS]) ∧
      (s.tb < s.tl.downAt + s.fld TL_CTRL TL_CTRL.down_retry_ms * 100000 → exec .tlDownRetry s = .next s)) ∧
    (∀ pw np snp, s.tl.held = [] → ∃ t, exec (.tlCredit pw np snp) s = .next t ∧
      t.tl.creditPW = s.tl.creditPW + pw.toNat ∧ t.tl.creditNP = s.tl.creditNP + np.toNat ∧
      t.tl.creditSNP = s.tl.creditSNP + snp.toNat ∧ t = { s with tl := t.tl }))

/-- R336, R342: the submission line is read and new commands are taken, an index more than 1,024 ahead sets ring_fault and takes
none; a link without LINE_WATCH snoops the submission line and up to 63 watched lines in turn.
R328, R332: the completion of a module's READ stores its data in the host's window and ends the READ, whose engine has no
descriptor here. A READ and a snoop without answer end when their time has passed, and not before. -/
def Obligations.SubmissionAndCompletion : Prop :=
  (∀ (s : State),
    (s.takesCommands = true →
      (ahead (s.num subLine 8) (s.fld SCU_CMD_TAKEN SCU_CMD_TAKEN.taken) ≤ 1024 →
        exec .submissionWatch s = .next (((s.unfire subLine).setBit SCU_CMD_STATUS SCU_CMD_STATUS.ring_fault false).takeUpTo 1024
          (s.num subLine 8))) ∧
      (1024 < ahead (s.num subLine 8) (s.fld SCU_CMD_TAKEN SCU_CMD_TAKEN.taken) →
        exec .submissionWatch s = .next (((s.unfire subLine).setBit SCU_CMD_STATUS SCU_CMD_STATUS.ring_fault true).event 0x0010 0xFF
          (fieldsFrom 0 [(8, s.num subLine 8)])))) ∧
    (s.takesCommands = false → exec .submissionWatch s = .next s) ∧
    (s.linkActive = true → s.feature 0 = false → s.fwUp = true → s.polledLines = [subLine] → s.snooping subLine = false →
      ∃ t, exec .watchPoll s = .next t ∧ t.snooping subLine = true ∧ s.sameMem t ∧ s.regsBut t []) ∧
    (s.feature 0 = true → exec .watchPoll s = .next s)) ∧
  (∀ (s : State) (tag : BitVec 12) (addr : BitVec 52) (data : BitVec 4096) (r : HostRead) (x : Snoop),
    (s.tl.reads.find? (fun y => y.tag == tag.toNat) = some r →
      (s.eng (r.engine / 16) (r.engine % 16)).prog = [] →
      (s.linkActive = true → ∃ t, exec (.cpl tag 0 data false) s = .next t ∧
        t.bytes (hostFirst + r.addr) (64 * r.lines) = leBytes (64 * r.lines) data.toNat ∧
        s.memBut t (hostFirst + r.addr) (64 * r.lines) ∧ (∀ y ∈ t.tl.reads, y.tag ≠ r.tag) ∧ s.regsBut t []) ∧
      (r.tb + s.fld TL_CTRL TL_CTRL.cpl_timeout_us * 100 ≤ s.tb → ∃ t, exec (.cplTimeout tag) s = .next t ∧
        (∀ y ∈ t.tl.reads, y.tag ≠ r.tag) ∧ s.sameMem t ∧ s.regsBut t [TL_ERR_LOG, TL_ERR_TIME]) ∧
      (s.tb < r.tb + s.fld TL_CTRL TL_CTRL.cpl_timeout_us * 100 → exec (.cplTimeout tag) s = .next s)) ∧
    (s.tl.snoops.find? (fun y => y.line == addr.toNat) = some x →
      (s.tb < x.tb + s.fld TL_CTRL TL_CTRL.snoop_timeout_us * 100 → exec (.snoopTimeout addr) s = .next s) ∧
      (x.tb + s.fld TL_CTRL TL_CTRL.snoop_timeout_us * 100 ≤ s.tb → exec (.snoopTimeout addr) s = .next
        ((((((s.dropCopy x.line).filterView.addSat TL_COH TL_COH.snoop_timeouts 1).addSat TL_COH TL_COH.lost_lines 1).tlLog 3 0 0
          x.line).linkError 0xFF 3 0 x.line).endSnoop x))))

/-- R315 to R319: an engine that is not halted and has nothing in progress stops at once under ABORT, its halted bit set; resume clears it;
a drain past its time ends as ABORT. A descriptor that passes the check is in progress; one in progress moves its bytes and
completes. No command waits for the engine here. -/
def Obligations.TransferEngines : Prop :=
  ∀ (s : State) (g : Fin 2) (n : Fin 16),
    (s.bit (XE_ENG_STATUS g n) XE_ENG_STATUS.halted = false → s.waiting = [] → (s.eng g n).prog = [] → n.val < 8 →
      ∃ t, exec (.xeHaltReq g n 1) s = .next t ∧ t.bit (XE_ENG_STATUS g n) XE_ENG_STATUS.halted = true ∧
        (t.eng g n).goal = none ∧ s.sameMem t ∧ s.regsBut t [XE_ENG_CTRL g n, XE_ENG_STATUS g n]) ∧
    (∃ t, exec (.xeEngResume g n) s = .next t ∧ t.bit (XE_ENG_STATUS g n) XE_ENG_STATUS.halted = false ∧
      s.onlyRegs t [XE_ENG_STATUS g n]) ∧
    ((s.eng g n).goal.isSome = true → (s.eng g n).drainFrom + s.fld (XE_ENG_CFG g n) XE_ENG_CFG.drain_timeout_ms * 100000 ≤ s.tb →
      exec (.xeDrainTimeout g n) s = .next (s.xeAbort g n)) ∧
    ((s.eng g n).goal = none → exec (.xeDrainTimeout g n) s = .next s) ∧
    (∀ d t, let u := ((s.unfire (s.fld (XE_ENG_RING g n) XE_ENG_RING.base)).cplLook g n).engView g n
      s.bit (XE_ENG_CFG g n) XE_ENG_CFG.assigned = true → u.xeCanStart g n = true →
      u.homeBusy (u.descAt g n (u.eng g n).next) 64 false = [] → u.takeDesc g n = (d, t) → t.xeCheck g n d = xeOK →
      exec (.xeDescriptorStart g n) s =
        .next (((t.setEng g n { t.eng g n with prog := (t.eng g n).prog ++ [d] }).engView g n).askHost g n d)) ∧
    (∀ (i : Fin 2) d, (s.eng g n).prog[i.val]? = some d → s.fencedAt d = none → s.awaitsHost g n d = false → s.hostGate ≠ 0 →
      s.xeBusy d = ([], []) → d.op ≠ 1 →
      exec (.xeDescriptorComplete g n i) s = .next ((((s.xeMove d d.len).xeLeave g n d).xeFinish g n d xeOK
        (if d.op = 3 then 0 else d.len) 0).xeDrained g n))

/-- R303, R304, R321: the counts of a running stack's corrections saturate; a scrub read of a controller that runs counts a correctable
error, and an uncorrectable one of LPDDR5X loses its words; the event of the rate of errors is raised once in an hour. -/
def Obligations.MemoryControllers : Prop :=
  ∀ (s : State) (i : Fin 8) (k : Fin 16),
    (∀ count, (s.fld (HBM_STATUS i) HBM_STATUS.state = 1 ∨ s.fld (HBM_STATUS i) HBM_STATUS.state = 2) → count ≠ 0 →
      ∃ t, exec (.hbmEcsPoll i count none) s = .next t ∧ t.fld (HBM_ECC i) HBM_ECC.corrected =
          min (s.fld (HBM_ECC i) HBM_ECC.corrected + count.toNat) (2 ^ HBM_ECC.corrected.width - 1) ∧ s.sameMem t ∧
        s.regsBut t [HBM_ECC i]) ∧
    (1000 < (s.mc k).count → (s.mc k).raised = false → exec (.memCeRate k) s = .next
      ((s.setMc k { s.mc k with raised := true }).event 0x000A 0xFF
        (fieldsFrom 0 [(1, if k.val < 8 then 0 else 1), (1, k.val % 8), (4, (s.mc k).count)]))) ∧
    ((s.mc k).raised = true → exec (.memCeRate k) s = .next s) ∧
    (∀ line row spare, 8 ≤ k.val → s.fld (LP_STATUS (k.val - 8)) LP_STATUS.state = 1 →
      (∃ t, exec (.controllerPatrolScrub k line row spare .ce) s = .next t ∧ t.fld (LP_ECC (k.val - 8)) LP_ECC.corrected =
          min (s.fld (LP_ECC (k.val - 8)) LP_ECC.corrected + 1) (2 ^ LP_ECC.corrected.width - 1) ∧ s.sameMem t ∧
        s.regsBut t [LP_ECC (k.val - 8)]) ∧
      (∀ m, m ≠ 0 → exec (.controllerPatrolScrub k line row spare (.ue m)) s = .next
        ((s.loseWords (lpAddr (k.val - 8) (line.val * 64)) m.toNat).memUe k (line.val * 64)
          (lpAddr (k.val - 8) (line.val * 64)) 1)))

/-- R346, R348, R349, R353: a command that asks for values passes the shared checks and is replied to with OK and its result fields; the
reply's first 8 bytes are its tag, opcode and status, and nothing else of the module changes but the reply's slot, the index lines and
the command registers. A version that is not spoken is refused. No line is with the host and no event is asked for here. -/
def Obligations.QueriesReply : Prop :=
  ∀ (s : State) (h : CmdHdr) (c : Instr) (r : Row) (f : State → List (Nat × Nat)) (port : BitVec 8) (id : BitVec 32),
    (c, r, f) ∈ ([
      (Instr.identify h, ({ op := 0x0001, served := true } : Row), fun (u : State) =>
        [(2, u.part.number), (1, u.fld SCU_CMD_VERSION SCU_CMD_VERSION.minor), (1, u.fld SCU_CMD_VERSION SCU_CMD_VERSION.major),
          (4, u.fld SCU_CMD_VERSION SCU_CMD_VERSION.fw_version), (8, Config.serial), (2, u.fld HLTH_SUMMARY HLTH_SUMMARY.good),
          (1, u.fld TL_STATUS TL_STATUS.version), (1, u.freeCtxs.length), (4, u.fld HLTH_ID HLTH_ID.generation)]),
      (.deviceStatus h, { op := 0x0002, served := true }, fun u =>
        [(1, u.fld SCU_CMD_STATUS SCU_CMD_STATUS.out_of_service), (1, u.fld PWR_STATUS PWR_STATUS.state),
          (4, u.fld SCU_RESET_STATUS SCU_RESET_STATUS.compute_resets), (4, u.fld SCU_AON_ESC SCU_AON_ESC.module_resets),
          (8, u.fld SCU_EVT_LOST SCU_EVT_LOST.lost)]),
      (.ctxQuery h, { op := 0x0106, need := .exists }, fun u =>
        let x := h.ctx.toNat
        [(1, u.fld (SCU_CTX_STATE x) SCU_CTX_STATE.state), (1, u.fld (SCU_CTX_STATE x) SCU_CTX_STATE.epoch),
          (1, u.fld (SCU_CTX_REASON x) SCU_CTX_REASON.code), (1, u.fld (SCU_CTX_STATE x) SCU_CTX_STATE.reserves_free),
          (2, u.fld (SCU_CTX_STATE x) SCU_CTX_STATE.tiles), (1, u.fld (SCU_CTX_NDC_STATE x) SCU_CTX_NDC_STATE.incomplete),
          (8, u.fld (SCU_CTX_NDC x) SCU_CTX_NDC.count)]),
      (.streamQuery h id, { op := 0x0305, need := .exists }, fun u =>
        let x := u.slotOf h.ctx.toNat (id.toNat % 4096)
        [(1, if x.phase = 1 then 0 else if x.phase = 2 ∨ x.phase = 3 then 1 else 2), (1, x.cls), (1, b2n x.atRisk),
          (1, b2n x.shadow), (4, x.lastSeq), (4, x.gap),
          (4, (u.openEntries h.ctx.toNat (fun e => e.slot == id.toNat % 4096 && e.id == id.toNat)).length)]),
      (.memQuery h, { op := 0x0406 }, fun u =>
        [(4, u.freeBytes 0 / 2 ^ 20), (4, (u.freeBytes 1 + u.freeBytes 2) / 2 ^ 20), (4, u.store.retired.length),
          (1, u.fld HBM_ILV HBM_ILV.mode)]),
      (.secStatus h, { op := 0x0704, served := true }, fun u =>
        [(1, u.fld SEC_SVN SEC_SVN.fused), (2, u.fld SEC_STATUS SEC_STATUS.confidential),
          (8, u.fld SEC_LEAVES_USED SEC_LEAVES_USED.used)]),
      (.tbRead h, { op := 0x0901, served := true }, fun u =>
        [(8, u.tb), (8, u.fld CAL_SECONDS CAL_SECONDS.seconds), (4, u.fld CAL_NS CAL_NS.ns)]),
      (.pwrStatus h, { op := 0x0B03 }, fun u =>
        [(1, u.fld PWR_STATUS PWR_STATUS.state), (1, u.fld PWR_STATUS PWR_STATUS.throttled),
          (1, u.fld PWR_STATUS PWR_STATUS.emergency), (2, u.fld PWR_STATUS PWR_STATUS.power_w),
          (2, u.fld PWR_STATUS PWR_STATUS.inlet_c)]),
      (.lnStatus h port, { op := 0x0A03 }, fun u =>
        let n := port.toNat
        [(1, u.lnState n), (1, (List.range 4).countP (fun l => u.fld (LN_LANE n l) LN_LANE.state == 1)),
          (4, min (2 ^ 32 - 1) (u.fld (LN_AUTH n) LN_AUTH.auth_failures + u.fld (LN_AUTH n) LN_AUTH.unknown_rch)),
          (4, u.fld (LN_CRYPTO n) LN_CRYPTO.rekeys), (32, ofBytes (u.digestAt (LN_PARTNER n)))])] :
      List (Instr × Row × (State → List (Nat × Nat)))) →
    s.runs h r → s.ctxBusy h.ctx.toNat = false → s.power.target = none → port.toNat < 12 →
    s.isKnown h.ctx.toNat id.toNat = true →
    exec c s = .next ((s.takeCmd h.tag.toNat r.op).ok (cmdOf h r.op) (f (s.takeCmd h.tag.toNat r.op))) ∧
    (s.tl.filter = [] → s.tl.snoops = [] → h.flags = 0 → ∃ t, exec c s = .next t ∧
      t.bytes (repWindow + (s.tl.repIx % 1024) * 64) 8 =
        leBytes 2 h.tag.toNat ++ leBytes 2 r.op ++ [0, 0, 0, 0] ∧
      t.tl.repIx = s.tl.repIx + 1 ∧ s.regsBut t [SCU_CMD_TAKEN, SCU_CMD_STATUS, TL_DRDY] ∧
      ∀ a, (a < repWindow + (s.tl.repIx % 1024) * 64 ∨ repWindow + (s.tl.repIx % 1024) * 64 + 64 ≤ a) →
        (a < repProdLine ∨ repProdLine + 8 ≤ a) → (a < cmdConsLine ∨ cmdConsLine + 8 ≤ a) → t.byte a = s.byte a)

/-- R349: a command of a version that is not spoken is refused with VERSION, a tag that is held with TAG, and a command with a byte set after its
parameters with BAD_PARAM; in no case has it another effect. While firmware takes no commands nothing happens. -/
def Obligations.RefusedCommands : Prop :=
  ∀ (s : State) (h : CmdHdr),
    let u := s.takeCmd h.tag.toNat 0x0505
    let c := cmdOf h 0x0505
    (s.takesCommands = false → exec (.rotationResume h) s = .next s) ∧
    (s.takesCommands = true → s.inReset = false → s.fld PWR_STATUS PWR_STATUS.state = 0 →
      (h.major.toNat ≠ u.fld SCU_CMD_VERSION SCU_CMD_VERSION.major → exec (.rotationResume h) s = .next (u.reply c stVERSION 0)) ∧
      (h.major.toNat = u.fld SCU_CMD_VERSION SCU_CMD_VERSION.major →
        h.minor.toNat ≤ u.fld SCU_CMD_VERSION SCU_CMD_VERSION.minor →
        (s.tagHeld h.tag.toNat 0x0505 = true → exec (.rotationResume h) s = .next (u.reply c stTAG 0)) ∧
        (s.tagHeld h.tag.toNat 0x0505 = false →
          (u.bit SCU_CMD_STATUS SCU_CMD_STATUS.out_of_service = true → exec (.rotationResume h) s = .next (u.reply c stOUT 0)) ∧
          (u.bit SCU_CMD_STATUS SCU_CMD_STATUS.out_of_service = false → (4 ≤ h.flags.toNat ∨ bitOf h.flags.toNat 0 = true ∨ h.tail = true) →
            exec (.rotationResume h) s = .next (u.reply c stBAD_PARAM 0)))))

/-- R302, R353, R409, R419, R448, R453, R456: the commands of the device, power, time and diagnostics groups, where they pass their checks. -/
def Obligations.DeviceCommands : Prop :=
  ∀ (s : State) (h : CmdHdr),
    let u := fun op => s.takeCmd h.tag.toNat op
    let c := fun op => cmdOf h op
    (s.runs h { op := 0x0003 } →
      exec (.deviceConfig h 0xFF 0xFF 0xFF 0xFF) s = .next
        ((((u 3).setFld HBM_ILV HBM_ILV.mode ((u 3).fld HBM_ILV HBM_ILV.mode)).setFld SCU_AON_ESC SCU_AON_ESC.compute_reset_limit
          (s.fld SCU_AON_ESC SCU_AON_ESC.compute_reset_limit)).setFld SCU_AON_ESC SCU_AON_ESC.module_reset_limit
          (s.fld SCU_AON_ESC SCU_AON_ESC.module_reset_limit) |>.ok (c 3) [])) ∧
    (s.runs h { op := 0x0004 } → exec (.deviceResetCompute h) s = .next (((u 4).await (c 4) 0 0).computeTrigger 1 false)) ∧
    (s.runs h { op := 0x0004, served := true } → exec (.deviceResetModule h) s = .next
      (((((u 4).ok (c 4) []).setReg (SCU_AON_MRST 0) 0).setReg (SCU_AON_MRST 1) 0).setBit SCU_AON_ESC
        SCU_AON_ESC.out_of_service false |>.moduleReset 1 false)) ∧
    (∀ seconds ns, s.runs h { op := 0x0903 } → ns.toNat < 1000000000 → exec (.calSet h seconds ns) s = .next
      (((((u 0x0903).setFld CAL_SECONDS CAL_SECONDS.seconds seconds.toNat).setFld CAL_NS CAL_NS.ns ns.toNat).setBit CAL_NS
        CAL_NS.valid true).setCalSlew 0 |>.ok (c 0x0903) [])) ∧
    (∀ offset trim, s.runs h { op := 0x0904 } → trim.toInt.natAbs ≤ 100000 →
      (offset.toInt.natAbs ≤ 1000000000 → exec (.calDiscipline h offset trim) s = .next
        (((u 0x0904).setFld CAL_TRIM CAL_TRIM.trim_ppb trim.toNat).setCalSlew offset.toInt |>.ok (c 0x0904) [])) ∧
      (1000000000 < offset.toInt.natAbs → exec (.calDiscipline h offset trim) s = .next
        ((((u 0x0904).setFld CAL_TRIM CAL_TRIM.trim_ppb trim.toNat).setCalSlew 0).calAdd offset.toInt |>.ok (c 0x0904) []))) ∧
    (s.runs h { op := 0x0902 } → s.time.align = none → exec (.tbAlign h 16) s = .next
      { (u 0x0902).await (c 0x0902) 16 0 with
        time := { (u 0x0902).time with align := some { source := 16, tb := (u 0x0902).tb } } }) ∧
    (∀ limit, s.runs h { op := 0x0B02 } → s.power.target = none → (u 0x0B02).powerNeed none ≤ limit.toNat * 10 →
      limit.toNat ≤ (u 0x0B02).part.limitW → exec (.pwrLimit h limit) s = .next
        (((u 0x0B02).setFld PWR_CFG PWR_CFG.limit_w limit.toNat).ok (c 0x0B02) [])) ∧
    (∀ st, s.runs h { op := 0x0B01, forms := true } → s.power.target = none → s.sb.queue = [] → st ≠ 0 → st.toNat < 4 →
      (u 0x0B01).powerOver st.toNat ((c 0x0B01).form == 1) = false → exec (.pwrState h st 0) s = .next
        (((u 0x0B01).await (c 0x0B01) 0 st.toNat).powerBegin st.toNat (c 0x0B01).form [])) ∧
    (∀ window tile, s.runs h { op := 0x0801 } → window.toNat ≤ 2 → (window.toNat < 2 → (u 0x0801).confTile tile.toNat = false) →
      (u 0x0801).diagRange (diagWindow window.toNat tile.toNat).1 = none → (u 0x0801).diagCount < 8 →
      ∀ r, (u 0x0801).freeRange 0 64 = some r → exec (.diagOpen h window tile) s = .next
        (((u 0x0801).openAs r (diagWindow window.toNat tile.toNat).1 (diagWindow window.toNat tile.toNat).2 true false false).ok
          (c 0x0801) [])) ∧
    (∀ window tile r, s.runs h { op := 0x0802 } → window.toNat ≤ 2 →
      (u 0x0802).diagRange (diagWindow window.toNat tile.toNat).1 = some r →
      exec (.diagClose h window tile) s = .next (((u 0x0802).closeRange r).ok (c 0x0802) [])) ∧
    (∀ tile buffer, s.runs h { op := 0x0804 } → aligned64 buffer.toNat = true → inHost buffer.toNat 0x10000 = true →
      (u 0x0804).confTile tile.toNat = false → exec (.countersRead h tile buffer) s = .next
        (((u 0x0804).hostPut buffer.toNat ((u 0x0804).devBytes (tileRegs + tile.toNat * 0x10000) 0x10000)).ok (c 0x0804)
          [(4, 0x10000)])) ∧
    (∀ buffer offset length, s.runs h { op := 0x0803, served := true } → aligned64 buffer.toNat = true →
      offset.toNat + length.toNat ≤ sheetBytes → inHost buffer.toNat length.toNat = true →
      (u 0x0803).sheetState ≠ 2 → (u 0x0803).sheetState ≠ 3 → exec (.sheetRead h buffer offset length) s = .next
        (((u 0x0803).hostPut buffer.toNat ((u 0x0803).bytes (sheetBase + offset.toNat) length.toNat)).ok (c 0x0803)
          [(8, length.toNat), (1, 0)]))

/-- R216, R220 to R222, R235, R236, R250, R286, R353: the commands of a context, its plate, its streams and its proof rounds, where they pass their
checks. -/
def Obligations.ContextCommands : Prop :=
  ∀ (s : State) (h : CmdHdr),
    let x := h.ctx.toNat
    let u := fun op => s.takeCmd h.tag.toNat op
    let c := fun op => cmdOf h op
    (∀ hbm lp spill t, s.runs h { op := 0x0101, need := .free } → x < 16 →
      (u 0x0101).createCtx x hbm.toNat lp.toNat spill.toNat = some t →
      exec (.ctxCreate h hbm lp spill 0) s = .next (t.ok (c 0x0101) [(1, x)])) ∧
    (s.ctxBusy x = false →
      (∀ d p w, s.runs h { op := 0x0103, need := .exists } → 1 ≤ BitVec.toNat (w := 16) d → d.toNat ≤ 1000 →
        32 ≤ BitVec.toNat (w := 16) p → p ≠ 0xFFFF → 1 ≤ BitVec.toNat (w := 8) w → w.toNat ≤ 16 →
        exec (.ctxTiming h d p w) s = .next
          (((((u 0x0103).setFld (SCU_CTX_TIMING x) SCU_CTX_TIMING.drain_timeout_ms d.toNat).setFld (SCU_CTX_TIMING x)
            SCU_CTX_TIMING.progress_timeout_us p.toNat).setFld (SCU_CTX_TIMING x) SCU_CTX_TIMING.spill_width w.toNat).ok
            (c 0x0103) [])) ∧
      (s.runs h { op := 0x0102, need := .exists, forms := true } → (u 0x0102).cState x ∈ [1, 3, 6, 7] →
        exec (.ctxDestroy h) s = .next ((((u 0x0102).endJoin x).setCState x 7).await (c 0x0102) 0 0)) ∧
      (∀ launch, s.runs h { op := 0x0104, need := .exists } → launch ≠ 0 → s.tb ≤ launch.toNat →
        (u 0x0104).sb.estop = false → (u 0x0104).cState x = 3 → exec (.ctxStart h launch) s = .next
          ((((u 0x0104).endJoin x).commandStart x launch.toNat).ok (c 0x0104) [(8, launch.toNat)])) ∧
      (s.runs h { op := 0x0105, need := .exists, forms := true } → (u 0x0105).cState x = 4 →
        exec (.ctxStop h) s = .next (if bitOf h.flags.toNat 0 then ((u 0x0105).await (c 0x0105) 0 0).abortCtx x
          else ((u 0x0105).await (c 0x0105) 0 0).drainCtx x .ready)) ∧
      (∀ image length, aligned64 image.toNat = true → inHost image.toNat length.toNat = true →
        (s.runs h { op := 0x0201, need := .exists } → (u 0x0201).cState x = 1 → exec (.plateLoad h image length) s = .next
          (match (u 0x0201).checkPlate x image.toNat length.toNat (fun pl => (u 0x0201).remoteBad x pl) with
          | .inl r => ((u 0x0201).setReason x r.1 r.2.1 r.2.2).refuse (c 0x0201) r.1
          | .inr pl => (((u 0x0201).setCState x 2).await (c 0x0201) 0 0).stageLoad x pl)) ∧
        (s.runs h { op := 0x0203, need := .exists } → (u 0x0203).cState x = 4 →
          let v := (u 0x0203).setBit (SCU_CTX_STATE x) SCU_CTX_STATE.reconfiguring true
          exec (.plateReconfigure h image length) s = .next
            (((v.setCtx x { v.ctx x with newImg := image.toNat, newLen := length.toNat }).await (c 0x0203) 0 0).drainCtx x
              .reconfigure))) ∧
      (s.runs h { op := 0x0202, need := .exists } → ((u 0x0202).cState x = 3 ∨ (u 0x0202).cState x = 6) →
        exec (.plateUnload h) s = .next ((((u 0x0202).endJoin x).setCState x 7).await (c 0x0202) 0 0))) ∧
    (∀ cls on b j, s.runs h { op := 0x0301 } → BitVec.toNat (w := 8) cls < 4 → BitVec.toNat (w := 8) on ≤ 1 →
      1000 ≤ BitVec.toNat (w := 32) b → b.toNat ≤ 60000000 → BitVec.toNat (w := 32) j + 1000 ≤ b.toNat →
      (u 0x0301).classUsed cls.toNat = false → exec (.classSet h cls on b j) s = .next
        (((((u 0x0301).setFld (SCU_CLASS cls.toNat) SCU_CLASS.bound_us b.toNat).setFld (SCU_CLASS cls.toNat) SCU_CLASS.jitter_us
          j.toNat).setFld (SCU_CLASS cls.toNat) SCU_CLASS.admit_on on.toNat).setBit (SCU_CLASS cls.toNat) SCU_CLASS.valid true |>.ok
          (c 0x0301) [])) ∧
    (∀ d r1 r2, s.runs h { op := 0x0302, need := .exists } → 10 ≤ BitVec.toNat (w := 8) d → d.toNat ≤ 20 →
      (u 0x0302).cState x = 3 →
      let m := (u 0x0302).smap x
      let y := (u 0x0302).ctx x
      let stride := roundUp (128 + m.inDepth * m.inRecord) 4096
      let out := roundUp (128 + 2 ^ d.toNat * m.outRecord) 4096
      let t := (u 0x0302).closeStreams x
      out + m.slots * stride ≤ y.lpBytes → t.freeRange 0 64 = some r1 →
      (t.openAs r1 y.lpBase out true true true).freeRange 0 64 = some r2 →
      exec (.streamConfig h d) s = .next ((t.placeRings x y.lpBase out stride d.toNat r1 r2).ok (c 0x0302)
        [(8, y.lpBase), (8, y.lpBase + out), (4, stride)])) ∧
    (∀ cls shadow k need, s.runs h { op := 0x0303, need := .exists } → BitVec.toNat (w := 8) cls < 4 →
      BitVec.toNat (w := 8) shadow ≤ 1 → (u 0x0303).admission x cls.toNat (shadow == 1) = .inr (k, need) →
      let t := (u 0x0303).openStream x k cls.toNat (shadow == 1)
      exec (.streamOpen h cls shadow) s = .next (t.ok (c 0x0303) [(4, streamId x k (t.slotOf x k).gen), (4, need)])) ∧
    (∀ id, s.runs h { op := 0x0304, need := .exists, forms := true } → s.isCurrent x (BitVec.toNat (w := 32) id) = true →
      ((u 0x0304).slotOf x (id.toNat % 4096)).phase = 1 → bitOf h.flags.toNat 0 = false →
      exec (.streamClose h id) s = .next (((u 0x0304).beginClose x (id.toNat % 4096) false 0).okForm (c 0x0304) 0
        [(4, ((u 0x0304).slotOf x (id.toNat % 4096)).lastSeq)])) ∧
    (∀ steps ms en au, s.runs h { op := 0x0601, need := .exists } → steps ≠ 0 → steps ≠ 0xFFFF →
      100 ≤ BitVec.toNat (w := 32) ms → ms.toNat ≤ 3600000 → BitVec.toNat (w := 8) en ≤ 1 → BitVec.toNat (w := 8) au ≤ 1 →
      exec (.proofConfig h steps ms en au) s = .next
        ((((((u 0x0601).setFld (SCU_PROOF_CFG x) SCU_PROOF_CFG.interval_steps steps.toNat).setFld (SCU_PROOF_CFG x)
          SCU_PROOF_CFG.interval_ms ms.toNat).setFld (SCU_PROOF_CFG x) SCU_PROOF_CFG.enable en.toNat).setFld (SCU_PROOF_CFG x)
          SCU_PROOF_CFG.auto_loupe au.toNat).ok (c 0x0601) [])) ∧
    (s.runs h { op := 0x0602, need := .exists } → (u 0x0602).cState x ∈ [3, 4, 6] → ((u 0x0602).ctx x).loaded = true →
      (u 0x0602).bit (SCU_PROOF_STATUS x) SCU_PROOF_STATUS.round_active = false → exec (.proofRound h) s = .next
        (((u 0x0602).beginRound x ((u 0x0602).fld (SCU_STR_STEP x) SCU_STR_STEP.gather) (u 0x0602).tb).ok (c 0x0602)
          [(4, ((u 0x0602).ctx x).roundNo + 1)])) ∧
    (s.runs h { op := 0x0603, need := .exists } → ((u 0x0603).ctx x).lastRound = 0 →
      exec (.proofRead h) s = .next ((u 0x0603).ok (c 0x0603) [])) ∧
    (∀ buffer, s.runs h { op := 0x0604, need := .exists } → BitVec.toNat (w := 64) buffer % 64 = 0 →
      let l := ((u 0x0604).ctx x).lastRegions
      inHost buffer.toNat (l.flatMap (fun y => y.bytes)).length = true → exec (.proofRegions h buffer) s = .next
        (((u 0x0604).hostPut buffer.toNat (l.flatMap (fun y => y.bytes))).ok (c 0x0604)
          [(4, l.length), (4, ((u 0x0604).ctx x).lastRound)]))

/-- R260, R264, R280, R290, R294, R311, R319, R353: the commands of the health map, the tests, memory and the transfer engines, where they pass their
checks. -/
def Obligations.HealthAndMemoryCommands : Prop :=
  ∀ (s : State) (h : CmdHdr),
    let u := fun op => s.takeCmd h.tag.toNat op
    let c := fun op => cmdOf h op
    (∀ buffer, s.runs h { op := 0x0501, served := true } → BitVec.toNat (w := 64) buffer % 64 = 0 →
      inHost buffer.toNat 23168 = true → exec (.healthRead h buffer) s = .next
        (((u 0x0501).hostPut buffer.toNat (u 0x0501).healthImage).ok (c 0x0501)
          [(4, ((u 0x0501).hostPut buffer.toNat (u 0x0501).healthImage).fld HLTH_ID HLTH_ID.generation), (4, 23168)])) ∧
    (∀ tile tiles, s.runs h { op := 0x0502 } → (u 0x0502).health.loupe = [] → tiles = BitVec.zeroExtend 128 (tile : BitVec 8) →
      exec (.loupeRequest h 0 1 0 0 tiles) s = .next (((u 0x0502).loupeQueue [tile.toNat]).2.ok (c 0x0502)
        [(4, ((u 0x0502).loupeQueue [tile.toNat]).1), (1, 1)])) ∧
    (s.runs h { op := 0x0503, forms := true } → (u 0x0503).health.loupe = [] → bitOf h.flags.toNat 0 = false →
      exec (.loupeStop h) s = .next ((u 0x0503).ok (c 0x0503) [(1, 0)])) ∧
    (s.runs h { op := 0x0504, forms := true } → (u 0x0504).health.rotation = none → bitOf h.flags.toNat 0 = false →
      exec (.rotationPause h) s = .next (((u 0x0504).setBit HLTH_CFG HLTH_CFG.paused true).ok (c 0x0504) [])) ∧
    (s.runs h { op := 0x0505 } →
      exec (.rotationResume h) s = .next (((u 0x0505).setBit HLTH_CFG HLTH_CFG.paused false).ok (c 0x0505) [])) ∧
    (∀ tile, s.runs h { op := 0x0506 } → (u 0x0506).hState (BitVec.toNat (w := 8) tile) ≠ 3 →
      let t := ((u 0x0506).abandonTest tile.toNat).testsDone false
      t.workOn tile.toNat = none →
      exec (.tileFence h tile) s = .next ((t.fenceRecord tile.toNat 0x0D true t.tb).ok (c 0x0506) [])) ∧
    (∀ tile, s.runs h { op := 0x0507 } → (u 0x0507).hState (BitVec.toNat (w := 8) tile) = 3 →
      (u 0x0507).bit (HLTH_TILE tile.toNat) HLTH_TILE.permanent = false → (u 0x0507).inLoupe tile.toNat = false →
      (u 0x0507).lease tile.toNat = none → exec (.tileRetest h tile) s = .next
        (({ u 0x0507 with health := { (u 0x0507).health with loupe := (u 0x0507).health.loupe ++
          [({ tile := tile.toNat, retest := true } : LoupeTile)] } } : State).loupeView.ok (c 0x0507) [])) ∧
    (∀ w a l, s.runs h { op := 0x0508 } → 4 ≤ BitVec.toNat (w := 8) w → w.toNat ≤ 16 → BitVec.toNat (w := 8) a ≤ 1 →
      4 ≤ BitVec.toNat (w := 8) l → l.toNat ≤ 168 → (∀ p < 256, (u 0x0508).hState p ≠ 1) →
      ∃ t : State, exec (.healthConfig h w a l) s = .next (t.ok (c 0x0508) []) ∧
        t.fld HLTH_CFG HLTH_CFG.remap_warn = w.toNat ∧ t.fld HLTH_CFG HLTH_CFG.age_action = a.toNat ∧
        t.fld HLTH_CFG HLTH_CFG.test_age_limit_h = l.toNat) ∧
    (∀ kind pages a, s.runs h { op := 0x0401, need := .orDevice } → h.ctx = 0xFF → BitVec.toNat (w := 8) kind ≤ 2 →
      pages ≠ 0 → (u 0x0401).findSpace kind.toNat (BitVec.toNat (w := 32) pages * pageBytes) = some a →
      exec (.memAlloc h kind 0 pages) s = .next (((u 0x0401).openAlloc 16
        { addr := a, bytes := pages.toNat * pageBytes, owner := 16 }).elim ((u 0x0401).reply (c 0x0401) stNO_MEMORY 0)
          (fun t => t.ok (c 0x0401) [(8, a)]))) ∧
    (∀ address x, s.runs h { op := 0x0402 } →
      (u 0x0402).allocs.find? (fun y => y.addr == BitVec.toNat (w := 64) address && !y.created) = some x → x.owner = 16 →
      x.range = none → exec (.memFree h address) s = .next
        ((({ u 0x0402 with allocs := (u 0x0402).allocs.erase x } : State).followXts 16).ok (c 0x0402) [])) ∧
    (∀ e, BitVec.toNat (w := 8) e < 32 → 8 ≤ e.toNat % 16 →
      let g := e.toNat / 16
      let n := e.toNat % 16
      (s.runs h { op := 0x0404, forms := true } → (u 0x0404).bit (XE_ENG_STATUS g n) XE_ENG_STATUS.halted = false →
        exec (.xeStop h e) s = .next (((u 0x0404).await (c 0x0404) e.toNat 0).xeHalt g n (c 0x0404).form)) ∧
      (s.runs h { op := 0x0405 } → (u 0x0405).bit (XE_ENG_STATUS g n) XE_ENG_STATUS.halted = true →
        exec (.xeResume h e) s = .next (((u 0x0405).xeResume g n).ok (c 0x0405) [])) ∧
      (∀ rl cl ring cpl, s.runs h { op := 0x0403, need := .orDevice } → h.ctx = 0xFF →
        6 ≤ BitVec.toNat (w := 8) rl → rl.toNat ≤ 16 → 6 ≤ BitVec.toNat (w := 8) cl → cl.toNat ≤ 16 →
        BitVec.toNat (w := 64) ring % 4096 = 0 → BitVec.toNat (w := 64) cpl % 4096 = 0 →
        (u 0x0403).bit (XE_ENG_STATUS g n) XE_ENG_STATUS.halted = true →
        (u 0x0403).ringOk 16 ring.toNat (128 + 2 ^ rl.toNat * 64) = true →
        (u 0x0403).ringOk 16 cpl.toNat (128 + 2 ^ cl.toNat * 32) = true →
        ∃ t : State, exec (.xeAssign h e rl cl ring cpl) s = .next (t.ok (c 0x0403) []) ∧
          t.bit (XE_ENG_CFG g n) XE_ENG_CFG.assigned = true ∧ t.bit (XE_ENG_CFG g n) XE_ENG_CFG.device_use = true ∧
          t.fld (XE_ENG_RING g n) XE_ENG_RING.base = (ring.toNat + rl.toNat * 2 ^ 52) % 2 ^ XE_ENG_RING.base.width ∧
          (t.eng g n).next = 0 ∧ (t.eng g n).prog = []))

/-- R360, R364, R381, R389, R391, R396, R398: the commands of the links and of security, where they pass their checks. -/
def Obligations.LinkAndSecurityCommands : Prop :=
  ∀ (s : State) (h : CmdHdr),
    let x := h.ctx.toNat
    let u := fun op => s.takeCmd h.tag.toNat op
    let c := fun op => cmdOf h op
    (∀ port train, BitVec.toNat (w := 8) port < 12 →
      (s.runs h { op := 0x0A01 } → (u 0x0A01).lnState port.toNat = 0 → (u 0x0A01).lnWidth port.toNat ≠ none →
        exec (.lnEnable h port train) s = .next (((u 0x0A01).await (c 0x0A01) port.toNat 0).lnTrain port.toNat train)) ∧
      (s.runs h { op := 0x0A01 } → (u 0x0A01).lnState port.toNat = 6 →
        exec (.lnEnable h port train) s = .next ((u 0x0A01).refuse (c 0x0A01) 0x03)) ∧
      (s.runs h { op := 0x0A02, forms := true } → (u 0x0A02).lnState port.toNat ≠ 0 → (u 0x0A02).lnUp port.toNat = true →
        exec (.lnDisable h port) s = .next
          (((u 0x0A02).await (c 0x0A02) port.toNat 0).lnDisable port.toNat (bitOf h.flags.toNat 0))) ∧
      (∀ vid step, s.runs h { op := 0x0A04, need := .exists } →
        let v := u 0x0A04
        let pl := (v.ctx x).plate
        v.cState x = 3 → (pl.remotes.filter (fun r => r.role == 1)).all (fun r => v.lnState (nibble r.nibbles 0) == 3) = true →
        (v.joinOf x) = none → v.sb.estop = false → v.bit (XE_VMAP 0 x (BitVec.toNat (w := 8) vid)) XE_VMAP.valid = true →
        v.lnState port.toNat = 3 → exec (.lnJoin h port vid step) s = .next
          (((v.await (c 0x0A04) port.toNat 0).setJoin x
            { port := port.toNat, vid := vid.toNat, step := BitVec.toNat (w := 64) step }).lnManage port.toNat false
              { kind := fJOINREQ } (leBytes 8 pl.plateId ++ padTo 32 pl.proof)))) ∧
    (∀ buffer, aligned64 (BitVec.toNat (w := 64) buffer) = true →
      (∀ nonce, s.runs h { op := 0x0701, need := .orDevice, served := true } →
        (u 0x0701).bit SEC_STATUS SEC_STATUS.exhausted = false →
        let t := (u 0x0701).await (c 0x0701) 0 0
        exec (.attest h nonce buffer) s = .next (if inHost buffer.toNat ((u 0x0701).attestLength x) then
            t.queueSign { cmd := (t.waiting.getLast?).getD {}, nonce := leBytes 32 nonce.toNat, buffer := buffer.toNat }
          else (u 0x0701).reply (c 0x0701) stACCESS 0)) ∧
      (∀ slot, s.runs h { op := 0x0702, need := .exists } → inHost buffer.toNat 1692 = true →
        let v := u 0x0702
        let b := v.bytes buffer.toNat 1692
        ofBytes (b.take 4) = 0x4B4B5255 → ofBytes ((b.drop 4).take 2) = 1 → ofBytes ((b.drop 6).take 2) = 0 →
        v.isConf x = true → BitVec.toNat (w := 16) slot ≤ 15 → ofBytes ((b.drop 0x30).take 16) = 0 → v.cState x = 1 →
        exec (.keyImport h slot buffer 1692) s = .next (match unwrapKey b with
          | none => (v.importNote true).reply (c 0x0702) stAUTH 0
          | some key =>
            let w : WeightKey := { key := padTo 32 key, signer := (b.drop 0x10).take 32, plateId := ofBytes ((b.drop 8).take 8) }
            let t : State := { v with weightKeys := tset {} v.weightKeys (x * 16 + slot.toNat) w }
            ((t.slotsView x).importNote false).ok (c 0x0702) [])) ∧
      (s.runs h { op := 0x0703 } → inHost buffer.toNat 64 = true →
        let v := u 0x0703
        let key := v.bytes (buffer.toNat + 4) 60
        (∀ k, v.num buffer.toNat 4 = 0 → v.slotOfKey key = none → v.emptySlot = some k →
          exec (.keyEnroll h buffer 64) s = .next ((v.setEnrolled k key).ok (c 0x0703) [(32, ofBytes (sha256 key))])) ∧
        (∀ k, v.num buffer.toNat 4 = 1 → v.slotOfKey key = some k → v.keyNamed key = false →
          exec (.keyEnroll h buffer 64) s = .next ((v.setEnrolled k []).ok (c 0x0703) [(32, ofBytes (sha256 key))]))))

/-- R230, R234, R239, R241 to R243, R248, R250, R252: the events of a context's streams: a record of an open stream's ring is read, the next
gather takes place, a shadow is copied, what comes back at the edge die is acknowledged and completes, entries past their deadline
are lost, and a stream ends. Each, where its condition does not hold, changes nothing. -/
def Obligations.StreamEvents : Prop :=
  ∀ (s : State) (c : Fin 16) (k : Fin 4096),
    (s.cState c = 4 → (s.currentId c k).isSome = true → (s.slotOf c k).shadow = true →
      exec (.shadowCopy c k) s = .next (s.shadowMove c k true none)) ∧
    (s.cState c ≠ 4 → exec (.shadowCopy c k) s = .next s) ∧
    (∀ p t, s.gatherDue c = some p → s.fenced p = false → s.gatherAll c p = some t →
      exec (.gather c) s = .next (t.proofGather c (s.ctx c).gathers (s.gatherInstant c))) ∧
    (s.gatherDue c = none → exec (.gather c) s = .next s) ∧
    (∀ i x, s.arrivedFor 256 [kData, kToken] (fun m => s.isOutput m) = some (i, x) → x.msg.kind = kData →
      ∃ u y, exec .completion s = .next (State.completion u x.msg.ctx x.msg.tok.mark x.msg.payload) ∧
        u = { s with net := s.net.eraseIdx i ++ [y] } ∧ y.msg.kind = kAck ∧ y.msg.destTile = x.msg.srcTile ∧
        y.msg.destEp = x.msg.srcEp ∧ y.msg.chanSeq = x.msg.chanSeq) ∧
    (exec .deadlineTimer s = .next
      (s.dropAll (s.entries.filter (fun e => !e.closed && decide (e.deadline ≤ s.tb + 40))) 0x02 0x01)) ∧
    (exec (.overflowRecord c) s = .next ((s.overflowRec c).unfire (s.fld (SCU_STR_OUTRING c) SCU_STR_OUTRING.base + 64))) ∧
    (exec (.inputRingRead c k) s = .next (s.ringRead c k)) ∧
    (let x := s.slotOf c k
     (x.phase = 2 ∨ x.phase = 3) → s.slotClosed c k = true →
      (x.eosBack = true → exec (.streamEnd c k) s = .next ((s.endRecord c k x.endReason).freeSlot c k)) ∧
      (x.eosBack = false → exec (.streamEnd c k) s = .next s) ∧
      (x.eosBack = false → s.endLimit c k ≤ s.tb → exec (.endTimeout c k) s = .next
        (((s.endRecord c k 0x33).setSlot c k { x with phase := 4 }).streamView c)) ∧
      (s.tb < s.endLimit c k → exec (.endTimeout c k) s = .next s))

/-- R181, R211, R220 to R222, R288, R405: what completes the change of a context's state: an emptied drain, a drain that takes too long, units
that do not halt, digests of a load, a zeroisation, and the end of a proof round. In any other state each changes nothing. -/
def Obligations.ContextEvents : Prop :=
  ∀ (s : State) (c : Fin 16),
    (s.cState c = 5 → s.fld (SCU_CTX_STATE c) SCU_CTX_STATE.stop_mode = 0 →
      (s.ctxEmpty c = true → (s.ctx c).after ≠ .reconfigure → exec (.contextDrainComplete c) s = .next (s.endStop c false)) ∧
      (s.ctxEmpty c = true → (s.ctx c).after = .reconfigure → exec (.contextDrainComplete c) s = .next
        ((s.setCtx c { s.ctx c with after := .ready }).reconfigure c)) ∧
      (s.drainLimit c ≤ s.tb → (s.ctx c).drainAgain = true → exec (.contextDrainTimeout c) s = .next (s.abortCtx c)) ∧
      (s.drainLimit c ≤ s.tb → (s.ctx c).drainAgain = false → exec (.contextDrainTimeout c) s = .next
        ((s.setCtx c { s.ctx c with drainAgain := true, drainFrom := s.tb }).spillOrFail c)) ∧
      (s.tb < s.drainLimit c → exec (.contextDrainTimeout c) s = .next s)) ∧
    (s.cState c = 5 → (s.ctx c).drainAgain = true → s.drainLimit c + 100000 ≤ s.tb →
      exec (.drainFailed c) s = .next (s.computeTrigger 3 false)) ∧
    (s.cState c = 2 →
      (s.digestBad c = none →
        let t := (s.finishLoad c).setCState c 3
        exec (.loadReady c) s = .next ((t.setCtx c { t.ctx c with loaded := true, resent := 0 }).complete
          (fun w => w.op == 0x0201 && w.ctx == c.val) (fun u w => u.ok w.cmd (u.loadResults c)))) ∧
      (∀ r, s.digestBad c = some r → exec (.loadReady c) s = .next ((s.dropLoad c r true).complete
        (fun w => w.op == 0x0201 && w.ctx == c.val) (fun u w => u.refuse w.cmd r.1)))) ∧
    (s.cState c = 7 → s.waiting = [] → exec (.zeroiseComplete c) s = .next ((s.zeroised c false).complete
        (fun w => (w.op == 0x0102 || w.op == 0x0202) && w.ctx == c.val)
        (fun u w => u.okForm w.cmd (if w.op = 0x0102 then 1 else 0) []))) ∧
    (s.cState c = 1 → ∀ e ∈ [Instr.contextDrainComplete c, .contextDrainTimeout c, .drainFailed c, .loadReady c, .zeroiseComplete c],
      exec e s = .next s) ∧
    (s.bit (SCU_PROOF_STATUS c) SCU_PROOF_STATUS.round_active = true → (s.ctx c).pendingHashes = [] →
      ((s.finishRound c).ctx c).roundQueued = false → exec (.proofRoundEnd c) s = .next (s.finishRound c)) ∧
    (s.bit (SCU_PROOF_STATUS c) SCU_PROOF_STATUS.round_active = false → exec (.proofRoundEnd c) s = .next s)

/-- R254, R260, R261, R267, R271, R273, R279, R291, R403: the health manager answers the oldest signal, a watchdog that is enabled reports
a unit once, and the work of a failed tile moves; the rotation test and the loupe take up their next tile; the check of test ages, where
every tile in service has been reported before, only renews the view of the oldest one; a purge loses the SRAM of a fenced confidential
tile. -/
def Obligations.HealthEvents : Prop :=
  ∀ (s : State) (p : Tile) (c : Fin 16) (v : Fin 256),
    (∀ x rest, s.signals = x :: rest → exec .faultSignal s = .next (({ s with signals := rest } : State).respond x)) ∧
    (s.signals = [] → exec .faultSignal s = .next s) ∧
    (∀ k : Fin 8, s.bit (TILE_WD_CFG p) TILE_WD_CFG.wd_en = true → s.fenced p = false → s.unitWaiting p k = false →
      ∃ t, exec (.unitHang p k) s = .next t ∧ bitOf (t.fld (TILE_WD_STATUS p) TILE_WD_STATUS.hung_units) k = true ∧
        t.signals = s.signals ++ [{ kind := .hang, tile := p.val, arg := k.val, time := s.tb }] ∧ s.sameMem t ∧
        s.regsBut t [TILE_WD_STATUS p]) ∧
    (∀ h q u, s.health.heals.find? (fun h => h.ctx == c.val && h.vtile == v.val && h.target.isNone) = some h →
      s.healTarget c v false = some q → (s.endLost c v).moveWork c v h.tile q false false = .inr u →
      exec (.heal c v) s = .next (u.healTo h q)) ∧
    (∀ h, s.health.heals = [h] → h.ctx = c.val → h.target.isSome = true →
      let a := (({ s with health := { s.health with heals := [] } } : State).closeWindow c).recheck c
      let b := (a.replenish c (a.ctx c).plate.reserveTiles).publish
      exec (.healComplete c) s = .next (b.healDone c h.tile (h.target.getD 0) h.tb (b.tb - h.tb) false)) ∧
    (s.fwUp = true → s.bit HLTH_CFG HLTH_CFG.rotation_en = true → s.bit HLTH_CFG HLTH_CFG.paused = false → s.health.loupe = [] →
      s.health.rotation = none →
      let t := (s.setFld HLTH_ROT_STATUS HLTH_ROT_STATUS.skipped (min 255 (s.rotationOrder.countP (fun q => s.skips q)))).oldestView
      exec .rotationSchedule s = .next (((s.rotationOrder.filter (fun q => !t.skips q)).findSome? (fun q => t.rotate q)).getD t)) ∧
    (s.fwUp = true → s.health.loupe.countP (fun x => x.running) < 4 → exec .loupeStart s = .next
      (((s.health.loupe.filter (fun x => !x.running)).findSome? (fun x => s.loupeTry x)).getD s)) ∧
    (s.fwUp = true → (∀ q < 256, s.hState q = 3 ∨ s.health.overdue.contains q = true) → exec .testOverdue s = .next s.oldestView) ∧
    (∀ d, s.fenced p = true → s.lease p = some d → s.isConf d = true →
      let t := ((s.loseSram p).setBit (HLTH_TILE p) HLTH_TILE.permanent true).setBit SEC_FAULT SEC_FAULT.purge true
      let l := t.store.fences.filter (fun e => e.1 != p.val) ++ [(p.val, t.fld (HLTH_TILE p) HLTH_TILE.cause)]
      exec (.secPurge p) s = .next (({ t with store := { t.store with fences := l } } : State).publish)) ∧
    (s.fenced p = false → exec (.secPurge p) s = .next s)

/-- R408, R410, R415, R417, R428, R436, R437: the resets. COMPUTE_RESET ends the compute reset that is under way; a step of it that is too long,
RESET_N and a lost clock make a module reset, which returns every register outside the always-on domain, but those that the boot's
supply gives, to its reset value and loses all work. The watchdog, its dump stub and the warm restart. -/
def Obligations.Resets : Prop :=
  ∀ (s : State) (tiles : BitVec 256) (ports : BitVec 2048) (sections : Fin 8) (excerpts : BitVec 16),
    let restarted := fun (t : State) =>
      (∀ a, alwaysOn a = false → a ∉ [CLK_STATUS, PWR_CFG, TB_COUNT] → t.reg a = resetOf a) ∧ t.waiting = [] ∧ t.entries = [] ∧
        t.net = [] ∧ t.store = s.store
    (s.inReset = false → exec (.computeReset tiles ports) s = .next s ∧ exec .moduleReset s = .next s) ∧
    (s.inReset = true → ∃ u : State, u.inReset = false ∧ u.waiting.all (fun w => w.op != 0x0004) = true ∧
      exec (.computeReset tiles ports) s = .next u.estopHeldActs) ∧
    (∀ c : Instr, (c = .resetN true ∧ s.boot.powered = true) ∨ (c = .pllUnlock ∧ s.clocked = true) ∨
        (c = .moduleReset ∧ s.inReset = true) ∨
        (c = .stubTimeout ∧ s.bit SCU_WDT_STATUS SCU_WDT_STATUS.stub_active = true ∧ s.wdt.firedAt + 10000000 ≤ s.tb) →
      ∃ t, exec c s = .next t ∧ restarted t) ∧
    (exec (.resetN false) s = .next { s with boot := { s.boot with resetHeld := false } }) ∧
    (s.clocked = false → exec .pllUnlock s = .next s) ∧
    (s.bit SCU_WDT_STATUS SCU_WDT_STATUS.armed = true → s.fwUp = true → s.clocked = true → s.wdt.lastWrite + 2000000 ≤ s.tb →
      ∃ t, exec (.watchdogFire sections excerpts) s = .next t ∧ t.bit SCU_WDT_STATUS SCU_WDT_STATUS.fired = true ∧
        t.bit SCU_WDT_STATUS SCU_WDT_STATUS.stub_active = true ∧ t.wdt.firedAt = s.tb) ∧
    (s.tb < s.wdt.lastWrite + 2000000 → exec (.watchdogFire sections excerpts) s = .next s) ∧
    (s.bit SCU_WDT_STATUS SCU_WDT_STATUS.stub_active = true → s.sheetState ≠ 1 →
      (sha256 s.fwCopy ≠ s.digestAt SEC_FW_MEAS → ∃ t, exec .warmRestart s = .next t ∧
        t.bit SEC_FAULT SEC_FAULT.fw_copy_mismatch = true ∧ s.onlyRegs t [SEC_FAULT]) ∧
      (sha256 s.fwCopy = s.digestAt SEC_FW_MEAS → exec .warmRestart s = .next
        (({ s.setBit SCU_WDT_STATUS SCU_WDT_STATUS.stub_active false with wdt := { s.wdt with lastWrite := s.tb } } :
          State).computeTrigger 2 true))) ∧
    (s.bit SCU_WDT_STATUS SCU_WDT_STATUS.stub_active = false → exec .warmRestart s = .next s ∧ exec .stubTimeout s = .next s) ∧
    (s.fwUp = true → s.clocked = true → ∃ t, exec .belfryCount s = .next t ∧
      t.fld BELFRY_COUNT BELFRY_COUNT.count = (s.fld BELFRY_COUNT BELFRY_COUNT.count + 1) % 2 ^ BELFRY_COUNT.count.width ∧
      t.bit SCU_WDT_STATUS SCU_WDT_STATUS.armed = true ∧ t.wdt.lastWrite = s.tb ∧ s.sameMem t ∧
      s.regsBut t [BELFRY_COUNT, SCU_WDT_STATUS]) ∧
    (s.fwUp = false → exec .belfryCount s = .next s)

/-- R428 to R435, R438, R455: power comes up with the input in range, the boot ROM runs from the release of reset to the mailbox, an image is
loaded or refused, firmware ends the boot, and the input is watched. -/
def Obligations.BootAndInput : Prop :=
  ∀ (s : State) (a b iin : BitVec 16) (x : BootRun) (w : BitVec 12) (ok : Bool),
    let v := min a.toNat b.toNat
    (s.boot.powered = false →
      (40000 ≤ v → v ≤ 52000 → ∃ t, exec (.powerOn a b) s = .next t ∧ t.boot.powered = true ∧
        t.bit SCU_BOOT_STATUS SCU_BOOT_STATUS.cold = true ∧ t.fld PWR_INPUT PWR_INPUT.vin_mv = v ∧ s.sameMem t ∧
        s.regsBut t [SCU_BOOT_STATUS, TB_COUNT, PWR_INPUT]) ∧
      ((v < 40000 ∨ 52000 < v) →
        exec (.powerOn a b) s = .next { s with power := { s.power with vinA := a.toNat, vinB := b.toNat } }) ∧
      (exec (.inputRange a b iin) s = .next { s with power := { s.power with vinA := a.toNat, vinB := b.toNat } }) ∧
      (∃ t, exec .vbatLoss s = .next t ∧ (∀ a, alwaysOn a = true → t.reg a = resetOf a) ∧
        (∀ a, alwaysOn a = false → t.reg a = s.reg a) ∧ s.sameMem t ∧ t = { s with regs := t.regs }) ∧
      (exec (.bootSequence x) s = .next s)) ∧
    (s.boot.powered = true →
      (exec (.powerOn a b) s = .next s ∧ exec .vbatLoss s = .next s) ∧
      (∃ t, exec (.inputRange a b iin) s = .next t ∧ t.fld PWR_INPUT PWR_INPUT.vin_mv = v ∧
        t.fld PWR_INPUT PWR_INPUT.iin_10ma = iin.toNat ∧
        t.bit PWR_INPUT PWR_INPUT.uv_warn = decide (v < 40000) ∧ t.bit PWR_INPUT PWR_INPUT.ov_warn = decide (52000 < v) ∧
        (t.power.badSince.isSome = true ↔ v < 38000 ∨ 56000 < v) ∧
        ((v < 40000 ∨ 52000 < v) → s.bit PWR_INPUT PWR_INPUT.uv_warn = false → s.bit PWR_INPUT PWR_INPUT.ov_warn = false →
          t.sb.alert = true)) ∧
      (∀ since, s.power.badSince = some since →
        (since + 5000 ≤ s.tb → ∃ t, exec .inputShutdown s = .next t ∧ t.boot.powered = false ∧
          (∀ a, alwaysOn a = false → a ∉ [CLK_STATUS, PWR_CFG, TB_COUNT] → t.reg a = resetOf a)) ∧
        (s.tb < since + 5000 → exec .inputShutdown s = .next s)) ∧
      (s.boot.resetHeld = false → s.stage = 1 → s.fld PWR_STATUS PWR_STATUS.state ≠ 4 →
        exec (.bootSequence x) s = .next (s.bootRom x) ∧
        (x.pll = false → ∃ t, exec (.bootSequence x) s = .next t ∧ t.stage = 0x0F ∧
          t.fld SCU_BOOT_STATUS SCU_BOOT_STATUS.fail = 1 ∧ t.sb.alert = true))) ∧
    (s.stage = 6 → s.boot.mailbox = 1 → s.tl.fired.contains requestLine = true →
      let u := s.unfire requestLine
      let n := u.num requestLine 8
      let t := ({ u with boot := { u.boot with mailbox := 2, tag := u.num (requestLine + 8) 4 } } : State).setStage 7
      let img := t.bytes loadArea (min n loadBytes)
      exec .imageLoadRequest s = .next (match t.imageFault n img with
        | some code => t.refuseImage code
        | none => t.acceptImage n img) ∧
      (n = 0 → ∃ t, exec .imageLoadRequest s = .next t ∧ t.stage = 6 ∧ t.boot.mailbox = 1 ∧
        t.fld SCU_BOOT_STATUS SCU_BOOT_STATUS.fail = 9)) ∧
    (s.stage ≠ 6 → exec .imageLoadRequest s = .next s) ∧
    (s.stage = 8 →
      (s.sb.estopHeld = false → ∃ t, exec (.fwInit w ok) s = .next t ∧
        t.stage = (if s.bit SCU_AON_ESC SCU_AON_ESC.out_of_service then 0x0A else 0x09) ∧
        t.fld PWR_BASE PWR_BASE.base_w = w.toNat) ∧
      (s.boot.fwFrom + 200000000 ≤ s.tb →
        exec .fwInitTimeout s = .next ((s.setFld SCU_BOOT_STATUS SCU_BOOT_STATUS.fail 0x0A).moduleReset 6 false))) ∧
    (s.stage ≠ 8 → exec (.fwInit w ok) s = .next s ∧ exec .fwInitTimeout s = .next s)

/-- R439, R441, R442, R444, R445: the power manager lowers and raises the gates, marks an overload, reads the sensors, and begins and ends a
thermal emergency. While the module has no clock, none of them does anything. -/
def Obligations.PowerEvents : Prop :=
  ∀ (s : State) (watts : BitVec 12) (cw : BitVec 192) (x : Sensors),
    (s.clocked = false → ∀ c ∈ [Instr.gateStepDown watts, .gateStepUp watts cw, .sensorRead x, .thermalEmergency, .thermalEmergencyEnd],
      exec c s = .next s) ∧
    (s.clocked = true →
      (watts.toNat ≤ s.fld PWR_CFG PWR_CFG.limit_w →
        exec (.gateStepDown watts) s = .next { s with power := { s.power with overSince := none } }) ∧
      (s.fld PWR_CFG PWR_CFG.limit_w < watts.toNat → s.gatesShut = false →
        (s.fld PWR_GATE PWR_GATE.host_gate ≠ 0 → ∃ t, exec (.gateStepDown watts) s = .next t ∧
          t.fld PWR_GATE PWR_GATE.host_gate = s.fld PWR_GATE PWR_GATE.host_gate - 1 ∧
          t.fld PWR_GATE PWR_GATE.unprot_gate = s.fld PWR_GATE PWR_GATE.unprot_gate) ∧
        (s.fld PWR_GATE PWR_GATE.host_gate = 0 → s.fld PWR_GATE PWR_GATE.unprot_gate ≠ 0 →
          ∃ t, exec (.gateStepDown watts) s = .next t ∧ t.fld PWR_GATE PWR_GATE.host_gate = 0 ∧
            t.fld PWR_GATE PWR_GATE.unprot_gate = s.fld PWR_GATE PWR_GATE.unprot_gate - 1)) ∧
      (∃ t, exec (.gateStepUp watts cw) s = .next t ∧ t.fld PWR_STATUS PWR_STATUS.power_w = watts.toNat) ∧
      (∀ since, s.power.overSince = some since → s.bit PWR_STATUS PWR_STATUS.over_limit = false → since + 100000 ≤ s.tb →
        ∃ t, exec .overLimit s = .next t ∧ t.bit PWR_STATUS PWR_STATUS.over_limit = true) ∧
      (∀ since, s.power.fullSince = some since → s.bit PWR_STATUS PWR_STATUS.over_limit = true → s.protFull = true →
        since + 100000000 ≤ s.tb → ∃ t, exec .overLimitClear s = .next t ∧ t.bit PWR_STATUS PWR_STATUS.over_limit = false ∧
          s.onlyRegs t [PWR_STATUS]) ∧
      (∃ t, exec (.sensorRead x) s = .next t ∧ t.fld PWR_STATUS PWR_STATUS.inlet_c = x.inlet.toNat ∧
        ∀ i < 8, t.bit (HBM_STATUS i) HBM_STATUS.hot = decide (85 ≤ bits x.hbm.toNat (8 * i) 8)) ∧
      (∀ since, s.power.hotSince = some since → since + 100000 ≤ s.tb → s.bit PWR_STATUS PWR_STATUS.emergency = false →
        ∃ t, exec .thermalEmergency s = .next t ∧ t.bit PWR_STATUS PWR_STATUS.emergency = true ∧ t.sb.alert = true ∧
          t.fld PWR_GATE PWR_GATE.host_gate = 0 ∧ t.fld PWR_GATE PWR_GATE.unprot_gate = 0) ∧
      (∀ since, s.power.coolSince = some since → since + 100000000 ≤ s.tb → s.bit PWR_STATUS PWR_STATUS.emergency = true →
        s.bit PWR_STATUS PWR_STATUS.trip = false →
        ∃ t, exec .thermalEmergencyEnd s = .next t ∧ t.bit PWR_STATUS PWR_STATUS.emergency = false)) ∧
    (s.power.overSince = none → exec .overLimit s = .next s) ∧ (s.power.fullSince = none → exec .overLimitClear s = .next s)

/-- R453 to R456, R475: a slew of the timebase or the calendar moves it by its next step when that is due, an edge of SYNC_IN latches the
timebase where enabled, and an alignment to it that sees no edge within 2 s is refused (log 26). -/
def Obligations.TimeEvents : Prop :=
  ∀ (s : State) (frac : BitVec 6) (low : Bool),
    ((s.time.slew = 0 ∨ s.tb < s.time.slewAt + 10000) → exec .tbSlewStep s = .next s) ∧
    (s.time.slewAt + 10000 ≤ s.tb →
      (10 ≤ s.time.slew → ∃ t, exec .tbSlewStep s = .next t ∧
        t.fld TB_COUNT TB_COUNT.count = (s.fld TB_COUNT TB_COUNT.count + 2) % 2 ^ 64 ∧ t.time.slew = s.time.slew - 10 ∧
        s.sameMem t ∧ s.regsBut t [TB_COUNT, TB_SLEW]) ∧
      (s.time.slew ≤ -10 → ∃ t, exec .tbSlewStep s = .next t ∧
        t.fld TB_COUNT TB_COUNT.count = s.fld TB_COUNT TB_COUNT.count ∧ t.time.slew = s.time.slew + 10 ∧
        s.sameMem t ∧ s.regsBut t [TB_COUNT, TB_SLEW])) ∧
    ((s.time.calSlew = 0 ∨ s.tb < s.time.calAt + 2000) → exec .calSlewStep s = .next s) ∧
    (s.time.calAt + 2000 ≤ s.tb → 10 ≤ s.time.calSlew → ∃ t, exec .calSlewStep s = .next t ∧
      t.time.calSlew = s.time.calSlew - 10 ∧
      (s.fld CAL_NS CAL_NS.ns + 10 < 1000000000 → t.fld CAL_NS CAL_NS.ns = s.fld CAL_NS CAL_NS.ns + 10) ∧ s.sameMem t ∧
      s.regsBut t [CAL_NS, CAL_SECONDS]) ∧
    (s.bit TB_SYNC_CFG TB_SYNC_CFG.enable = false → exec (.syncInEdge frac) s = .next s) ∧
    (s.bit TB_SYNC_CFG TB_SYNC_CFG.enable = true → s.time.align = none → ∃ t, exec (.syncInEdge frac) s = .next t ∧
      t.reg TB_SYNC_LATCH = BitVec.ofNat 64 s.tb ∧ t.fld TB_SYNC_CFG TB_SYNC_CFG.frac = frac.toNat ∧
      s.onlyRegs t [TB_SYNC_LATCH, TB_SYNC_CFG]) ∧
    (∀ a, s.time.align = some a → a.source = 16 → a.tb + 200000000 ≤ s.tb →
      exec .noSync s = .next (s.endAlign (fun s w => s.refuse w.cmd 0x09))) ∧
    (s.time.align = none → exec .noSync s = .next s) ∧
    (∃ t, exec (.vbatLow low) s = .next t ∧ t.bit CAL_NS CAL_NS.vbat_low = low ∧ s.onlyRegs t [CAL_NS])

/-- R7, R388 to R390, R466 to R471, R480: the sampler starts, stops and takes its next instant; a register write takes effect as one
whole aligned word and in no other way; the signing queue; and the mirror that the sideband reads. -/
def Obligations.SamplerAndRegisterWrites : Prop :=
  ∀ (s : State) (addr : BitVec 52) (v : BitVec 64),
    ((s.restricted = true ∨ s.bit SMP_STATUS SMP_STATUS.running = true) → exec .samplerStart s = .next s) ∧
    (s.restricted = false → s.bit SMP_STATUS SMP_STATUS.running = false → ∃ t, exec .samplerStart s = .next t ∧
      t.bit SMP_STATUS SMP_STATUS.running = true ∧
      t.smp.t0 = (if s.fld SMP_START SMP_START.start_tb = 0 then s.tb + 10001 else s.fld SMP_START SMP_START.start_tb)) ∧
    (∃ t, exec .samplerStop s = .next t ∧ t.bit SMP_STATUS SMP_STATUS.running = false ∧ s.sameMem t ∧
      ∀ a, a ≠ SMP_STATUS → (∀ p < 256, a ≠ MU_CTRL p) → t.reg a = s.reg a) ∧
    ((s.bit SMP_STATUS SMP_STATUS.running = false ∨ s.tb < s.smp.t0 + s.smp.k * s.fld SMP_CFG SMP_CFG.interval) →
      exec .sampleInstant s = .next s) ∧
    (s.bit SMP_STATUS SMP_STATUS.running = true → s.smp.t0 + s.smp.k * s.fld SMP_CFG SMP_CFG.interval ≤ s.tb →
      let b := s.fld SMP_RING SMP_RING.base
      let seen := seenIndex (s.num (b + 64) 8) (s.modNum b 8) s.smp.seen
      let used := min (2 ^ s.fld SMP_RING SMP_RING.log2_depth) (unread (s.modNum b 8) seen)
      (used + s.smpSels.length ≤ 2 ^ s.fld SMP_RING SMP_RING.log2_depth ∨ s.bit SMP_CFG SMP_CFG.mode = true →
        ∃ t, exec .sampleInstant s = .next t ∧ t.smp.k = s.smp.k + 1 ∧
          t.fld SMP_WRITTEN SMP_WRITTEN.count =
            (s.fld SMP_WRITTEN SMP_WRITTEN.count + s.smpSels.length) % 2 ^ SMP_WRITTEN.count.width) ∧
      (2 ^ s.fld SMP_RING SMP_RING.log2_depth < used + s.smpSels.length → s.bit SMP_CFG SMP_CFG.mode = false →
        ∃ t, exec .sampleInstant s = .next t ∧ t.bit SMP_STATUS SMP_STATUS.running = false ∧
          t.bit SMP_STATUS SMP_STATUS.stopped_full = true ∧ s.sameMem t)) ∧
    (exec (.registerWrite addr false v) s = .next s) ∧
    (addr.toNat % 8 ≠ 0 → exec (.registerWrite addr true v) s = .next s) ∧
    (descOf addr.toNat = none → exec (.registerWrite addr true v) s = .next s) ∧
    (addr.toNat % 8 = 0 → exec (.registerWrite addr true v) s = .next (s.regWrite addr.toNat v.toNat)) ∧
    (∀ journalOk, s.sec.queue = [] → exec (.signingQueue journalOk) s = .next s) ∧
    (∀ journalOk r rest, s.sec.queue = r :: rest → s.bit SEC_STATUS SEC_STATUS.exhausted = false →
      (s.maySign = false → exec (.signingQueue journalOk) s = .next s) ∧
      (s.maySign = true → journalOk = false →
        s.fld SEC_LEAVES_RESV SEC_LEAVES_RESV.reserved_end ≤ s.fld SEC_LEAVES_USED SEC_LEAVES_USED.used →
        ∃ t, exec (.signingQueue journalOk) s = .next t ∧ t.bit SEC_FAULT SEC_FAULT.journal_fault = true ∧ s.onlyRegs t [SEC_FAULT]) ∧
      (s.maySign = true → journalOk = true → r.handshake = false → exec (.signingQueue journalOk) s = .next
        (let u := ({ s with sec := { s.sec with queue := rest } } : State).signView.reserveLeaves
         ({ u with waiting := u.waiting.erase r.cmd } : State).finishAttest r))) ∧
    (s.takesCommands = false → exec .mirrorRefresh s = .next s) ∧
    (s.takesCommands = true → ∃ t, exec .mirrorRefresh s = .next t ∧ t.sb.mirrorTb = s.tb ∧
      t.sb.mirror.take 5 = [s.fld HLTH_SUMMARY HLTH_SUMMARY.good, s.fld HLTH_SUMMARY HLTH_SUMMARY.degraded,
        s.fld HLTH_SUMMARY HLTH_SUMMARY.fenced, s.fld HLTH_SUMMARY HLTH_SUMMARY.untested, s.fld HLTH_ID HLTH_ID.generation] ∧
      s.sameMem t ∧ s.regsBut t [HLTH_OLDEST])

/-- R357 to R369, R381: a frame that reaches a port in service is opened: where its counter and tag hold, its kind has its effect, and where
they do not the port counts it and nothing else happens. A port that is not in service takes none. Whether a tag holds is opaque
(log 9). -/
def Obligations.LinkFrames : Prop :=
  ∀ (s : State) (n : LnPort) (f : LnFrame),
    (∀ (k : Nat) (c : Instr) (g : List Byte → State → State), (k, c, g) ∈ ([
        (fKEEPALIVE, Instr.keepalive n f, fun _ t => t),
        (fCLOSE, .close n f, fun _ t => t.lnDown n 5),
        (fTBREQ, .tbReq n f, fun _ t => t.stamp.2.lnManage n false { kind := fTBRSP } (leBytes 16 t.stamp.1 ++ leBytes 16 0)),
        (fSWITCH, .rekeySwitch n f, fun _ t => (t.port n).nextRx.elim t (fun k =>
          ((t.setPort n { t.port n with rx := k, nextRx := none }).setReg (LN_RX_CTR n) 0).rekeyEnd n)),
        (fREKEY, .rekey n (some f), fun _ t =>
          if t.lnState n = 3 ∧ s.bit (LN_STATUS n) LN_STATUS.initiator = true then (t.lnRekey n).lnKemStart n false else t),
        (fJOINREQ, .joinReq n f, fun b t =>
          ((List.range 16).find? (fun c => t.cState c == 4 && (t.ctx c).plate.plateId == fNum b 64 8 &&
            padTo 32 (t.ctx c).plate.proof == (b.drop 72).take 32)).elim (t.joinEnd n 0x04)
              (fun c => if t.isConf c then t.joinEnd n 0x05 else t.joinExport n c)),
        (fJOINEND, .joinEnd n f, fun b t => (t.importing n).elim t (fun e =>
          if fNum b 64 1 ≠ 0 then (t.dropJoin e.1).joinReply e.1 (fun s w => s.refuse w (fNum b 64 1))
          else if (t.commandStart e.1 e.2.t0).joinReached e.1 e.2 then (t.dropJoin e.1).joinReply e.1 (fun s w => s.refuse w 0x06)
          else (((t.commandStart e.1 e.2.t0).setBit (SCU_STR_STATE e.1) SCU_STR_STATE.gather_paused true).setBit
            (SCU_STR_STATE e.1) SCU_STR_STATE.admission_open false).setJoin e.1 { e.2 with imported := true })),
        (fKEM, .kem n f, fun b t =>
          let u := if t.lnState n = 3 ∧ t.bit (LN_STATUS n) LN_STATUS.initiator = false then t.lnRekey n else t
          if u.lnState n = 4 then u.lnKem n b false (fun s => s.lnDown n 6) else u)] :
        List (Nat × Instr × (List Byte → State → State))) →
      s.lnUp n = true →
      (fKind f = k → exec c s = .next (match s.lnOpen n f with
        | (none, t) => t
        | (some b, t) => g b t)) ∧
      (fKind f ≠ k → exec c s = .next s)) ∧
    (s.lnUp n = true → fWhole f = false → fKind f = fKEEPALIVE → (s.port n).authTimes = [] → ∃ t, exec (.keepalive n f) s = .next t ∧
      (s.fld (LN_AUTH n) LN_AUTH.auth_failures + 1 < 2 ^ LN_AUTH.auth_failures.width →
        t.fld (LN_AUTH n) LN_AUTH.auth_failures = s.fld (LN_AUTH n) LN_AUTH.auth_failures + 1) ∧
      t.fld (LN_AUTH n) LN_AUTH.last_second = 1 ∧ s.sameMem t ∧ s.regsBut t [LN_AUTH n]) ∧
    (s.lnUp n = true → fKind f = fTBRSP → s.time.align = none → exec (.tbRsp n f) s = .next (s.lnOpen n f).2) ∧
    (s.lnUp n = true → fKind f = fJOINDATA → s.joins = [] → exec (.joinData n f) s = .next (s.lnOpen n f).2) ∧
    (s.lnUp n = false → ∀ c ∈ [Instr.keepalive n f, .close n f, .tbReq n f, .tbRsp n f, .rekeySwitch n f, .rekey n (some f),
      .joinReq n f, .joinData n f, .joinEnd n f, .ingressFrame n f, .transitFrame n f, .proxyCredit n f], exec c s = .next s)

/-- R355, R358 to R364, R367: what time and the wire do to a port: training, its limits, a lost lock, silence, missing credits, a handshake or
a rekey that is too long, and a disable. A port that goes DOWN says why. -/
def Obligations.LinkEvents : Prop :=
  ∀ (s : State) (n : LnPort) (lane : Fin 4) (x : Option LnTrain),
    (∀ (c : Instr) (r : Nat), (c, r) ∈ [(Instr.trainTimeout n, 0), (.keepaliveTimeout n, 1), (.creditTimeout n, 2),
        (.rekeyTimeout n, 6)] →
      (c = .trainTimeout n → s.lnState n = 1 ∧ (s.port n).since + s.fld (LN_TIMERS n) LN_TIMERS.train_timeout_ms * 100000 ≤ s.tb) →
      (c = .keepaliveTimeout n →
        s.lnUp n = true ∧ (s.port n).lastAuth + s.fld (LN_TIMERS n) LN_TIMERS.keepalive_timeout_us * 100 ≤ s.tb) →
      (c = .creditTimeout n → s.lnUp n = true ∧
        ∃ b, some b ∈ (s.port n).stalled ∧ b + s.fld (LN_TIMERS n) LN_TIMERS.credit_timeout_ms * 100000 ≤ s.tb) →
      (c = .rekeyTimeout n → s.lnState n = 4 ∧ (s.port n).hs.tb + 20000000 ≤ s.tb) →
      ∃ t, exec c s = .next t ∧ t.lnState n = 5 ∧ t.fld (LN_STATUS n) LN_STATUS.down_reason = r) ∧
    (s.lnState n = 0 →
      (∀ c ∈ [Instr.trainTimeout n, .keepaliveTimeout n, .creditTimeout n, .rekeyTimeout n, .handshakeTimeout n, .keepaliveSend n,
        .downRetry n x, .lnRetrain n true, .rekey n none, .lnReplay n lane .failed, .lvcCredit n lane 1], exec c s = .next s) ∧
      exec (.lnPortEnable n x) s = .next (s.lnTrain n x) ∧
      (∃ t, exec (.lnPortEnable n none) s = .next t ∧ t.lnState n = 1 ∧ s.sameMem t ∧ s.regsBut t [LN_STATUS n]) ∧
      (∃ t, exec (.lnDisableReq n 0) s = .next t ∧ t.fld (LN_CTRL n) LN_CTRL.disable_mode = 0 ∧ s.onlyRegs t [LN_CTRL n])) ∧
    (s.lnState n ≠ 0 → exec (.lnPortEnable n x) s = .next s ∧
      (∀ mode : BitVec 2, mode.toNat < 2 → exec (.lnDisableReq n mode) s = .next
        ((s.setFld (LN_CTRL n) LN_CTRL.disable_mode mode.toNat).lnDisable n (mode == 1)))) ∧
    (s.lnState n = 2 → (s.port n).hs.tb + 20000000 ≤ s.tb → ∃ t, exec (.handshakeTimeout n) s = .next t ∧
      (t.port n).hsFails = (s.port n).hsFails + 1 ∧
      ((s.port n).hsFails < 2 → t.lnState n = 5 ∧ t.fld (LN_STATUS n) LN_STATUS.down_reason = 6) ∧
      (2 ≤ (s.port n).hsFails → t.lnState n = 6 ∧ t.fld (LN_STATUS n) LN_STATUS.fence_cause = 2)) ∧
    (s.lnState n = 5 → (s.port n).since + 100000000 ≤ s.tb → (s.port n).draining = false →
      exec (.downRetry n x) s = .next (s.lnTrain n x)) ∧
    (s.lnUp n = true →
      ((s.port n).lastSent + 1000 ≤ s.tb → exec (.keepaliveSend n) s = .next (s.lnManage n false { kind := fKEEPALIVE } [])) ∧
      (s.tb < (s.port n).lastSent + 1000 → exec (.keepaliveSend n) s = .next s) ∧
      (∃ t, exec (.lnReplay n lane .failed) s = .next t ∧ (t.port n).failedReplays = (s.port n).failedReplays + 1 ∧ s.sameMem t ∧
        s.regsBut t [LN_ERR n, LN_RETRY n]) ∧
      (∃ t, exec (.lnReplay n lane .replayed) s = .next t ∧ (t.port n).failedReplays = 0 ∧ s.sameMem t ∧
        s.regsBut t [LN_ERR n, LN_RETRY n]) ∧
      (∃ t, exec (.lnReplay n lane .corrected) s = .next t ∧ s.onlyRegs t [LN_ERR n, LN_LANE n lane, HLTH_LANE (4 * n + lane)]) ∧
      ((s.port n).failedReplays < 8 → exec (.lnRetrain n false) s = .next s) ∧
      ((∀ b ∈ (s.port n).retrains, b + 100000000 ≤ s.tb) → ∃ t, exec (.lnRetrain n true) s = .next t ∧
        (t.port n).retrains = [s.tb] ∧ t.lnState n = s.lnState n ∧ s.sameMem t ∧ s.regsBut t [LN_RETRY n]) ∧
      (∀ a b, (s.port n).retrains = [a, b] → s.tb < a + 100000000 → s.tb < b + 100000000 →
        ∃ t, exec (.lnRetrain n true) s = .next t ∧ t.lnState n = 5 ∧ t.fld (LN_STATUS n) LN_STATUS.down_reason = 3)) ∧
    (∀ units : BitVec 16, s.lnUp n = true → (s.port n).queue = [] → (s.port n).draining = false →
      ∃ t, exec (.lvcCredit n lane units) s = .next t ∧ s.sameMem t ∧ s.regsBut t [] ∧
        (∀ l < 4, (s.port n).credits.length = 4 → (t.port n).credits.getD l 0 =
          (s.port n).credits.getD l 0 + if l = lane.val then units.toNat else 0)) ∧
    ((s.port n).draining = true →
      (s.port n).drainFrom + max 1 (s.fld (LN_CTRL n) LN_CTRL.drain_timeout_ms) * 100000 ≤ s.tb →
      exec (.lnDrainTimeout n) s = .next (s.lnOff n true)) ∧
    ((s.port n).draining = false → exec (.lnDrainTimeout n) s = .next s) ∧
    (s.lnState n = 3 → s.rekeyDue n = true → exec (.rekey n none) s = .next
      (if s.bit (LN_STATUS n) LN_STATUS.initiator then (s.lnRekey n).lnKemStart n false
        else (s.lnRekey n).lnManage n false { kind := fREKEY } [])) ∧
    (s.lnState n = 3 → s.rekeyDue n = false → exec (.rekey n none) s = .next s)

/-- R362, R363, R366, R370 to R377, R381, R382: the messages of a handshake at a port that waits for them, the frames that routers pass on
or ingress proxies take in, the egress proxies that send, and the step at which a join is reached. -/
def Obligations.LinkHandshakesAndProxies : Prop :=
  ∀ (s : State) (n : LnPort) (f : LnFrame),
    (s.lnState n = 2 → (s.port n).hs.active = true → fWhole f = true →
      let u := s.addWrap (LN_FRAMES_RX n) 1
      let h := (s.port n).hs
      (fKind f = fHELLO → (h.haveHello = true ∨ fNum f 46 1 ≤ fNum f 45 1) → exec (.hello n f) s = .next
        (State.lnFail (u.setPort n { u.port n with hs := { h with parts := tset [] h.parts (fNum f 45 1) (fSigned f) } }) n)) ∧
      (fKind f = fHELLO → h.haveHello = false → fNum f 45 1 = 0 → fNum f 46 1 = 1 → h.parts = [] → exec (.hello n f) s = .next
        (State.lnHelloDone (u.setPort n { u.port n with hs := { h with parts := tset [] [] 0 (fSigned f) } }) n
          ((tget [] (tset [] [] 0 (fSigned f)) 0).drop 64))) ∧
      (fKind f = fKEM → h.haveHello = true → exec (.kem n f) s = .next (u.lnKem n (fSigned f) true (fun s => s.lnFail n))) ∧
      (fKind f = fKEM → h.haveHello = false → exec (.kem n f) s = .next (u.lnFail n)) ∧
      (fKind f = fSIGN → exec (.sign n f) s = .next
        (if !h.digest.isEmpty && Config.chainOk h.chain h.partnerKey && Config.hssVerify h.partnerKey h.digest (fPayload f) then
          State.lnFinish (u.setPort n { s.port n with hs := { h with verified := true } }) n
        else u.lnFail n))) ∧
    (s.lnState n = 2 → fKind f = fFINISHED →
      ((s.port n).hs.digest = [] → exec (.finished n f) s = .next (s.lnFail n)) ∧
      ((s.port n).hs.digest ≠ [] → exec (.finished n f) s = .next (match s.lnOpen n f with
        | (none, t) => if t.lnState n = 2 then t.lnFail n else t
        | (some _, t) => State.lnFinish (t.setPort n { t.port n with hs := { (t.port n).hs with finGot := true } }) n))) ∧
    (s.lnState n ≠ 2 → ∀ c ∈ [Instr.hello n f, .sign n f, .finished n f], exec c s = .next s) ∧
    (s.lnUp n = true →
      let hopBad := fun b => fNum b 2 1 = 0 ∨ fNum b 3 1 < fNum b 2 1
      (fRouted f = true → fFinal f = false → exec (.transitFrame n f) s = .next (match s.lnOpen n f with
        | (none, t) => t
        | (some b, t) =>
          let out := nibble (routeIn b n) (fNum b 2 1)
          if hopBad b ∨ 11 < out ∨ out / 6 ≠ n.val / 6 then t.lnUnknown n
          else if !t.lnUp out || (t.port out).draining then t.addSat (LN_CRYPTO out) LN_CRYPTO.dropped 1
          else t.lnQueue out (fNum b 1 1 % 4) false (withRoute b (fNum b 2 1 + 1) (routeIn b n)))) ∧
      (fKind f = fCREDIT → fFinal f = true → exec (.proxyCredit n f) s = .next (match s.lnOpen n f with
        | (none, t) => t
        | (some b, t) =>
          if hopBad b then t.lnUnknown n
          else ((List.range 64).find? (fun i => t.bit (LN_EGRESS_W0 (n / 6) i) LN_EGRESS_W0.valid &&
            t.fld (LN_EGRESS_W0 (n / 6) i) LN_EGRESS_W0.rch == fNum b 20 2)).elim (t.lnUnknown n)
              (fun i => t.addSat (LN_EGRESS_W3 (n / 6) i) LN_EGRESS_W3.credits (fNum b 40 4)))) ∧
      (fRouted f = true → fKind f ≠ fCREDIT → fFinal f = true → exec (.ingressFrame n f) s = .next (match s.lnOpen n f with
        | (none, t) => t
        | (some b, t) =>
          if hopBad b then t.lnUnknown n
          else ((List.range 64).find? (fun i => t.bit (LN_INGRESS_W0 (n / 6) i) LN_INGRESS_W0.valid &&
            t.fld (LN_INGRESS_W0 (n / 6) i) LN_INGRESS_W0.rch == fNum b 20 2 && ingressKinds.contains (fKind b))).elim
              (t.lnUnknown n) (fun i =>
                let d := n.val / 6
                let x := t.ing (d * 64 + i)
                let back := reverseRoute (routeIn b n) (fNum b 3 1)
                let first := x.returnHops = 0
                let u := if first then (t.setReg (LN_INGRESS_W2 d i) (BitVec.ofNat 64 back)).setReg (LN_INGRESS_W3 d i)
                  (BitVec.ofNat 64 (back / 2 ^ 64)) else t
                let y := if first then { x with returnHops := fNum b 3 1 } else x
                if t.fld (LN_INGRESS_W1 d i) LN_INGRESS_W1.buffer_kib * 16 < x.held + (frameMsg b).units then
                  (u.setIng (d * 64 + i) y).addSat (LN_CRYPTO n) LN_CRYPTO.dropped 1
                else (u.setIng (d * 64 + i) { y with buf := y.buf ++ [frameMsg b] }).inPumpAll d i)))) ∧
    (∀ (die : Fin 2) (proxy : Fin 64),
      ((s.eg (die * 64 + proxy)).buf = [] → exec (.egressSend die proxy) s = .next s) ∧
      (∀ m y rest, (s.eg (die * 64 + proxy)).buf = (m, y) :: rest →
        let w := LN_EGRESS_W3 die proxy
        let p := s.egPort die proxy
        (s.fld w LN_EGRESS_W3.credits < m.units → exec (.egressSend die proxy) s = .next s) ∧
        (s.lnUp p = true → (s.port p).draining = false → m.units ≤ s.fld w LN_EGRESS_W3.credits →
          exec (.egressSend die proxy) s = .next
            (((s.setFld w LN_EGRESS_W3.credits (s.fld w LN_EGRESS_W3.credits - m.units)).setEg (die * 64 + proxy)
              { s.eg (die * 64 + proxy) with buf := rest }).lnQueue p (s.fld (LN_EGRESS_W0 die proxy) LN_EGRESS_W0.lvc) false
                (s.egFrame die proxy m))))) ∧
    (∀ c : Fin 16, (s.joinOf c = none → exec (.joinStepReached c) s = .next s) ∧
      (∀ x, s.joinOf c = some x → (x.imported = false → exec (.joinStepReached c) s = .next s) ∧
        (x.imported = true → s.joinReached c x = true → s.health.heals = [] → s.waiting = [] →
          ∃ t, exec (.joinStepReached c) s = .next t ∧ t.joinOf c = none ∧
            t.bit (SCU_STR_STATE c) SCU_STR_STATE.admission_open = true ∧
            t.bit (SCU_STR_STATE c) SCU_STR_STATE.gather_paused = false ∧
            (t.ctx c).gathers = (if x.period = 0 ∨ s.tb < x.t0 then 0 else (s.tb - x.t0) / x.period + 1) ∧ s.sameMem t)))

/-- R479 to R483: what a block read of the sideband returns, in the lengths of R480; a read of STATUS releases SB_ALERT_N, and no read
writes a register or memory. -/
def Obligations.SidebandReads : Prop :=
  ∀ s : State,
    (s.boot.powered = true →
      (∃ t, exec .status s = .next t ∧ t = { s with sb := t.sb } ∧ t.sb.alert = false ∧
        t.sb.answer = leBytes 1 s.stage ++ leBytes 1 (s.fld SCU_BOOT_STATUS SCU_BOOT_STATUS.fail) ++
          leBytes 1 (s.fld PWR_STATUS PWR_STATUS.state) ++ leBytes 1 s.sbFlags ++ leBytes 1 s.sb.code ++ leBytes 1 s.sb.result ++ [0, 0] ∧
        t.sb.answer.length = 8) ∧
      (∃ t, exec .telemetry s = .next t ∧ t = { s with sb := t.sb } ∧ t.sb.alert = s.sb.alert ∧ t.sb.answer.length = 16 ∧
        t.sb.answer.take 8 = leBytes 2 (s.fld PWR_INPUT PWR_INPUT.vin_mv) ++ leBytes 2 (s.fld PWR_INPUT PWR_INPUT.iin_10ma) ++
          leBytes 2 (s.fld PWR_STATUS PWR_STATUS.power_w) ++ leBytes 2 (s.fld PWR_CFG PWR_CFG.limit_w)) ∧
      (∃ t, exec .health s = .next t ∧ t = { s with sb := t.sb } ∧ t.sb.alert = s.sb.alert ∧ t.sb.answer.length = 16 ∧
        ∀ i < 4, (t.sb.answer.drop (2 * i)).take 2 = leBytes 2 (s.sb.mirror.getD i 0)) ∧
      (∃ t, exec .boot s = .next t ∧ t = { s with sb := t.sb } ∧ t.sb.alert = s.sb.alert ∧ t.sb.answer.length = 20 ∧
        t.sb.answer.take 2 = leBytes 1 s.stage ++ leBytes 1 (s.fld SCU_BOOT_STATUS SCU_BOOT_STATUS.fail))) ∧
    (s.boot.powered = false → ∀ c ∈ [Instr.status, .telemetry, .health, .boot], exec c s = .next s)

/-- R479 to R482: the writes of the sideband. One with a wrong PEC is ignored and counted; an emergency stop shuts every gate; a release opens
them again; a reset request asks for a compute reset while the module serves; a power request is refused, woken for or executed. -/
def Obligations.SidebandWrites : Prop :=
  ∀ (s : State) (v : BitVec 8),
    (∀ c : Bool → Instr, c ∈ [Instr.powerReq v, .estop v, .estopRelease v, .resetReq v] →
      (s.boot.powered = false → ∀ pec, exec (c pec) s = .next s) ∧
      (s.boot.powered = true → exec (c false) s = .next { s with sb := { s.sb with pecFaults := s.sb.pecFaults + 1 } })) ∧
    (s.boot.powered = true →
      (v ≠ 0xE5 → exec (.estop v true) s = .next s) ∧ (v ≠ 0x5E → exec (.estopRelease v true) s = .next s) ∧
      (v ≠ 0 → exec (.resetReq v true) s = .next s) ∧
      (s.sb.estop = false → s.takesCommands = false → ∃ t, exec (.estop 0xE5 true) s = .next t ∧ t.sb.estop = true ∧
        t.sb.estopHeld = true ∧ t.sb.code = 0x20 ∧ t.sb.result = 1 ∧ t.fld PWR_GATE PWR_GATE.host_gate = 0 ∧
        t.fld PWR_GATE PWR_GATE.unprot_gate = 0) ∧
      (s.sb.estop = false → s.takesCommands = true → s.inReset = false → exec (.estop 0xE5 true) s = .next
        ((({ s with sb := { s.sb with estop := true } } : State).shutGates.gateView.sbResult 0x20 0).alert.estopAct)) ∧
      (∃ t, exec (.estopRelease 0x5E true) s = .next t ∧ t.sb.estop = false ∧ t.sb.estopHeld = false ∧ t.sb.code = 0x21 ∧
        t.sb.result = 0) ∧
      (s.stage = 9 → s.takesCommands = true → s.bit SCU_CMD_STATUS SCU_CMD_STATUS.out_of_service = false →
        exec (.resetReq 0 true) s = .next ((s.sbResult 0x30 1).computeTrigger 4 false)) ∧
      (s.stage ≠ 9 → exec (.resetReq 0 true) s = .next (s.sbResult 0x30 2)) ∧
      (let st := bits v.toNat 0 3
       let form := bits v.toNat 3 1
       (st = 0 → (s.fld PWR_STATUS PWR_STATUS.state = 3 ∨ s.fld PWR_STATUS PWR_STATUS.state = 4) →
        exec (.powerReq v true) s = .next (s.wake.sbResult 0x10 0)) ∧
       (st ≠ 0 → s.sbRefused st = true → exec (.powerReq v true) s = .next (s.sbResult 0x10 2)) ∧
       (st ≠ 0 → s.sbRefused st = false → s.power.target = none → s.inReset = false →
        exec (.powerReq v true) s = .next (((s.wake).sbResult 0x10 1).powerBegin st form [])) ∧
       (∀ e, st ≠ 0 → s.sbRefused st = false → s.power.target = some e → (form = 0 ∨ e ≠ (st, 0)) →
        exec (.powerReq v true) s = .next
          (({ s with sb := { s.sb with queue := s.sb.queue ++ [(st, form)] } } : State).sbResult 0x10 1))))

/-- R484, R485: an instruction of the test access port is held in its instruction register, and TDO shows what it selects. Where the port is
restricted DEBUG and the boundary instructions act as BYPASS; the module itself changes only by a DEBUG write. -/
def Obligations.TapInstructions : Prop :=
  ∀ s : State,
    (s.boot.powered = true →
      (∀ (c : Instr) (ir tdo : Nat), (c, ir, tdo) ∈ [(Instr.bypass, 0x3F, 0), (.idcode, 1, s.idcode), (.tapReset, 1, s.idcode),
          (.clamp, 4, 0), (.highz, 5, 0)] →
        exec c s = .next { s with tap := { ir := ir, tdo := tdo } }) ∧
      (s.tapRestricted = true → exec .samplePreload s = .next { s with tap := { ir := 2, tdo := 0 } } ∧
        ∀ x, exec (.debug x) s = .next { s with tap := { ir := 0x20, tdo := 0 } }) ∧
      (s.mayDrive = false → exec .extest s = .next { s with tap := { ir := 3, tdo := 0 } }) ∧
      (s.tapRestricted = false →
        (∃ t, exec .samplePreload s = .next t ∧ t.tap.ir = 2 ∧ t = { s with tap := t.tap, freeCtr := t.freeCtr }) ∧
        (s.boot.resetHeld = true → ∃ t, exec .extest s = .next t ∧ t.tap.ir = 3 ∧ t = { s with tap := t.tap, freeCtr := t.freeCtr }) ∧
        (∀ a : BitVec 52, s.inReset = false → s.boot.resetHeld = false → s.clocked = true → s.debugReaches a.toNat = true →
          exec (.debug (.read a)) s = .next { s with tap := { ir := 0x20, tdo := (s.reg a.toNat).toNat } } ∧
          ∀ v, exec (.debug (.write a v)) s = .next ((s.regWrite a.toNat v.toNat).tapLoad 0x20 0)) ∧
        (∀ a : BitVec 52, (s.inReset = true ∨ s.boot.resetHeld = true) → ∀ v,
          exec (.debug (.read a)) s = .next { s with tap := { ir := 0x20, tdo := allOnes } } ∧
          exec (.debug (.write a v)) s = .next { s with tap := { ir := 0x20, tdo := allOnes } }))) ∧
    (s.boot.powered = false → ∀ c ∈ [Instr.bypass, .idcode, .tapReset, .samplePreload, .extest, .clamp, .highz],
      (∃ t, exec c s = .next t ∧ t = { s with freeCtr := t.freeCtr }))
end

