-- ==== Sys2Proof/Laws/Exec.lean ====
section
/-! SUPPORT. Laws/Exec.lean: the arm of each command, so that no proof unfolds `exec`. -/
namespace Sys2Proof.Machine

variable {s : State}

@[simp] theorem exec_identify {h} : exec (.identify h) s = execIdentify h s := rfl
@[simp] theorem exec_deviceStatus {h} : exec (.deviceStatus h) s = execDeviceStatus h s := rfl
@[simp] theorem exec_deviceConfig {h ilv drdyMask computeLimit moduleLimit} : exec (.deviceConfig h ilv drdyMask computeLimit moduleLimit) s =
    execDeviceConfig h ilv drdyMask computeLimit moduleLimit s := rfl
@[simp] theorem exec_deviceResetCompute {h} : exec (.deviceResetCompute h) s = execDeviceResetCompute h s := rfl
@[simp] theorem exec_deviceResetModule {h} : exec (.deviceResetModule h) s = execDeviceResetModule h s := rfl
@[simp] theorem exec_ctxCreate {h hbmMib lpMib spillMib conf} : exec (.ctxCreate h hbmMib lpMib spillMib conf) s =
    execCtxCreate h hbmMib lpMib spillMib conf s := rfl
@[simp] theorem exec_ctxDestroy {h} : exec (.ctxDestroy h) s = execCtxDestroy h s := rfl
@[simp] theorem exec_ctxTiming {h drainMs progressUs spillWidth} : exec (.ctxTiming h drainMs progressUs spillWidth) s =
    execCtxTiming h drainMs progressUs spillWidth s := rfl
@[simp] theorem exec_ctxStart {h launch} : exec (.ctxStart h launch) s = execCtxStart h launch s := rfl
@[simp] theorem exec_ctxStop {h} : exec (.ctxStop h) s = execCtxStop h s := rfl
@[simp] theorem exec_ctxQuery {h} : exec (.ctxQuery h) s = execCtxQuery h s := rfl
@[simp] theorem exec_plateLoad {h image length} : exec (.plateLoad h image length) s =
    execPlateLoad h image length s := rfl
@[simp] theorem exec_plateUnload {h} : exec (.plateUnload h) s = execPlateUnload h s := rfl
@[simp] theorem exec_plateReconfigure {h image length} : exec (.plateReconfigure h image length) s =
    execPlateReconfigure h image length s := rfl
@[simp] theorem exec_classSet {h cls admitOn boundUs jitterUs} : exec (.classSet h cls admitOn boundUs jitterUs) s =
    execClassSet h cls admitOn boundUs jitterUs s := rfl
@[simp] theorem exec_streamConfig {h log2Depth} : exec (.streamConfig h log2Depth) s =
    execStreamConfig h log2Depth s := rfl
@[simp] theorem exec_streamOpen {h cls shadow} : exec (.streamOpen h cls shadow) s =
    execStreamOpen h cls shadow s := rfl
@[simp] theorem exec_streamClose {h id} : exec (.streamClose h id) s = execStreamClose h id s := rfl
@[simp] theorem exec_streamQuery {h id} : exec (.streamQuery h id) s = execStreamQuery h id s := rfl
@[simp] theorem exec_memAlloc {h kind host pages} : exec (.memAlloc h kind host pages) s =
    execMemAlloc h kind host pages s := rfl
@[simp] theorem exec_memFree {h address} : exec (.memFree h address) s = execMemFree h address s := rfl
@[simp] theorem exec_xeAssign {h engine ringLog2 cplLog2 ring cpl} : exec (.xeAssign h engine ringLog2 cplLog2 ring cpl) s =
    execXeAssign h engine ringLog2 cplLog2 ring cpl s := rfl
@[simp] theorem exec_xeStop {h engine} : exec (.xeStop h engine) s = execXeStop h engine s := rfl
@[simp] theorem exec_xeResume {h engine} : exec (.xeResume h engine) s = execXeResume h engine s := rfl
@[simp] theorem exec_memQuery {h} : exec (.memQuery h) s = execMemQuery h s := rfl
@[simp] theorem exec_healthRead {h buffer} : exec (.healthRead h buffer) s = execHealthRead h buffer s := rfl
@[simp] theorem exec_loupeRequest {h selector count vtile region tiles} : exec (.loupeRequest h selector count vtile region tiles) s =
    execLoupeRequest h selector count vtile region tiles s := rfl
@[simp] theorem exec_loupeStop {h} : exec (.loupeStop h) s = execLoupeStop h s := rfl
@[simp] theorem exec_rotationPause {h} : exec (.rotationPause h) s = execRotationPause h s := rfl
@[simp] theorem exec_rotationResume {h} : exec (.rotationResume h) s = execRotationResume h s := rfl
@[simp] theorem exec_tileFence {h tile} : exec (.tileFence h tile) s = execTileFence h tile s := rfl
@[simp] theorem exec_tileRetest {h tile} : exec (.tileRetest h tile) s = execTileRetest h tile s := rfl
@[simp] theorem exec_healthConfig {h remapWarn ageAction ageLimit} : exec (.healthConfig h remapWarn ageAction ageLimit) s =
    execHealthConfig h remapWarn ageAction ageLimit s := rfl
@[simp] theorem exec_proofConfig {h steps ms enable auto} : exec (.proofConfig h steps ms enable auto) s =
    execProofConfig h steps ms enable auto s := rfl
@[simp] theorem exec_proofRound {h} : exec (.proofRound h) s = execProofRound h s := rfl
@[simp] theorem exec_proofRead {h} : exec (.proofRead h) s = execProofRead h s := rfl
@[simp] theorem exec_proofRegions {h buffer} : exec (.proofRegions h buffer) s = execProofRegions h buffer s := rfl
@[simp] theorem exec_attest {h nonce buffer} : exec (.attest h nonce buffer) s = execAttest h nonce buffer s := rfl
@[simp] theorem exec_keyImport {h slot buffer length} : exec (.keyImport h slot buffer length) s =
    execKeyImport h slot buffer length s := rfl
@[simp] theorem exec_keyEnroll {h buffer length} : exec (.keyEnroll h buffer length) s =
    execKeyEnroll h buffer length s := rfl
@[simp] theorem exec_secStatus {h} : exec (.secStatus h) s = execSecStatus h s := rfl
@[simp] theorem exec_diagOpen {h window tile} : exec (.diagOpen h window tile) s =
    execDiagOpen h window tile s := rfl
@[simp] theorem exec_diagClose {h window tile} : exec (.diagClose h window tile) s =
    execDiagClose h window tile s := rfl
@[simp] theorem exec_sheetRead {h buffer offset length} : exec (.sheetRead h buffer offset length) s =
    execSheetRead h buffer offset length s := rfl
@[simp] theorem exec_countersRead {h tile buffer} : exec (.countersRead h tile buffer) s =
    execCountersRead h tile buffer s := rfl
@[simp] theorem exec_tbRead {h} : exec (.tbRead h) s = execTbRead h s := rfl
@[simp] theorem exec_tbAlign {h source} : exec (.tbAlign h source) s = execTbAlign h source s := rfl
@[simp] theorem exec_calSet {h seconds ns} : exec (.calSet h seconds ns) s = execCalSet h seconds ns s := rfl
@[simp] theorem exec_calDiscipline {h offset trim} : exec (.calDiscipline h offset trim) s =
    execCalDiscipline h offset trim s := rfl
@[simp] theorem exec_lnEnable {h port train} : exec (.lnEnable h port train) s = execLnEnable h port train s := rfl
@[simp] theorem exec_lnDisable {h port} : exec (.lnDisable h port) s = execLnDisable h port s := rfl
@[simp] theorem exec_lnStatus {h port} : exec (.lnStatus h port) s = execLnStatus h port s := rfl
@[simp] theorem exec_lnJoin {h port vid step} : exec (.lnJoin h port vid step) s =
    execLnJoin h port vid step s := rfl
@[simp] theorem exec_pwrState {h state save} : exec (.pwrState h state save) s = execPwrState h state save s := rfl
@[simp] theorem exec_pwrLimit {h limit} : exec (.pwrLimit h limit) s = execPwrLimit h limit s := rfl
@[simp] theorem exec_pwrStatus {h} : exec (.pwrStatus h) s = execPwrStatus h s := rfl
@[simp] theorem exec_submissionWatch : exec (.submissionWatch) s = execSubmissionWatch s := rfl
@[simp] theorem exec_watchPoll : exec (.watchPoll) s = execWatchPoll s := rfl
@[simp] theorem exec_read {tag addr lines} : exec (.read tag addr lines) s = execRead tag addr lines s := rfl
@[simp] theorem exec_write {tag addr lines data poison} : exec (.write tag addr lines data poison) s =
    execWrite tag addr lines data poison s := rfl
@[simp] theorem exec_writeMasked {tag addr mask data poison} : exec (.writeMasked tag addr mask data poison) s =
    execWriteMasked tag addr mask data poison s := rfl
@[simp] theorem exec_atomic {tag addr kind operands} : exec (.atomic tag addr kind operands) s =
    execAtomic tag addr kind operands s := rfl
@[simp] theorem exec_share {tag addr} : exec (.share tag addr) s = execShare tag addr s := rfl
@[simp] theorem exec_own {tag addr} : exec (.own tag addr) s = execOwn tag addr s := rfl
@[simp] theorem exec_returnLine {tag addr dirty data poison} : exec (.returnLine tag addr dirty data poison) s =
    execReturnLine tag addr dirty data poison s := rfl
@[simp] theorem exec_snoopRsp {addr dirty data poison} : exec (.snoopRsp addr dirty data poison) s =
    execSnoopRsp addr dirty data poison s := rfl
@[simp] theorem exec_cpl {tag status data poison} : exec (.cpl tag status data poison) s =
    execCpl tag status data poison s := rfl
@[simp] theorem exec_snoopTimeout {addr} : exec (.snoopTimeout addr) s = execSnoopTimeout addr s := rfl
@[simp] theorem exec_cplTimeout {tag} : exec (.cplTimeout tag) s = execCplTimeout tag s := rfl
@[simp] theorem exec_tlReplay {lane flit} : exec (.tlReplay lane flit) s = execTlReplay lane flit s := rfl
@[simp] theorem exec_tlRecovery {late badLanes} : exec (.tlRecovery late badLanes) s =
    execTlRecovery late badLanes s := rfl
@[simp] theorem exec_tlTraining {x} : exec (.tlTraining x) s = execTlTraining x s := rfl
@[simp] theorem exec_tlDown : exec (.tlDown) s = execTlDown s := rfl
@[simp] theorem exec_tlDownRetry : exec (.tlDownRetry) s = execTlDownRetry s := rfl
@[simp] theorem exec_retrain : exec (.retrain) s = execRetrain s := rfl
@[simp] theorem exec_fullTrain : exec (.fullTrain) s = execFullTrain s := rfl
@[simp] theorem exec_messageSend {p e} : exec (.messageSend p e) s = execMessageSend p e s := rfl
@[simp] theorem exec_routeLookup {p} : exec (.routeLookup p) s = execRouteLookup p s := rfl
@[simp] theorem exec_linkRetry {p port flit} : exec (.linkRetry p port flit) s = execLinkRetry p port flit s := rfl
@[simp] theorem exec_hopDeclaredFailed {p port caught} : exec (.hopDeclaredFailed p port caught) s =
    execHopDeclaredFailed p port caught s := rfl
@[simp] theorem exec_data {at_} : exec (.data at_) s = execData at_ s := rfl
@[simp] theorem exec_token {at_} : exec (.token at_) s = execToken at_ s := rfl
@[simp] theorem exec_counterAdd {at_} : exec (.counterAdd at_) s = execCounterAdd at_ s := rfl
@[simp] theorem exec_ack {at_} : exec (.ack at_) s = execAck at_ s := rfl
@[simp] theorem exec_nack {at_} : exec (.nack at_) s = execNack at_ s := rfl
@[simp] theorem exec_retryRound {at_ e} : exec (.retryRound at_ e) s = execRetryRound at_ e s := rfl
@[simp] theorem exec_ackTimeout {at_ e i} : exec (.ackTimeout at_ e i) s = execAckTimeout at_ e i s := rfl
@[simp] theorem exec_remoteWrite {at_} : exec (.remoteWrite at_) s = execRemoteWrite at_ s := rfl
@[simp] theorem exec_remoteRead {at_} : exec (.remoteRead at_) s = execRemoteRead at_ s := rfl
@[simp] theorem exec_readResp {p} : exec (.readResp p) s = execReadResp p s := rfl
@[simp] theorem exec_combine {at_} : exec (.combine at_) s = execCombine at_ s := rfl
@[simp] theorem exec_combineEmit {p e index} : exec (.combineEmit p e index) s = execCombineEmit p e index s := rfl
@[simp] theorem exec_vcmConfig {p route steps writes} : exec (.vcmConfig p route steps writes) s =
    execVcmConfig p route steps writes s := rfl
@[simp] theorem exec_vcmHeal {p route steps offset v} : exec (.vcmHeal p route steps offset v) s =
    execVcmHeal p route steps offset v s := rfl
@[simp] theorem exec_vcmMgmt {p route steps} : exec (.vcmMgmt p route steps) s = execVcmMgmt p route steps s := rfl
@[simp] theorem exec_progressSample : exec (.progressSample) s = execProgressSample s := rfl
@[simp] theorem exec_overflowReturn {p e} : exec (.overflowReturn p e) s = execOverflowReturn p e s := rfl
@[simp] theorem exec_selectOp {p j} : exec (.selectOp p j) s = execSelectOp p j s := rfl
@[simp] theorem exec_switchOp {p j} : exec (.switchOp p j) s = execSwitchOp p j s := rfl
@[simp] theorem exec_gateOp {p j} : exec (.gateOp p j) s = execGateOp p j s := rfl
@[simp] theorem exec_repeatOp {p j} : exec (.repeatOp p j) s = execRepeatOp p j s := rfl
@[simp] theorem exec_mergeArrival {p j} : exec (.mergeArrival p j) s = execMergeArrival p j s := rfl
@[simp] theorem exec_endOp {p j} : exec (.endOp p j) s = execEndOp p j s := rfl
@[simp] theorem exec_mePass {p vec scale upset} : exec (.mePass p vec scale upset) s =
    execMePass p vec scale upset s := rfl
@[simp] theorem exec_weightBlockLoad {p addr} : exec (.weightBlockLoad p addr) s =
    execWeightBlockLoad p addr s := rfl
@[simp] theorem exec_sliceSetEmit {p} : exec (.sliceSetEmit p) s = execSliceSetEmit p s := rfl
@[simp] theorem exec_vspVector {p} : exec (.vspVector p) s = execVspVector p s := rfl
@[simp] theorem exec_agAccess {p n ecc} : exec (.agAccess p n ecc) s = execAgAccess p n ecc s := rfl
@[simp] theorem exec_queuePush {p r hdr} : exec (.queuePush p r hdr) s = execQueuePush p r hdr s := rfl
@[simp] theorem exec_queuePop {p r} : exec (.queuePop p r) s = execQueuePop p r s := rfl
@[simp] theorem exec_recordRelease {p r off} : exec (.recordRelease p r off) s = execRecordRelease p r off s := rfl
@[simp] theorem exec_waitMet {p u} : exec (.waitMet p u) s = execWaitMet p u s := rfl
@[simp] theorem exec_foldQuotaExpiry {p} : exec (.foldQuotaExpiry p) s = execFoldQuotaExpiry p s := rfl
@[simp] theorem exec_foldSwitch {p} : exec (.foldSwitch p) s = execFoldSwitch p s := rfl
@[simp] theorem exec_scrubRead {p sc word ecc} : exec (.scrubRead p sc word ecc) s =
    execScrubRead p sc word ecc s := rfl
@[simp] theorem exec_rowceRelease {p} : exec (.rowceRelease p) s = execRowceRelease p s := rfl
@[simp] theorem exec_remapLoad {p sc bank row spare} : exec (.remapLoad p sc bank row spare) s =
    execRemapLoad p sc bank row spare s := rfl
@[simp] theorem exec_remap {p sc bank row spare} : exec (.remap p sc bank row spare) s =
    execRemap p sc bank row spare s := rfl
@[simp] theorem exec_remapComplete {p} : exec (.remapComplete p) s = execRemapComplete p s := rfl
@[simp] theorem exec_fillTile {p} : exec (.fillTile p) s = execFillTile p s := rfl
@[simp] theorem exec_fillRange {p base len} : exec (.fillRange p base len) s = execFillRange p base len s := rfl
@[simp] theorem exec_fillDone {p} : exec (.fillDone p) s = execFillDone p s := rfl
@[simp] theorem exec_proofHashGo {p r} : exec (.proofHashGo p r) s = execProofHashGo p r s := rfl
@[simp] theorem exec_proofHashAbandon {p} : exec (.proofHashAbandon p) s = execProofHashAbandon p s := rfl
@[simp] theorem exec_proofHashDone {p} : exec (.proofHashDone p) s = execProofHashDone p s := rfl
@[simp] theorem exec_meHaltReq {p mode} : exec (.meHaltReq p mode) s = execMeHaltReq p mode s := rfl
@[simp] theorem exec_meResume {p} : exec (.meResume p) s = execMeResume p s := rfl
@[simp] theorem exec_injectCheck {p} : exec (.injectCheck p) s = execInjectCheck p s := rfl
@[simp] theorem exec_injectCombine {p} : exec (.injectCombine p) s = execInjectCombine p s := rfl
@[simp] theorem exec_vspHaltReq {p mode} : exec (.vspHaltReq p mode) s = execVspHaltReq p mode s := rfl
@[simp] theorem exec_vspResume {p} : exec (.vspResume p) s = execVspResume p s := rfl
@[simp] theorem exec_suHaltReq {p mode} : exec (.suHaltReq p mode) s = execSuHaltReq p mode s := rfl
@[simp] theorem exec_suResume {p} : exec (.suResume p) s = execSuResume p s := rfl
@[simp] theorem exec_agHaltReq {p n mode} : exec (.agHaltReq p n mode) s = execAgHaltReq p n mode s := rfl
@[simp] theorem exec_agResume {p n} : exec (.agResume p n) s = execAgResume p n s := rfl
@[simp] theorem exec_agRestart {p n} : exec (.agRestart p n) s = execAgRestart p n s := rfl
@[simp] theorem exec_unitHaltComplete {p u} : exec (.unitHaltComplete p u) s = execUnitHaltComplete p u s := rfl
@[simp] theorem exec_unitDrainTimeout {p u} : exec (.unitDrainTimeout p u) s = execUnitDrainTimeout p u s := rfl
@[simp] theorem exec_vspLaneDisable {p v} : exec (.vspLaneDisable p v) s = execVspLaneDisable p v s := rfl
@[simp] theorem exec_agHashM {p n i v} : exec (.agHashM p n i v) s = execAgHashM p n i v s := rfl
@[simp] theorem exec_rgnWrite {p r which v} : exec (.rgnWrite p r which v) s = execRgnWrite p r which v s := rfl
@[simp] theorem exec_rtFenceReq {p target caught} : exec (.rtFenceReq p target caught) s =
    execRtFenceReq p target caught s := rfl
@[simp] theorem exec_rtUnfence {p target} : exec (.rtUnfence p target) s = execRtUnfence p target s := rfl
@[simp] theorem exec_rtEntry {p i v} : exec (.rtEntry p i v) s = execRtEntry p i v s := rfl
@[simp] theorem exec_chEpHaltReq {p e mode} : exec (.chEpHaltReq p e mode) s = execChEpHaltReq p e mode s := rfl
@[simp] theorem exec_chEpResume {p e} : exec (.chEpResume p e) s = execChEpResume p e s := rfl
@[simp] theorem exec_overflowOn {p e} : exec (.overflowOn p e) s = execOverflowOn p e s := rfl
@[simp] theorem exec_markAcked {p e} : exec (.markAcked p e) s = execMarkAcked p e s := rfl
@[simp] theorem exec_endpointHaltComplete {p e} : exec (.endpointHaltComplete p e) s =
    execEndpointHaltComplete p e s := rfl
@[simp] theorem exec_endpointDrainTimeout {p e} : exec (.endpointDrainTimeout p e) s =
    execEndpointDrainTimeout p e s := rfl
@[simp] theorem exec_chConfigWrite {p which v} : exec (.chConfigWrite p which v) s =
    execChConfigWrite p which v s := rfl
@[simp] theorem exec_syncSetCmd {p n} : exec (.syncSetCmd p n) s = execSyncSetCmd p n s := rfl
@[simp] theorem exec_syncAdd {p n amount} : exec (.syncAdd p n amount) s = execSyncAdd p n amount s := rfl
@[simp] theorem exec_forceSwitch {p} : exec (.forceSwitch p) s = execForceSwitch p s := rfl
@[simp] theorem exec_tileEpochWrite {p v} : exec (.tileEpochWrite p v) s = execTileEpochWrite p v s := rfl
@[simp] theorem exec_cfgCrcClear {p} : exec (.cfgCrcClear p) s = execCfgCrcClear p s := rfl
@[simp] theorem exec_tileFenceReq {p cause} : exec (.tileFenceReq p cause) s = execTileFenceReq p cause s := rfl
@[simp] theorem exec_tileReset {p} : exec (.tileReset p) s = execTileReset p s := rfl
@[simp] theorem exec_tileUnfence {p} : exec (.tileUnfence p) s = execTileUnfence p s := rfl
@[simp] theorem exec_testStart {p set_ skipRouter} : exec (.testStart p set_ skipRouter) s =
    execTestStart p set_ skipRouter s := rfl
@[simp] theorem exec_testAbandon {p} : exec (.testAbandon p) s = execTestAbandon p s := rfl
@[simp] theorem exec_tileTestDone {p outcome} : exec (.tileTestDone p outcome) s =
    execTileTestDone p outcome s := rfl
@[simp] theorem exec_xeHaltReq {g n mode} : exec (.xeHaltReq g n mode) s = execXeHaltReq g n mode s := rfl
@[simp] theorem exec_xeEngResume {g n} : exec (.xeEngResume g n) s = execXeEngResume g n s := rfl
@[simp] theorem exec_xeDrainTimeout {g n} : exec (.xeDrainTimeout g n) s = execXeDrainTimeout g n s := rfl
@[simp] theorem exec_xeDescriptorStart {g n} : exec (.xeDescriptorStart g n) s = execXeDescriptorStart g n s := rfl
@[simp] theorem exec_xeDescriptorComplete {g n i} : exec (.xeDescriptorComplete g n i) s =
    execXeDescriptorComplete g n i s := rfl
@[simp] theorem exec_lnPortEnable {n train} : exec (.lnPortEnable n train) s = execLnPortEnable n train s := rfl
@[simp] theorem exec_lnDisableReq {n mode} : exec (.lnDisableReq n mode) s = execLnDisableReq n mode s := rfl
@[simp] theorem exec_samplerStart : exec (.samplerStart) s = execSamplerStart s := rfl
@[simp] theorem exec_samplerStop : exec (.samplerStop) s = execSamplerStop s := rfl
@[simp] theorem exec_secPurge {p} : exec (.secPurge p) s = execSecPurge p s := rfl
@[simp] theorem exec_belfryCount : exec (.belfryCount) s = execBelfryCount s := rfl
@[simp] theorem exec_registerWrite {addr whole v} : exec (.registerWrite addr whole v) s =
    execRegisterWrite addr whole v s := rfl
@[simp] theorem exec_inputRingRead {c k} : exec (.inputRingRead c k) s = execInputRingRead c k s := rfl
@[simp] theorem exec_gather {c} : exec (.gather c) s = execGather c s := rfl
@[simp] theorem exec_shadowCopy {c k} : exec (.shadowCopy c k) s = execShadowCopy c k s := rfl
@[simp] theorem exec_completion : exec (.completion) s = execCompletion s := rfl
@[simp] theorem exec_deadlineTimer : exec (.deadlineTimer) s = execDeadlineTimer s := rfl
@[simp] theorem exec_overflowRecord {c} : exec (.overflowRecord c) s = execOverflowRecord c s := rfl
@[simp] theorem exec_streamEnd {c k} : exec (.streamEnd c k) s = execStreamEnd c k s := rfl
@[simp] theorem exec_endTimeout {c k} : exec (.endTimeout c k) s = execEndTimeout c k s := rfl
@[simp] theorem exec_contextDrainComplete {c} : exec (.contextDrainComplete c) s =
    execContextDrainComplete c s := rfl
@[simp] theorem exec_contextDrainTimeout {c} : exec (.contextDrainTimeout c) s = execContextDrainTimeout c s := rfl
@[simp] theorem exec_drainFailed {c} : exec (.drainFailed c) s = execDrainFailed c s := rfl
@[simp] theorem exec_loadReady {c} : exec (.loadReady c) s = execLoadReady c s := rfl
@[simp] theorem exec_zeroiseComplete {c} : exec (.zeroiseComplete c) s = execZeroiseComplete c s := rfl
@[simp] theorem exec_faultSignal : exec (.faultSignal) s = execFaultSignal s := rfl
@[simp] theorem exec_unitHang {p u} : exec (.unitHang p u) s = execUnitHang p u s := rfl
@[simp] theorem exec_heal {c v} : exec (.heal c v) s = execHeal c v s := rfl
@[simp] theorem exec_healComplete {c} : exec (.healComplete c) s = execHealComplete c s := rfl
@[simp] theorem exec_rotationSchedule : exec (.rotationSchedule) s = execRotationSchedule s := rfl
@[simp] theorem exec_loupeStart : exec (.loupeStart) s = execLoupeStart s := rfl
@[simp] theorem exec_testOverdue : exec (.testOverdue) s = execTestOverdue s := rfl
@[simp] theorem exec_proofRoundEnd {c} : exec (.proofRoundEnd c) s = execProofRoundEnd c s := rfl
@[simp] theorem exec_computeReset {tiles ports} : exec (.computeReset tiles ports) s =
    execComputeReset tiles ports s := rfl
@[simp] theorem exec_moduleReset : exec (.moduleReset) s = execModuleReset s := rfl
@[simp] theorem exec_watchdogFire {sections excerpts} : exec (.watchdogFire sections excerpts) s =
    execWatchdogFire sections excerpts s := rfl
@[simp] theorem exec_warmRestart : exec (.warmRestart) s = execWarmRestart s := rfl
@[simp] theorem exec_stubTimeout : exec (.stubTimeout) s = execStubTimeout s := rfl
@[simp] theorem exec_powerOn {vinA vinB} : exec (.powerOn vinA vinB) s = execPowerOn vinA vinB s := rfl
@[simp] theorem exec_bootSequence {x} : exec (.bootSequence x) s = execBootSequence x s := rfl
@[simp] theorem exec_imageLoadRequest : exec (.imageLoadRequest) s = execImageLoadRequest s := rfl
@[simp] theorem exec_fwInit {baseW svnOk} : exec (.fwInit baseW svnOk) s = execFwInit baseW svnOk s := rfl
@[simp] theorem exec_fwInitTimeout : exec (.fwInitTimeout) s = execFwInitTimeout s := rfl
@[simp] theorem exec_resetN {held} : exec (.resetN held) s = execResetN held s := rfl
@[simp] theorem exec_pllUnlock : exec (.pllUnlock) s = execPllUnlock s := rfl
@[simp] theorem exec_inputRange {vinA vinB iin} : exec (.inputRange vinA vinB iin) s =
    execInputRange vinA vinB iin s := rfl
@[simp] theorem exec_inputShutdown : exec (.inputShutdown) s = execInputShutdown s := rfl
@[simp] theorem exec_vbatLoss : exec (.vbatLoss) s = execVbatLoss s := rfl
@[simp] theorem exec_gateStepDown {watts} : exec (.gateStepDown watts) s = execGateStepDown watts s := rfl
@[simp] theorem exec_gateStepUp {watts ctxWatts} : exec (.gateStepUp watts ctxWatts) s =
    execGateStepUp watts ctxWatts s := rfl
@[simp] theorem exec_overLimit : exec (.overLimit) s = execOverLimit s := rfl
@[simp] theorem exec_overLimitClear : exec (.overLimitClear) s = execOverLimitClear s := rfl
@[simp] theorem exec_sensorRead {x} : exec (.sensorRead x) s = execSensorRead x s := rfl
@[simp] theorem exec_thermalEmergency : exec (.thermalEmergency) s = execThermalEmergency s := rfl
@[simp] theorem exec_thermalEmergencyEnd : exec (.thermalEmergencyEnd) s = execThermalEmergencyEnd s := rfl
@[simp] theorem exec_tbSlewStep : exec (.tbSlewStep) s = execTbSlewStep s := rfl
@[simp] theorem exec_syncInEdge {frac} : exec (.syncInEdge frac) s = execSyncInEdge frac s := rfl
@[simp] theorem exec_hbmEcsPoll {i count bad} : exec (.hbmEcsPoll i count bad) s =
    execHbmEcsPoll i count bad s := rfl
@[simp] theorem exec_memCeRate {k} : exec (.memCeRate k) s = execMemCeRate k s := rfl
@[simp] theorem exec_sampleInstant : exec (.sampleInstant) s = execSampleInstant s := rfl
@[simp] theorem exec_egressSend {die proxy} : exec (.egressSend die proxy) s = execEgressSend die proxy s := rfl
@[simp] theorem exec_ingressFrame {n frame} : exec (.ingressFrame n frame) s = execIngressFrame n frame s := rfl
@[simp] theorem exec_transitFrame {n frame} : exec (.transitFrame n frame) s = execTransitFrame n frame s := rfl
@[simp] theorem exec_proxyCredit {n frame} : exec (.proxyCredit n frame) s = execProxyCredit n frame s := rfl
@[simp] theorem exec_lnReplay {n lane flit} : exec (.lnReplay n lane flit) s = execLnReplay n lane flit s := rfl
@[simp] theorem exec_lnRetrain {n lockLost} : exec (.lnRetrain n lockLost) s = execLnRetrain n lockLost s := rfl
@[simp] theorem exec_trainTimeout {n} : exec (.trainTimeout n) s = execTrainTimeout n s := rfl
@[simp] theorem exec_downRetry {n train} : exec (.downRetry n train) s = execDownRetry n train s := rfl
@[simp] theorem exec_keepaliveSend {n} : exec (.keepaliveSend n) s = execKeepaliveSend n s := rfl
@[simp] theorem exec_keepaliveTimeout {n} : exec (.keepaliveTimeout n) s = execKeepaliveTimeout n s := rfl
@[simp] theorem exec_creditTimeout {n} : exec (.creditTimeout n) s = execCreditTimeout n s := rfl
@[simp] theorem exec_hello {n frame} : exec (.hello n frame) s = execHello n frame s := rfl
@[simp] theorem exec_kem {n frame} : exec (.kem n frame) s = execKem n frame s := rfl
@[simp] theorem exec_sign {n frame} : exec (.sign n frame) s = execSign n frame s := rfl
@[simp] theorem exec_finished {n frame} : exec (.finished n frame) s = execFinished n frame s := rfl
@[simp] theorem exec_handshakeTimeout {n} : exec (.handshakeTimeout n) s = execHandshakeTimeout n s := rfl
@[simp] theorem exec_rekey {n frame} : exec (.rekey n frame) s = execRekey n frame s := rfl
@[simp] theorem exec_rekeySwitch {n frame} : exec (.rekeySwitch n frame) s = execRekeySwitch n frame s := rfl
@[simp] theorem exec_rekeyTimeout {n} : exec (.rekeyTimeout n) s = execRekeyTimeout n s := rfl
@[simp] theorem exec_close {n frame} : exec (.close n frame) s = execClose n frame s := rfl
@[simp] theorem exec_lnDrainTimeout {n} : exec (.lnDrainTimeout n) s = execLnDrainTimeout n s := rfl
@[simp] theorem exec_tbReq {n frame} : exec (.tbReq n frame) s = execTbReq n frame s := rfl
@[simp] theorem exec_tbRsp {n frame} : exec (.tbRsp n frame) s = execTbRsp n frame s := rfl
@[simp] theorem exec_joinReq {n frame} : exec (.joinReq n frame) s = execJoinReq n frame s := rfl
@[simp] theorem exec_joinData {n frame} : exec (.joinData n frame) s = execJoinData n frame s := rfl
@[simp] theorem exec_joinEnd {n frame} : exec (.joinEnd n frame) s = execJoinEnd n frame s := rfl
@[simp] theorem exec_joinStepReached {c} : exec (.joinStepReached c) s = execJoinStepReached c s := rfl
@[simp] theorem exec_status : exec (.status) s = execStatus s := rfl
@[simp] theorem exec_telemetry : exec (.telemetry) s = execTelemetry s := rfl
@[simp] theorem exec_health : exec (.health) s = execHealth s := rfl
@[simp] theorem exec_boot : exec (.boot) s = execBoot s := rfl
@[simp] theorem exec_powerReq {value pec} : exec (.powerReq value pec) s = execPowerReq value pec s := rfl
@[simp] theorem exec_estop {value pec} : exec (.estop value pec) s = execEstop value pec s := rfl
@[simp] theorem exec_estopRelease {value pec} : exec (.estopRelease value pec) s =
    execEstopRelease value pec s := rfl
@[simp] theorem exec_resetReq {value pec} : exec (.resetReq value pec) s = execResetReq value pec s := rfl
@[simp] theorem exec_bypass : exec (.bypass) s = execBypass s := rfl
@[simp] theorem exec_idcode : exec (.idcode) s = execIdcode s := rfl
@[simp] theorem exec_samplePreload : exec (.samplePreload) s = execSamplePreload s := rfl
@[simp] theorem exec_extest : exec (.extest) s = execExtest s := rfl
@[simp] theorem exec_clamp : exec (.clamp) s = execClamp s := rfl
@[simp] theorem exec_highz : exec (.highz) s = execHighz s := rfl
@[simp] theorem exec_debug {access} : exec (.debug access) s = execDebug access s := rfl
@[simp] theorem exec_tapReset : exec (.tapReset) s = execTapReset s := rfl
@[simp] theorem exec_controllerPatrolScrub {k line row spare ecc} : exec (.controllerPatrolScrub k line row spare ecc) s =
    execControllerPatrolScrub k line row spare ecc s := rfl
@[simp] theorem exec_signingQueue {journalOk} : exec (.signingQueue journalOk) s =
    execSigningQueue journalOk s := rfl
@[simp] theorem exec_noSync : exec (.noSync) s = execNoSync s := rfl
@[simp] theorem exec_calSlewStep : exec (.calSlewStep) s = execCalSlewStep s := rfl
@[simp] theorem exec_keepalive {n frame} : exec (.keepalive n frame) s = execKeepalive n frame s := rfl
@[simp] theorem exec_mirrorRefresh : exec (.mirrorRefresh) s = execMirrorRefresh s := rfl
@[simp] theorem exec_vbatLow {low} : exec (.vbatLow low) s = execVbatLow low s := rfl
@[simp] theorem exec_lvcCredit {n lvc units} : exec (.lvcCredit n lvc units) s = execLvcCredit n lvc units s := rfl
@[simp] theorem exec_tlCredit {pw np snp} : exec (.tlCredit pw np snp) s = execTlCredit pw np snp s := rfl

end Sys2Proof.Machine
end

