-- ==== Sys2Proof/Laws/Sparse.lean ====
section
/-! SUPPORT. Laws/Sparse.lean: reading a map after it is changed, and that each change keeps the canonical form. -/
namespace Sys2Proof.Machine.Sparse

variable {α : Type} {d : Nat → α} {l : List (Nat × α)}

theorem get_drop_self {k : Nat} : get d (drop l k) k = d k := by
  induction l with
  | nil => rfl
  | cons e t ih =>
    by_cases h : e.1 = k
    · simpa [drop, h] using ih
    · simpa [drop, h, get] using ih

theorem get_drop_ne {k j : Nat} (h : j ≠ k) : get d (drop l k) j = get d l j := by
  induction l with
  | nil => rfl
  | cons e t ih =>
    by_cases h1 : e.1 = k
    · have h2 : e.1 ≠ j := fun x => h (x.symm.trans h1)
      have h3 : get d (e :: t) j = get d t j := by simp [get, h2]
      rw [h3, ← ih]
      simp [drop, h1]
    · have h3 : drop (e :: t) k = e :: drop t k := by simp [drop, h1]
      rw [h3]
      by_cases h2 : e.1 = j
      · simp [get, h2]
      · simp [get, h2, ih]

theorem get_insert_ne {k j : Nat} {v : α} (h : j ≠ k) : get d (insert l k v) j = get d l j := by
  induction l with
  | nil => simp [insert, get, h.symm]
  | cons e t ih =>
    by_cases h1 : k < e.1
    · simp [insert, h1, get, h.symm]
    · simp [insert, h1, get, ih]

theorem get_insert_self {k : Nat} {v : α} (h : ∀ e ∈ l, e.1 ≠ k) : get d (insert l k v) k = v := by
  induction l with
  | nil => simp [insert, get]
  | cons e t ih =>
    by_cases h1 : k < e.1
    · simp [insert, h1, get]
    · have h2 : e.1 ≠ k := h e (by simp)
      simp [insert, h1, get, h2, ih (fun f hf => h f (by simp [hf]))]

theorem get_set_self [DecidableEq α] {k : Nat} {v : α} : get d (set d l k v) k = v := by
  by_cases h : v = d k
  · rw [set, if_pos h, get_drop_self, h]
  · rw [set, if_neg h]
    exact get_insert_self (by simp [drop])

theorem get_set_ne [DecidableEq α] {k j : Nat} {v : α} (h : j ≠ k) : get d (set d l k v) j = get d l j := by
  by_cases h1 : v = d k
  · rw [set, if_pos h1, get_drop_ne h]
  · rw [set, if_neg h1, get_insert_ne h, get_drop_ne h]

theorem get_set [DecidableEq α] {k j : Nat} {v : α} : get d (set d l k v) j = if j = k then v else get d l j := by
  by_cases h : j = k
  · rw [if_pos h, h, get_set_self]
  · rw [if_neg h, get_set_ne h]

theorem get_clear {p : Nat → Bool} {k : Nat} : get d (clear l p) k = if p k then d k else get d l k := by
  induction l with
  | nil => simp [clear, get]
  | cons e t ih =>
    by_cases h : p e.1
    · have h1 : clear (e :: t) p = clear t p := by simp [clear, h]
      rw [h1, ih]
      by_cases h2 : e.1 = k
      · simp [← h2, h]
      · simp [get, h2]
    · have h1 : clear (e :: t) p = e :: clear t p := by simp [clear, h]
      rw [h1]
      by_cases h2 : e.1 = k
      · simp [get, ← h2, h]
      · simp [get, h2, ih]

/-! ## The canonical form -/

/-- A list of strictly rising keys, as a pairwise statement. -/
theorem rising_iff : rising l = true ↔ l.Pairwise (fun e f => e.1 < f.1) := by
  induction l with
  | nil => simp [rising]
  | cons e t ih =>
    cases t with
    | nil => simp [rising]
    | cons f t =>
      rw [rising, Bool.and_eq_true, decide_eq_true_eq, ih, List.pairwise_cons (a := e)]
      constructor
      · intro h
        refine ⟨fun g hg => ?_, h.2⟩
        cases List.mem_cons.1 hg with
        | inl hg => exact hg ▸ h.1
        | inr hg => exact Nat.lt_trans h.1 (List.rel_of_pairwise_cons h.2 hg)
      · exact fun h => ⟨h.1 f (by simp), h.2⟩

theorem wf_iff [DecidableEq α] : wf d l = true ↔ l.Pairwise (fun e f => e.1 < f.1) ∧ ∀ e ∈ l, e.2 ≠ d e.1 := by
  simp [wf, rising_iff]

theorem wf_filter [DecidableEq α] {p : Nat × α → Bool} (h : wf d l = true) : wf d (l.filter p) = true := by
  rw [wf_iff] at *
  exact ⟨h.1.filter _, fun e he => h.2 e (List.mem_filter.1 he).1⟩

theorem mem_insert {k : Nat} {v : α} {e : Nat × α} : e ∈ insert l k v ↔ e = (k, v) ∨ e ∈ l := by
  induction l with
  | nil => simp [insert]
  | cons f t ih =>
    by_cases h : k < f.1
    · simp [insert, h]
    · simp only [insert, h, if_false, List.mem_cons, ih]
      exact or_left_comm

theorem wf_insert [DecidableEq α] {k : Nat} {v : α} (h : wf d l = true) (hv : v ≠ d k) (hk : ∀ e ∈ l, e.1 ≠ k) :
    wf d (insert l k v) = true := by
  rw [wf_iff] at *
  refine ⟨?_, ?_⟩
  · have h1 := h.1
    clear h
    induction l with
    | nil => simp [insert]
    | cons f t ih =>
      have h2 := List.pairwise_cons.1 h1
      by_cases h3 : k < f.1
      · rw [insert, if_pos h3, List.pairwise_cons]
        refine ⟨fun g hg => ?_, h1⟩
        cases List.mem_cons.1 hg with
        | inl hg => exact hg ▸ h3
        | inr hg => exact Nat.lt_trans h3 (h2.1 g hg)
      · rw [insert, if_neg h3, List.pairwise_cons]
        refine ⟨fun g hg => ?_, ih (fun e he => hk e (by simp [he])) h2.2⟩
        cases mem_insert.1 hg with
        | inl hg =>
          have := hk f (by simp)
          rw [hg]
          exact Nat.lt_of_le_of_ne (Nat.not_lt.1 h3) this
        | inr hg => exact h2.1 g hg
  · intro e he
    cases mem_insert.1 he with
    | inl he => exact he ▸ hv
    | inr he => exact h.2 e he

/-- A write keeps the canonical form. -/
theorem wf_set [DecidableEq α] {k : Nat} {v : α} (h : wf d l = true) : wf d (set d l k v) = true := by
  by_cases hv : v = d k
  · rw [set, if_pos hv]
    exact wf_filter h
  · rw [set, if_neg hv]
    exact wf_insert (wf_filter h) hv (by simp [drop])

/-- Clearing keeps the canonical form. -/
theorem wf_clear [DecidableEq α] {p : Nat → Bool} (h : wf d l = true) : wf d (clear l p) = true := wf_filter h

end Sys2Proof.Machine.Sparse
end

