-- ==== Sys2Proof/Laws/State.lean ====
section
/-! SUPPORT. Laws/State.lean: each field of State after each named update, so that no proof unfolds a record update. -/
namespace Sys2Proof.Machine

variable {s : State}

/-! ## setReg -/

@[simp] theorem State.setReg_pending {a v} : (s.setReg a v).pending = s.pending := rfl
@[simp] theorem State.setReg_freeCtr {a v} : (s.setReg a v).freeCtr = s.freeCtr := rfl
@[simp] theorem State.setReg_part {a v} : (s.setReg a v).part = s.part := rfl
@[simp] theorem State.setReg_regs {a v} : (s.setReg a v).regs = Sparse.set resetOf s.regs a v := rfl
@[simp] theorem State.setReg_mem {a v} : (s.setReg a v).mem = s.mem := rfl
@[simp] theorem State.setReg_lost {a v} : (s.setReg a v).lost = s.lost := rfl
@[simp] theorem State.setReg_ue {a v} : (s.setReg a v).ue = s.ue := rfl
@[simp] theorem State.setReg_me {a v} : (s.setReg a v).me = s.me := rfl
@[simp] theorem State.setReg_vsp {a v} : (s.setReg a v).vsp = s.vsp := rfl
@[simp] theorem State.setReg_ag {a v} : (s.setReg a v).ag = s.ag := rfl
@[simp] theorem State.setReg_agFifo {a v} : (s.setReg a v).agFifo = s.agFifo := rfl
@[simp] theorem State.setReg_mu {a v} : (s.setReg a v).mu = s.mu := rfl
@[simp] theorem State.setReg_popped {a v} : (s.setReg a v).popped = s.popped := rfl
@[simp] theorem State.setReg_foldEob {a v} : (s.setReg a v).foldEob = s.foldEob := rfl
@[simp] theorem State.setReg_net {a v} : (s.setReg a v).net = s.net := rfl
@[simp] theorem State.setReg_eps {a v} : (s.setReg a v).eps = s.eps := rfl
@[simp] theorem State.setReg_reorder {a v} : (s.setReg a v).reorder = s.reorder := rfl
@[simp] theorem State.setReg_signals {a v} : (s.setReg a v).signals = s.signals := rfl
@[simp] theorem State.setReg_ctxs {a v} : (s.setReg a v).ctxs = s.ctxs := rfl
@[simp] theorem State.setReg_entries {a v} : (s.setReg a v).entries = s.entries := rfl
@[simp] theorem State.setReg_tl {a v} : (s.setReg a v).tl = s.tl := rfl
@[simp] theorem State.setReg_taken {a v} : (s.setReg a v).taken = s.taken := rfl
@[simp] theorem State.setReg_waiting {a v} : (s.setReg a v).waiting = s.waiting := rfl
@[simp] theorem State.setReg_allocs {a v} : (s.setReg a v).allocs = s.allocs := rfl
@[simp] theorem State.setReg_enrolled {a v} : (s.setReg a v).enrolled = s.enrolled := rfl
@[simp] theorem State.setReg_weightKeys {a v} : (s.setReg a v).weightKeys = s.weightKeys := rfl
@[simp] theorem State.setReg_engines {a v} : (s.setReg a v).engines = s.engines := rfl
@[simp] theorem State.setReg_mctl {a v} : (s.setReg a v).mctl = s.mctl := rfl
@[simp] theorem State.setReg_health {a v} : (s.setReg a v).health = s.health := rfl
@[simp] theorem State.setReg_store {a v} : (s.setReg a v).store = s.store := rfl
@[simp] theorem State.setReg_sec {a v} : (s.setReg a v).sec = s.sec := rfl
@[simp] theorem State.setReg_ports {a v} : (s.setReg a v).ports = s.ports := rfl
@[simp] theorem State.setReg_egress {a v} : (s.setReg a v).egress = s.egress := rfl
@[simp] theorem State.setReg_ingress {a v} : (s.setReg a v).ingress = s.ingress := rfl
@[simp] theorem State.setReg_joins {a v} : (s.setReg a v).joins = s.joins := rfl
@[simp] theorem State.setReg_time {a v} : (s.setReg a v).time = s.time := rfl
@[simp] theorem State.setReg_power {a v} : (s.setReg a v).power = s.power := rfl
@[simp] theorem State.setReg_sb {a v} : (s.setReg a v).sb = s.sb := rfl
@[simp] theorem State.setReg_boot {a v} : (s.setReg a v).boot = s.boot := rfl
@[simp] theorem State.setReg_wdt {a v} : (s.setReg a v).wdt = s.wdt := rfl
@[simp] theorem State.setReg_smp {a v} : (s.setReg a v).smp = s.smp := rfl
@[simp] theorem State.setReg_tap {a v} : (s.setReg a v).tap = s.tap := rfl

/-! ## setFld -/

@[simp] theorem State.setFld_pending {a f x} : (s.setFld a f x).pending = s.pending := rfl
@[simp] theorem State.setFld_freeCtr {a f x} : (s.setFld a f x).freeCtr = s.freeCtr := rfl
@[simp] theorem State.setFld_part {a f x} : (s.setFld a f x).part = s.part := rfl
@[simp] theorem State.setFld_mem {a f x} : (s.setFld a f x).mem = s.mem := rfl
@[simp] theorem State.setFld_lost {a f x} : (s.setFld a f x).lost = s.lost := rfl
@[simp] theorem State.setFld_ue {a f x} : (s.setFld a f x).ue = s.ue := rfl
@[simp] theorem State.setFld_me {a f x} : (s.setFld a f x).me = s.me := rfl
@[simp] theorem State.setFld_vsp {a f x} : (s.setFld a f x).vsp = s.vsp := rfl
@[simp] theorem State.setFld_ag {a f x} : (s.setFld a f x).ag = s.ag := rfl
@[simp] theorem State.setFld_agFifo {a f x} : (s.setFld a f x).agFifo = s.agFifo := rfl
@[simp] theorem State.setFld_mu {a f x} : (s.setFld a f x).mu = s.mu := rfl
@[simp] theorem State.setFld_popped {a f x} : (s.setFld a f x).popped = s.popped := rfl
@[simp] theorem State.setFld_foldEob {a f x} : (s.setFld a f x).foldEob = s.foldEob := rfl
@[simp] theorem State.setFld_net {a f x} : (s.setFld a f x).net = s.net := rfl
@[simp] theorem State.setFld_eps {a f x} : (s.setFld a f x).eps = s.eps := rfl
@[simp] theorem State.setFld_reorder {a f x} : (s.setFld a f x).reorder = s.reorder := rfl
@[simp] theorem State.setFld_signals {a f x} : (s.setFld a f x).signals = s.signals := rfl
@[simp] theorem State.setFld_ctxs {a f x} : (s.setFld a f x).ctxs = s.ctxs := rfl
@[simp] theorem State.setFld_entries {a f x} : (s.setFld a f x).entries = s.entries := rfl
@[simp] theorem State.setFld_tl {a f x} : (s.setFld a f x).tl = s.tl := rfl
@[simp] theorem State.setFld_taken {a f x} : (s.setFld a f x).taken = s.taken := rfl
@[simp] theorem State.setFld_waiting {a f x} : (s.setFld a f x).waiting = s.waiting := rfl
@[simp] theorem State.setFld_allocs {a f x} : (s.setFld a f x).allocs = s.allocs := rfl
@[simp] theorem State.setFld_enrolled {a f x} : (s.setFld a f x).enrolled = s.enrolled := rfl
@[simp] theorem State.setFld_weightKeys {a f x} : (s.setFld a f x).weightKeys = s.weightKeys := rfl
@[simp] theorem State.setFld_engines {a f x} : (s.setFld a f x).engines = s.engines := rfl
@[simp] theorem State.setFld_mctl {a f x} : (s.setFld a f x).mctl = s.mctl := rfl
@[simp] theorem State.setFld_health {a f x} : (s.setFld a f x).health = s.health := rfl
@[simp] theorem State.setFld_store {a f x} : (s.setFld a f x).store = s.store := rfl
@[simp] theorem State.setFld_sec {a f x} : (s.setFld a f x).sec = s.sec := rfl
@[simp] theorem State.setFld_ports {a f x} : (s.setFld a f x).ports = s.ports := rfl
@[simp] theorem State.setFld_egress {a f x} : (s.setFld a f x).egress = s.egress := rfl
@[simp] theorem State.setFld_ingress {a f x} : (s.setFld a f x).ingress = s.ingress := rfl
@[simp] theorem State.setFld_joins {a f x} : (s.setFld a f x).joins = s.joins := rfl
@[simp] theorem State.setFld_time {a f x} : (s.setFld a f x).time = s.time := rfl
@[simp] theorem State.setFld_power {a f x} : (s.setFld a f x).power = s.power := rfl
@[simp] theorem State.setFld_sb {a f x} : (s.setFld a f x).sb = s.sb := rfl
@[simp] theorem State.setFld_boot {a f x} : (s.setFld a f x).boot = s.boot := rfl
@[simp] theorem State.setFld_wdt {a f x} : (s.setFld a f x).wdt = s.wdt := rfl
@[simp] theorem State.setFld_smp {a f x} : (s.setFld a f x).smp = s.smp := rfl
@[simp] theorem State.setFld_tap {a f x} : (s.setFld a f x).tap = s.tap := rfl

/-! ## setBit -/

@[simp] theorem State.setBit_pending {a f b} : (s.setBit a f b).pending = s.pending := rfl
@[simp] theorem State.setBit_freeCtr {a f b} : (s.setBit a f b).freeCtr = s.freeCtr := rfl
@[simp] theorem State.setBit_part {a f b} : (s.setBit a f b).part = s.part := rfl
@[simp] theorem State.setBit_mem {a f b} : (s.setBit a f b).mem = s.mem := rfl
@[simp] theorem State.setBit_lost {a f b} : (s.setBit a f b).lost = s.lost := rfl
@[simp] theorem State.setBit_ue {a f b} : (s.setBit a f b).ue = s.ue := rfl
@[simp] theorem State.setBit_me {a f b} : (s.setBit a f b).me = s.me := rfl
@[simp] theorem State.setBit_vsp {a f b} : (s.setBit a f b).vsp = s.vsp := rfl
@[simp] theorem State.setBit_ag {a f b} : (s.setBit a f b).ag = s.ag := rfl
@[simp] theorem State.setBit_agFifo {a f b} : (s.setBit a f b).agFifo = s.agFifo := rfl
@[simp] theorem State.setBit_mu {a f b} : (s.setBit a f b).mu = s.mu := rfl
@[simp] theorem State.setBit_popped {a f b} : (s.setBit a f b).popped = s.popped := rfl
@[simp] theorem State.setBit_foldEob {a f b} : (s.setBit a f b).foldEob = s.foldEob := rfl
@[simp] theorem State.setBit_net {a f b} : (s.setBit a f b).net = s.net := rfl
@[simp] theorem State.setBit_eps {a f b} : (s.setBit a f b).eps = s.eps := rfl
@[simp] theorem State.setBit_reorder {a f b} : (s.setBit a f b).reorder = s.reorder := rfl
@[simp] theorem State.setBit_signals {a f b} : (s.setBit a f b).signals = s.signals := rfl
@[simp] theorem State.setBit_ctxs {a f b} : (s.setBit a f b).ctxs = s.ctxs := rfl
@[simp] theorem State.setBit_entries {a f b} : (s.setBit a f b).entries = s.entries := rfl
@[simp] theorem State.setBit_tl {a f b} : (s.setBit a f b).tl = s.tl := rfl
@[simp] theorem State.setBit_taken {a f b} : (s.setBit a f b).taken = s.taken := rfl
@[simp] theorem State.setBit_waiting {a f b} : (s.setBit a f b).waiting = s.waiting := rfl
@[simp] theorem State.setBit_allocs {a f b} : (s.setBit a f b).allocs = s.allocs := rfl
@[simp] theorem State.setBit_enrolled {a f b} : (s.setBit a f b).enrolled = s.enrolled := rfl
@[simp] theorem State.setBit_weightKeys {a f b} : (s.setBit a f b).weightKeys = s.weightKeys := rfl
@[simp] theorem State.setBit_engines {a f b} : (s.setBit a f b).engines = s.engines := rfl
@[simp] theorem State.setBit_mctl {a f b} : (s.setBit a f b).mctl = s.mctl := rfl
@[simp] theorem State.setBit_health {a f b} : (s.setBit a f b).health = s.health := rfl
@[simp] theorem State.setBit_store {a f b} : (s.setBit a f b).store = s.store := rfl
@[simp] theorem State.setBit_sec {a f b} : (s.setBit a f b).sec = s.sec := rfl
@[simp] theorem State.setBit_ports {a f b} : (s.setBit a f b).ports = s.ports := rfl
@[simp] theorem State.setBit_egress {a f b} : (s.setBit a f b).egress = s.egress := rfl
@[simp] theorem State.setBit_ingress {a f b} : (s.setBit a f b).ingress = s.ingress := rfl
@[simp] theorem State.setBit_joins {a f b} : (s.setBit a f b).joins = s.joins := rfl
@[simp] theorem State.setBit_time {a f b} : (s.setBit a f b).time = s.time := rfl
@[simp] theorem State.setBit_power {a f b} : (s.setBit a f b).power = s.power := rfl
@[simp] theorem State.setBit_sb {a f b} : (s.setBit a f b).sb = s.sb := rfl
@[simp] theorem State.setBit_boot {a f b} : (s.setBit a f b).boot = s.boot := rfl
@[simp] theorem State.setBit_wdt {a f b} : (s.setBit a f b).wdt = s.wdt := rfl
@[simp] theorem State.setBit_smp {a f b} : (s.setBit a f b).smp = s.smp := rfl
@[simp] theorem State.setBit_tap {a f b} : (s.setBit a f b).tap = s.tap := rfl

/-! ## resetRegs -/

@[simp] theorem State.resetRegs_pending {p : Nat → Bool} : (s.resetRegs p).pending = s.pending := rfl
@[simp] theorem State.resetRegs_freeCtr {p : Nat → Bool} : (s.resetRegs p).freeCtr = s.freeCtr := rfl
@[simp] theorem State.resetRegs_part {p : Nat → Bool} : (s.resetRegs p).part = s.part := rfl
@[simp] theorem State.resetRegs_regs {p : Nat → Bool} : (s.resetRegs p).regs = Sparse.clear s.regs p := rfl
@[simp] theorem State.resetRegs_mem {p : Nat → Bool} : (s.resetRegs p).mem = s.mem := rfl
@[simp] theorem State.resetRegs_lost {p : Nat → Bool} : (s.resetRegs p).lost = s.lost := rfl
@[simp] theorem State.resetRegs_ue {p : Nat → Bool} : (s.resetRegs p).ue = s.ue := rfl
@[simp] theorem State.resetRegs_me {p : Nat → Bool} : (s.resetRegs p).me = s.me := rfl
@[simp] theorem State.resetRegs_vsp {p : Nat → Bool} : (s.resetRegs p).vsp = s.vsp := rfl
@[simp] theorem State.resetRegs_ag {p : Nat → Bool} : (s.resetRegs p).ag = s.ag := rfl
@[simp] theorem State.resetRegs_agFifo {p : Nat → Bool} : (s.resetRegs p).agFifo = s.agFifo := rfl
@[simp] theorem State.resetRegs_mu {p : Nat → Bool} : (s.resetRegs p).mu = s.mu := rfl
@[simp] theorem State.resetRegs_popped {p : Nat → Bool} : (s.resetRegs p).popped = s.popped := rfl
@[simp] theorem State.resetRegs_foldEob {p : Nat → Bool} : (s.resetRegs p).foldEob = s.foldEob := rfl
@[simp] theorem State.resetRegs_net {p : Nat → Bool} : (s.resetRegs p).net = s.net := rfl
@[simp] theorem State.resetRegs_eps {p : Nat → Bool} : (s.resetRegs p).eps = s.eps := rfl
@[simp] theorem State.resetRegs_reorder {p : Nat → Bool} : (s.resetRegs p).reorder = s.reorder := rfl
@[simp] theorem State.resetRegs_signals {p : Nat → Bool} : (s.resetRegs p).signals = s.signals := rfl
@[simp] theorem State.resetRegs_ctxs {p : Nat → Bool} : (s.resetRegs p).ctxs = s.ctxs := rfl
@[simp] theorem State.resetRegs_entries {p : Nat → Bool} : (s.resetRegs p).entries = s.entries := rfl
@[simp] theorem State.resetRegs_tl {p : Nat → Bool} : (s.resetRegs p).tl = s.tl := rfl
@[simp] theorem State.resetRegs_taken {p : Nat → Bool} : (s.resetRegs p).taken = s.taken := rfl
@[simp] theorem State.resetRegs_waiting {p : Nat → Bool} : (s.resetRegs p).waiting = s.waiting := rfl
@[simp] theorem State.resetRegs_allocs {p : Nat → Bool} : (s.resetRegs p).allocs = s.allocs := rfl
@[simp] theorem State.resetRegs_enrolled {p : Nat → Bool} : (s.resetRegs p).enrolled = s.enrolled := rfl
@[simp] theorem State.resetRegs_weightKeys {p : Nat → Bool} : (s.resetRegs p).weightKeys = s.weightKeys := rfl
@[simp] theorem State.resetRegs_engines {p : Nat → Bool} : (s.resetRegs p).engines = s.engines := rfl
@[simp] theorem State.resetRegs_mctl {p : Nat → Bool} : (s.resetRegs p).mctl = s.mctl := rfl
@[simp] theorem State.resetRegs_health {p : Nat → Bool} : (s.resetRegs p).health = s.health := rfl
@[simp] theorem State.resetRegs_store {p : Nat → Bool} : (s.resetRegs p).store = s.store := rfl
@[simp] theorem State.resetRegs_sec {p : Nat → Bool} : (s.resetRegs p).sec = s.sec := rfl
@[simp] theorem State.resetRegs_ports {p : Nat → Bool} : (s.resetRegs p).ports = s.ports := rfl
@[simp] theorem State.resetRegs_egress {p : Nat → Bool} : (s.resetRegs p).egress = s.egress := rfl
@[simp] theorem State.resetRegs_ingress {p : Nat → Bool} : (s.resetRegs p).ingress = s.ingress := rfl
@[simp] theorem State.resetRegs_joins {p : Nat → Bool} : (s.resetRegs p).joins = s.joins := rfl
@[simp] theorem State.resetRegs_time {p : Nat → Bool} : (s.resetRegs p).time = s.time := rfl
@[simp] theorem State.resetRegs_power {p : Nat → Bool} : (s.resetRegs p).power = s.power := rfl
@[simp] theorem State.resetRegs_sb {p : Nat → Bool} : (s.resetRegs p).sb = s.sb := rfl
@[simp] theorem State.resetRegs_boot {p : Nat → Bool} : (s.resetRegs p).boot = s.boot := rfl
@[simp] theorem State.resetRegs_wdt {p : Nat → Bool} : (s.resetRegs p).wdt = s.wdt := rfl
@[simp] theorem State.resetRegs_smp {p : Nat → Bool} : (s.resetRegs p).smp = s.smp := rfl
@[simp] theorem State.resetRegs_tap {p : Nat → Bool} : (s.resetRegs p).tap = s.tap := rfl

/-! ## wordsWritten -/

@[simp] theorem State.wordsWritten_pending {a n} : (s.wordsWritten a n).pending = s.pending := rfl
@[simp] theorem State.wordsWritten_freeCtr {a n} : (s.wordsWritten a n).freeCtr = s.freeCtr := rfl
@[simp] theorem State.wordsWritten_part {a n} : (s.wordsWritten a n).part = s.part := rfl
@[simp] theorem State.wordsWritten_regs {a n} : (s.wordsWritten a n).regs = s.regs := rfl
@[simp] theorem State.wordsWritten_mem {a n} : (s.wordsWritten a n).mem = s.mem := rfl
@[simp] theorem State.wordsWritten_lost {a n} : (s.wordsWritten a n).lost = s.lost := rfl
@[simp] theorem State.wordsWritten_me {a n} : (s.wordsWritten a n).me = s.me := rfl
@[simp] theorem State.wordsWritten_vsp {a n} : (s.wordsWritten a n).vsp = s.vsp := rfl
@[simp] theorem State.wordsWritten_ag {a n} : (s.wordsWritten a n).ag = s.ag := rfl
@[simp] theorem State.wordsWritten_agFifo {a n} : (s.wordsWritten a n).agFifo = s.agFifo := rfl
@[simp] theorem State.wordsWritten_mu {a n} : (s.wordsWritten a n).mu = s.mu := rfl
@[simp] theorem State.wordsWritten_popped {a n} : (s.wordsWritten a n).popped = s.popped := rfl
@[simp] theorem State.wordsWritten_foldEob {a n} : (s.wordsWritten a n).foldEob = s.foldEob := rfl
@[simp] theorem State.wordsWritten_net {a n} : (s.wordsWritten a n).net = s.net := rfl
@[simp] theorem State.wordsWritten_eps {a n} : (s.wordsWritten a n).eps = s.eps := rfl
@[simp] theorem State.wordsWritten_reorder {a n} : (s.wordsWritten a n).reorder = s.reorder := rfl
@[simp] theorem State.wordsWritten_signals {a n} : (s.wordsWritten a n).signals = s.signals := rfl
@[simp] theorem State.wordsWritten_ctxs {a n} : (s.wordsWritten a n).ctxs = s.ctxs := rfl
@[simp] theorem State.wordsWritten_entries {a n} : (s.wordsWritten a n).entries = s.entries := rfl
@[simp] theorem State.wordsWritten_tl {a n} : (s.wordsWritten a n).tl = s.tl := rfl
@[simp] theorem State.wordsWritten_taken {a n} : (s.wordsWritten a n).taken = s.taken := rfl
@[simp] theorem State.wordsWritten_waiting {a n} : (s.wordsWritten a n).waiting = s.waiting := rfl
@[simp] theorem State.wordsWritten_allocs {a n} : (s.wordsWritten a n).allocs = s.allocs := rfl
@[simp] theorem State.wordsWritten_enrolled {a n} : (s.wordsWritten a n).enrolled = s.enrolled := rfl
@[simp] theorem State.wordsWritten_weightKeys {a n} : (s.wordsWritten a n).weightKeys = s.weightKeys := rfl
@[simp] theorem State.wordsWritten_engines {a n} : (s.wordsWritten a n).engines = s.engines := rfl
@[simp] theorem State.wordsWritten_mctl {a n} : (s.wordsWritten a n).mctl = s.mctl := rfl
@[simp] theorem State.wordsWritten_health {a n} : (s.wordsWritten a n).health = s.health := rfl
@[simp] theorem State.wordsWritten_store {a n} : (s.wordsWritten a n).store = s.store := rfl
@[simp] theorem State.wordsWritten_sec {a n} : (s.wordsWritten a n).sec = s.sec := rfl
@[simp] theorem State.wordsWritten_ports {a n} : (s.wordsWritten a n).ports = s.ports := rfl
@[simp] theorem State.wordsWritten_egress {a n} : (s.wordsWritten a n).egress = s.egress := rfl
@[simp] theorem State.wordsWritten_ingress {a n} : (s.wordsWritten a n).ingress = s.ingress := rfl
@[simp] theorem State.wordsWritten_joins {a n} : (s.wordsWritten a n).joins = s.joins := rfl
@[simp] theorem State.wordsWritten_time {a n} : (s.wordsWritten a n).time = s.time := rfl
@[simp] theorem State.wordsWritten_power {a n} : (s.wordsWritten a n).power = s.power := rfl
@[simp] theorem State.wordsWritten_sb {a n} : (s.wordsWritten a n).sb = s.sb := rfl
@[simp] theorem State.wordsWritten_boot {a n} : (s.wordsWritten a n).boot = s.boot := rfl
@[simp] theorem State.wordsWritten_wdt {a n} : (s.wordsWritten a n).wdt = s.wdt := rfl
@[simp] theorem State.wordsWritten_smp {a n} : (s.wordsWritten a n).smp = s.smp := rfl
@[simp] theorem State.wordsWritten_tap {a n} : (s.wordsWritten a n).tap = s.tap := rfl

/-! ## setBytes -/

@[simp] theorem State.setBytes_pending {a l} : (s.setBytes a l).pending = s.pending := rfl
@[simp] theorem State.setBytes_freeCtr {a l} : (s.setBytes a l).freeCtr = s.freeCtr := rfl
@[simp] theorem State.setBytes_part {a l} : (s.setBytes a l).part = s.part := rfl
@[simp] theorem State.setBytes_regs {a l} : (s.setBytes a l).regs = s.regs := rfl
@[simp] theorem State.setBytes_mem {a l} : (s.setBytes a l).mem = writeCells s.mem a l := rfl
@[simp] theorem State.setBytes_lost {a l} : (s.setBytes a l).lost = lostWithout s.lost a l.length := rfl
@[simp] theorem State.setBytes_me {a l} : (s.setBytes a l).me = s.me := rfl
@[simp] theorem State.setBytes_vsp {a l} : (s.setBytes a l).vsp = s.vsp := rfl
@[simp] theorem State.setBytes_ag {a l} : (s.setBytes a l).ag = s.ag := rfl
@[simp] theorem State.setBytes_agFifo {a l} : (s.setBytes a l).agFifo = s.agFifo := rfl
@[simp] theorem State.setBytes_mu {a l} : (s.setBytes a l).mu = s.mu := rfl
@[simp] theorem State.setBytes_popped {a l} : (s.setBytes a l).popped = s.popped := rfl
@[simp] theorem State.setBytes_foldEob {a l} : (s.setBytes a l).foldEob = s.foldEob := rfl
@[simp] theorem State.setBytes_net {a l} : (s.setBytes a l).net = s.net := rfl
@[simp] theorem State.setBytes_eps {a l} : (s.setBytes a l).eps = s.eps := rfl
@[simp] theorem State.setBytes_reorder {a l} : (s.setBytes a l).reorder = s.reorder := rfl
@[simp] theorem State.setBytes_signals {a l} : (s.setBytes a l).signals = s.signals := rfl
@[simp] theorem State.setBytes_ctxs {a l} : (s.setBytes a l).ctxs = s.ctxs := rfl
@[simp] theorem State.setBytes_entries {a l} : (s.setBytes a l).entries = s.entries := rfl
@[simp] theorem State.setBytes_tl {a l} : (s.setBytes a l).tl = s.tl := rfl
@[simp] theorem State.setBytes_taken {a l} : (s.setBytes a l).taken = s.taken := rfl
@[simp] theorem State.setBytes_waiting {a l} : (s.setBytes a l).waiting = s.waiting := rfl
@[simp] theorem State.setBytes_allocs {a l} : (s.setBytes a l).allocs = s.allocs := rfl
@[simp] theorem State.setBytes_enrolled {a l} : (s.setBytes a l).enrolled = s.enrolled := rfl
@[simp] theorem State.setBytes_weightKeys {a l} : (s.setBytes a l).weightKeys = s.weightKeys := rfl
@[simp] theorem State.setBytes_engines {a l} : (s.setBytes a l).engines = s.engines := rfl
@[simp] theorem State.setBytes_mctl {a l} : (s.setBytes a l).mctl = s.mctl := rfl
@[simp] theorem State.setBytes_health {a l} : (s.setBytes a l).health = s.health := rfl
@[simp] theorem State.setBytes_store {a l} : (s.setBytes a l).store = s.store := rfl
@[simp] theorem State.setBytes_sec {a l} : (s.setBytes a l).sec = s.sec := rfl
@[simp] theorem State.setBytes_ports {a l} : (s.setBytes a l).ports = s.ports := rfl
@[simp] theorem State.setBytes_egress {a l} : (s.setBytes a l).egress = s.egress := rfl
@[simp] theorem State.setBytes_ingress {a l} : (s.setBytes a l).ingress = s.ingress := rfl
@[simp] theorem State.setBytes_joins {a l} : (s.setBytes a l).joins = s.joins := rfl
@[simp] theorem State.setBytes_time {a l} : (s.setBytes a l).time = s.time := rfl
@[simp] theorem State.setBytes_power {a l} : (s.setBytes a l).power = s.power := rfl
@[simp] theorem State.setBytes_sb {a l} : (s.setBytes a l).sb = s.sb := rfl
@[simp] theorem State.setBytes_boot {a l} : (s.setBytes a l).boot = s.boot := rfl
@[simp] theorem State.setBytes_wdt {a l} : (s.setBytes a l).wdt = s.wdt := rfl
@[simp] theorem State.setBytes_smp {a l} : (s.setBytes a l).smp = s.smp := rfl
@[simp] theorem State.setBytes_tap {a l} : (s.setBytes a l).tap = s.tap := rfl

/-! ## setNum -/

@[simp] theorem State.setNum_pending {a n v} : (s.setNum a n v).pending = s.pending := rfl
@[simp] theorem State.setNum_freeCtr {a n v} : (s.setNum a n v).freeCtr = s.freeCtr := rfl
@[simp] theorem State.setNum_part {a n v} : (s.setNum a n v).part = s.part := rfl
@[simp] theorem State.setNum_regs {a n v} : (s.setNum a n v).regs = s.regs := rfl
@[simp] theorem State.setNum_me {a n v} : (s.setNum a n v).me = s.me := rfl
@[simp] theorem State.setNum_vsp {a n v} : (s.setNum a n v).vsp = s.vsp := rfl
@[simp] theorem State.setNum_ag {a n v} : (s.setNum a n v).ag = s.ag := rfl
@[simp] theorem State.setNum_agFifo {a n v} : (s.setNum a n v).agFifo = s.agFifo := rfl
@[simp] theorem State.setNum_mu {a n v} : (s.setNum a n v).mu = s.mu := rfl
@[simp] theorem State.setNum_popped {a n v} : (s.setNum a n v).popped = s.popped := rfl
@[simp] theorem State.setNum_foldEob {a n v} : (s.setNum a n v).foldEob = s.foldEob := rfl
@[simp] theorem State.setNum_net {a n v} : (s.setNum a n v).net = s.net := rfl
@[simp] theorem State.setNum_eps {a n v} : (s.setNum a n v).eps = s.eps := rfl
@[simp] theorem State.setNum_reorder {a n v} : (s.setNum a n v).reorder = s.reorder := rfl
@[simp] theorem State.setNum_signals {a n v} : (s.setNum a n v).signals = s.signals := rfl
@[simp] theorem State.setNum_ctxs {a n v} : (s.setNum a n v).ctxs = s.ctxs := rfl
@[simp] theorem State.setNum_entries {a n v} : (s.setNum a n v).entries = s.entries := rfl
@[simp] theorem State.setNum_tl {a n v} : (s.setNum a n v).tl = s.tl := rfl
@[simp] theorem State.setNum_taken {a n v} : (s.setNum a n v).taken = s.taken := rfl
@[simp] theorem State.setNum_waiting {a n v} : (s.setNum a n v).waiting = s.waiting := rfl
@[simp] theorem State.setNum_allocs {a n v} : (s.setNum a n v).allocs = s.allocs := rfl
@[simp] theorem State.setNum_enrolled {a n v} : (s.setNum a n v).enrolled = s.enrolled := rfl
@[simp] theorem State.setNum_weightKeys {a n v} : (s.setNum a n v).weightKeys = s.weightKeys := rfl
@[simp] theorem State.setNum_engines {a n v} : (s.setNum a n v).engines = s.engines := rfl
@[simp] theorem State.setNum_mctl {a n v} : (s.setNum a n v).mctl = s.mctl := rfl
@[simp] theorem State.setNum_health {a n v} : (s.setNum a n v).health = s.health := rfl
@[simp] theorem State.setNum_store {a n v} : (s.setNum a n v).store = s.store := rfl
@[simp] theorem State.setNum_sec {a n v} : (s.setNum a n v).sec = s.sec := rfl
@[simp] theorem State.setNum_ports {a n v} : (s.setNum a n v).ports = s.ports := rfl
@[simp] theorem State.setNum_egress {a n v} : (s.setNum a n v).egress = s.egress := rfl
@[simp] theorem State.setNum_ingress {a n v} : (s.setNum a n v).ingress = s.ingress := rfl
@[simp] theorem State.setNum_joins {a n v} : (s.setNum a n v).joins = s.joins := rfl
@[simp] theorem State.setNum_time {a n v} : (s.setNum a n v).time = s.time := rfl
@[simp] theorem State.setNum_power {a n v} : (s.setNum a n v).power = s.power := rfl
@[simp] theorem State.setNum_sb {a n v} : (s.setNum a n v).sb = s.sb := rfl
@[simp] theorem State.setNum_boot {a n v} : (s.setNum a n v).boot = s.boot := rfl
@[simp] theorem State.setNum_wdt {a n v} : (s.setNum a n v).wdt = s.wdt := rfl
@[simp] theorem State.setNum_smp {a n v} : (s.setNum a n v).smp = s.smp := rfl
@[simp] theorem State.setNum_tap {a n v} : (s.setNum a n v).tap = s.tap := rfl

/-! ## zeroRange -/

@[simp] theorem State.zeroRange_pending {a n} : (s.zeroRange a n).pending = s.pending := rfl
@[simp] theorem State.zeroRange_freeCtr {a n} : (s.zeroRange a n).freeCtr = s.freeCtr := rfl
@[simp] theorem State.zeroRange_part {a n} : (s.zeroRange a n).part = s.part := rfl
@[simp] theorem State.zeroRange_regs {a n} : (s.zeroRange a n).regs = s.regs := rfl
@[simp] theorem State.zeroRange_mem {a n} : (s.zeroRange a n).mem =
    Sparse.clear s.mem (fun k => decide (a ≤ k ∧ k < a + n)) := rfl
@[simp] theorem State.zeroRange_lost {a n} : (s.zeroRange a n).lost = lostWithout s.lost a n := rfl
@[simp] theorem State.zeroRange_me {a n} : (s.zeroRange a n).me = s.me := rfl
@[simp] theorem State.zeroRange_vsp {a n} : (s.zeroRange a n).vsp = s.vsp := rfl
@[simp] theorem State.zeroRange_ag {a n} : (s.zeroRange a n).ag = s.ag := rfl
@[simp] theorem State.zeroRange_agFifo {a n} : (s.zeroRange a n).agFifo = s.agFifo := rfl
@[simp] theorem State.zeroRange_mu {a n} : (s.zeroRange a n).mu = s.mu := rfl
@[simp] theorem State.zeroRange_popped {a n} : (s.zeroRange a n).popped = s.popped := rfl
@[simp] theorem State.zeroRange_foldEob {a n} : (s.zeroRange a n).foldEob = s.foldEob := rfl
@[simp] theorem State.zeroRange_net {a n} : (s.zeroRange a n).net = s.net := rfl
@[simp] theorem State.zeroRange_eps {a n} : (s.zeroRange a n).eps = s.eps := rfl
@[simp] theorem State.zeroRange_reorder {a n} : (s.zeroRange a n).reorder = s.reorder := rfl
@[simp] theorem State.zeroRange_signals {a n} : (s.zeroRange a n).signals = s.signals := rfl
@[simp] theorem State.zeroRange_ctxs {a n} : (s.zeroRange a n).ctxs = s.ctxs := rfl
@[simp] theorem State.zeroRange_entries {a n} : (s.zeroRange a n).entries = s.entries := rfl
@[simp] theorem State.zeroRange_tl {a n} : (s.zeroRange a n).tl = s.tl := rfl
@[simp] theorem State.zeroRange_taken {a n} : (s.zeroRange a n).taken = s.taken := rfl
@[simp] theorem State.zeroRange_waiting {a n} : (s.zeroRange a n).waiting = s.waiting := rfl
@[simp] theorem State.zeroRange_allocs {a n} : (s.zeroRange a n).allocs = s.allocs := rfl
@[simp] theorem State.zeroRange_enrolled {a n} : (s.zeroRange a n).enrolled = s.enrolled := rfl
@[simp] theorem State.zeroRange_weightKeys {a n} : (s.zeroRange a n).weightKeys = s.weightKeys := rfl
@[simp] theorem State.zeroRange_engines {a n} : (s.zeroRange a n).engines = s.engines := rfl
@[simp] theorem State.zeroRange_mctl {a n} : (s.zeroRange a n).mctl = s.mctl := rfl
@[simp] theorem State.zeroRange_health {a n} : (s.zeroRange a n).health = s.health := rfl
@[simp] theorem State.zeroRange_store {a n} : (s.zeroRange a n).store = s.store := rfl
@[simp] theorem State.zeroRange_sec {a n} : (s.zeroRange a n).sec = s.sec := rfl
@[simp] theorem State.zeroRange_ports {a n} : (s.zeroRange a n).ports = s.ports := rfl
@[simp] theorem State.zeroRange_egress {a n} : (s.zeroRange a n).egress = s.egress := rfl
@[simp] theorem State.zeroRange_ingress {a n} : (s.zeroRange a n).ingress = s.ingress := rfl
@[simp] theorem State.zeroRange_joins {a n} : (s.zeroRange a n).joins = s.joins := rfl
@[simp] theorem State.zeroRange_time {a n} : (s.zeroRange a n).time = s.time := rfl
@[simp] theorem State.zeroRange_power {a n} : (s.zeroRange a n).power = s.power := rfl
@[simp] theorem State.zeroRange_sb {a n} : (s.zeroRange a n).sb = s.sb := rfl
@[simp] theorem State.zeroRange_boot {a n} : (s.zeroRange a n).boot = s.boot := rfl
@[simp] theorem State.zeroRange_wdt {a n} : (s.zeroRange a n).wdt = s.wdt := rfl
@[simp] theorem State.zeroRange_smp {a n} : (s.zeroRange a n).smp = s.smp := rfl
@[simp] theorem State.zeroRange_tap {a n} : (s.zeroRange a n).tap = s.tap := rfl

/-! ## copyRange -/

@[simp] theorem State.copyRange_pending {a b n} : (s.copyRange a b n).pending = s.pending := rfl
@[simp] theorem State.copyRange_freeCtr {a b n} : (s.copyRange a b n).freeCtr = s.freeCtr := rfl
@[simp] theorem State.copyRange_part {a b n} : (s.copyRange a b n).part = s.part := rfl
@[simp] theorem State.copyRange_regs {a b n} : (s.copyRange a b n).regs = s.regs := rfl
@[simp] theorem State.copyRange_mem {a b n} : (s.copyRange a b n).mem =
    copyCells (Sparse.clear s.mem (fun k => decide (b ≤ k ∧ k < b + n))) a b
        (s.mem.filter (fun c => decide (a ≤ c.1 ∧ c.1 < a + n))) := rfl
@[simp] theorem State.copyRange_lost {a b n} : (s.copyRange a b n).lost =
    lostWithout s.lost b n ++ lostCopied s.lost a b n := rfl
@[simp] theorem State.copyRange_me {a b n} : (s.copyRange a b n).me = s.me := rfl
@[simp] theorem State.copyRange_vsp {a b n} : (s.copyRange a b n).vsp = s.vsp := rfl
@[simp] theorem State.copyRange_ag {a b n} : (s.copyRange a b n).ag = s.ag := rfl
@[simp] theorem State.copyRange_agFifo {a b n} : (s.copyRange a b n).agFifo = s.agFifo := rfl
@[simp] theorem State.copyRange_mu {a b n} : (s.copyRange a b n).mu = s.mu := rfl
@[simp] theorem State.copyRange_popped {a b n} : (s.copyRange a b n).popped = s.popped := rfl
@[simp] theorem State.copyRange_foldEob {a b n} : (s.copyRange a b n).foldEob = s.foldEob := rfl
@[simp] theorem State.copyRange_net {a b n} : (s.copyRange a b n).net = s.net := rfl
@[simp] theorem State.copyRange_eps {a b n} : (s.copyRange a b n).eps = s.eps := rfl
@[simp] theorem State.copyRange_reorder {a b n} : (s.copyRange a b n).reorder = s.reorder := rfl
@[simp] theorem State.copyRange_signals {a b n} : (s.copyRange a b n).signals = s.signals := rfl
@[simp] theorem State.copyRange_ctxs {a b n} : (s.copyRange a b n).ctxs = s.ctxs := rfl
@[simp] theorem State.copyRange_entries {a b n} : (s.copyRange a b n).entries = s.entries := rfl
@[simp] theorem State.copyRange_tl {a b n} : (s.copyRange a b n).tl = s.tl := rfl
@[simp] theorem State.copyRange_taken {a b n} : (s.copyRange a b n).taken = s.taken := rfl
@[simp] theorem State.copyRange_waiting {a b n} : (s.copyRange a b n).waiting = s.waiting := rfl
@[simp] theorem State.copyRange_allocs {a b n} : (s.copyRange a b n).allocs = s.allocs := rfl
@[simp] theorem State.copyRange_enrolled {a b n} : (s.copyRange a b n).enrolled = s.enrolled := rfl
@[simp] theorem State.copyRange_weightKeys {a b n} : (s.copyRange a b n).weightKeys = s.weightKeys := rfl
@[simp] theorem State.copyRange_engines {a b n} : (s.copyRange a b n).engines = s.engines := rfl
@[simp] theorem State.copyRange_mctl {a b n} : (s.copyRange a b n).mctl = s.mctl := rfl
@[simp] theorem State.copyRange_health {a b n} : (s.copyRange a b n).health = s.health := rfl
@[simp] theorem State.copyRange_store {a b n} : (s.copyRange a b n).store = s.store := rfl
@[simp] theorem State.copyRange_sec {a b n} : (s.copyRange a b n).sec = s.sec := rfl
@[simp] theorem State.copyRange_ports {a b n} : (s.copyRange a b n).ports = s.ports := rfl
@[simp] theorem State.copyRange_egress {a b n} : (s.copyRange a b n).egress = s.egress := rfl
@[simp] theorem State.copyRange_ingress {a b n} : (s.copyRange a b n).ingress = s.ingress := rfl
@[simp] theorem State.copyRange_joins {a b n} : (s.copyRange a b n).joins = s.joins := rfl
@[simp] theorem State.copyRange_time {a b n} : (s.copyRange a b n).time = s.time := rfl
@[simp] theorem State.copyRange_power {a b n} : (s.copyRange a b n).power = s.power := rfl
@[simp] theorem State.copyRange_sb {a b n} : (s.copyRange a b n).sb = s.sb := rfl
@[simp] theorem State.copyRange_boot {a b n} : (s.copyRange a b n).boot = s.boot := rfl
@[simp] theorem State.copyRange_wdt {a b n} : (s.copyRange a b n).wdt = s.wdt := rfl
@[simp] theorem State.copyRange_smp {a b n} : (s.copyRange a b n).smp = s.smp := rfl
@[simp] theorem State.copyRange_tap {a b n} : (s.copyRange a b n).tap = s.tap := rfl

/-! ## loseRange -/

@[simp] theorem State.loseRange_pending {a n} : (s.loseRange a n).pending = s.pending := rfl
@[simp] theorem State.loseRange_freeCtr {a n} : (s.loseRange a n).freeCtr = s.freeCtr + n := rfl
@[simp] theorem State.loseRange_part {a n} : (s.loseRange a n).part = s.part := rfl
@[simp] theorem State.loseRange_regs {a n} : (s.loseRange a n).regs = s.regs := rfl
@[simp] theorem State.loseRange_mem {a n} : (s.loseRange a n).mem =
    Sparse.clear s.mem (fun k => decide (a ≤ k ∧ k < a + n)) := rfl
@[simp] theorem State.loseRange_lost {a n} : (s.loseRange a n).lost =
    lostWithout s.lost a n ++ [(a, n, s.freeCtr)] := rfl
@[simp] theorem State.loseRange_me {a n} : (s.loseRange a n).me = s.me := rfl
@[simp] theorem State.loseRange_vsp {a n} : (s.loseRange a n).vsp = s.vsp := rfl
@[simp] theorem State.loseRange_ag {a n} : (s.loseRange a n).ag = s.ag := rfl
@[simp] theorem State.loseRange_agFifo {a n} : (s.loseRange a n).agFifo = s.agFifo := rfl
@[simp] theorem State.loseRange_mu {a n} : (s.loseRange a n).mu = s.mu := rfl
@[simp] theorem State.loseRange_popped {a n} : (s.loseRange a n).popped = s.popped := rfl
@[simp] theorem State.loseRange_foldEob {a n} : (s.loseRange a n).foldEob = s.foldEob := rfl
@[simp] theorem State.loseRange_net {a n} : (s.loseRange a n).net = s.net := rfl
@[simp] theorem State.loseRange_eps {a n} : (s.loseRange a n).eps = s.eps := rfl
@[simp] theorem State.loseRange_reorder {a n} : (s.loseRange a n).reorder = s.reorder := rfl
@[simp] theorem State.loseRange_signals {a n} : (s.loseRange a n).signals = s.signals := rfl
@[simp] theorem State.loseRange_ctxs {a n} : (s.loseRange a n).ctxs = s.ctxs := rfl
@[simp] theorem State.loseRange_entries {a n} : (s.loseRange a n).entries = s.entries := rfl
@[simp] theorem State.loseRange_tl {a n} : (s.loseRange a n).tl = s.tl := rfl
@[simp] theorem State.loseRange_taken {a n} : (s.loseRange a n).taken = s.taken := rfl
@[simp] theorem State.loseRange_waiting {a n} : (s.loseRange a n).waiting = s.waiting := rfl
@[simp] theorem State.loseRange_allocs {a n} : (s.loseRange a n).allocs = s.allocs := rfl
@[simp] theorem State.loseRange_enrolled {a n} : (s.loseRange a n).enrolled = s.enrolled := rfl
@[simp] theorem State.loseRange_weightKeys {a n} : (s.loseRange a n).weightKeys = s.weightKeys := rfl
@[simp] theorem State.loseRange_engines {a n} : (s.loseRange a n).engines = s.engines := rfl
@[simp] theorem State.loseRange_mctl {a n} : (s.loseRange a n).mctl = s.mctl := rfl
@[simp] theorem State.loseRange_health {a n} : (s.loseRange a n).health = s.health := rfl
@[simp] theorem State.loseRange_store {a n} : (s.loseRange a n).store = s.store := rfl
@[simp] theorem State.loseRange_sec {a n} : (s.loseRange a n).sec = s.sec := rfl
@[simp] theorem State.loseRange_ports {a n} : (s.loseRange a n).ports = s.ports := rfl
@[simp] theorem State.loseRange_egress {a n} : (s.loseRange a n).egress = s.egress := rfl
@[simp] theorem State.loseRange_ingress {a n} : (s.loseRange a n).ingress = s.ingress := rfl
@[simp] theorem State.loseRange_joins {a n} : (s.loseRange a n).joins = s.joins := rfl
@[simp] theorem State.loseRange_time {a n} : (s.loseRange a n).time = s.time := rfl
@[simp] theorem State.loseRange_power {a n} : (s.loseRange a n).power = s.power := rfl
@[simp] theorem State.loseRange_sb {a n} : (s.loseRange a n).sb = s.sb := rfl
@[simp] theorem State.loseRange_boot {a n} : (s.loseRange a n).boot = s.boot := rfl
@[simp] theorem State.loseRange_wdt {a n} : (s.loseRange a n).wdt = s.wdt := rfl
@[simp] theorem State.loseRange_smp {a n} : (s.loseRange a n).smp = s.smp := rfl
@[simp] theorem State.loseRange_tap {a n} : (s.loseRange a n).tap = s.tap := rfl

/-! ## draw -/

@[simp] theorem State.draw_pending {w} : ((s.draw w).2).pending = s.pending := rfl
@[simp] theorem State.draw_freeCtr {w} : ((s.draw w).2).freeCtr = s.freeCtr + 1 := rfl
@[simp] theorem State.draw_part {w} : ((s.draw w).2).part = s.part := rfl
@[simp] theorem State.draw_regs {w} : ((s.draw w).2).regs = s.regs := rfl
@[simp] theorem State.draw_mem {w} : ((s.draw w).2).mem = s.mem := rfl
@[simp] theorem State.draw_lost {w} : ((s.draw w).2).lost = s.lost := rfl
@[simp] theorem State.draw_ue {w} : ((s.draw w).2).ue = s.ue := rfl
@[simp] theorem State.draw_me {w} : ((s.draw w).2).me = s.me := rfl
@[simp] theorem State.draw_vsp {w} : ((s.draw w).2).vsp = s.vsp := rfl
@[simp] theorem State.draw_ag {w} : ((s.draw w).2).ag = s.ag := rfl
@[simp] theorem State.draw_agFifo {w} : ((s.draw w).2).agFifo = s.agFifo := rfl
@[simp] theorem State.draw_mu {w} : ((s.draw w).2).mu = s.mu := rfl
@[simp] theorem State.draw_popped {w} : ((s.draw w).2).popped = s.popped := rfl
@[simp] theorem State.draw_foldEob {w} : ((s.draw w).2).foldEob = s.foldEob := rfl
@[simp] theorem State.draw_net {w} : ((s.draw w).2).net = s.net := rfl
@[simp] theorem State.draw_eps {w} : ((s.draw w).2).eps = s.eps := rfl
@[simp] theorem State.draw_reorder {w} : ((s.draw w).2).reorder = s.reorder := rfl
@[simp] theorem State.draw_signals {w} : ((s.draw w).2).signals = s.signals := rfl
@[simp] theorem State.draw_ctxs {w} : ((s.draw w).2).ctxs = s.ctxs := rfl
@[simp] theorem State.draw_entries {w} : ((s.draw w).2).entries = s.entries := rfl
@[simp] theorem State.draw_tl {w} : ((s.draw w).2).tl = s.tl := rfl
@[simp] theorem State.draw_taken {w} : ((s.draw w).2).taken = s.taken := rfl
@[simp] theorem State.draw_waiting {w} : ((s.draw w).2).waiting = s.waiting := rfl
@[simp] theorem State.draw_allocs {w} : ((s.draw w).2).allocs = s.allocs := rfl
@[simp] theorem State.draw_enrolled {w} : ((s.draw w).2).enrolled = s.enrolled := rfl
@[simp] theorem State.draw_weightKeys {w} : ((s.draw w).2).weightKeys = s.weightKeys := rfl
@[simp] theorem State.draw_engines {w} : ((s.draw w).2).engines = s.engines := rfl
@[simp] theorem State.draw_mctl {w} : ((s.draw w).2).mctl = s.mctl := rfl
@[simp] theorem State.draw_health {w} : ((s.draw w).2).health = s.health := rfl
@[simp] theorem State.draw_store {w} : ((s.draw w).2).store = s.store := rfl
@[simp] theorem State.draw_sec {w} : ((s.draw w).2).sec = s.sec := rfl
@[simp] theorem State.draw_ports {w} : ((s.draw w).2).ports = s.ports := rfl
@[simp] theorem State.draw_egress {w} : ((s.draw w).2).egress = s.egress := rfl
@[simp] theorem State.draw_ingress {w} : ((s.draw w).2).ingress = s.ingress := rfl
@[simp] theorem State.draw_joins {w} : ((s.draw w).2).joins = s.joins := rfl
@[simp] theorem State.draw_time {w} : ((s.draw w).2).time = s.time := rfl
@[simp] theorem State.draw_power {w} : ((s.draw w).2).power = s.power := rfl
@[simp] theorem State.draw_sb {w} : ((s.draw w).2).sb = s.sb := rfl
@[simp] theorem State.draw_boot {w} : ((s.draw w).2).boot = s.boot := rfl
@[simp] theorem State.draw_wdt {w} : ((s.draw w).2).wdt = s.wdt := rfl
@[simp] theorem State.draw_smp {w} : ((s.draw w).2).smp = s.smp := rfl
@[simp] theorem State.draw_tap {w} : ((s.draw w).2).tap = s.tap := rfl

/-! ## withMemoryOf -/

@[simp] theorem State.withMemoryOf_pending {u : State} : (s.withMemoryOf u).pending = s.pending := rfl
@[simp] theorem State.withMemoryOf_freeCtr {u : State} : (s.withMemoryOf u).freeCtr = u.freeCtr := rfl
@[simp] theorem State.withMemoryOf_part {u : State} : (s.withMemoryOf u).part = s.part := rfl
@[simp] theorem State.withMemoryOf_regs {u : State} : (s.withMemoryOf u).regs = s.regs := rfl
@[simp] theorem State.withMemoryOf_mem {u : State} : (s.withMemoryOf u).mem = u.mem := rfl
@[simp] theorem State.withMemoryOf_lost {u : State} : (s.withMemoryOf u).lost = u.lost := rfl
@[simp] theorem State.withMemoryOf_ue {u : State} : (s.withMemoryOf u).ue = u.ue := rfl
@[simp] theorem State.withMemoryOf_me {u : State} : (s.withMemoryOf u).me = s.me := rfl
@[simp] theorem State.withMemoryOf_vsp {u : State} : (s.withMemoryOf u).vsp = s.vsp := rfl
@[simp] theorem State.withMemoryOf_ag {u : State} : (s.withMemoryOf u).ag = s.ag := rfl
@[simp] theorem State.withMemoryOf_agFifo {u : State} : (s.withMemoryOf u).agFifo = s.agFifo := rfl
@[simp] theorem State.withMemoryOf_mu {u : State} : (s.withMemoryOf u).mu = s.mu := rfl
@[simp] theorem State.withMemoryOf_popped {u : State} : (s.withMemoryOf u).popped = s.popped := rfl
@[simp] theorem State.withMemoryOf_foldEob {u : State} : (s.withMemoryOf u).foldEob = s.foldEob := rfl
@[simp] theorem State.withMemoryOf_net {u : State} : (s.withMemoryOf u).net = s.net := rfl
@[simp] theorem State.withMemoryOf_eps {u : State} : (s.withMemoryOf u).eps = s.eps := rfl
@[simp] theorem State.withMemoryOf_reorder {u : State} : (s.withMemoryOf u).reorder = s.reorder := rfl
@[simp] theorem State.withMemoryOf_signals {u : State} : (s.withMemoryOf u).signals = s.signals := rfl
@[simp] theorem State.withMemoryOf_ctxs {u : State} : (s.withMemoryOf u).ctxs = s.ctxs := rfl
@[simp] theorem State.withMemoryOf_entries {u : State} : (s.withMemoryOf u).entries = s.entries := rfl
@[simp] theorem State.withMemoryOf_tl {u : State} : (s.withMemoryOf u).tl = s.tl := rfl
@[simp] theorem State.withMemoryOf_taken {u : State} : (s.withMemoryOf u).taken = s.taken := rfl
@[simp] theorem State.withMemoryOf_waiting {u : State} : (s.withMemoryOf u).waiting = s.waiting := rfl
@[simp] theorem State.withMemoryOf_allocs {u : State} : (s.withMemoryOf u).allocs = s.allocs := rfl
@[simp] theorem State.withMemoryOf_enrolled {u : State} : (s.withMemoryOf u).enrolled = s.enrolled := rfl
@[simp] theorem State.withMemoryOf_weightKeys {u : State} : (s.withMemoryOf u).weightKeys = s.weightKeys := rfl
@[simp] theorem State.withMemoryOf_engines {u : State} : (s.withMemoryOf u).engines = s.engines := rfl
@[simp] theorem State.withMemoryOf_mctl {u : State} : (s.withMemoryOf u).mctl = s.mctl := rfl
@[simp] theorem State.withMemoryOf_health {u : State} : (s.withMemoryOf u).health = s.health := rfl
@[simp] theorem State.withMemoryOf_store {u : State} : (s.withMemoryOf u).store = s.store := rfl
@[simp] theorem State.withMemoryOf_sec {u : State} : (s.withMemoryOf u).sec = s.sec := rfl
@[simp] theorem State.withMemoryOf_ports {u : State} : (s.withMemoryOf u).ports = s.ports := rfl
@[simp] theorem State.withMemoryOf_egress {u : State} : (s.withMemoryOf u).egress = s.egress := rfl
@[simp] theorem State.withMemoryOf_ingress {u : State} : (s.withMemoryOf u).ingress = s.ingress := rfl
@[simp] theorem State.withMemoryOf_joins {u : State} : (s.withMemoryOf u).joins = s.joins := rfl
@[simp] theorem State.withMemoryOf_time {u : State} : (s.withMemoryOf u).time = s.time := rfl
@[simp] theorem State.withMemoryOf_power {u : State} : (s.withMemoryOf u).power = s.power := rfl
@[simp] theorem State.withMemoryOf_sb {u : State} : (s.withMemoryOf u).sb = s.sb := rfl
@[simp] theorem State.withMemoryOf_boot {u : State} : (s.withMemoryOf u).boot = s.boot := rfl
@[simp] theorem State.withMemoryOf_wdt {u : State} : (s.withMemoryOf u).wdt = s.wdt := rfl
@[simp] theorem State.withMemoryOf_smp {u : State} : (s.withMemoryOf u).smp = s.smp := rfl
@[simp] theorem State.withMemoryOf_tap {u : State} : (s.withMemoryOf u).tap = s.tap := rfl

/-! ## setMe -/

@[simp] theorem State.setMe_pending {p u} : (s.setMe p u).pending = s.pending := rfl
@[simp] theorem State.setMe_freeCtr {p u} : (s.setMe p u).freeCtr = s.freeCtr := rfl
@[simp] theorem State.setMe_part {p u} : (s.setMe p u).part = s.part := rfl
@[simp] theorem State.setMe_regs {p u} : (s.setMe p u).regs = s.regs := rfl
@[simp] theorem State.setMe_mem {p u} : (s.setMe p u).mem = s.mem := rfl
@[simp] theorem State.setMe_lost {p u} : (s.setMe p u).lost = s.lost := rfl
@[simp] theorem State.setMe_ue {p u} : (s.setMe p u).ue = s.ue := rfl
@[simp] theorem State.setMe_me {p u} : (s.setMe p u).me = tset {} s.me p u := rfl
@[simp] theorem State.setMe_vsp {p u} : (s.setMe p u).vsp = s.vsp := rfl
@[simp] theorem State.setMe_ag {p u} : (s.setMe p u).ag = s.ag := rfl
@[simp] theorem State.setMe_agFifo {p u} : (s.setMe p u).agFifo = s.agFifo := rfl
@[simp] theorem State.setMe_mu {p u} : (s.setMe p u).mu = s.mu := rfl
@[simp] theorem State.setMe_popped {p u} : (s.setMe p u).popped = s.popped := rfl
@[simp] theorem State.setMe_foldEob {p u} : (s.setMe p u).foldEob = s.foldEob := rfl
@[simp] theorem State.setMe_net {p u} : (s.setMe p u).net = s.net := rfl
@[simp] theorem State.setMe_eps {p u} : (s.setMe p u).eps = s.eps := rfl
@[simp] theorem State.setMe_reorder {p u} : (s.setMe p u).reorder = s.reorder := rfl
@[simp] theorem State.setMe_signals {p u} : (s.setMe p u).signals = s.signals := rfl
@[simp] theorem State.setMe_ctxs {p u} : (s.setMe p u).ctxs = s.ctxs := rfl
@[simp] theorem State.setMe_entries {p u} : (s.setMe p u).entries = s.entries := rfl
@[simp] theorem State.setMe_tl {p u} : (s.setMe p u).tl = s.tl := rfl
@[simp] theorem State.setMe_taken {p u} : (s.setMe p u).taken = s.taken := rfl
@[simp] theorem State.setMe_waiting {p u} : (s.setMe p u).waiting = s.waiting := rfl
@[simp] theorem State.setMe_allocs {p u} : (s.setMe p u).allocs = s.allocs := rfl
@[simp] theorem State.setMe_enrolled {p u} : (s.setMe p u).enrolled = s.enrolled := rfl
@[simp] theorem State.setMe_weightKeys {p u} : (s.setMe p u).weightKeys = s.weightKeys := rfl
@[simp] theorem State.setMe_engines {p u} : (s.setMe p u).engines = s.engines := rfl
@[simp] theorem State.setMe_mctl {p u} : (s.setMe p u).mctl = s.mctl := rfl
@[simp] theorem State.setMe_health {p u} : (s.setMe p u).health = s.health := rfl
@[simp] theorem State.setMe_store {p u} : (s.setMe p u).store = s.store := rfl
@[simp] theorem State.setMe_sec {p u} : (s.setMe p u).sec = s.sec := rfl
@[simp] theorem State.setMe_ports {p u} : (s.setMe p u).ports = s.ports := rfl
@[simp] theorem State.setMe_egress {p u} : (s.setMe p u).egress = s.egress := rfl
@[simp] theorem State.setMe_ingress {p u} : (s.setMe p u).ingress = s.ingress := rfl
@[simp] theorem State.setMe_joins {p u} : (s.setMe p u).joins = s.joins := rfl
@[simp] theorem State.setMe_time {p u} : (s.setMe p u).time = s.time := rfl
@[simp] theorem State.setMe_power {p u} : (s.setMe p u).power = s.power := rfl
@[simp] theorem State.setMe_sb {p u} : (s.setMe p u).sb = s.sb := rfl
@[simp] theorem State.setMe_boot {p u} : (s.setMe p u).boot = s.boot := rfl
@[simp] theorem State.setMe_wdt {p u} : (s.setMe p u).wdt = s.wdt := rfl
@[simp] theorem State.setMe_smp {p u} : (s.setMe p u).smp = s.smp := rfl
@[simp] theorem State.setMe_tap {p u} : (s.setMe p u).tap = s.tap := rfl

/-! ## setVsp -/

@[simp] theorem State.setVsp_pending {p u} : (s.setVsp p u).pending = s.pending := rfl
@[simp] theorem State.setVsp_freeCtr {p u} : (s.setVsp p u).freeCtr = s.freeCtr := rfl
@[simp] theorem State.setVsp_part {p u} : (s.setVsp p u).part = s.part := rfl
@[simp] theorem State.setVsp_regs {p u} : (s.setVsp p u).regs = s.regs := rfl
@[simp] theorem State.setVsp_mem {p u} : (s.setVsp p u).mem = s.mem := rfl
@[simp] theorem State.setVsp_lost {p u} : (s.setVsp p u).lost = s.lost := rfl
@[simp] theorem State.setVsp_ue {p u} : (s.setVsp p u).ue = s.ue := rfl
@[simp] theorem State.setVsp_me {p u} : (s.setVsp p u).me = s.me := rfl
@[simp] theorem State.setVsp_vsp {p u} : (s.setVsp p u).vsp = tset {} s.vsp p u := rfl
@[simp] theorem State.setVsp_ag {p u} : (s.setVsp p u).ag = s.ag := rfl
@[simp] theorem State.setVsp_agFifo {p u} : (s.setVsp p u).agFifo = s.agFifo := rfl
@[simp] theorem State.setVsp_mu {p u} : (s.setVsp p u).mu = s.mu := rfl
@[simp] theorem State.setVsp_popped {p u} : (s.setVsp p u).popped = s.popped := rfl
@[simp] theorem State.setVsp_foldEob {p u} : (s.setVsp p u).foldEob = s.foldEob := rfl
@[simp] theorem State.setVsp_net {p u} : (s.setVsp p u).net = s.net := rfl
@[simp] theorem State.setVsp_eps {p u} : (s.setVsp p u).eps = s.eps := rfl
@[simp] theorem State.setVsp_reorder {p u} : (s.setVsp p u).reorder = s.reorder := rfl
@[simp] theorem State.setVsp_signals {p u} : (s.setVsp p u).signals = s.signals := rfl
@[simp] theorem State.setVsp_ctxs {p u} : (s.setVsp p u).ctxs = s.ctxs := rfl
@[simp] theorem State.setVsp_entries {p u} : (s.setVsp p u).entries = s.entries := rfl
@[simp] theorem State.setVsp_tl {p u} : (s.setVsp p u).tl = s.tl := rfl
@[simp] theorem State.setVsp_taken {p u} : (s.setVsp p u).taken = s.taken := rfl
@[simp] theorem State.setVsp_waiting {p u} : (s.setVsp p u).waiting = s.waiting := rfl
@[simp] theorem State.setVsp_allocs {p u} : (s.setVsp p u).allocs = s.allocs := rfl
@[simp] theorem State.setVsp_enrolled {p u} : (s.setVsp p u).enrolled = s.enrolled := rfl
@[simp] theorem State.setVsp_weightKeys {p u} : (s.setVsp p u).weightKeys = s.weightKeys := rfl
@[simp] theorem State.setVsp_engines {p u} : (s.setVsp p u).engines = s.engines := rfl
@[simp] theorem State.setVsp_mctl {p u} : (s.setVsp p u).mctl = s.mctl := rfl
@[simp] theorem State.setVsp_health {p u} : (s.setVsp p u).health = s.health := rfl
@[simp] theorem State.setVsp_store {p u} : (s.setVsp p u).store = s.store := rfl
@[simp] theorem State.setVsp_sec {p u} : (s.setVsp p u).sec = s.sec := rfl
@[simp] theorem State.setVsp_ports {p u} : (s.setVsp p u).ports = s.ports := rfl
@[simp] theorem State.setVsp_egress {p u} : (s.setVsp p u).egress = s.egress := rfl
@[simp] theorem State.setVsp_ingress {p u} : (s.setVsp p u).ingress = s.ingress := rfl
@[simp] theorem State.setVsp_joins {p u} : (s.setVsp p u).joins = s.joins := rfl
@[simp] theorem State.setVsp_time {p u} : (s.setVsp p u).time = s.time := rfl
@[simp] theorem State.setVsp_power {p u} : (s.setVsp p u).power = s.power := rfl
@[simp] theorem State.setVsp_sb {p u} : (s.setVsp p u).sb = s.sb := rfl
@[simp] theorem State.setVsp_boot {p u} : (s.setVsp p u).boot = s.boot := rfl
@[simp] theorem State.setVsp_wdt {p u} : (s.setVsp p u).wdt = s.wdt := rfl
@[simp] theorem State.setVsp_smp {p u} : (s.setVsp p u).smp = s.smp := rfl
@[simp] theorem State.setVsp_tap {p u} : (s.setVsp p u).tap = s.tap := rfl

/-! ## setAg -/

@[simp] theorem State.setAg_pending {p n k u} : (s.setAg p n k u).pending = s.pending := rfl
@[simp] theorem State.setAg_freeCtr {p n k u} : (s.setAg p n k u).freeCtr = s.freeCtr := rfl
@[simp] theorem State.setAg_part {p n k u} : (s.setAg p n k u).part = s.part := rfl
@[simp] theorem State.setAg_regs {p n k u} : (s.setAg p n k u).regs = s.regs := rfl
@[simp] theorem State.setAg_mem {p n k u} : (s.setAg p n k u).mem = s.mem := rfl
@[simp] theorem State.setAg_lost {p n k u} : (s.setAg p n k u).lost = s.lost := rfl
@[simp] theorem State.setAg_ue {p n k u} : (s.setAg p n k u).ue = s.ue := rfl
@[simp] theorem State.setAg_me {p n k u} : (s.setAg p n k u).me = s.me := rfl
@[simp] theorem State.setAg_vsp {p n k u} : (s.setAg p n k u).vsp = s.vsp := rfl
@[simp] theorem State.setAg_ag {p n k u} : (s.setAg p n k u).ag = tset {} s.ag ((p * 4 + n) * 8 + k) u := rfl
@[simp] theorem State.setAg_agFifo {p n k u} : (s.setAg p n k u).agFifo = s.agFifo := rfl
@[simp] theorem State.setAg_mu {p n k u} : (s.setAg p n k u).mu = s.mu := rfl
@[simp] theorem State.setAg_popped {p n k u} : (s.setAg p n k u).popped = s.popped := rfl
@[simp] theorem State.setAg_foldEob {p n k u} : (s.setAg p n k u).foldEob = s.foldEob := rfl
@[simp] theorem State.setAg_net {p n k u} : (s.setAg p n k u).net = s.net := rfl
@[simp] theorem State.setAg_eps {p n k u} : (s.setAg p n k u).eps = s.eps := rfl
@[simp] theorem State.setAg_reorder {p n k u} : (s.setAg p n k u).reorder = s.reorder := rfl
@[simp] theorem State.setAg_signals {p n k u} : (s.setAg p n k u).signals = s.signals := rfl
@[simp] theorem State.setAg_ctxs {p n k u} : (s.setAg p n k u).ctxs = s.ctxs := rfl
@[simp] theorem State.setAg_entries {p n k u} : (s.setAg p n k u).entries = s.entries := rfl
@[simp] theorem State.setAg_tl {p n k u} : (s.setAg p n k u).tl = s.tl := rfl
@[simp] theorem State.setAg_taken {p n k u} : (s.setAg p n k u).taken = s.taken := rfl
@[simp] theorem State.setAg_waiting {p n k u} : (s.setAg p n k u).waiting = s.waiting := rfl
@[simp] theorem State.setAg_allocs {p n k u} : (s.setAg p n k u).allocs = s.allocs := rfl
@[simp] theorem State.setAg_enrolled {p n k u} : (s.setAg p n k u).enrolled = s.enrolled := rfl
@[simp] theorem State.setAg_weightKeys {p n k u} : (s.setAg p n k u).weightKeys = s.weightKeys := rfl
@[simp] theorem State.setAg_engines {p n k u} : (s.setAg p n k u).engines = s.engines := rfl
@[simp] theorem State.setAg_mctl {p n k u} : (s.setAg p n k u).mctl = s.mctl := rfl
@[simp] theorem State.setAg_health {p n k u} : (s.setAg p n k u).health = s.health := rfl
@[simp] theorem State.setAg_store {p n k u} : (s.setAg p n k u).store = s.store := rfl
@[simp] theorem State.setAg_sec {p n k u} : (s.setAg p n k u).sec = s.sec := rfl
@[simp] theorem State.setAg_ports {p n k u} : (s.setAg p n k u).ports = s.ports := rfl
@[simp] theorem State.setAg_egress {p n k u} : (s.setAg p n k u).egress = s.egress := rfl
@[simp] theorem State.setAg_ingress {p n k u} : (s.setAg p n k u).ingress = s.ingress := rfl
@[simp] theorem State.setAg_joins {p n k u} : (s.setAg p n k u).joins = s.joins := rfl
@[simp] theorem State.setAg_time {p n k u} : (s.setAg p n k u).time = s.time := rfl
@[simp] theorem State.setAg_power {p n k u} : (s.setAg p n k u).power = s.power := rfl
@[simp] theorem State.setAg_sb {p n k u} : (s.setAg p n k u).sb = s.sb := rfl
@[simp] theorem State.setAg_boot {p n k u} : (s.setAg p n k u).boot = s.boot := rfl
@[simp] theorem State.setAg_wdt {p n k u} : (s.setAg p n k u).wdt = s.wdt := rfl
@[simp] theorem State.setAg_smp {p n k u} : (s.setAg p n k u).smp = s.smp := rfl
@[simp] theorem State.setAg_tap {p n k u} : (s.setAg p n k u).tap = s.tap := rfl

/-! ## setFifo -/

@[simp] theorem State.setFifo_pending {p n l} : (s.setFifo p n l).pending = s.pending := rfl
@[simp] theorem State.setFifo_freeCtr {p n l} : (s.setFifo p n l).freeCtr = s.freeCtr := rfl
@[simp] theorem State.setFifo_part {p n l} : (s.setFifo p n l).part = s.part := rfl
@[simp] theorem State.setFifo_regs {p n l} : (s.setFifo p n l).regs = s.regs := rfl
@[simp] theorem State.setFifo_mem {p n l} : (s.setFifo p n l).mem = s.mem := rfl
@[simp] theorem State.setFifo_lost {p n l} : (s.setFifo p n l).lost = s.lost := rfl
@[simp] theorem State.setFifo_ue {p n l} : (s.setFifo p n l).ue = s.ue := rfl
@[simp] theorem State.setFifo_me {p n l} : (s.setFifo p n l).me = s.me := rfl
@[simp] theorem State.setFifo_vsp {p n l} : (s.setFifo p n l).vsp = s.vsp := rfl
@[simp] theorem State.setFifo_ag {p n l} : (s.setFifo p n l).ag = s.ag := rfl
@[simp] theorem State.setFifo_agFifo {p n l} : (s.setFifo p n l).agFifo =
    tset [] s.agFifo ((p * 4 + n) * 8 + s.slot p) l := rfl
@[simp] theorem State.setFifo_mu {p n l} : (s.setFifo p n l).mu = s.mu := rfl
@[simp] theorem State.setFifo_popped {p n l} : (s.setFifo p n l).popped = s.popped := rfl
@[simp] theorem State.setFifo_foldEob {p n l} : (s.setFifo p n l).foldEob = s.foldEob := rfl
@[simp] theorem State.setFifo_net {p n l} : (s.setFifo p n l).net = s.net := rfl
@[simp] theorem State.setFifo_eps {p n l} : (s.setFifo p n l).eps = s.eps := rfl
@[simp] theorem State.setFifo_reorder {p n l} : (s.setFifo p n l).reorder = s.reorder := rfl
@[simp] theorem State.setFifo_signals {p n l} : (s.setFifo p n l).signals = s.signals := rfl
@[simp] theorem State.setFifo_ctxs {p n l} : (s.setFifo p n l).ctxs = s.ctxs := rfl
@[simp] theorem State.setFifo_entries {p n l} : (s.setFifo p n l).entries = s.entries := rfl
@[simp] theorem State.setFifo_tl {p n l} : (s.setFifo p n l).tl = s.tl := rfl
@[simp] theorem State.setFifo_taken {p n l} : (s.setFifo p n l).taken = s.taken := rfl
@[simp] theorem State.setFifo_waiting {p n l} : (s.setFifo p n l).waiting = s.waiting := rfl
@[simp] theorem State.setFifo_allocs {p n l} : (s.setFifo p n l).allocs = s.allocs := rfl
@[simp] theorem State.setFifo_enrolled {p n l} : (s.setFifo p n l).enrolled = s.enrolled := rfl
@[simp] theorem State.setFifo_weightKeys {p n l} : (s.setFifo p n l).weightKeys = s.weightKeys := rfl
@[simp] theorem State.setFifo_engines {p n l} : (s.setFifo p n l).engines = s.engines := rfl
@[simp] theorem State.setFifo_mctl {p n l} : (s.setFifo p n l).mctl = s.mctl := rfl
@[simp] theorem State.setFifo_health {p n l} : (s.setFifo p n l).health = s.health := rfl
@[simp] theorem State.setFifo_store {p n l} : (s.setFifo p n l).store = s.store := rfl
@[simp] theorem State.setFifo_sec {p n l} : (s.setFifo p n l).sec = s.sec := rfl
@[simp] theorem State.setFifo_ports {p n l} : (s.setFifo p n l).ports = s.ports := rfl
@[simp] theorem State.setFifo_egress {p n l} : (s.setFifo p n l).egress = s.egress := rfl
@[simp] theorem State.setFifo_ingress {p n l} : (s.setFifo p n l).ingress = s.ingress := rfl
@[simp] theorem State.setFifo_joins {p n l} : (s.setFifo p n l).joins = s.joins := rfl
@[simp] theorem State.setFifo_time {p n l} : (s.setFifo p n l).time = s.time := rfl
@[simp] theorem State.setFifo_power {p n l} : (s.setFifo p n l).power = s.power := rfl
@[simp] theorem State.setFifo_sb {p n l} : (s.setFifo p n l).sb = s.sb := rfl
@[simp] theorem State.setFifo_boot {p n l} : (s.setFifo p n l).boot = s.boot := rfl
@[simp] theorem State.setFifo_wdt {p n l} : (s.setFifo p n l).wdt = s.wdt := rfl
@[simp] theorem State.setFifo_smp {p n l} : (s.setFifo p n l).smp = s.smp := rfl
@[simp] theorem State.setFifo_tap {p n l} : (s.setFifo p n l).tap = s.tap := rfl

/-! ## setMu -/

@[simp] theorem State.setMu_pending {p u} : (s.setMu p u).pending = s.pending := rfl
@[simp] theorem State.setMu_freeCtr {p u} : (s.setMu p u).freeCtr = s.freeCtr := rfl
@[simp] theorem State.setMu_part {p u} : (s.setMu p u).part = s.part := rfl
@[simp] theorem State.setMu_regs {p u} : (s.setMu p u).regs = s.regs := rfl
@[simp] theorem State.setMu_mem {p u} : (s.setMu p u).mem = s.mem := rfl
@[simp] theorem State.setMu_lost {p u} : (s.setMu p u).lost = s.lost := rfl
@[simp] theorem State.setMu_ue {p u} : (s.setMu p u).ue = s.ue := rfl
@[simp] theorem State.setMu_me {p u} : (s.setMu p u).me = s.me := rfl
@[simp] theorem State.setMu_vsp {p u} : (s.setMu p u).vsp = s.vsp := rfl
@[simp] theorem State.setMu_ag {p u} : (s.setMu p u).ag = s.ag := rfl
@[simp] theorem State.setMu_agFifo {p u} : (s.setMu p u).agFifo = s.agFifo := rfl
@[simp] theorem State.setMu_mu {p u} : (s.setMu p u).mu = tset {} s.mu p u := rfl
@[simp] theorem State.setMu_popped {p u} : (s.setMu p u).popped = s.popped := rfl
@[simp] theorem State.setMu_foldEob {p u} : (s.setMu p u).foldEob = s.foldEob := rfl
@[simp] theorem State.setMu_net {p u} : (s.setMu p u).net = s.net := rfl
@[simp] theorem State.setMu_eps {p u} : (s.setMu p u).eps = s.eps := rfl
@[simp] theorem State.setMu_reorder {p u} : (s.setMu p u).reorder = s.reorder := rfl
@[simp] theorem State.setMu_signals {p u} : (s.setMu p u).signals = s.signals := rfl
@[simp] theorem State.setMu_ctxs {p u} : (s.setMu p u).ctxs = s.ctxs := rfl
@[simp] theorem State.setMu_entries {p u} : (s.setMu p u).entries = s.entries := rfl
@[simp] theorem State.setMu_tl {p u} : (s.setMu p u).tl = s.tl := rfl
@[simp] theorem State.setMu_taken {p u} : (s.setMu p u).taken = s.taken := rfl
@[simp] theorem State.setMu_waiting {p u} : (s.setMu p u).waiting = s.waiting := rfl
@[simp] theorem State.setMu_allocs {p u} : (s.setMu p u).allocs = s.allocs := rfl
@[simp] theorem State.setMu_enrolled {p u} : (s.setMu p u).enrolled = s.enrolled := rfl
@[simp] theorem State.setMu_weightKeys {p u} : (s.setMu p u).weightKeys = s.weightKeys := rfl
@[simp] theorem State.setMu_engines {p u} : (s.setMu p u).engines = s.engines := rfl
@[simp] theorem State.setMu_mctl {p u} : (s.setMu p u).mctl = s.mctl := rfl
@[simp] theorem State.setMu_health {p u} : (s.setMu p u).health = s.health := rfl
@[simp] theorem State.setMu_store {p u} : (s.setMu p u).store = s.store := rfl
@[simp] theorem State.setMu_sec {p u} : (s.setMu p u).sec = s.sec := rfl
@[simp] theorem State.setMu_ports {p u} : (s.setMu p u).ports = s.ports := rfl
@[simp] theorem State.setMu_egress {p u} : (s.setMu p u).egress = s.egress := rfl
@[simp] theorem State.setMu_ingress {p u} : (s.setMu p u).ingress = s.ingress := rfl
@[simp] theorem State.setMu_joins {p u} : (s.setMu p u).joins = s.joins := rfl
@[simp] theorem State.setMu_time {p u} : (s.setMu p u).time = s.time := rfl
@[simp] theorem State.setMu_power {p u} : (s.setMu p u).power = s.power := rfl
@[simp] theorem State.setMu_sb {p u} : (s.setMu p u).sb = s.sb := rfl
@[simp] theorem State.setMu_boot {p u} : (s.setMu p u).boot = s.boot := rfl
@[simp] theorem State.setMu_wdt {p u} : (s.setMu p u).wdt = s.wdt := rfl
@[simp] theorem State.setMu_smp {p u} : (s.setMu p u).smp = s.smp := rfl
@[simp] theorem State.setMu_tap {p u} : (s.setMu p u).tap = s.tap := rfl

/-! ## setEp -/

@[simp] theorem State.setEp_pending {p e u} : (s.setEp p e u).pending = s.pending := rfl
@[simp] theorem State.setEp_freeCtr {p e u} : (s.setEp p e u).freeCtr = s.freeCtr := rfl
@[simp] theorem State.setEp_part {p e u} : (s.setEp p e u).part = s.part := rfl
@[simp] theorem State.setEp_regs {p e u} : (s.setEp p e u).regs = s.regs := rfl
@[simp] theorem State.setEp_mem {p e u} : (s.setEp p e u).mem = s.mem := rfl
@[simp] theorem State.setEp_lost {p e u} : (s.setEp p e u).lost = s.lost := rfl
@[simp] theorem State.setEp_ue {p e u} : (s.setEp p e u).ue = s.ue := rfl
@[simp] theorem State.setEp_me {p e u} : (s.setEp p e u).me = s.me := rfl
@[simp] theorem State.setEp_vsp {p e u} : (s.setEp p e u).vsp = s.vsp := rfl
@[simp] theorem State.setEp_ag {p e u} : (s.setEp p e u).ag = s.ag := rfl
@[simp] theorem State.setEp_agFifo {p e u} : (s.setEp p e u).agFifo = s.agFifo := rfl
@[simp] theorem State.setEp_mu {p e u} : (s.setEp p e u).mu = s.mu := rfl
@[simp] theorem State.setEp_popped {p e u} : (s.setEp p e u).popped = s.popped := rfl
@[simp] theorem State.setEp_foldEob {p e u} : (s.setEp p e u).foldEob = s.foldEob := rfl
@[simp] theorem State.setEp_net {p e u} : (s.setEp p e u).net = s.net := rfl
@[simp] theorem State.setEp_eps {p e u} : (s.setEp p e u).eps = tset {} s.eps (p * 64 + e) u := rfl
@[simp] theorem State.setEp_reorder {p e u} : (s.setEp p e u).reorder = s.reorder := rfl
@[simp] theorem State.setEp_signals {p e u} : (s.setEp p e u).signals = s.signals := rfl
@[simp] theorem State.setEp_ctxs {p e u} : (s.setEp p e u).ctxs = s.ctxs := rfl
@[simp] theorem State.setEp_entries {p e u} : (s.setEp p e u).entries = s.entries := rfl
@[simp] theorem State.setEp_tl {p e u} : (s.setEp p e u).tl = s.tl := rfl
@[simp] theorem State.setEp_taken {p e u} : (s.setEp p e u).taken = s.taken := rfl
@[simp] theorem State.setEp_waiting {p e u} : (s.setEp p e u).waiting = s.waiting := rfl
@[simp] theorem State.setEp_allocs {p e u} : (s.setEp p e u).allocs = s.allocs := rfl
@[simp] theorem State.setEp_enrolled {p e u} : (s.setEp p e u).enrolled = s.enrolled := rfl
@[simp] theorem State.setEp_weightKeys {p e u} : (s.setEp p e u).weightKeys = s.weightKeys := rfl
@[simp] theorem State.setEp_engines {p e u} : (s.setEp p e u).engines = s.engines := rfl
@[simp] theorem State.setEp_mctl {p e u} : (s.setEp p e u).mctl = s.mctl := rfl
@[simp] theorem State.setEp_health {p e u} : (s.setEp p e u).health = s.health := rfl
@[simp] theorem State.setEp_store {p e u} : (s.setEp p e u).store = s.store := rfl
@[simp] theorem State.setEp_sec {p e u} : (s.setEp p e u).sec = s.sec := rfl
@[simp] theorem State.setEp_ports {p e u} : (s.setEp p e u).ports = s.ports := rfl
@[simp] theorem State.setEp_egress {p e u} : (s.setEp p e u).egress = s.egress := rfl
@[simp] theorem State.setEp_ingress {p e u} : (s.setEp p e u).ingress = s.ingress := rfl
@[simp] theorem State.setEp_joins {p e u} : (s.setEp p e u).joins = s.joins := rfl
@[simp] theorem State.setEp_time {p e u} : (s.setEp p e u).time = s.time := rfl
@[simp] theorem State.setEp_power {p e u} : (s.setEp p e u).power = s.power := rfl
@[simp] theorem State.setEp_sb {p e u} : (s.setEp p e u).sb = s.sb := rfl
@[simp] theorem State.setEp_boot {p e u} : (s.setEp p e u).boot = s.boot := rfl
@[simp] theorem State.setEp_wdt {p e u} : (s.setEp p e u).wdt = s.wdt := rfl
@[simp] theorem State.setEp_smp {p e u} : (s.setEp p e u).smp = s.smp := rfl
@[simp] theorem State.setEp_tap {p e u} : (s.setEp p e u).tap = s.tap := rfl

/-! ## setRor -/

@[simp] theorem State.setRor_pending {p l} : (s.setRor p l).pending = s.pending := rfl
@[simp] theorem State.setRor_freeCtr {p l} : (s.setRor p l).freeCtr = s.freeCtr := rfl
@[simp] theorem State.setRor_part {p l} : (s.setRor p l).part = s.part := rfl
@[simp] theorem State.setRor_regs {p l} : (s.setRor p l).regs = s.regs := rfl
@[simp] theorem State.setRor_mem {p l} : (s.setRor p l).mem = s.mem := rfl
@[simp] theorem State.setRor_lost {p l} : (s.setRor p l).lost = s.lost := rfl
@[simp] theorem State.setRor_ue {p l} : (s.setRor p l).ue = s.ue := rfl
@[simp] theorem State.setRor_me {p l} : (s.setRor p l).me = s.me := rfl
@[simp] theorem State.setRor_vsp {p l} : (s.setRor p l).vsp = s.vsp := rfl
@[simp] theorem State.setRor_ag {p l} : (s.setRor p l).ag = s.ag := rfl
@[simp] theorem State.setRor_agFifo {p l} : (s.setRor p l).agFifo = s.agFifo := rfl
@[simp] theorem State.setRor_mu {p l} : (s.setRor p l).mu = s.mu := rfl
@[simp] theorem State.setRor_popped {p l} : (s.setRor p l).popped = s.popped := rfl
@[simp] theorem State.setRor_foldEob {p l} : (s.setRor p l).foldEob = s.foldEob := rfl
@[simp] theorem State.setRor_net {p l} : (s.setRor p l).net = s.net := rfl
@[simp] theorem State.setRor_eps {p l} : (s.setRor p l).eps = s.eps := rfl
@[simp] theorem State.setRor_reorder {p l} : (s.setRor p l).reorder = tset [] s.reorder p l := rfl
@[simp] theorem State.setRor_signals {p l} : (s.setRor p l).signals = s.signals := rfl
@[simp] theorem State.setRor_ctxs {p l} : (s.setRor p l).ctxs = s.ctxs := rfl
@[simp] theorem State.setRor_entries {p l} : (s.setRor p l).entries = s.entries := rfl
@[simp] theorem State.setRor_tl {p l} : (s.setRor p l).tl = s.tl := rfl
@[simp] theorem State.setRor_taken {p l} : (s.setRor p l).taken = s.taken := rfl
@[simp] theorem State.setRor_waiting {p l} : (s.setRor p l).waiting = s.waiting := rfl
@[simp] theorem State.setRor_allocs {p l} : (s.setRor p l).allocs = s.allocs := rfl
@[simp] theorem State.setRor_enrolled {p l} : (s.setRor p l).enrolled = s.enrolled := rfl
@[simp] theorem State.setRor_weightKeys {p l} : (s.setRor p l).weightKeys = s.weightKeys := rfl
@[simp] theorem State.setRor_engines {p l} : (s.setRor p l).engines = s.engines := rfl
@[simp] theorem State.setRor_mctl {p l} : (s.setRor p l).mctl = s.mctl := rfl
@[simp] theorem State.setRor_health {p l} : (s.setRor p l).health = s.health := rfl
@[simp] theorem State.setRor_store {p l} : (s.setRor p l).store = s.store := rfl
@[simp] theorem State.setRor_sec {p l} : (s.setRor p l).sec = s.sec := rfl
@[simp] theorem State.setRor_ports {p l} : (s.setRor p l).ports = s.ports := rfl
@[simp] theorem State.setRor_egress {p l} : (s.setRor p l).egress = s.egress := rfl
@[simp] theorem State.setRor_ingress {p l} : (s.setRor p l).ingress = s.ingress := rfl
@[simp] theorem State.setRor_joins {p l} : (s.setRor p l).joins = s.joins := rfl
@[simp] theorem State.setRor_time {p l} : (s.setRor p l).time = s.time := rfl
@[simp] theorem State.setRor_power {p l} : (s.setRor p l).power = s.power := rfl
@[simp] theorem State.setRor_sb {p l} : (s.setRor p l).sb = s.sb := rfl
@[simp] theorem State.setRor_boot {p l} : (s.setRor p l).boot = s.boot := rfl
@[simp] theorem State.setRor_wdt {p l} : (s.setRor p l).wdt = s.wdt := rfl
@[simp] theorem State.setRor_smp {p l} : (s.setRor p l).smp = s.smp := rfl
@[simp] theorem State.setRor_tap {p l} : (s.setRor p l).tap = s.tap := rfl

/-! ## setCtx -/

@[simp] theorem State.setCtx_pending {c x} : (s.setCtx c x).pending = s.pending := rfl
@[simp] theorem State.setCtx_freeCtr {c x} : (s.setCtx c x).freeCtr = s.freeCtr := rfl
@[simp] theorem State.setCtx_part {c x} : (s.setCtx c x).part = s.part := rfl
@[simp] theorem State.setCtx_regs {c x} : (s.setCtx c x).regs = s.regs := rfl
@[simp] theorem State.setCtx_mem {c x} : (s.setCtx c x).mem = s.mem := rfl
@[simp] theorem State.setCtx_lost {c x} : (s.setCtx c x).lost = s.lost := rfl
@[simp] theorem State.setCtx_ue {c x} : (s.setCtx c x).ue = s.ue := rfl
@[simp] theorem State.setCtx_me {c x} : (s.setCtx c x).me = s.me := rfl
@[simp] theorem State.setCtx_vsp {c x} : (s.setCtx c x).vsp = s.vsp := rfl
@[simp] theorem State.setCtx_ag {c x} : (s.setCtx c x).ag = s.ag := rfl
@[simp] theorem State.setCtx_agFifo {c x} : (s.setCtx c x).agFifo = s.agFifo := rfl
@[simp] theorem State.setCtx_mu {c x} : (s.setCtx c x).mu = s.mu := rfl
@[simp] theorem State.setCtx_popped {c x} : (s.setCtx c x).popped = s.popped := rfl
@[simp] theorem State.setCtx_foldEob {c x} : (s.setCtx c x).foldEob = s.foldEob := rfl
@[simp] theorem State.setCtx_net {c x} : (s.setCtx c x).net = s.net := rfl
@[simp] theorem State.setCtx_eps {c x} : (s.setCtx c x).eps = s.eps := rfl
@[simp] theorem State.setCtx_reorder {c x} : (s.setCtx c x).reorder = s.reorder := rfl
@[simp] theorem State.setCtx_signals {c x} : (s.setCtx c x).signals = s.signals := rfl
@[simp] theorem State.setCtx_ctxs {c x} : (s.setCtx c x).ctxs = tset {} s.ctxs c x := rfl
@[simp] theorem State.setCtx_entries {c x} : (s.setCtx c x).entries = s.entries := rfl
@[simp] theorem State.setCtx_tl {c x} : (s.setCtx c x).tl = s.tl := rfl
@[simp] theorem State.setCtx_taken {c x} : (s.setCtx c x).taken = s.taken := rfl
@[simp] theorem State.setCtx_waiting {c x} : (s.setCtx c x).waiting = s.waiting := rfl
@[simp] theorem State.setCtx_allocs {c x} : (s.setCtx c x).allocs = s.allocs := rfl
@[simp] theorem State.setCtx_enrolled {c x} : (s.setCtx c x).enrolled = s.enrolled := rfl
@[simp] theorem State.setCtx_weightKeys {c x} : (s.setCtx c x).weightKeys = s.weightKeys := rfl
@[simp] theorem State.setCtx_engines {c x} : (s.setCtx c x).engines = s.engines := rfl
@[simp] theorem State.setCtx_mctl {c x} : (s.setCtx c x).mctl = s.mctl := rfl
@[simp] theorem State.setCtx_health {c x} : (s.setCtx c x).health = s.health := rfl
@[simp] theorem State.setCtx_store {c x} : (s.setCtx c x).store = s.store := rfl
@[simp] theorem State.setCtx_sec {c x} : (s.setCtx c x).sec = s.sec := rfl
@[simp] theorem State.setCtx_ports {c x} : (s.setCtx c x).ports = s.ports := rfl
@[simp] theorem State.setCtx_egress {c x} : (s.setCtx c x).egress = s.egress := rfl
@[simp] theorem State.setCtx_ingress {c x} : (s.setCtx c x).ingress = s.ingress := rfl
@[simp] theorem State.setCtx_joins {c x} : (s.setCtx c x).joins = s.joins := rfl
@[simp] theorem State.setCtx_time {c x} : (s.setCtx c x).time = s.time := rfl
@[simp] theorem State.setCtx_power {c x} : (s.setCtx c x).power = s.power := rfl
@[simp] theorem State.setCtx_sb {c x} : (s.setCtx c x).sb = s.sb := rfl
@[simp] theorem State.setCtx_boot {c x} : (s.setCtx c x).boot = s.boot := rfl
@[simp] theorem State.setCtx_wdt {c x} : (s.setCtx c x).wdt = s.wdt := rfl
@[simp] theorem State.setCtx_smp {c x} : (s.setCtx c x).smp = s.smp := rfl
@[simp] theorem State.setCtx_tap {c x} : (s.setCtx c x).tap = s.tap := rfl

/-! ## signal -/

@[simp] theorem State.signal_pending {x} : (s.signal x).pending = s.pending := rfl
@[simp] theorem State.signal_freeCtr {x} : (s.signal x).freeCtr = s.freeCtr := rfl
@[simp] theorem State.signal_part {x} : (s.signal x).part = s.part := rfl
@[simp] theorem State.signal_regs {x} : (s.signal x).regs = s.regs := rfl
@[simp] theorem State.signal_mem {x} : (s.signal x).mem = s.mem := rfl
@[simp] theorem State.signal_lost {x} : (s.signal x).lost = s.lost := rfl
@[simp] theorem State.signal_ue {x} : (s.signal x).ue = s.ue := rfl
@[simp] theorem State.signal_me {x} : (s.signal x).me = s.me := rfl
@[simp] theorem State.signal_vsp {x} : (s.signal x).vsp = s.vsp := rfl
@[simp] theorem State.signal_ag {x} : (s.signal x).ag = s.ag := rfl
@[simp] theorem State.signal_agFifo {x} : (s.signal x).agFifo = s.agFifo := rfl
@[simp] theorem State.signal_mu {x} : (s.signal x).mu = s.mu := rfl
@[simp] theorem State.signal_popped {x} : (s.signal x).popped = s.popped := rfl
@[simp] theorem State.signal_foldEob {x} : (s.signal x).foldEob = s.foldEob := rfl
@[simp] theorem State.signal_net {x} : (s.signal x).net = s.net := rfl
@[simp] theorem State.signal_eps {x} : (s.signal x).eps = s.eps := rfl
@[simp] theorem State.signal_reorder {x} : (s.signal x).reorder = s.reorder := rfl
@[simp] theorem State.signal_signals {x} : (s.signal x).signals = s.signals ++ [x] := rfl
@[simp] theorem State.signal_ctxs {x} : (s.signal x).ctxs = s.ctxs := rfl
@[simp] theorem State.signal_entries {x} : (s.signal x).entries = s.entries := rfl
@[simp] theorem State.signal_tl {x} : (s.signal x).tl = s.tl := rfl
@[simp] theorem State.signal_taken {x} : (s.signal x).taken = s.taken := rfl
@[simp] theorem State.signal_waiting {x} : (s.signal x).waiting = s.waiting := rfl
@[simp] theorem State.signal_allocs {x} : (s.signal x).allocs = s.allocs := rfl
@[simp] theorem State.signal_enrolled {x} : (s.signal x).enrolled = s.enrolled := rfl
@[simp] theorem State.signal_weightKeys {x} : (s.signal x).weightKeys = s.weightKeys := rfl
@[simp] theorem State.signal_engines {x} : (s.signal x).engines = s.engines := rfl
@[simp] theorem State.signal_mctl {x} : (s.signal x).mctl = s.mctl := rfl
@[simp] theorem State.signal_health {x} : (s.signal x).health = s.health := rfl
@[simp] theorem State.signal_store {x} : (s.signal x).store = s.store := rfl
@[simp] theorem State.signal_sec {x} : (s.signal x).sec = s.sec := rfl
@[simp] theorem State.signal_ports {x} : (s.signal x).ports = s.ports := rfl
@[simp] theorem State.signal_egress {x} : (s.signal x).egress = s.egress := rfl
@[simp] theorem State.signal_ingress {x} : (s.signal x).ingress = s.ingress := rfl
@[simp] theorem State.signal_joins {x} : (s.signal x).joins = s.joins := rfl
@[simp] theorem State.signal_time {x} : (s.signal x).time = s.time := rfl
@[simp] theorem State.signal_power {x} : (s.signal x).power = s.power := rfl
@[simp] theorem State.signal_sb {x} : (s.signal x).sb = s.sb := rfl
@[simp] theorem State.signal_boot {x} : (s.signal x).boot = s.boot := rfl
@[simp] theorem State.signal_wdt {x} : (s.signal x).wdt = s.wdt := rfl
@[simp] theorem State.signal_smp {x} : (s.signal x).smp = s.smp := rfl
@[simp] theorem State.signal_tap {x} : (s.signal x).tap = s.tap := rfl

end Sys2Proof.Machine
end

