-- ==== Sys2Proof/Laws/Memory.lean ====
section
/-! SUPPORT. Laws/Memory.lean: a byte of memory after each operation over memory, and that each keeps the canonical form. -/
namespace Sys2Proof.Machine

/-! ## Lost ranges -/

theorem lostIx_nil (b : Nat) : lostIx [] b = none := rfl

theorem lostIx_cons (r : Nat × Nat × Nat) (l : List (Nat × Nat × Nat)) (b : Nat) :
    lostIx (r :: l) b = if r.1 ≤ b ∧ b < r.1 + r.2.1 then some (r.2.2 + (b - r.1)) else lostIx l b := by
  by_cases h : r.1 ≤ b ∧ b < r.1 + r.2.1
  · simp [lostIx, h]
  · rw [if_neg h]
    have h1 : (decide (r.1 ≤ b) && decide (b < r.1 + r.2.1)) = false := by
      simpa using h
    simp [lostIx, h1]

theorem lostIx_append (l m : List (Nat × Nat × Nat)) (b : Nat) :
    lostIx (l ++ m) b = if (lostIx l b).isSome then lostIx l b else lostIx m b := by
  induction l with
  | nil => simp [lostIx_nil]
  | cons r t ih =>
    rw [List.cons_append, lostIx_cons, lostIx_cons]
    by_cases h : r.1 ≤ b ∧ b < r.1 + r.2.1
    · simp [h]
    · simp [h, ih]

/-- What is left of one lost range. -/
theorem lostIx_pieces (r : Nat × Nat × Nat) {a n b : Nat} :
    lostIx (if r.1 + r.2.1 ≤ a ∨ a + n ≤ r.1 then [r]
      else
        (if r.1 < a then [(r.1, a - r.1, r.2.2)] else []) ++
          (if a + n < r.1 + r.2.1 then [(a + n, r.1 + r.2.1 - (a + n), r.2.2 + (a + n - r.1))] else [])) b =
      if (r.1 ≤ b ∧ b < r.1 + r.2.1) ∧ ((r.1 + r.2.1 ≤ a ∨ a + n ≤ r.1) ∨ b < a ∨ a + n ≤ b) then some (r.2.2 + (b - r.1))
      else none := by
  by_cases h : r.1 + r.2.1 ≤ a ∨ a + n ≤ r.1
  · rw [if_pos h, lostIx_cons, lostIx_nil]
    simp [h]
  · rw [if_neg h, lostIx_append]
    by_cases h1 : r.1 < a <;> by_cases h2 : a + n < r.1 + r.2.1 <;>
      simp only [h1, h2, if_true, if_false, lostIx_cons, lostIx_nil] <;> split_ifs <;> simp_all <;> omega

theorem lostWithout_cons (r : Nat × Nat × Nat) (l : List (Nat × Nat × Nat)) (a n : Nat) (hn : n ≠ 0) :
    lostWithout (r :: l) a n =
      (if r.1 + r.2.1 ≤ a ∨ a + n ≤ r.1 then [r]
        else
          (if r.1 < a then [(r.1, a - r.1, r.2.2)] else []) ++
            (if a + n < r.1 + r.2.1 then [(a + n, r.1 + r.2.1 - (a + n), r.2.2 + (a + n - r.1))] else [])) ++
        lostWithout l a n := by
  rw [lostWithout, lostWithout, if_neg hn, if_neg hn, List.flatMap_cons]

/-- Outside a range that is written, lost bytes stay what they are. -/
theorem lostIx_without_out (l : List (Nat × Nat × Nat)) {a n b : Nat} (h : b < a ∨ a + n ≤ b) :
    lostIx (lostWithout l a n) b = lostIx l b := by
  by_cases hn : n = 0
  · rw [lostWithout, if_pos hn]
  induction l with
  | nil => simp [lostWithout, hn]
  | cons r t ih =>
    rw [lostWithout_cons r t a n hn, lostIx_append, ih, lostIx_cons r t b, lostIx_pieces]
    by_cases h1 : r.1 ≤ b ∧ b < r.1 + r.2.1 <;> simp [h, h1]

/-- No byte of a range that is written is lost. -/
theorem lostIx_without_in (l : List (Nat × Nat × Nat)) {a n b : Nat} (h1 : a ≤ b) (h2 : b < a + n) :
    lostIx (lostWithout l a n) b = none := by
  have hn : n ≠ 0 := by omega
  induction l with
  | nil => simp [lostWithout, hn, lostIx_nil]
  | cons r t ih =>
    have h3 : ¬ ((r.1 ≤ b ∧ b < r.1 + r.2.1) ∧ ((r.1 + r.2.1 ≤ a ∨ a + n ≤ r.1) ∨ b < a ∨ a + n ≤ b)) := by omega
    rw [lostWithout_cons r t a n hn, lostIx_append, ih, lostIx_pieces, if_neg h3]
    rfl

/-- Outside its destination a copy loses nothing. -/
theorem lostIx_copied_out (l : List (Nat × Nat × Nat)) {src dst n b : Nat} (h : b < dst ∨ dst + n ≤ b) :
    lostIx (lostCopied l src dst n) b = none := by
  unfold lostCopied
  induction l with
  | nil => rfl
  | cons r t ih =>
    rw [List.flatMap_cons, lostIx_append, ih]
    dsimp only
    by_cases h3 : max r.1 src < min (r.1 + r.2.1) (src + n)
    · have h4 : ¬ (max r.1 src - src + dst ≤ b ∧
          b < max r.1 src - src + dst + (min (r.1 + r.2.1) (src + n) - max r.1 src)) := by omega
      rw [if_pos h3, lostIx_cons, lostIx_nil, if_neg h4]
      rfl
    · rw [if_neg h3]
      rfl

/-! ## Cells -/

theorem get_writeCells_out (l : List Byte) {m : List Host.Cell} {a b : Nat} (h : b < a ∨ a + l.length ≤ b) :
    Sparse.get memDefault (writeCells m a l) b = Sparse.get memDefault m b := by
  induction l generalizing m a with
  | nil => rfl
  | cons v t ih =>
    rw [List.length_cons] at h
    rw [writeCells, ih (by omega), Sparse.get_set_ne (by omega)]

theorem get_writeCells_in (l : List Byte) {m : List Host.Cell} {a i : Nat} (h : i < l.length) :
    Sparse.get memDefault (writeCells m a l) (a + i) = l[i] := by
  induction l generalizing m a i with
  | nil => exact absurd h (Nat.not_lt_zero i)
  | cons v t ih =>
    cases i with
    | zero => rw [writeCells, get_writeCells_out t (by omega)]; exact Sparse.get_set_self
    | succ i =>
      have h1 : i < t.length := by simpa using h
      have h2 : a + (i + 1) = a + 1 + i := by omega
      rw [writeCells, h2, ih h1, List.getElem_cons_succ]

theorem wf_writeCells (l : List Byte) {m : List Host.Cell} {a : Nat} (h : Memory.wf m = true) :
    Memory.wf (writeCells m a l) = true := by
  induction l generalizing m a with
  | nil => exact h
  | cons v t ih => exact ih (Sparse.wf_set h)

theorem wf_copyCells (l : List Host.Cell) {m : List Host.Cell} {src dst : Nat} (h : Memory.wf m = true) :
    Memory.wf (copyCells m src dst l) = true := by
  induction l generalizing m with
  | nil => exact h
  | cons c t ih => exact ih (Sparse.wf_set h)

theorem get_copyCells_out (l : List Host.Cell) {m : List Host.Cell} {src dst n b : Nat}
    (hl : ∀ c ∈ l, src ≤ c.1 ∧ c.1 < src + n) (h : b < dst ∨ dst + n ≤ b) :
    Sparse.get memDefault (copyCells m src dst l) b = Sparse.get memDefault m b := by
  induction l generalizing m with
  | nil => rfl
  | cons c t ih =>
    have h1 := hl c (by simp)
    rw [copyCells, ih (fun e he => hl e (by simp [he])), Sparse.get_set_ne (by omega)]

/-! ## One byte -/

variable {s : State}

/-- A byte that is not lost. -/
theorem State.byte_kept {b : Nat} (h : lostIx s.lost b = none) : s.byte b = Sparse.get memDefault s.mem b := by
  rw [State.byte, h]

/-- A byte is the same in two states that agree on it. -/
theorem State.byte_congr {t : State} {b : Nat} (h1 : lostIx t.lost b = lostIx s.lost b)
    (h2 : Sparse.get memDefault t.mem b = Sparse.get memDefault s.mem b) : t.byte b = s.byte b := by
  rw [State.byte, State.byte, h1, h2]

/-- A store changes no byte outside it. -/
theorem State.byte_setBytes_out {a b : Nat} {l : List Byte} (h : b < a ∨ a + l.length ≤ b) :
    (s.setBytes a l).byte b = s.byte b :=
  State.byte_congr (lostIx_without_out _ h) (get_writeCells_out l h)

/-- A store writes its bytes. -/
theorem State.byte_setBytes_in {a i : Nat} {l : List Byte} (h : i < l.length) : (s.setBytes a l).byte (a + i) = l[i] := by
  rw [State.byte_kept (lostIx_without_in _ (by omega) (by omega)), State.setBytes_mem, get_writeCells_in l h]

/-- Filling a range with zeros changes no byte outside it. -/
theorem State.byte_zeroRange_out {a n b : Nat} (h : b < a ∨ a + n ≤ b) : (s.zeroRange a n).byte b = s.byte b := by
  have h1 : ¬ (a ≤ b ∧ b < a + n) := by omega
  refine State.byte_congr (lostIx_without_out _ h) ?_
  rw [State.zeroRange_mem, Sparse.get_clear, if_neg (by simpa using h1)]

/-- Every byte of a range that is filled with zeros reads 0. -/
theorem State.byte_zeroRange_in {a n b : Nat} (h1 : a ≤ b) (h2 : b < a + n) : (s.zeroRange a n).byte b = 0 := by
  rw [State.byte_kept (lostIx_without_in _ h1 h2), State.zeroRange_mem, Sparse.get_clear, if_pos (by simp [h1, h2])]
  rfl

/-- A copy changes no byte outside its destination. -/
theorem State.byte_copyRange_out {src dst n b : Nat} (h : b < dst ∨ dst + n ≤ b) :
    (s.copyRange src dst n).byte b = s.byte b := by
  have h1 : ¬ (dst ≤ b ∧ b < dst + n) := by omega
  have h2 := lostIx_copied_out s.lost (src := src) h
  refine State.byte_congr ?_ ?_
  · rw [State.copyRange_lost, lostIx_append, lostIx_without_out _ h, h2]
    cases lostIx s.lost b <;> rfl
  · rw [State.copyRange_mem, get_copyCells_out _ (fun c hc => by simpa using (List.mem_filter.1 hc).2) h, Sparse.get_clear,
      if_neg (by simpa using h1)]

/-- The loss of a range changes no byte outside it. -/
theorem State.byte_loseRange_out {a n b : Nat} (h : b < a ∨ a + n ≤ b) : (s.loseRange a n).byte b = s.byte b := by
  have h1 : ¬ (a ≤ b ∧ b < a + n) := by omega
  refine State.byte_congr ?_ ?_
  · rw [State.loseRange_lost, lostIx_append, lostIx_without_out _ h, lostIx_cons, lostIx_nil, if_neg h1]
    cases lostIx s.lost b <;> rfl
  · rw [State.loseRange_mem, Sparse.get_clear, if_neg (by simpa using h1)]

/-! ## No lost byte is listed -/

/-- No byte of a lost range is listed: what memory reads as is settled by one of the two. -/
def Apart (m : List Host.Cell) (l : List (Nat × Nat × Nat)) : Prop := ∀ c ∈ m, lostIx l c.1 = none

theorem mem_set {α : Type} [DecidableEq α] {d : Nat → α} {l : List (Nat × α)} {k : Nat} {v : α} {e : Nat × α}
    (h : e ∈ Sparse.set d l k v) : e.1 = k ∨ e ∈ l := by
  rw [Sparse.set] at h
  split_ifs at h
  · exact .inr (List.mem_filter.1 h).1
  · cases Sparse.mem_insert.1 h with
    | inl h => exact .inl (by rw [h])
    | inr h => exact .inr (List.mem_filter.1 h).1

theorem mem_writeCells (l : List Byte) {m : List Host.Cell} {a : Nat} {e : Host.Cell} (h : e ∈ writeCells m a l) :
    (a ≤ e.1 ∧ e.1 < a + l.length) ∨ e ∈ m := by
  induction l generalizing m a with
  | nil => exact .inr h
  | cons v t ih =>
    rw [List.length_cons]
    cases ih h with
    | inl h => exact .inl (by omega)
    | inr h => cases mem_set h with
      | inl h => exact .inl (by omega)
      | inr h => exact .inr h

theorem mem_copyCells (l : List Host.Cell) {m : List Host.Cell} {src dst : Nat} {e : Host.Cell}
    (h : e ∈ copyCells m src dst l) : (∃ c ∈ l, e.1 = dst + (c.1 - src)) ∨ e ∈ m := by
  induction l generalizing m with
  | nil => exact .inr h
  | cons c t ih =>
    cases ih h with
    | inl h => obtain ⟨x, hx, hy⟩ := h; exact .inl ⟨x, by simp [hx], hy⟩
    | inr h => cases mem_set h with
      | inl h => exact .inl ⟨c, by simp, h⟩
      | inr h => exact .inr h

/-- A copied range is lost where its source was. -/
theorem lostIx_copied_in (l : List (Nat × Nat × Nat)) {src dst n e : Nat} (h1 : src ≤ e) (h2 : e < src + n) :
    lostIx (lostCopied l src dst n) (dst + (e - src)) = lostIx l e := by
  induction l with
  | nil => rfl
  | cons r t ih =>
    have h0 : lostCopied (r :: t) src dst n = (if max r.1 src < min (r.1 + r.2.1) (src + n) then
        [(max r.1 src - src + dst, min (r.1 + r.2.1) (src + n) - max r.1 src, r.2.2 + (max r.1 src - r.1))] else []) ++
        lostCopied t src dst n := rfl
    rw [h0, lostIx_append, ih, lostIx_cons r t e]
    by_cases h3 : r.1 ≤ e ∧ e < r.1 + r.2.1
    · have h4 : max r.1 src < min (r.1 + r.2.1) (src + n) := by omega
      have h5 : max r.1 src - src + dst ≤ dst + (e - src) ∧
          dst + (e - src) < max r.1 src - src + dst + (min (r.1 + r.2.1) (src + n) - max r.1 src) := by omega
      have h6 : r.2.2 + (max r.1 src - r.1) + (dst + (e - src) - (max r.1 src - src + dst)) = r.2.2 + (e - r.1) := by omega
      rw [if_pos h4, lostIx_cons, if_pos h5, if_pos h3, h6]
      rfl
    · rw [if_neg h3]
      by_cases h4 : max r.1 src < min (r.1 + r.2.1) (src + n)
      · have h5 : ¬ (max r.1 src - src + dst ≤ dst + (e - src) ∧
            dst + (e - src) < max r.1 src - src + dst + (min (r.1 + r.2.1) (src + n) - max r.1 src)) := by omega
        rw [if_pos h4, lostIx_cons, if_neg h5, lostIx_nil]
        rfl
      · rw [if_neg h4, lostIx_nil]
        rfl

theorem State.apart_setBytes {a : Nat} {l : List Byte} (h : Apart s.mem s.lost) :
    Apart (s.setBytes a l).mem (s.setBytes a l).lost := by
  intro c hc
  rw [State.setBytes_lost]
  by_cases h1 : a ≤ c.1 ∧ c.1 < a + l.length
  · exact lostIx_without_in _ h1.1 h1.2
  · cases mem_writeCells l hc with
    | inl h2 => exact absurd h2 h1
    | inr h2 => rw [lostIx_without_out _ (by omega)]; exact h c h2

theorem State.apart_zeroRange {a n : Nat} (h : Apart s.mem s.lost) :
    Apart (s.zeroRange a n).mem (s.zeroRange a n).lost := by
  intro c hc
  have h1 := List.mem_filter.1 hc
  have h2 : c.1 < a ∨ a + n ≤ c.1 := by simpa using h1.2
  rw [State.zeroRange_lost, lostIx_without_out _ (by omega)]
  exact h c h1.1

theorem State.apart_loseRange {a n : Nat} (h : Apart s.mem s.lost) :
    Apart (s.loseRange a n).mem (s.loseRange a n).lost := by
  intro c hc
  have h1 := List.mem_filter.1 hc
  have h2 : c.1 < a ∨ a + n ≤ c.1 := by simpa using h1.2
  have h3 : ¬ (a ≤ c.1 ∧ c.1 < a + n) := by omega
  rw [State.loseRange_lost, lostIx_append, lostIx_without_out _ (by omega), h c h1.1, lostIx_cons, if_neg h3]
  rfl

theorem State.apart_copyRange {src dst n : Nat} (h : Apart s.mem s.lost) :
    Apart (s.copyRange src dst n).mem (s.copyRange src dst n).lost := by
  intro c hc
  rw [State.copyRange_lost, lostIx_append]
  cases mem_copyCells _ hc with
  | inl h1 =>
    obtain ⟨e, he, hx⟩ := h1
    have h2 := List.mem_filter.1 he
    have h3 : src ≤ e.1 ∧ e.1 < src + n := by simpa using h2.2
    rw [lostIx_without_in _ (by omega) (by omega), hx, lostIx_copied_in _ h3.1 h3.2, h e h2.1]
    rfl
  | inr h1 =>
    have h2 := List.mem_filter.1 h1
    have h3 : c.1 < dst ∨ dst + n ≤ c.1 := by simpa using h2.2
    have h4 := lostIx_copied_out s.lost (src := src) h3
    rw [lostIx_without_out _ (by omega), h c h2.1, h4]
    rfl

/-! ## The canonical form -/

/-- Every operation over memory keeps the canonical form. -/
theorem State.memWf_setBytes {a : Nat} {l : List Byte} (h : Memory.wf s.mem = true) :
    Memory.wf (s.setBytes a l).mem = true := wf_writeCells l h

theorem State.memWf_zeroRange {a n : Nat} (h : Memory.wf s.mem = true) : Memory.wf (s.zeroRange a n).mem = true := by
  rw [State.zeroRange_mem]
  exact Sparse.wf_clear h

theorem State.memWf_copyRange {src dst n : Nat} (h : Memory.wf s.mem = true) :
    Memory.wf (s.copyRange src dst n).mem = true := wf_copyCells _ (Sparse.wf_clear h)

theorem State.memWf_loseRange {a n : Nat} (h : Memory.wf s.mem = true) : Memory.wf (s.loseRange a n).mem = true := by
  rw [State.loseRange_mem]
  exact Sparse.wf_clear h

end Sys2Proof.Machine
end

