-- ==== Sys2Proof/Laws/Reach.lean ====
section
/-! SUPPORT. Laws/Reach.lean: what any operation of the machine can do to the queue, the variant, the register file, memory
and the free values: only a sequence of the named writes below. An invariant of those fields is shown once by
induction over `Reach`. -/
namespace Sys2Proof.Machine

/-- `Reach r s`: the machine gets from `r` to `s` by named writes of registers and memory and draws of free values;
changes of any other field of State are left open. -/
inductive Reach (r : State) : State → Prop
  | refl : Reach r r
  | core {s t : State} : Reach r s → t.pending = s.pending → t.freeCtr = s.freeCtr → t.part = s.part →
      t.regs = s.regs → t.mem = s.mem → t.lost = s.lost → Reach r t
  | setReg {s : State} {a : Nat} {v : Word} : Reach r s → Reach r (s.setReg a v)
  | resetRegs {s : State} {p : Nat → Bool} : Reach r s → Reach r (s.resetRegs p)
  | setBytes {s : State} {a : Nat} {l : List Byte} : Reach r s → Reach r (s.setBytes a l)
  | zeroRange {s : State} {a n : Nat} : Reach r s → Reach r (s.zeroRange a n)
  | copyRange {s : State} {src dst n : Nat} : Reach r s → Reach r (s.copyRange src dst n)
  | loseRange {s : State} {a n : Nat} : Reach r s → Reach r (s.loseRange a n)
  | draw {s : State} {w : Nat} : Reach r s → Reach r (s.draw w).2
  | memoryOf {s u : State} : Reach r s → Reach r u → Reach r (s.withMemoryOf u)

/-- `Reach` composes. -/
theorem Reach.trans {r s t : State} (h : Reach r s) (k : Reach s t) : Reach r t := by
  induction k with
  | refl => exact h
  | core _ h1 h2 h3 h4 h5 h6 ih => exact .core ih h1 h2 h3 h4 h5 h6
  | setReg _ ih => exact ih.setReg
  | resetRegs _ ih => exact ih.resetRegs
  | setBytes _ ih => exact ih.setBytes
  | zeroRange _ ih => exact ih.zeroRange
  | copyRange _ ih => exact ih.copyRange
  | loseRange _ ih => exact ih.loseRange
  | draw _ ih => exact ih.draw
  | memoryOf _ _ ih1 ih2 => exact ih1.memoryOf ih2

/-- A change of the other fields alone. -/
theorem Reach.upd {r s : State} {ue me vsp ag agFifo mu popped foldEob net eps reorder signals ctxs entries tl taken waiting allocs enrolled weightKeys
    engines mctl health store sec ports egress ingress joins time power sb boot wdt smp tap} (h : Reach r s) :
    Reach r { s with
      ue := ue, me := me, vsp := vsp, ag := ag, agFifo := agFifo, mu := mu,
      popped := popped, foldEob := foldEob, net := net, eps := eps, reorder := reorder, signals := signals,
      ctxs := ctxs, entries := entries, tl := tl, taken := taken, waiting := waiting, allocs := allocs,
      enrolled := enrolled, weightKeys := weightKeys, engines := engines, mctl := mctl, health := health, store := store,
      sec := sec, ports := ports, egress := egress, ingress := ingress, joins := joins, time := time,
      power := power, sb := sb, boot := boot, wdt := wdt, smp := smp, tap := tap } :=
  .core h rfl rfl rfl rfl rfl rfl

/-! ## The same of the states inside an answer -/

variable {α β : Type}

/-- Nothing is said of a part of an answer that holds no state. -/
def AnyK (_ : α) : Prop := True

/-- The next state of an outcome. -/
inductive OutK (P : State → Prop) : Host.Outcome State Fault Refusal → Prop
  | next {t : State} : P t → OutK P (.next t)
  | fault {f : Fault} : OutK P (.fault f)
  | refused {f : Refusal} : OutK P (.refused f)

inductive OptK (A : α → Prop) : Option α → Prop
  | some {x : α} : A x → OptK A (some x)
  | none : OptK A none

inductive PairK (A : α → Prop) (B : β → Prop) : α × β → Prop
  | mk {x : α} {y : β} : A x → B y → PairK A B (x, y)

inductive SumK (A : α → Prop) (B : β → Prop) : α ⊕ β → Prop
  | inl {x : α} : A x → SumK A B (.inl x)
  | inr {y : β} : B y → SumK A B (.inr y)

inductive SuResK (P : State → Prop) : SuRes → Prop
  | wait : SuResK P .wait
  | full : SuResK P .full
  | fired {t : State} : P t → SuResK P (.fired t)

inductive IndexResK (P : State → Prop) : IndexRes → Prop
  | none_ {t : State} : P t → IndexResK P (.none_ t)
  | ended {t : State} : P t → IndexResK P (.ended t)
  | ix {i : Nat} {t : State} : P t → IndexResK P (.ix i t)

inductive TakenK (P : State → Prop) : Taken → Prop
  | ok {t : State} : P t → TakenK P (.ok t)
  | noRoom {t : State} : P t → TakenK P (.noRoom t)
  | oversize {t : State} : P t → TakenK P (.oversize t)

inductive PlacedK (P : State → Prop) : Placed → Prop
  | ok {t : State} {n : Nat} : P t → PlacedK P (.ok t n)
  | noRoom {t : State} : P t → PlacedK P (.noRoom t)
  | oversize {t : State} : P t → PlacedK P (.oversize t)

theorem any_k {x : α} : AnyK x := trivial

theorem fst_k {A : α → Prop} (B : β → Prop) {z : α × β} (h : PairK A B z) : A z.1 := by cases h; assumption

theorem snd_k (A : α → Prop) {B : β → Prop} {z : α × β} (h : PairK A B z) : B z.2 := by cases h; assumption

theorem ite_k (A : α → Prop) {c : Prop} [Decidable c] {x y : α} (h : A x) (k : A y) : A (if c then x else y) := by
  split <;> assumption

theorem getD_k {A : α → Prop} {o : Option α} {d : α} (h : OptK A o) (k : A d) : A (o.getD d) := by
  cases h <;> assumption

theorem foldl_k (A : β → Prop) {f : β → α → β} {l : List α} {x : β} (h : A x) (k : ∀ y, A y → ∀ a, A (f y a)) :
    A (l.foldl f x) := by
  induction l generalizing x with
  | nil => exact h
  | cons a t ih => exact ih (k x h a)

theorem elim_k {A : β → Prop} (B : α → Prop) {o : Option α} {d : β} {f : α → β} (h : OptK B o) (k : A d)
    (e : ∀ x, B x → A (f x)) : A (o.elim d f) := by
  cases h with
  | none => exact k
  | some h => exact e _ h

theorem sumElim_k {γ : Type} (A : α → Prop) (B : β → Prop) {C : γ → Prop} {z : α ⊕ β} {f : α → γ} {g : β → γ}
    (h : SumK A B z) (k : ∀ x, A x → C (f x)) (e : ∀ y, B y → C (g y)) : C (Sum.elim f g z) := by
  cases h with
  | inl h => exact k _ h
  | inr h => exact e _ h

theorem map_k (A : α → Prop) {B : β → Prop} {o : Option α} {f : α → β} (h : OptK A o) (k : ∀ x, A x → B (f x)) :
    OptK B (o.map f) := by
  cases h with
  | none => exact .none
  | some h => exact .some (k _ h)

theorem bind_k (A : α → Prop) {B : β → Prop} {o : Option α} {f : α → Option β} (h : OptK A o)
    (k : ∀ x, A x → OptK B (f x)) : OptK B (o.bind f) := by
  cases h with
  | none => exact .none
  | some h => exact k _ h

theorem findSome_k (A : β → Prop) {l : List α} {f : α → Option β} (k : ∀ x, OptK A (f x)) : OptK A (l.findSome? f) := by
  induction l with
  | nil => exact .none
  | cons a t ih =>
    have ha := k a
    rw [List.findSome?_cons]
    cases h : f a with
    | none => exact ih
    | some y => rw [h] at ha; exact ha

theorem opt_any {o : Option α} : OptK AnyK o := by
  cases o with
  | none => exact .none
  | some x => exact .some any_k

theorem sum_any {z : α ⊕ β} : SumK AnyK AnyK z := by
  cases z with
  | inl x => exact .inl any_k
  | inr x => exact .inr any_k

theorem some_out {A : α → Prop} {x : α} (h : OptK A (some x)) : A x := by cases h; assumption
theorem inl_out {A : α → Prop} {B : β → Prop} {x : α} (h : SumK A B (.inl x)) : A x := by cases h; assumption
theorem inr_out {A : α → Prop} {B : β → Prop} {y : β} (h : SumK A B (.inr y)) : B y := by cases h; assumption
theorem pair_fst {A : α → Prop} {B : β → Prop} {x : α} {y : β} (h : PairK A B (x, y)) : A x := by cases h; assumption
theorem pair_snd {A : α → Prop} {B : β → Prop} {x : α} {y : β} (h : PairK A B (x, y)) : B y := by cases h; assumption
theorem next_out {P : State → Prop} {t : State} (h : OutK P (.next t)) : P t := by cases h; assumption

variable {r : State}

theorem State.setReg_reach {s x1 x2} (h : Reach r s) : Reach r (State.setReg s x1 x2) := h.setReg
theorem State.resetRegs_reach {s x1} (h : Reach r s) : Reach r (State.resetRegs s x1) := h.resetRegs
theorem State.setBytes_reach {s x1 x2} (h : Reach r s) : Reach r (State.setBytes s x1 x2) := h.setBytes
theorem State.zeroRange_reach {s x1 x2} (h : Reach r s) : Reach r (State.zeroRange s x1 x2) := h.zeroRange
theorem State.copyRange_reach {s x1 x2 x3} (h : Reach r s) : Reach r (State.copyRange s x1 x2 x3) := h.copyRange
theorem State.loseRange_reach {s x1 x2} (h : Reach r s) : Reach r (State.loseRange s x1 x2) := h.loseRange
theorem State.draw_reach {s x1} (h : Reach r s) : PairK AnyK (Reach r) (State.draw s x1) :=
  PairK.mk any_k (h.draw (w := x1))
theorem State.withMemoryOf_reach {s u} (h : Reach r s) (k : Reach r u) : Reach r (State.withMemoryOf s u) := h.memoryOf k

theorem State.each_reach {s : State} {l : List α} {f : State → α → State} (h : Reach r s)
    (k : ∀ y, Reach r y → ∀ a, Reach r (f y a)) : Reach r (State.each s l f) := foldl_k (Reach r) h k

/-- A fact about what a match has found. -/
theorem use_k (A : α → Prop) {x y : α} (e : x = y) (h : A x) : A y := e ▸ h

end Sys2Proof.Machine
end

