-- ==== Sys2Proof/Laws/ReachOps.lean ====
section
/-! SUPPORT. Laws/ReachOps.lean: every operation of the register file, memory, regions, endpoints, the host side and the mesh stays within `Reach`:
it writes registers and memory only by the named writes, and leaves the queue and the variant alone. -/
namespace Sys2Proof.Machine

variable {r : State}

/-! ## Ops -/

theorem State.setFld_reach {s0 x1 x2 x3} (f0 : Reach r s0) :
    Reach r (State.setFld s0 x1 x2 x3) := by
  unfold State.setFld
  exact State.setReg_reach f0

theorem State.setBit_reach {s0 x1 x2 x3} (f0 : Reach r s0) :
    Reach r (State.setBit s0 x1 x2 x3) := by
  unfold State.setBit
  exact State.setFld_reach f0

theorem State.addSat_reach {s0 x1 x2 x3} (f0 : Reach r s0) :
    Reach r (State.addSat s0 x1 x2 x3) := by
  unfold State.addSat
  exact State.setFld_reach f0

theorem State.addWrap_reach {s0 x1 x2} (f0 : Reach r s0) :
    Reach r (State.addWrap s0 x1 x2) := by
  unfold State.addWrap
  extract_lets v0 t1
  clear_value v0
  have h2 : Reach r t1 := State.setFld_reach f0
  clear_value t1
  exact ite_k (Reach r) h2 (State.setFld_reach h2)

theorem State.addMod_reach {s0 x1 x2 x3} (f0 : Reach r s0) :
    Reach r (State.addMod s0 x1 x2 x3) := by
  unfold State.addMod
  exact State.setFld_reach f0

theorem State.wordsWritten_reach {s0 x1 x2} (f0 : Reach r s0) :
    Reach r (State.wordsWritten s0 x1 x2) := by
  unfold State.wordsWritten
  exact .upd f0

theorem State.setNum_reach {s0 x1 x2 x3} (f0 : Reach r s0) :
    Reach r (State.setNum s0 x1 x2 x3) := by
  unfold State.setNum
  exact State.setBytes_reach f0

theorem State.fillRange_reach {s0 x1 x2 x3} (f0 : Reach r s0) :
    Reach r (State.fillRange s0 x1 x2 x3) := by
  unfold State.fillRange
  exact ite_k (Reach r) (State.zeroRange_reach f0) (State.setBytes_reach f0)

theorem State.setMe_reach {s0 x1 x2} (f0 : Reach r s0) :
    Reach r (State.setMe s0 x1 x2) := by
  unfold State.setMe
  exact .upd f0

theorem State.setVsp_reach {s0 x1 x2} (f0 : Reach r s0) :
    Reach r (State.setVsp s0 x1 x2) := by
  unfold State.setVsp
  exact .upd f0

theorem State.setAg_reach {s0 x1 x2 x3 x4} (f0 : Reach r s0) :
    Reach r (State.setAg s0 x1 x2 x3 x4) := by
  unfold State.setAg
  exact .upd f0

theorem State.setFifo_reach {s0 x1 x2 x3} (f0 : Reach r s0) :
    Reach r (State.setFifo s0 x1 x2 x3) := by
  unfold State.setFifo
  exact .upd f0

theorem State.setMu_reach {s0 x1 x2} (f0 : Reach r s0) :
    Reach r (State.setMu s0 x1 x2) := by
  unfold State.setMu
  exact .upd f0

theorem State.setEp_reach {s0 x1 x2 x3} (f0 : Reach r s0) :
    Reach r (State.setEp s0 x1 x2 x3) := by
  unfold State.setEp
  exact .upd f0

theorem State.setRor_reach {s0 x1 x2} (f0 : Reach r s0) :
    Reach r (State.setRor s0 x1 x2) := by
  unfold State.setRor
  exact .upd f0

theorem State.setCtx_reach {s0 x1 x2} (f0 : Reach r s0) :
    Reach r (State.setCtx s0 x1 x2) := by
  unfold State.setCtx
  exact .upd f0

theorem State.drawList_reach {s0 x1 x2} (f0 : Reach r s0) :
    PairK AnyK (Reach r) (State.drawList s0 x1 x2) := by
  unfold State.drawList
  extract_lets t0 v1 t2
  have h3 : PairK AnyK (Reach r) t0 := State.draw_reach f0
  clear_value t0 v1
  have h4 : Reach r t2 := snd_k AnyK h3
  clear_value t2
  exact .mk any_k h4

theorem State.signal_reach {s0 x1} (f0 : Reach r s0) :
    Reach r (State.signal s0 x1) := by
  unfold State.signal
  exact .upd f0

theorem State.logOnce_reach {s0 x1 x2 x3 x4} (f0 : Reach r s0) :
    Reach r (State.logOnce s0 x1 x2 x3 x4) := by
  unfold State.logOnce
  exact ite_k (Reach r) f0 (State.setReg_reach (State.setBit_reach (State.setReg_reach f0)))

theorem State.cycles_reach {s0 x1} (f0 : Reach r s0) :
    Reach r (State.cycles s0 x1) := by
  unfold State.cycles
  extract_lets t0 v1 t2
  have h3 : PairK AnyK (Reach r) t0 := State.draw_reach f0
  clear_value t0 v1
  have h4 : Reach r t2 := snd_k AnyK h3
  clear_value t2
  exact State.addWrap_reach h4

theorem State.notePeak_reach {s0 x1 x2} (f0 : Reach r s0) :
    Reach r (State.notePeak s0 x1 x2) := by
  unfold State.notePeak
  exact ite_k (Reach r) (.upd f0) f0

/-! ## Region -/

theorem State.ctxNote_reach {s0 x1 x2} (f0 : Reach r s0) :
    Reach r (State.ctxNote s0 x1 x2) := by
  unfold State.ctxNote
  exact State.signal_reach f0

theorem State.advTail_reach {s0 x1 x2 x3} (f0 : Reach r s0) :
    Reach r (State.advTail s0 x1 x2 x3) := by
  unfold State.advTail
  extract_lets v0 t1
  clear_value v0
  have h2 : Reach r t1 := State.setFld_reach (State.setFld_reach f0)
  clear_value t1
  exact State.notePeak_reach h2

theorem State.advHead_reach {s0 x1 x2 x3} (f0 : Reach r s0) :
    Reach r (State.advHead s0 x1 x2 x3) := by
  unfold State.advHead
  extract_lets v0
  clear_value v0
  exact State.setFld_reach (State.setFld_reach f0)

theorem State.advRead_reach {s0 x1 x2 x3} (f0 : Reach r s0) :
    Reach r (State.advRead s0 x1 x2 x3) := by
  unfold State.advRead
  extract_lets v0
  clear_value v0
  exact State.setFld_reach (State.setFld_reach f0)

theorem State.setPopped_reach {s0 x1 x2 x3} (f0 : Reach r s0) :
    Reach r (State.setPopped s0 x1 x2 x3) := by
  unfold State.setPopped
  exact .upd f0

theorem State.sweepHead_reach {s0 x1 x2 x3} (f0 : Reach r s0) :
    Reach r (State.sweepHead s0 x1 x2 x3) := by
  induction x3 generalizing s0 x1 x2 with
  | zero =>
    rw [State.sweepHead]
    exact f0
  | succ y0 ih1 =>
    rw [State.sweepHead]
    refine ite_k (Reach r) f0 ?_
    extract_lets v2
    clear_value v2
    exact ite_k (Reach r) (ih1 (State.advHead_reach f0)) f0

theorem State.sweepRead_reach {s0 x1 x2 x3} (f0 : Reach r s0) :
    Reach r (State.sweepRead s0 x1 x2 x3) := by
  induction x3 generalizing s0 x1 x2 with
  | zero =>
    rw [State.sweepRead]
    exact f0
  | succ y0 ih1 =>
    rw [State.sweepRead]
    refine ite_k (Reach r) f0 ?_
    extract_lets v2
    clear_value v2
    refine ite_k (Reach r) f0 ?_
    exact ite_k (Reach r) (ih1 (State.advRead_reach f0)) (ite_k (Reach r) (ih1 (State.advRead_reach
        (State.setPopped_reach f0))) f0)

theorem State.sweepQueue_reach {s0 x1 x2 x3} (f0 : Reach r s0) :
    Reach r (State.sweepQueue s0 x1 x2 x3) := by
  induction x3 generalizing s0 x1 x2 with
  | zero =>
    rw [State.sweepQueue]
    exact f0
  | succ y0 ih1 =>
    rw [State.sweepQueue]
    exact ite_k (Reach r) f0 (ite_k (Reach r) (ih1 (State.advHead_reach (State.setPopped_reach f0))) f0)

theorem State.countUnreleased_reach {s0 x1 x2} (f0 : Reach r s0) :
    Reach r (State.countUnreleased s0 x1 x2) := by
  unfold State.countUnreleased
  extract_lets v0
  clear_value v0
  exact State.setFld_reach f0

theorem State.release_reach {s0 x1 x2 x3} (f0 : Reach r s0) :
    Reach r (State.release s0 x1 x2 x3) := by
  unfold State.release
  split
  · rename_i d0 e1
    exact State.addSat_reach f0
  · rename_i d2 d3 e4
    refine ite_k (Reach r) f0 ?_
    extract_lets v5 t6 t7
    clear_value v5
    have h8 : Reach r t6 := State.setBytes_reach f0
    clear_value t6
    have h9 : Reach r t7 := ite_k (Reach r) (State.addMod_reach h8) h8
    clear_value t7
    exact State.countUnreleased_reach (State.sweepHead_reach h9)

theorem State.pop_reach {s0 x1 x2 x3} (f0 : Reach r s0) :
    Reach r (State.pop s0 x1 x2 x3) := by
  unfold State.pop
  extract_lets t0 t1
  have h2 : Reach r t0 := State.setPopped_reach f0
  clear_value t0
  have h3 : Reach r t1 := State.sweepRead_reach h2
  clear_value t1
  refine ite_k (Reach r) (State.sweepQueue_reach h2) ?_
  exact ite_k (Reach r) (State.countUnreleased_reach (State.sweepHead_reach h3)) (State.release_reach h3)

theorem State.releaseItem_reach {s0 x1 x2 x3} (f0 : Reach r s0) :
    Reach r (State.releaseItem s0 x1 x2 x3) := by
  unfold State.releaseItem
  exact ite_k (Reach r) (State.release_reach f0) f0

theorem State.staleNote_reach {s0 x1 x2 x3 x4} (f0 : Reach r s0) :
    Reach r (State.staleNote s0 x1 x2 x3 x4) := by
  unfold State.staleNote
  extract_lets v0 t1 t2 t3
  clear_value v0
  have h4 : Reach r t1 := State.addSat_reach f0
  clear_value t1
  have h5 : Reach r t2 := ite_k (Reach r) (State.setBit_reach h4) (State.setBit_reach h4)
  clear_value t2
  have h6 : Reach r t3 := State.logOnce_reach h5
  clear_value t3
  exact State.ctxNote_reach h6

theorem State.purge_reach {s0 x1 x2} (f0 : Reach r s0) :
    Reach r (State.purge s0 x1 x2) := by
  unfold State.purge
  refine foldl_k (Reach r) f0 ?_
  intro t0 h1 d2
  exact State.staleNote_reach (State.releaseItem_reach (State.pop_reach h1))

theorem State.pushQ_reach {s0 x1 x2 x3} (f0 : Reach r s0) :
    OptK (Reach r) (State.pushQ s0 x1 x2 x3) := by
  unfold State.pushQ
  refine ite_k (OptK (Reach r)) ?_ (.none)
  extract_lets t0
  have h1 : Reach r t0 := State.setBytes_reach f0
  clear_value t0
  exact .some (State.setBit_reach (State.advTail_reach h1))

theorem State.writeRecord_reach {s0 x1 x2 x3 x4 x5 x6 x7} (f0 : Reach r s0) :
    Reach r (State.writeRecord s0 x1 x2 x3 x4 x5 x6 x7) := by
  unfold State.writeRecord
  extract_lets v0 v1 v2 v3
  clear_value v0 v1 v2 v3
  exact State.advTail_reach (State.setBytes_reach f0)

theorem State.place_reach {s0 x1 x2 x3 x4 x5 x6} (f0 : Reach r s0) :
    PlacedK (Reach r) (State.place s0 x1 x2 x3 x4 x5 x6) := by
  unfold State.place
  extract_lets v0 v1 v2 v3 t4 t5
  clear_value v0 v1 v2 v3
  have h6 : Reach r t4 := State.setBytes_reach f0
  clear_value t4
  have h7 : Reach r t5 := State.addSat_reach (State.advTail_reach h6)
  clear_value t5
  refine ite_k (PlacedK (Reach r)) (.noRoom (ite_k (Reach r) f0 (State.setBit_reach f0))) ?_
  refine ite_k (PlacedK (Reach r)) (.oversize (State.setBit_reach (State.setBit_reach f0))) ?_
  refine ite_k (PlacedK (Reach r)) (.ok (State.setBit_reach (State.writeRecord_reach f0))) ?_
  exact ite_k (PlacedK (Reach r)) (.ok (State.setBit_reach (State.writeRecord_reach h7))) (.noRoom
      (State.setBit_reach f0))

theorem State.pushItem_reach {s0 x1 x2 x3} (f0 : Reach r s0) :
    OptK (Reach r) (State.pushItem s0 x1 x2 x3) := by
  unfold State.pushItem
  refine ite_k (OptK (Reach r)) (State.pushQ_reach f0) ?_
  split
  · rename_i t0 t1 d2 e3
    have h4 := use_k (PlacedK (Reach r)) e3 (State.place_reach f0)
    have h5 : Reach r t1 := by cases h4; assumption
    clear h4
    exact .some h5
  · rename_i t6 e7
    exact .none

/-! ## Units -/

theorem State.ueMet_reach {s0 x1 x2 x3 x4} (f0 : Reach r s0) :
    Reach r (State.ueMet s0 x1 x2 x3 x4) := by
  unfold State.ueMet
  extract_lets v0 v1 v2 v3 v4 t5 t6 t7
  clear_value v0 v1 v2 v3 v4
  have h8 : Reach r t5 := State.addSat_reach f0
  clear_value t5
  have h9 : Reach r t6 := State.setReg_reach h8
  clear_value t6
  have h10 : Reach r t7 := ite_k (Reach r) h8 (State.setBit_reach (State.setReg_reach h9))
  clear_value t7
  exact State.signal_reach h10

theorem State.readUe_reach {s0 x1 x2 x3 x4} (f0 : Reach r s0) :
    PairK AnyK (Reach r) (State.readUe s0 x1 x2 x3 x4) := by
  unfold State.readUe
  extract_lets v0
  clear_value v0
  refine .mk any_k ?_
  refine foldl_k (Reach r) f0 ?_
  intro t1 h2 d3
  exact State.ueMet_reach h2

theorem State.rowCe_reach {s0 x1 x2 x3 x4} (f0 : Reach r s0) :
    Reach r (State.rowCe s0 x1 x2 x3 x4) := by
  unfold State.rowCe
  extract_lets t0 v1 v2 v3 v4 v5 v6 t7
  have h8 : Reach r t0 := State.addSat_reach f0
  clear_value t0 v1 v2 v3 v4 v5 v6
  have h9 : Reach r t7 := State.setMu_reach h8
  clear_value t7
  split
  · rename_i d10 e11
    exact State.setMu_reach h8
  · rename_i d12 d13 e14
    refine ite_k (Reach r) (State.setMu_reach h8) ?_
    extract_lets t15
    have h16 : Reach r t15 := State.setReg_reach h9
    clear_value t15
    exact State.signal_reach h16

theorem State.eccAt_reach {s0 x1 x2 x3} (f0 : Reach r s0) :
    Reach r (State.eccAt s0 x1 x2 x3) := by
  unfold State.eccAt
  extract_lets v0 v1
  clear_value v0 v1
  split
  · rename_i d2
    exact f0
  · rename_i d3
    exact State.rowCe_reach f0
  · rename_i d4 d5
    exact ite_k (Reach r) f0 (.upd f0)

theorem State.waitDone_reach {s0 x1 x2 x3} (f0 : Reach r s0) :
    Reach r (State.waitDone s0 x1 x2 x3) := by
  unfold State.waitDone
  exact State.addMod_reach f0

theorem State.setWaiting_reach {s0 x1 x2 x3} (f0 : Reach r s0) :
    Reach r (State.setWaiting s0 x1 x2 x3) := by
  unfold State.setWaiting
  exact State.setFld_reach f0

theorem State.batchStart_reach {s0 x1 x2} (f0 : Reach r s0) :
    Reach r (State.batchStart s0 x1 x2) := by
  unfold State.batchStart
  extract_lets v0
  clear_value v0
  exact ite_k (Reach r) (ite_k (Reach r) (State.waitDone_reach f0) (State.setWaiting_reach f0)) f0

theorem State.requestSwitch_reach {s0 x1} (f0 : Reach r s0) :
    Reach r (State.requestSwitch s0 x1) := by
  unfold State.requestSwitch
  exact ite_k (Reach r) f0 (State.setFld_reach (State.setBit_reach f0))

theorem State.eobPassed_reach {s0 x1 x2} (f0 : Reach r s0) :
    Reach r (State.eobPassed s0 x1 x2) := by
  unfold State.eobPassed
  extract_lets v0 t1 v2 v3 t4
  clear_value v0
  have h5 : Reach r t1 := .upd f0
  clear_value t1 v2 v3
  have h6 : Reach r t4 := ite_k (Reach r) (State.requestSwitch_reach h5) h5
  clear_value t4
  exact State.batchStart_reach h6

theorem State.unitConfig_reach {s0 x1 x2 x3} (f0 : Reach r s0) :
    Reach r (State.unitConfig s0 x1 x2 x3) := by
  unfold State.unitConfig
  exact ite_k (Reach r) f0 (State.ctxNote_reach (State.setBit_reach f0))

theorem State.emitItem_reach {s0 x1 x2 x3 x4} (f0 : Reach r s0) :
    OptK (Reach r) (State.emitItem s0 x1 x2 x3 x4) := by
  unfold State.emitItem
  refine ite_k (OptK (Reach r)) ?_ ?_
  · refine ite_k (OptK (Reach r)) ?_ (.none)
    split
    · rename_i t0 t1 d2 e3
      have h4 := use_k (PlacedK (Reach r)) e3 (State.place_reach f0)
      have h5 : Reach r t1 := by cases h4; assumption
      clear h4
      exact State.pushQ_reach h5
    · rename_i t6 e7
      exact .none
  · refine ite_k (OptK (Reach r)) ?_ (.none)
    split
    · rename_i t8 t9 d10 e11
      have h12 := use_k (PlacedK (Reach r)) e11 (State.place_reach f0)
      have h13 : Reach r t9 := by cases h12; assumption
      clear h12
      exact .some h13
    · rename_i t14 e15
      exact .none

theorem State.pushIn_reach {s0 x1 x2 x3} (f0 : Reach r s0) :
    Reach r (State.pushIn s0 x1 x2 x3) := by
  unfold State.pushIn
  split
  · rename_i t0 t1 e2
    have h3 := use_k (OptK (Reach r)) e2 (State.pushItem_reach f0)
    have h4 := some_out h3
    clear h3
    exact h4
  · rename_i t5 e6
    exact f0

theorem State.agRestart_reach {s0 x1 x2} (f0 : Reach r s0) :
    Reach r (State.agRestart s0 x1 x2) := by
  unfold State.agRestart
  extract_lets v0 v1 t2
  clear_value v0 v1
  have h3 : Reach r t2 := State.setAg_reach f0
  clear_value t2
  exact State.setBit_reach (State.setBit_reach h3)

theorem State.halt_reach {s0 x1} (f0 : Reach r s0) :
    Reach r (State.halt s0 x1) := by
  unfold State.halt
  exact State.setBit_reach (State.setBit_reach f0)

theorem State.startDrain_reach {s0 x1} (f0 : Reach r s0) :
    Reach r (State.startDrain s0 x1) := by
  unfold State.startDrain
  exact State.setBit_reach f0

theorem State.resume_reach {s0 x1} (f0 : Reach r s0) :
    Reach r (State.resume s0 x1) := by
  unfold State.resume
  exact State.setBit_reach f0

theorem State.abortMe_reach {s0 x1} (f0 : Reach r s0) :
    Reach r (State.abortMe s0 x1) := by
  unfold State.abortMe
  extract_lets v0 t1
  clear_value v0
  have h2 : Reach r t1 := State.setMe_reach f0
  clear_value t1
  exact State.halt_reach (State.setBit_reach (State.setFld_reach h2))

theorem State.abortVsp_reach {s0 x1} (f0 : Reach r s0) :
    Reach r (State.abortVsp s0 x1) := by
  unfold State.abortVsp
  extract_lets v0 t1
  clear_value v0
  have h2 : Reach r t1 := State.setVsp_reach f0
  clear_value t1
  exact State.halt_reach (State.setBit_reach h2)

theorem State.abortSu_reach {s0 x1} (f0 : Reach r s0) :
    Reach r (State.abortSu s0 x1) := by
  unfold State.abortSu
  exact State.halt_reach f0

theorem State.abortAg_reach {s0 x1 x2} (f0 : Reach r s0) :
    Reach r (State.abortAg s0 x1 x2) := by
  unfold State.abortAg
  exact State.halt_reach (State.setBit_reach f0)

theorem State.abortUnits_reach {s0 x1} (f0 : Reach r s0) :
    Reach r (State.abortUnits s0 x1) := by
  unfold State.abortUnits
  refine foldl_k (Reach r) (State.abortSu_reach (State.abortVsp_reach (State.abortMe_reach f0))) ?_
  intro t0 h1 d2
  exact State.abortAg_reach h1

/-! ## AddressGen -/

theorem State.agFault_reach {s0 x1 x2 x3 x4} (f0 : Reach r s0) :
    Reach r (State.agFault s0 x1 x2 x3 x4) := by
  unfold State.agFault
  extract_lets v0 t1 t2 t3
  clear_value v0
  have h4 : Reach r t1 := State.setBit_reach f0
  clear_value t1
  have h5 : Reach r t2 := ite_k (Reach r) (State.setReg_reach h4) h4
  clear_value t2
  have h6 : Reach r t3 := State.setBit_reach (State.setBit_reach h5)
  clear_value t3
  exact State.ctxNote_reach h6

theorem State.agStall_reach {s0 x1 x2 x3} (f0 : Reach r s0) :
    Reach r (State.agStall s0 x1 x2 x3) := by
  unfold State.agStall
  exact ite_k (Reach r) f0 (State.cycles_reach f0)

theorem State.agEnd_reach {s0 x1 x2} (f0 : Reach r s0) :
    Reach r (State.agEnd s0 x1 x2) := by
  unfold State.agEnd
  extract_lets v0 v1 t2
  clear_value v0 v1
  have h3 : Reach r t2 := State.setAg_reach f0
  clear_value t2
  exact State.setBit_reach (State.setBit_reach h3)

theorem State.agAdvance_reach {s0 x1 x2} (f0 : Reach r s0) :
    Reach r (State.agAdvance s0 x1 x2) := by
  unfold State.agAdvance
  extract_lets v0 v1 v2 t3
  clear_value v0 v1 v2
  have h4 : Reach r t3 := ite_k (Reach r) f0 (State.addWrap_reach f0)
  clear_value t3
  split
  · rename_i d5 e6
    exact State.agEnd_reach h4
  · rename_i d7 d8 e9
    extract_lets v10
    clear_value v10
    exact State.setBit_reach (State.setAg_reach h4)

theorem State.agIndex_reach {s0 x1 x2} (f0 : Reach r s0) :
    IndexResK (Reach r) (State.agIndex s0 x1 x2) := by
  unfold State.agIndex
  extract_lets v0 v1 v2 t3 t4
  clear_value v0 v1 v2
  have h5 : Reach r t3 := State.purge_reach f0
  clear_value t3
  have h6 : OptK (PairK AnyK (Reach r)) t4 := by
    unfold t4
    split
    · rename_i d7 d8 e9
      exact .some (.mk any_k h5)
    · rename_i d10 e11
      split
      · rename_i d12 d13 e14
        exact ite_k (OptK (PairK AnyK (Reach r))) (.some (.mk any_k (State.pop_reach h5))) (.none)
      · rename_i d15 e16
        exact .none
  clear_value t4
  split
  · rename_i d17 d18 e19
    exact .ix f0
  · rename_i d20 e21
    split
    · rename_i t22 d23 d24 d25 t26
      have h27 := some_out h6
      clear h6
      have h28 := pair_snd h27
      clear h27
      extract_lets v29 v30 t31 t32 v33 t34
      clear_value v29 v30
      have h35 : PairK AnyK (Reach r) t31 := State.readUe_reach h28
      clear_value t31
      have h36 : Reach r t32 := snd_k AnyK h35
      clear_value t32 v33
      have h37 : Reach r t34 := State.setAg_reach h36
      clear_value t34
      exact .ix (ite_k (Reach r) h37 (State.releaseItem_reach h37))
    · rename_i t38
      split
      · rename_i d39 d40 e41
        extract_lets t42
        have h43 : Reach r t42 := State.pop_reach h5
        clear_value t42
        exact ite_k (IndexResK (Reach r)) (.ended (State.eobPassed_reach (State.agEnd_reach h43))) (.none_ h43)
      · rename_i d44 e45
        exact .none_ h5

theorem State.agDeliver_reach {s0 x1 x2 x3} (f0 : Reach r s0) :
    OptK (Reach r) (State.agDeliver s0 x1 x2 x3) := by
  unfold State.agDeliver
  extract_lets v0
  clear_value v0
  split
  · rename_i d1
    exact .none
  · rename_i d2 d3
    exact ite_k (OptK (Reach r)) (.some (State.setFifo_reach f0)) (.none)

theorem State.agMsg_reach {s0 x1 x2 x3 x4 x5 x6} (f0 : Reach r s0) :
    Reach r (State.agMsg s0 x1 x2 x3 x4 x5 x6) := by
  unfold State.agMsg
  extract_lets v0
  clear_value v0
  exact .upd f0

theorem State.agRead_reach {s0 x1 x2 x3} (f0 : Reach r s0) :
    Reach r (State.agRead s0 x1 x2 x3) := by
  unfold State.agRead
  extract_lets v0 v1 v2 v3 t4 v5 t6 t7
  clear_value v0 v1 v2 v3
  have h8 : PairK AnyK (Reach r) t4 := State.readUe_reach f0
  clear_value t4 v5
  have h9 : Reach r t6 := snd_k AnyK h8
  clear_value t6
  have h10 : Reach r t7 := ite_k (Reach r) (State.setBit_reach h9) h9
  clear_value t7
  refine ite_k (Reach r) (ite_k (Reach r) f0 (State.setAg_reach (State.agMsg_reach f0))) ?_
  split
  · rename_i t11 t12 e13
    have h14 := use_k (OptK (Reach r)) e13 (State.agDeliver_reach h10)
    have h15 := some_out h14
    clear h14
    exact State.agAdvance_reach h15
  · rename_i t16 e17
    exact State.agStall_reach f0

theorem State.agWrite_reach {s0 x1 x2 x3} (f0 : Reach r s0) :
    Reach r (State.agWrite s0 x1 x2 x3) := by
  unfold State.agWrite
  extract_lets v0 v1 v2 t3 t4
  clear_value v0 v1 v2
  have h5 : Reach r t3 := State.setFifo_reach f0
  clear_value t3
  have h6 : Reach r t4 := ite_k (Reach r) (State.agMsg_reach h5) (State.setBytes_reach h5)
  clear_value t4
  refine ite_k (Reach r) (State.agStall_reach f0) ?_
  exact ite_k (Reach r) (State.eobPassed_reach (State.agRestart_reach (State.setFifo_reach f0))) (ite_k (Reach r)
      (State.agStall_reach f0) (State.agAdvance_reach h6))

theorem State.agStep_reach {s0 x1 x2} (f0 : Reach r s0) :
    Reach r (State.agStep s0 x1 x2) := by
  unfold State.agStep
  extract_lets v0 t1
  clear_value v0
  refine ite_k (Reach r) ?_ ?_
  · split
    · rename_i t2 d3 t4 e5
      have h6 := use_k (IndexResK (Reach r)) e5 (State.agIndex_reach f0)
      have h7 : Reach r t4 := by cases h6; assumption
      clear h6
      unfold t1
      extract_lets v8
      clear_value v8
      split
      · rename_i d9 d10 e11
        exact State.agFault_reach h7
      · rename_i d12 e13
        exact ite_k (Reach r) (State.agWrite_reach h7) (State.agRead_reach h7)
    · rename_i t14 t15 e16
      have h17 := use_k (IndexResK (Reach r)) e16 (State.agIndex_reach f0)
      have h18 : Reach r t15 := by cases h17; assumption
      clear h17
      exact h18
    · rename_i t19 t20 e21
      have h22 := use_k (IndexResK (Reach r)) e21 (State.agIndex_reach f0)
      have h23 : Reach r t20 := by cases h22; assumption
      clear h22
      exact State.agStall_reach h23
  · unfold t1
    extract_lets v24
    clear_value v24
    split
    · rename_i d25 d26 e27
      exact State.agFault_reach f0
    · rename_i d28 e29
      exact ite_k (Reach r) (State.agWrite_reach f0) (State.agRead_reach f0)

theorem State.agEcc_reach {s0 x1 x2 x3} (f0 : Reach r s0) :
    Reach r (State.agEcc s0 x1 x2 x3) := by
  unfold State.agEcc
  extract_lets v0
  clear_value v0
  exact ite_k (Reach r) f0 (State.eccAt_reach f0)

theorem execAgAccess_reach {x0 x1 x2 s3} (f3 : Reach r s3) :
    OutK (Reach r) (execAgAccess x0 x1 x2 s3) := by
  unfold execAgAccess
  extract_lets v0
  clear_value v0
  refine .next ?_
  refine ite_k (Reach r) f3 ?_
  refine ite_k (Reach r) (State.unitConfig_reach f3) ?_
  refine ite_k (Reach r) f3 ?_
  refine ite_k (Reach r) ?_ (State.agStep_reach (State.setFld_reach (State.agEcc_reach f3)))
  exact ite_k (Reach r) (State.eobPassed_reach (State.agRestart_reach (State.setFifo_reach f3))) f3

theorem execAgHaltReq_reach {x0 x1 x2 s3} (f3 : Reach r s3) :
    OutK (Reach r) (execAgHaltReq x0 x1 x2 s3) := by
  unfold execAgHaltReq
  extract_lets t0
  have h1 : Reach r t0 := State.setFld_reach f3
  clear_value t0
  refine .next ?_
  refine ite_k (Reach r) h1 ?_
  exact ite_k (Reach r) (State.startDrain_reach h1) (ite_k (Reach r) (State.abortAg_reach h1) h1)

theorem execAgResume_reach {x0 x1 s2} (f2 : Reach r s2) :
    OutK (Reach r) (execAgResume x0 x1 s2) := by
  unfold execAgResume
  exact .next (ite_k (Reach r) f2 (State.resume_reach f2))

theorem execAgRestart_reach {x0 x1 s2} (f2 : Reach r s2) :
    OutK (Reach r) (execAgRestart x0 x1 s2) := by
  unfold execAgRestart
  exact .next (State.agRestart_reach f2)

theorem execAgHashM_reach {x0 x1 x2 x3 s4} (f4 : Reach r s4) :
    OutK (Reach r) (execAgHashM x0 x1 x2 x3 s4) := by
  unfold execAgHashM
  extract_lets v0 v1 v2 v3 v4
  clear_value v0 v1 v2 v3 v4
  exact .next (ite_k (Reach r) (State.setReg_reach f4) (State.setBit_reach f4))

/-! ## Home -/

theorem State.openAs_reach {s0 x1 x2 x3 x4 x5 x6} (f0 : Reach r s0) :
    Reach r (State.openAs s0 x1 x2 x3 x4 x5 x6) := by
  unfold State.openAs
  extract_lets t0 v1 t2 t3 t4 t5
  have h6 : Reach r t0 := State.setFld_reach f0
  clear_value t0 v1
  have h7 : Reach r t2 := State.setFld_reach h6
  clear_value t2
  have h8 : Reach r t3 := State.setBit_reach h7
  clear_value t3
  have h9 : Reach r t4 := State.setBit_reach h8
  clear_value t4
  have h10 : Reach r t5 := State.setBit_reach h9
  clear_value t5
  exact State.setBit_reach h10

theorem State.closeRange_reach {s0 x1} (f0 : Reach r s0) :
    Reach r (State.closeRange s0 x1) := by
  unfold State.closeRange
  exact State.setReg_reach (State.setReg_reach f0)

theorem State.tlLog_reach {s0 x1 x2 x3 x4} (f0 : Reach r s0) :
    Reach r (State.tlLog s0 x1 x2 x3 x4) := by
  unfold State.tlLog
  exact State.logOnce_reach f0

theorem State.dropWrite_reach {s0 x1} (f0 : Reach r s0) :
    Reach r (State.dropWrite s0 x1) := by
  unfold State.dropWrite
  exact State.tlLog_reach (.upd f0)

theorem State.sendTl_reach {s0 x1} (f0 : Reach r s0) :
    Reach r (State.sendTl s0 x1) := by
  unfold State.sendTl
  refine ite_k (Reach r) ?_ (ite_k (Reach r) (.upd f0) (.upd f0))
  split
  · rename_i d0 d1 d2
    exact State.dropWrite_reach f0
  · rename_i d3 d4 d5
    exact State.dropWrite_reach f0
  · rename_i d6 e7 e8
    exact f0

theorem State.sendHeld_reach {s0} (f0 : Reach r s0) :
    Reach r (State.sendHeld s0) := by
  unfold State.sendHeld
  exact ite_k (Reach r) (.upd f0) f0

theorem State.dropCopy_reach {s0 x1} (f0 : Reach r s0) :
    Reach r (State.dropCopy s0 x1) := by
  unfold State.dropCopy
  exact .upd f0

theorem State.drdy_reach {s0} (f0 : Reach r s0) :
    Reach r (State.drdy s0) := by
  unfold State.drdy
  extract_lets v0 v1 t2 t3
  clear_value v0 v1
  have h4 : Reach r t2 := State.setFld_reach f0
  clear_value t2
  have h5 : Reach r t3 := State.setFld_reach h4
  clear_value t3
  exact State.setBit_reach h5

theorem State.fire_reach {s0 x1} (f0 : Reach r s0) :
    Reach r (State.fire s0 x1) := by
  unfold State.fire
  extract_lets v0 t1 v2
  clear_value v0
  have h3 : Reach r t1 := ite_k (Reach r) (State.drdy_reach (.upd f0)) (ite_k (Reach r) (State.drdy_reach (.upd
      f0)) f0)
  clear_value t1 v2
  exact ite_k (Reach r) (.upd h3) h3

theorem State.unfire_reach {s0 x1} (f0 : Reach r s0) :
    Reach r (State.unfire s0 x1) := by
  unfold State.unfire
  exact .upd f0

theorem State.snoop_reach {s0 x1 x2 x3} (f0 : Reach r s0) :
    Reach r (State.snoop s0 x1 x2 x3) := by
  unfold State.snoop
  refine ite_k (Reach r) (.upd f0) ?_
  extract_lets v0 t1
  clear_value v0
  have h2 : Reach r t1 := .upd f0
  clear_value t1
  exact State.sendTl_reach h2

theorem State.putLine_reach {s0 x1 x2} (f0 : Reach r s0) :
    Reach r (State.putLine s0 x1 x2) := by
  unfold State.putLine
  extract_lets v0
  clear_value v0
  exact ite_k (Reach r) (State.snoop_reach f0) (State.setBytes_reach f0)

theorem State.putLines_reach {s0 x1 x2 x3} (f0 : Reach r s0) :
    Reach r (State.putLines s0 x1 x2 x3) := by
  induction x1 generalizing s0 x2 x3 with
  | zero =>
    rw [State.putLines]
    exact f0
  | succ y0 ih1 =>
    rw [State.putLines]
    refine ite_k (Reach r) f0 ?_
    extract_lets v2
    clear_value v2
    exact ih1 (State.putLine_reach f0)

theorem State.put_reach {s0 x1 x2} (f0 : Reach r s0) :
    Reach r (State.put s0 x1 x2) := by
  unfold State.put
  exact State.putLines_reach f0

theorem State.putNum_reach {s0 x1 x2 x3} (f0 : Reach r s0) :
    Reach r (State.putNum s0 x1 x2 x3) := by
  unfold State.putNum
  exact State.put_reach f0

theorem State.askLines_reach {s0 x1 x2} (f0 : Reach r s0) :
    Reach r (State.askLines s0 x1 x2) := by
  unfold State.askLines
  refine foldl_k (Reach r) f0 ?_
  intro t0 h1 d2
  exact State.snoop_reach h1

theorem State.postWrites_reach {s0 x1 x2 x3} (f0 : Reach r s0) :
    Reach r (State.postWrites s0 x1 x2 x3) := by
  induction x1 generalizing s0 x2 x3 with
  | zero =>
    rw [State.postWrites]
    exact f0
  | succ y0 ih1 =>
    rw [State.postWrites]
    refine ite_k (Reach r) f0 ?_
    refine ite_k (Reach r) ?_ ?_
    · extract_lets v2
      clear_value v2
      exact ih1 (State.sendTl_reach f0)
    · extract_lets v3
      clear_value v3
      exact ih1 (State.sendTl_reach f0)

theorem State.hostPut_reach {s0 x1 x2} (f0 : Reach r s0) :
    Reach r (State.hostPut s0 x1 x2) := by
  unfold State.hostPut
  exact State.postWrites_reach (ite_k (Reach r) f0 (State.setBytes_reach f0))

theorem State.agentPut_reach {s0 x1 x2} (f0 : Reach r s0) :
    Reach r (State.agentPut s0 x1 x2) := by
  unfold State.agentPut
  exact ite_k (Reach r) (State.hostPut_reach f0) (State.put_reach f0)

theorem State.eventAt_reach {s0 x1 x2 x3 x4} (f0 : Reach r s0) :
    Reach r (State.eventAt s0 x1 x2 x3 x4) := by
  unfold State.eventAt
  extract_lets v0 v1 t2 v3 t4 t5 t6
  clear_value v0 v1
  have h7 : Reach r t2 := .upd f0
  clear_value t2
  have h8 : Reach r t4 := State.put_reach h7
  clear_value t4
  have h9 : Reach r t5 := ite_k (Reach r) (State.addMod_reach h8) h8
  clear_value t5
  have h10 : Reach r t6 := State.put_reach h9
  clear_value t6
  exact State.drdy_reach h10

theorem State.event_reach {s0 x1 x2 x3} (f0 : Reach r s0) :
    Reach r (State.event s0 x1 x2 x3) := by
  unfold State.event
  exact State.eventAt_reach f0

theorem State.summaryView_reach {s0} (f0 : Reach r s0) :
    Reach r (State.summaryView s0) := by
  unfold State.summaryView
  extract_lets v0 v1 t2 t3 t4 t5
  clear_value v0 v1
  have h6 : Reach r t2 := State.setFld_reach f0
  clear_value t2
  have h7 : Reach r t3 := State.setFld_reach h6
  clear_value t3
  have h8 : Reach r t4 := State.setFld_reach h7
  clear_value t4
  have h9 : Reach r t5 := State.setFld_reach h8
  clear_value t5
  exact State.setFld_reach h9

theorem State.publish_reach {s0} (f0 : Reach r s0) :
    Reach r (State.publish s0) := by
  unfold State.publish
  extract_lets t0 v1 t2
  have h3 : Reach r t0 := State.summaryView_reach f0
  clear_value t0 v1
  have h4 : Reach r t2 := State.setFld_reach h3
  clear_value t2
  exact State.event_reach h4

theorem State.linkError_reach {s0 x1 x2 x3 x4} (f0 : Reach r s0) :
    Reach r (State.linkError s0 x1 x2 x3 x4) := by
  unfold State.linkError
  exact State.event_reach f0

/-! ## Mesh -/

theorem State.onAlternate_reach {s0 x1} (f0 : Reach r s0) :
    Reach r (State.onAlternate s0 x1) := by
  unfold State.onAlternate
  refine foldl_k (Reach r) f0 ?_
  intro t0 h1 d2
  refine ite_k (Reach r) ?_ h1
  extract_lets v3
  clear_value v3
  exact State.setBit_reach h1

theorem State.setFence_reach {s0 x1 x2 x3} (f0 : Reach r s0) :
    Reach r (State.setFence s0 x1 x2 x3) := by
  unfold State.setFence
  refine ite_k (Reach r) ?_ ?_
  · extract_lets t0
    have h1 : Reach r t0 := State.setFld_reach f0
    clear_value t0
    exact State.onAlternate_reach (State.setFld_reach h1)
  · extract_lets t2
    have h3 : Reach r t2 := State.setFld_reach f0
    clear_value t2
    exact State.setFld_reach h3

theorem State.rtFault_reach {s0 x1 x2 x3 x4} (f0 : Reach r s0) :
    Reach r (State.rtFault s0 x1 x2 x3 x4) := by
  unfold State.rtFault
  exact State.logOnce_reach (State.setBit_reach f0)

theorem State.rtNack_reach {s0 x1 x2 x3} (f0 : Reach r s0) :
    Reach r (State.rtNack s0 x1 x2 x3) := by
  unfold State.rtNack
  refine ite_k (Reach r) f0 ?_
  extract_lets v0 t1
  clear_value v0
  have h2 : Reach r t1 := State.addSat_reach f0
  clear_value t1
  exact .upd h2

theorem State.netDrop_reach {s0 x1} (f0 : Reach r s0) :
    Reach r (State.netDrop s0 x1) := by
  unfold State.netDrop
  exact .upd f0

theorem State.linkFlits_reach {s0 x1 x2 x3} (f0 : Reach r s0) :
    Reach r (State.linkFlits s0 x1 x2 x3) := by
  unfold State.linkFlits
  exact ite_k (Reach r) f0 (State.addWrap_reach f0)

theorem State.netHop_reach {s0 x1 x2 x3 x4} (f0 : Reach r s0) :
    Reach r (State.netHop s0 x1 x2 x3 x4) := by
  unfold State.netHop
  extract_lets v0 v1
  clear_value v0 v1
  exact State.linkFlits_reach (.upd f0)

theorem State.netLocal_reach {s0 x1 x2 x3 x4} (f0 : Reach r s0) :
    Reach r (State.netLocal s0 x1 x2 x3 x4) := by
  unfold State.netLocal
  refine ite_k (Reach r) (.upd f0) ?_
  refine ite_k (Reach r) (State.rtNack_reach (State.netDrop_reach f0)) ?_
  extract_lets v0 t1
  clear_value v0
  have h2 : Reach r t1 := State.rtFault_reach (State.addSat_reach (State.netDrop_reach f0))
  clear_value t1
  exact ite_k (Reach r) (.upd f0) (State.signal_reach h2)

theorem State.netCopies_reach {s0 x1 x2 x3} (f0 : Reach r s0) :
    Reach r (State.netCopies s0 x1 x2 x3) := by
  unfold State.netCopies
  refine foldl_k (Reach r) f0 ?_
  intro t0 h1 d2
  refine ite_k (Reach r) h1 ?_
  refine ite_k (Reach r) ?_ ?_
  · extract_lets v3
    clear_value v3
    exact .upd h1
  · refine ite_k (Reach r) (State.signal_reach (State.rtFault_reach h1)) ?_
    extract_lets v4 v5
    clear_value v4 v5
    exact State.linkFlits_reach (.upd h1)

theorem State.routeDo_reach {s0 x1 x2 x3 x4 x5} (f0 : Reach r s0) :
    Reach r (State.routeDo s0 x1 x2 x3 x4 x5) := by
  unfold State.routeDo
  split
  · rename_i d0
    exact f0
  · rename_i d1 d2
    exact State.netCopies_reach (State.netDrop_reach f0)
  · rename_i d3 d4 d5
    extract_lets t6 t7 t8
    have h9 : Reach r t6 := State.rtFault_reach (State.netDrop_reach f0)
    clear_value t6
    have h10 : Reach r t7 := ite_k (Reach r) (State.addSat_reach h9) h9
    clear_value t7
    have h11 : Reach r t8 := ite_k (Reach r) (State.signal_reach h10) h10
    clear_value t8
    exact ite_k (Reach r) h11 (State.rtNack_reach h11)
  · rename_i d12 d13 d14
    extract_lets t15
    have h16 : Reach r t15 := ite_k (Reach r) (State.addSat_reach f0) f0
    clear_value t15
    exact ite_k (Reach r) (State.netLocal_reach h16) (State.netHop_reach h16)

theorem State.routeFirst_reach {s0 x1 x2} (f0 : Reach r s0) :
    Reach r (State.routeFirst s0 x1 x2) := by
  induction x2 generalizing s0 x1 with
  | nil =>
    rw [State.routeFirst]
    exact f0
  | cons y0 y1 ih2 =>
    rw [State.routeFirst]
    split
    · rename_i d3 e4
      exact ih2 f0
    · rename_i d5 e6
      exact State.routeDo_reach f0

theorem execRouteLookup_reach {x0 s1} (f1 : Reach r s1) :
    OutK (Reach r) (execRouteLookup x0 s1) := by
  unfold execRouteLookup
  exact .next (State.routeFirst_reach f1)

theorem execLinkRetry_reach {x0 x1 x2 s3} (f3 : Reach r s3) :
    OutK (Reach r) (execLinkRetry x0 x1 x2 s3) := by
  unfold execLinkRetry
  extract_lets v0 v1 t2 t3 t4 t5 t6 t7 t8 t9
  clear_value v0 v1
  have h10 : Reach r t2 := State.addSat_reach f3
  clear_value t2
  have h11 : Reach r t3 := State.setFld_reach h10
  clear_value t3
  have h12 : Reach r t4 := State.setFld_reach (State.addSat_reach f3)
  clear_value t4
  have h13 : Reach r t5 := State.setFld_reach h12
  clear_value t5
  have h14 : Reach r t6 := State.addSat_reach f3
  clear_value t6
  have h15 : Reach r t7 := State.setFld_reach h14
  clear_value t7
  have h16 : Reach r t8 := State.setFld_reach h15
  clear_value t8
  have h17 : Reach r t9 := by
    unfold t9
    split
    · rename_i d18
      split
      · rename_i d19 d20 d21
        exact State.addSat_reach h11
      · rename_i d22
        exact h11
    · rename_i d23
      split
      · rename_i d24 d25 d26
        exact State.addSat_reach h13
      · rename_i d27
        exact h13
    · rename_i d28
      split
      · rename_i d29 d30 d31
        exact State.addSat_reach h16
      · rename_i d32
        exact h16
  clear_value t9
  exact .next (ite_k (Reach r) f3 h17)

theorem State.caughtAt_reach {s0 x1 x2} (f0 : Reach r s0) :
    Reach r (State.caughtAt s0 x1 x2) := by
  unfold State.caughtAt
  extract_lets v0
  clear_value v0
  split
  · rename_i d1 d2 e3
    exact State.rtNack_reach (State.netDrop_reach f0)
  · rename_i d4 e5
    exact f0

theorem State.hopEnd_reach {s0 x1 x2} (f0 : Reach r s0) :
    Reach r (State.hopEnd s0 x1 x2) := by
  unfold State.hopEnd
  exact State.signal_reach (State.rtFault_reach (State.setFence_reach f0))

theorem State.hopFailed_reach {s0 x1 x2 x3} (f0 : Reach r s0) :
    Reach r (State.hopFailed s0 x1 x2 x3) := by
  unfold State.hopFailed
  extract_lets v0 t1 t2
  clear_value v0
  have h3 : Reach r t1 := ite_k (Reach r) (State.caughtAt_reach f0) f0
  clear_value t1
  have h4 : Reach r t2 := State.hopEnd_reach h3
  clear_value t2
  exact ite_k (Reach r) (State.hopEnd_reach h4) h4

theorem execHopDeclaredFailed_reach {x0 x1 x2 s3} (f3 : Reach r s3) :
    OutK (Reach r) (execHopDeclaredFailed x0 x1 x2 s3) := by
  unfold execHopDeclaredFailed
  exact .next (ite_k (Reach r) (State.hopFailed_reach f3) f3)

theorem execRtFenceReq_reach {x0 x1 x2 s3} (f3 : Reach r s3) :
    OutK (Reach r) (execRtFenceReq x0 x1 x2 s3) := by
  unfold execRtFenceReq
  extract_lets t0 t1
  have h2 : Reach r t0 := State.setFld_reach f3
  clear_value t0
  have h3 : Reach r t1 := ite_k (Reach r) (State.caughtAt_reach h2) h2
  clear_value t1
  exact .next (ite_k (Reach r) (State.setFence_reach h3) h2)

theorem execRtUnfence_reach {x0 x1 s2} (f2 : Reach r s2) :
    OutK (Reach r) (execRtUnfence x0 x1 s2) := by
  unfold execRtUnfence
  extract_lets t0 v1 v2 v3
  have h4 : Reach r t0 := State.setFld_reach f2
  clear_value t0 v1 v2 v3
  exact .next (ite_k (Reach r) (State.setFld_reach (State.setFence_reach h4)) h4)

theorem State.setRoute_reach {s0 x1 x2 x3} (f0 : Reach r s0) :
    Reach r (State.setRoute s0 x1 x2 x3) := by
  unfold State.setRoute
  extract_lets v0 v1 t2 v3
  clear_value v0 v1
  have h4 : Reach r t2 := State.setReg_reach f0
  clear_value t2 v3
  exact ite_k (Reach r) (State.setBit_reach h4) (State.rtFault_reach f0)

theorem execRtEntry_reach {x0 x1 x2 s3} (f3 : Reach r s3) :
    OutK (Reach r) (execRtEntry x0 x1 x2 s3) := by
  unfold execRtEntry
  exact .next (State.setRoute_reach f3)

theorem execRemoteWrite_reach {x0 s1} (f1 : Reach r s1) :
    OutK (Reach r) (execRemoteWrite x0 s1) := by
  unfold execRemoteWrite
  refine .next ?_
  split
  · rename_i d0 e1
    exact f1
  · rename_i d2 d3 d4 e5
    extract_lets t6
    have h7 : Reach r t6 := State.netDrop_reach f1
    clear_value t6
    exact ite_k (Reach r) (State.agentPut_reach h7) h7

theorem execRemoteRead_reach {x0 s1} (f1 : Reach r s1) :
    OutK (Reach r) (execRemoteRead x0 s1) := by
  unfold execRemoteRead
  refine .next ?_
  split
  · rename_i d0 e1
    exact f1
  · rename_i d2 d3 d4 e5
    extract_lets v6 t7 v8 v9 v10 v11
    clear_value v6
    have h12 : Reach r t7 := State.netDrop_reach f1
    clear_value t7 v8 v9 v10 v11
    exact ite_k (Reach r) (State.askLines_reach f1) (.upd h12)

theorem execReadResp_reach {x0 s1} (f1 : Reach r s1) :
    OutK (Reach r) (execReadResp x0 s1) := by
  unfold execReadResp
  refine .next ?_
  split
  · rename_i d0 e1
    exact f1
  · rename_i d2 d3 d4 e5
    extract_lets v6 v7 v8 v9
    clear_value v6 v7 v8 v9
    refine ite_k (Reach r) (State.netDrop_reach f1) ?_
    refine ite_k (Reach r) (State.agFault_reach (State.setAg_reach (State.netDrop_reach f1))) ?_
    split
    · rename_i t10 e11
      exact State.agStall_reach f1
    · rename_i t12 t13 e14
      have h15 := use_k (OptK (Reach r)) e14 (State.agDeliver_reach f1)
      have h16 := some_out h15
      clear h15
      extract_lets t17
      have h18 : Reach r t17 := ite_k (Reach r) (State.setBit_reach h16) h16
      clear_value t17
      exact State.agAdvance_reach (State.netDrop_reach h18)

end Sys2Proof.Machine
end

