-- ==== Sys2Proof/Laws/ReachChannels.lean ====
section
/-! SUPPORT. Laws/ReachChannels.lean: every operation of channels, streams, placement and replies stays within `Reach`:
it writes registers and memory only by the named writes, and leaves the queue and the variant alone. -/
namespace Sys2Proof.Machine

variable {r : State}

/-! ## Channels -/

theorem State.addCounter_reach {s0 x1 x2 x3} (f0 : Reach r s0) :
    Reach r (State.addCounter s0 x1 x2 x3) := by
  unfold State.addCounter
  refine ite_k (Reach r) ?_ (State.setBit_reach f0)
  extract_lets v0 t1
  clear_value v0
  have h2 : Reach r t1 := State.setFld_reach f0
  clear_value t1
  exact ite_k (Reach r) h2 (State.setFld_reach h2)

theorem execSyncAdd_reach {x0 x1 x2 s3} (f3 : Reach r s3) :
    OutK (Reach r) (execSyncAdd x0 x1 x2 s3) := by
  unfold execSyncAdd
  exact .next (State.addCounter_reach f3)

theorem State.setCounter_reach {s0 x1 x2} (f0 : Reach r s0) :
    Reach r (State.setCounter s0 x1 x2) := by
  unfold State.setCounter
  exact ite_k (Reach r) (State.setBit_reach f0) (State.setFld_reach f0)

theorem execSyncSetCmd_reach {x0 x1 s2} (f2 : Reach r s2) :
    OutK (Reach r) (execSyncSetCmd x0 x1 s2) := by
  unfold execSyncSetCmd
  exact .next (State.setCounter_reach f2)

theorem execWaitMet_reach {x0 x1 s2} (f2 : Reach r s2) :
    OutK (Reach r) (execWaitMet x0 x1 s2) := by
  unfold execWaitMet
  extract_lets v0 t1 t2 v3 t4
  clear_value v0
  have h5 : Reach r t1 := State.setWaiting_reach (State.waitDone_reach f2)
  clear_value t1
  have h6 : PairK AnyK (Reach r) t2 := State.draw_reach h5
  clear_value t2 v3
  have h7 : Reach r t4 := snd_k AnyK h6
  clear_value t4
  exact .next (ite_k (Reach r) (State.addMod_reach h7) f2)

theorem State.chCount_reach {s0 x1 x2 x3} (f0 : Reach r s0) :
    Reach r (State.chCount s0 x1 x2 x3) := by
  unfold State.chCount
  exact ite_k (Reach r) f0 (State.addSat_reach f0)

theorem State.chFault_reach {s0 x1 x2 x3 x4 x5} (f0 : Reach r s0) :
    Reach r (State.chFault s0 x1 x2 x3 x4 x5) := by
  unfold State.chFault
  exact State.logOnce_reach (State.setBit_reach f0)

theorem State.setEpWin_reach {s0 x1 x2 x3} (f0 : Reach r s0) :
    Reach r (State.setEpWin s0 x1 x2 x3) := by
  unfold State.setEpWin
  extract_lets v0 v1 t2
  clear_value v0 v1
  have h3 : Reach r t2 := State.setFld_reach (State.setFld_reach (State.setEp_reach f0))
  clear_value t2
  exact State.notePeak_reach h3

theorem State.chInject_reach {s0 x1 x2 x3} (f0 : Reach r s0) :
    Reach r (State.chInject s0 x1 x2 x3) := by
  unfold State.chInject
  extract_lets v0 v1 v2
  clear_value v0 v1 v2
  exact .upd f0

theorem State.chSend_reach {s0 x1 x2 x3 x4} (f0 : Reach r s0) :
    Reach r (State.chSend s0 x1 x2 x3 x4) := by
  unfold State.chSend
  extract_lets v0 v1 v2 t3 v4
  clear_value v0 v1 v2
  have h5 : Reach r t3 := State.setFld_reach f0
  clear_value t3 v4
  exact State.chInject_reach (State.setEpWin_reach h5)

theorem State.chAnnounce_reach {s0 x1 x2} (f0 : Reach r s0) :
    Reach r (State.chAnnounce s0 x1 x2) := by
  unfold State.chAnnounce
  extract_lets v0 v1 v2 v3
  clear_value v0 v1 v2 v3
  exact ite_k (Reach r) (ite_k (Reach r) (State.chSend_reach (State.setEp_reach f0)) (State.setEp_reach f0))
      (State.ctxNote_reach (State.setBit_reach (State.setEp_reach f0)))

theorem State.chSendHdr_reach {s0 x1 x2 x3 x4} (f0 : Reach r s0) :
    Reach r (State.chSendHdr s0 x1 x2 x3 x4) := by
  unfold State.chSendHdr
  extract_lets v0 v1 v2 v3 t4 v5 t6 v7 v8 t9 v10 t11
  clear_value v0 v1 v2 v3
  have h12 : PairK AnyK (Reach r) t4 := State.readUe_reach f0
  clear_value t4 v5
  have h13 : Reach r t6 := snd_k AnyK h12
  clear_value t6 v7 v8
  have h14 : PairK AnyK (Reach r) t9 := State.draw_reach h13
  clear_value t9 v10
  have h15 : Reach r t11 := snd_k AnyK h14
  clear_value t11
  exact ite_k (Reach r) (ite_k (Reach r) (State.chSend_reach h15) (State.chSend_reach h13)) (State.chSend_reach f0)

theorem State.chAfter_reach {s0 x1 x2 x3} (f0 : Reach r s0) :
    Reach r (State.chAfter s0 x1 x2 x3) := by
  unfold State.chAfter
  extract_lets v0 t1
  clear_value v0
  have h2 : Reach r t1 := ite_k (Reach r) (State.chAnnounce_reach f0) f0
  clear_value t1
  exact ite_k (Reach r) (State.eobPassed_reach h2) h2

theorem execMessageSend_reach {x0 x1 s2} (f2 : Reach r s2) :
    OutK (Reach r) (execMessageSend x0 x1 s2) := by
  unfold execMessageSend
  extract_lets v0 v1 t2 v3 t4 t5
  clear_value v0 v1
  have h6 : PairK AnyK (Reach r) t2 := State.draw_reach f2
  clear_value t2 v3
  have h7 : Reach r t4 := snd_k AnyK h6
  clear_value t4
  have h8 : Reach r t5 := State.purge_reach f2
  clear_value t5
  refine .next ?_
  refine ite_k (Reach r) f2 ?_
  refine ite_k (Reach r) (State.unitConfig_reach f2) ?_
  refine ite_k (Reach r) (ite_k (Reach r) f2 (State.addSat_reach h7)) ?_
  refine ite_k (Reach r) (State.chAnnounce_reach f2) ?_
  split
  · rename_i d9 d10 e11
    exact State.chAfter_reach (State.pop_reach (State.chSendHdr_reach h8))
  · rename_i d12 e13
    exact h8

theorem State.chReply_reach {s0 x1 x2 x3 x4 x5} (f0 : Reach r s0) :
    Reach r (State.chReply s0 x1 x2 x3 x4 x5) := by
  unfold State.chReply
  extract_lets v0 v1
  clear_value v0 v1
  exact .upd f0

theorem State.chAck_reach {s0 x1 x2 x3} (f0 : Reach r s0) :
    Reach r (State.chAck s0 x1 x2 x3) := by
  unfold State.chAck
  extract_lets t0
  have h1 : Reach r t0 := ite_k (Reach r) (State.addMod_reach f0) f0
  clear_value t0
  exact State.chReply_reach h1

theorem State.chNack_reach {s0 x1 x2 x3 x4 x5} (f0 : Reach r s0) :
    Reach r (State.chNack s0 x1 x2 x3 x4 x5) := by
  unfold State.chNack
  extract_lets t0 t1 v2 t3
  have h4 : Reach r t0 := State.chCount_reach f0
  clear_value t0
  have h5 : Reach r t1 := ite_k (Reach r) (State.setBit_reach h4) h4
  clear_value t1 v2
  have h6 : Reach r t3 := ite_k (Reach r) (State.addSat_reach h5) h5
  clear_value t3
  exact State.chReply_reach h6

theorem State.sndAdvance_reach {s0 x1 x2} (f0 : Reach r s0) :
    Reach r (State.sndAdvance s0 x1 x2) := by
  unfold State.sndAdvance
  exact State.addMod_reach f0

theorem State.rorPresent_reach {s0 x1 x2} (f0 : Reach r s0) :
    Reach r (State.rorPresent s0 x1 x2) := by
  unfold State.rorPresent
  extract_lets t0 t1
  have h2 : Reach r t0 := State.setRor_reach f0
  clear_value t0
  have h3 : Reach r t1 := ite_k (Reach r) (State.sndAdvance_reach h2) h2
  clear_value t1
  split
  · rename_i d4 d5 d6 e7
    exact State.addCounter_reach h3
  · rename_i d8 e9
    exact State.pushIn_reach h3

theorem State.rorFlush_reach {s0 x1 x2} (f0 : Reach r s0) :
    Reach r (State.rorFlush s0 x1 x2) := by
  induction x2 generalizing s0 x1 with
  | zero =>
    rw [State.rorFlush]
    exact f0
  | succ y0 ih1 =>
    rw [State.rorFlush]
    split
    · rename_i d2 d3 e4
      exact ih1 (State.rorPresent_reach f0)
    · rename_i d5 e6
      exact f0

theorem State.rorAdd_reach {s0 x1 x2} (f0 : Reach r s0) :
    Reach r (State.rorAdd s0 x1 x2) := by
  unfold State.rorAdd
  exact State.rorFlush_reach (State.setRor_reach f0)

theorem State.ovfGrow_reach {s0 x1 x2} (f0 : Reach r s0) :
    Reach r (State.ovfGrow s0 x1 x2) := by
  unfold State.ovfGrow
  split
  · rename_i d0 e1
    exact f0
  · rename_i d2 d3 e4
    extract_lets v5 v6 v7 v8 v9 v10
    clear_value v5 v6 v7 v8 v9 v10
    refine ite_k (Reach r) (State.addMod_reach f0) ?_
    split
    · rename_i d11 d12 e13
      exact State.addMod_reach (State.setFld_reach (State.copyRange_reach f0))
    · rename_i d14 e15
      exact State.ctxNote_reach f0

theorem State.ovfPut_reach {s0 x1 x2 x3 x4 x5 x6 x7} (f0 : Reach r s0) :
    OptK (Reach r) (State.ovfPut s0 x1 x2 x3 x4 x5 x6 x7) := by
  unfold State.ovfPut
  extract_lets v0 v1 v2 v3 t4
  clear_value v0 v1 v2 v3
  have h5 : Reach r t4 := State.setBytes_reach f0
  clear_value t4
  exact ite_k (OptK (Reach r)) (.some (State.addMod_reach (State.setEp_reach h5))) (.none)

theorem State.ovfLeave_reach {s0 x1 x2} (f0 : Reach r s0) :
    Reach r (State.ovfLeave s0 x1 x2) := by
  unfold State.ovfLeave
  extract_lets t0 v1 t2 t3
  have h4 : Reach r t0 := State.setBit_reach f0
  clear_value t0 v1
  have h5 : Reach r t2 := State.setEp_reach h4
  clear_value t2
  have h6 : Reach r t3 := State.setReg_reach (State.setReg_reach h5)
  clear_value t3
  exact State.event_reach h6

theorem State.skipPassed_reach {s0 x1 x2 x3} (f0 : Reach r s0) :
    Reach r (State.skipPassed s0 x1 x2 x3) := by
  unfold State.skipPassed
  extract_lets v0 v1
  clear_value v0 v1
  exact ite_k (Reach r) (State.setFld_reach (State.setEp_reach f0)) (State.setEp_reach f0)

theorem State.chPlace_reach {s0 x1 x2 x3 x4 x5 x6 x7} (f0 : Reach r s0) :
    TakenK (Reach r) (State.chPlace s0 x1 x2 x3 x4 x5 x6 x7) := by
  unfold State.chPlace
  extract_lets v0 t1
  clear_value v0
  refine ite_k (TakenK (Reach r)) ?_ ?_
  · split
    · rename_i t2 t3 e4
      have h5 := use_k (OptK (Reach r)) e4 (State.pushItem_reach f0)
      have h6 := some_out h5
      clear h5
      refine .ok ?_
      unfold t1
      exact ite_k (Reach r) (State.sndAdvance_reach h6) h6
    · rename_i t7 e8
      exact .noRoom f0
  · refine ite_k (TakenK (Reach r)) ?_ ?_
    · refine ite_k (TakenK (Reach r)) ?_ (.ok (State.rorAdd_reach f0))
      split
      · rename_i t9 t10 d11 e12
        have h13 := use_k (PlacedK (Reach r)) e12 (State.place_reach f0)
        have h14 : Reach r t10 := by cases h13; assumption
        clear h13
        exact .ok (State.rorAdd_reach h14)
      · rename_i t15 t16 e17
        have h18 := use_k (PlacedK (Reach r)) e17 (State.place_reach f0)
        have h19 : Reach r t16 := by cases h18; assumption
        clear h18
        exact .noRoom h19
      · rename_i t20 t21 e22
        have h23 := use_k (PlacedK (Reach r)) e22 (State.place_reach f0)
        have h24 : Reach r t21 := by cases h23; assumption
        clear h23
        exact .oversize h24
    · split
      · rename_i t25 t26 d27 e28
        have h29 := use_k (PlacedK (Reach r)) e28 (State.place_reach f0)
        have h30 : Reach r t26 := by cases h29; assumption
        clear h29
        refine .ok ?_
        unfold t1
        exact ite_k (Reach r) (State.sndAdvance_reach h30) h30
      · rename_i t31 t32 e33
        have h34 := use_k (PlacedK (Reach r)) e33 (State.place_reach f0)
        have h35 : Reach r t32 := by cases h34; assumption
        clear h34
        exact .noRoom h35
      · rename_i t36 t37 e38
        have h39 := use_k (PlacedK (Reach r)) e38 (State.place_reach f0)
        have h40 : Reach r t37 := by cases h39; assumption
        clear h39
        exact .oversize h40

theorem State.chOverflow_reach {s0 x1 x2 x3 x4 x5} (f0 : Reach r s0) :
    Reach r (State.chOverflow s0 x1 x2 x3 x4 x5) := by
  unfold State.chOverflow
  split
  · rename_i t0 t1 e2
    have h3 := use_k (OptK (Reach r)) e2 (State.ovfPut_reach f0)
    have h4 := some_out h3
    clear h3
    exact State.chAck_reach (ite_k (Reach r) h4 (State.sndAdvance_reach h4))
  · rename_i t5 e6
    exact State.ovfGrow_reach (State.chNack_reach (State.chFault_reach f0))

theorem State.chTake_reach {s0 x1 x2 x3 x4 x5} (f0 : Reach r s0) :
    Reach r (State.chTake s0 x1 x2 x3 x4 x5) := by
  unfold State.chTake
  extract_lets v0 v1 t2
  clear_value v0 v1
  have h3 : Reach r t2 := ite_k (Reach r) (State.skipPassed_reach f0) f0
  clear_value t2
  refine ite_k (Reach r) (State.chNack_reach f0) ?_
  refine ite_k (Reach r) (State.chNack_reach (State.setBit_reach f0)) ?_
  refine ite_k (Reach r) (State.chOverflow_reach f0) ?_
  refine ite_k (Reach r) ?_ ?_
  · exact ite_k (Reach r) (State.chNack_reach f0) (State.chAck_reach (State.addSat_reach (State.sndAdvance_reach f0)))
  · refine ite_k (Reach r) (State.chNack_reach (State.setBit_reach f0)) ?_
    split
    · rename_i t4 t5 e6
      have h7 := use_k (TakenK (Reach r)) e6 (State.chPlace_reach h3)
      have h8 : Reach r t5 := by cases h7; assumption
      clear h7
      exact State.chAck_reach h8
    · rename_i t9 t10 e11
      have h12 := use_k (TakenK (Reach r)) e11 (State.chPlace_reach h3)
      have h13 : Reach r t10 := by cases h12; assumption
      clear h12
      exact State.chNack_reach h13
    · rename_i t14 t15 e16
      have h17 := use_k (TakenK (Reach r)) e16 (State.chPlace_reach h3)
      have h18 : Reach r t15 := by cases h17; assumption
      clear h17
      exact ite_k (Reach r) (State.chOverflow_reach f0) (State.chNack_reach (ite_k (Reach r) f0 h18))

theorem State.chUnknown_reach {s0 x1 x2 x3} (f0 : Reach r s0) :
    Reach r (State.chUnknown s0 x1 x2 x3) := by
  unfold State.chUnknown
  exact State.ctxNote_reach (State.chFault_reach f0)

theorem State.chArrived_reach {s0 x1 x2 x3 x4} {k5 : State → ℕ → State} (f0 : Reach r s0) (f5 : (∀ y00, Reach r y00
    → ∀ y01, Reach r (k5 y00 y01))) :
    Reach r (State.chArrived s0 x1 x2 x3 x4 k5) := by
  unfold State.chArrived
  extract_lets v0 v1 t2
  clear_value v0 v1
  have h3 : Reach r t2 := State.rorFlush_reach (State.netDrop_reach f0)
  clear_value t2
  refine ite_k (Reach r) (State.rtNack_reach h3) ?_
  refine ite_k (Reach r) (State.staleNote_reach h3) ?_
  refine ite_k (Reach r) (State.chNack_reach h3) ?_
  split
  · rename_i d4 e5
    exact State.chUnknown_reach h3
  · rename_i d6 d7 e8
    exact ite_k (Reach r) (State.chReply_reach (State.chCount_reach h3)) (f5 _ h3 _)

theorem State.chFirst_reach {s0 x1 x2 x3} {k4 : Msg → ℕ → State → ℕ → State} (f0 : Reach r s0) (f4 : (∀ y00, ∀ y01,
    ∀ y02, Reach r y02 → ∀ y03, Reach r (k4 y00 y01 y02 y03))) :
    Reach r (State.chFirst s0 x1 x2 x3 k4) := by
  unfold State.chFirst
  split
  · rename_i d0 e1
    exact f0
  · rename_i d2 d3 d4 e5
    refine State.chArrived_reach f0 ?_
    intro t6 h7 d8
    exact f4 _ _ _ h7 _

theorem State.dataAt_reach {s0 x1} (f0 : Reach r s0) :
    Reach r (State.dataAt s0 x1) := by
  unfold State.dataAt
  refine State.chFirst_reach f0 ?_
  intro d0 d1 t2 h3 d4
  exact State.chTake_reach h3

theorem State.tokenAt_reach {s0 x1} (f0 : Reach r s0) :
    Reach r (State.tokenAt s0 x1) := by
  unfold State.tokenAt
  refine State.chFirst_reach f0 ?_
  intro d0 d1 t2 h3 d4
  exact State.chTake_reach h3

theorem State.chTakeAdd_reach {s0 x1 x2 x3 x4} (f0 : Reach r s0) :
    Reach r (State.chTakeAdd s0 x1 x2 x3 x4) := by
  unfold State.chTakeAdd
  extract_lets v0 v1 v2 t3
  clear_value v0 v1 v2
  have h4 : Reach r t3 := ite_k (Reach r) f0 (State.sndAdvance_reach f0)
  clear_value t3
  refine ite_k (Reach r) (State.chNack_reach f0) ?_
  refine ite_k (Reach r) ?_ ?_
  · exact ite_k (Reach r) (State.chNack_reach (State.setBit_reach f0)) (State.chAck_reach (State.rorAdd_reach h4))
  · exact State.chAck_reach (State.rorFlush_reach (State.addCounter_reach (State.sndAdvance_reach f0)))

theorem State.addAt_reach {s0 x1} (f0 : Reach r s0) :
    Reach r (State.addAt s0 x1) := by
  unfold State.addAt
  refine State.chFirst_reach f0 ?_
  intro d0 d1 t2 h3 d4
  exact State.chTakeAdd_reach h3

theorem State.ovfReturn_reach {s0 x1 x2} (f0 : Reach r s0) :
    Reach r (State.ovfReturn s0 x1 x2) := by
  unfold State.ovfReturn
  extract_lets v0 v1 v2 v3 v4
  clear_value v0 v1 v2 v3 v4
  split
  · rename_i d5 e6
    exact State.ovfLeave_reach f0
  · rename_i d7 d8 d9 d10 e11
    extract_lets t12 t13
    have h14 : Reach r t13 := ite_k (Reach r) (State.skipPassed_reach f0) f0
    clear_value t13
    refine ite_k (Reach r) ?_ ?_
    · unfold t12
      extract_lets v15 t16 t17
      clear_value v15
      have h18 : Reach r t16 := State.setFld_reach (State.setEp_reach (State.addSat_reach f0))
      clear_value t16
      have h19 : Reach r t17 := State.rorFlush_reach h18
      clear_value t17
      exact ite_k (Reach r) (State.ovfLeave_reach h19) h19
    · refine ite_k (Reach r) f0 ?_
      split
      · rename_i t20 t21 e22
        have h23 := use_k (TakenK (Reach r)) e22 (State.chPlace_reach h14)
        have h24 : Reach r t21 := by cases h23; assumption
        clear h23
        unfold t12
        extract_lets v25 t26 t27
        clear_value v25
        have h28 : Reach r t26 := State.setFld_reach (State.setEp_reach h24)
        clear_value t26
        have h29 : Reach r t27 := State.rorFlush_reach h28
        clear_value t27
        exact ite_k (Reach r) (State.ovfLeave_reach h29) h29
      · rename_i t30 e31
        exact f0

theorem execOverflowReturn_reach {x0 x1 s2} (f2 : Reach r s2) :
    OutK (Reach r) (execOverflowReturn x0 x1 s2) := by
  unfold execOverflowReturn
  exact .next (ite_k (Reach r) (State.ovfReturn_reach f2) f2)

theorem State.releaseSrc_reach {s0 x1 x2} (f0 : Reach r s0) :
    Reach r (State.releaseSrc s0 x1 x2) := by
  unfold State.releaseSrc
  split
  · rename_i d0
    exact f0
  · rename_i d1 d2 d3
    exact State.release_reach f0

theorem State.winOut_reach {s0 x1 x2 x3} (f0 : Reach r s0) :
    Reach r (State.winOut s0 x1 x2 x3) := by
  unfold State.winOut
  extract_lets v0
  clear_value v0
  exact State.releaseSrc_reach (State.setEpWin_reach f0)

theorem State.ackAt_reach {s0 x1} (f0 : Reach r s0) :
    Reach r (State.ackAt s0 x1) := by
  unfold State.ackAt
  split
  · rename_i d0 e1
    exact f0
  · rename_i d2 d3 d4 e5
    extract_lets v6
    clear_value v6
    split
    · rename_i d7 e8
      exact State.netDrop_reach f0
    · rename_i d9 d10 e11
      exact ite_k (Reach r) (State.setFld_reach (State.winOut_reach (State.netDrop_reach f0)))
          (State.releaseSrc_reach f0)

theorem State.chNacked_reach {s0 x1 x2 x3 x4} (f0 : Reach r s0) :
    Reach r (State.chNacked s0 x1 x2 x3 x4) := by
  unfold State.chNacked
  extract_lets v0 t1 t2
  clear_value v0
  have h3 : Reach r t1 := State.setEpWin_reach f0
  clear_value t1
  have h4 : Reach r t2 := State.setBit_reach f0
  clear_value t2
  refine ite_k (Reach r) (ite_k (Reach r) h3 (State.setFld_reach h3)) ?_
  exact ite_k (Reach r) (State.winOut_reach (State.setEp_reach f0)) (State.ctxNote_reach (State.chFault_reach h4))

theorem State.agNacked_reach {s0 x1 x2 x3} (f0 : Reach r s0) :
    Reach r (State.agNacked s0 x1 x2 x3) := by
  unfold State.agNacked
  extract_lets v0 v1
  clear_value v0 v1
  exact State.agFault_reach (State.setAg_reach f0)

theorem State.nackAt_reach {s0 x1} (f0 : Reach r s0) :
    Reach r (State.nackAt s0 x1) := by
  unfold State.nackAt
  split
  · rename_i d0 e1
    exact f0
  · rename_i d2 d3 d4 e5
    extract_lets t6 v7 t8
    have h9 : Reach r t6 := State.netDrop_reach f0
    clear_value t6 v7
    have h10 : Reach r t8 := State.chCount_reach h9
    clear_value t8
    refine ite_k (Reach r) (State.agNacked_reach h9) ?_
    split
    · rename_i d11 e12
      exact h10
    · rename_i d13 d14 e15
      exact State.chNacked_reach h10

theorem State.retryRound_reach {s0 x1 x2} (f0 : Reach r s0) :
    Reach r (State.retryRound s0 x1 x2) := by
  unfold State.retryRound
  extract_lets v0 v1 t2
  clear_value v0 v1
  have h3 : Reach r t2 := State.setEpWin_reach f0
  clear_value t2
  refine ite_k (Reach r) ?_ f0
  refine foldl_k (Reach r) h3 ?_
  intro t4 h5 d6
  exact State.chInject_reach h5

theorem State.ackTimeout_reach {s0 x1 x2 x3} (f0 : Reach r s0) :
    Reach r (State.ackTimeout s0 x1 x2 x3) := by
  unfold State.ackTimeout
  split
  · rename_i d0 e1
    exact f0
  · rename_i d2 d3 e4
    exact ite_k (Reach r) (State.chInject_reach (State.chCount_reach f0)) f0

theorem State.combineIn_reach {s0 x1 x2 x3 x4} (f0 : Reach r s0) :
    Reach r (State.combineIn s0 x1 x2 x3 x4) := by
  unfold State.combineIn
  extract_lets v0 v1 v2 t3 t4 v5 t6
  clear_value v0 v1 v2
  have h7 : Reach r t3 := State.setBytes_reach f0
  clear_value t3
  have h8 : Reach r t4 := ite_k (Reach r) (State.setBytes_reach h7) h7
  clear_value t4 v5
  have h9 : Reach r t6 := State.setBytes_reach (State.setBytes_reach h8)
  clear_value t6
  exact State.setBytes_reach h9

theorem State.chTakeCombine_reach {s0 x1 x2 x3 x4} (f0 : Reach r s0) :
    Reach r (State.chTakeCombine s0 x1 x2 x3 x4) := by
  unfold State.chTakeCombine
  extract_lets v0 v1 v2 t3
  clear_value v0 v1 v2
  refine ite_k (Reach r) (State.chNack_reach f0) ?_
  refine ite_k (Reach r) (State.chAck_reach (State.addSat_reach (State.sndAdvance_reach f0))) ?_
  split
  · rename_i d4 e5
    unfold t3
    exact State.chNack_reach (State.chFault_reach f0)
  · rename_i d6 d7 e8
    refine ite_k (Reach r) ?_ ?_
    · unfold t3
      exact State.chNack_reach (State.chFault_reach f0)
    · refine ite_k (Reach r) (State.chNack_reach f0) ?_
      exact ite_k (Reach r) (State.chReply_reach (State.chCount_reach (State.sndAdvance_reach f0)))
          (State.chAck_reach (State.combineIn_reach (State.sndAdvance_reach f0)))

theorem State.combineMsg_reach {s0 x1} (f0 : Reach r s0) :
    Reach r (State.combineMsg s0 x1) := by
  unfold State.combineMsg
  refine State.chFirst_reach f0 ?_
  intro d0 d1 t2 h3 d4
  exact State.chTakeCombine_reach h3

theorem State.combineReset_reach {s0 x1 x2 x3} (f0 : Reach r s0) :
    Reach r (State.combineReset s0 x1 x2 x3) := by
  unfold State.combineReset
  extract_lets t0
  have h1 : Reach r t0 := State.setBytes_reach (State.setBytes_reach f0)
  clear_value t0
  exact State.setBytes_reach h1

theorem execCombineEmit_reach {x0 x1 x2 s3} (f3 : Reach r s3) :
    OutK (Reach r) (execCombineEmit x0 x1 x2 s3) := by
  unfold execCombineEmit
  extract_lets v0
  clear_value v0
  refine .next ?_
  refine ite_k (Reach r) f3 ?_
  split
  · rename_i d1 e2
    exact f3
  · rename_i d3 d4 e5
    extract_lets v6 v7 v8 v9
    clear_value v6 v7 v8 v9
    refine ite_k (Reach r) f3 ?_
    split
    · rename_i t10 e11
      exact f3
    · rename_i t12 t13 e14
      have h15 := use_k (OptK (Reach r)) e14 (State.emitItem_reach f3)
      have h16 := some_out h15
      clear h15
      extract_lets t17
      have h18 : Reach r t17 := ite_k (Reach r) (State.addMod_reach h16) h16
      clear_value t17
      exact State.combineReset_reach h18

theorem State.epAbort_reach {s0 x1 x2} (f0 : Reach r s0) :
    Reach r (State.epAbort s0 x1 x2) := by
  unfold State.epAbort
  extract_lets v0 t1 t2
  clear_value v0
  have h3 : Reach r t1 := by
    unfold t1
    refine foldl_k (Reach r) f0 ?_
    intro t4 h5 d6
    exact State.releaseSrc_reach h5
  clear_value t1
  have h7 : Reach r t2 := State.setEpWin_reach h3
  clear_value t2
  exact State.setBit_reach (State.setBit_reach h7)

theorem State.epHalt_reach {s0 x1 x2 x3} (f0 : Reach r s0) :
    Reach r (State.epHalt s0 x1 x2 x3) := by
  unfold State.epHalt
  refine ite_k (Reach r) f0 ?_
  exact ite_k (Reach r) (State.setBit_reach f0) (ite_k (Reach r) (State.epAbort_reach f0) f0)

theorem execChEpHaltReq_reach {x0 x1 x2 s3} (f3 : Reach r s3) :
    OutK (Reach r) (execChEpHaltReq x0 x1 x2 s3) := by
  unfold execChEpHaltReq
  exact .next (State.epHalt_reach (State.setFld_reach f3))

theorem State.epResume_reach {s0 x1 x2} (f0 : Reach r s0) :
    Reach r (State.epResume s0 x1 x2) := by
  unfold State.epResume
  exact State.setBit_reach (State.setEp_reach f0)

theorem execChEpResume_reach {x0 x1 s2} (f2 : Reach r s2) :
    OutK (Reach r) (execChEpResume x0 x1 s2) := by
  unfold execChEpResume
  exact .next (ite_k (Reach r) f2 (State.epResume_reach f2))

theorem execEndpointHaltComplete_reach {x0 x1 s2} (f2 : Reach r s2) :
    OutK (Reach r) (execEndpointHaltComplete x0 x1 s2) := by
  unfold execEndpointHaltComplete
  exact .next (ite_k (Reach r) (State.setBit_reach (State.setBit_reach f2)) f2)

theorem execEndpointDrainTimeout_reach {x0 x1 s2} (f2 : Reach r s2) :
    OutK (Reach r) (execEndpointDrainTimeout x0 x1 s2) := by
  unfold execEndpointDrainTimeout
  exact .next (ite_k (Reach r) (State.setBit_reach (State.epAbort_reach f2)) f2)

theorem State.overflowOn_reach {s0 x1 x2} (f0 : Reach r s0) :
    Reach r (State.overflowOn s0 x1 x2) := by
  unfold State.overflowOn
  exact ite_k (Reach r) (State.setBit_reach (State.setEp_reach f0)) f0

theorem execOverflowOn_reach {x0 x1 s2} (f2 : Reach r s2) :
    OutK (Reach r) (execOverflowOn x0 x1 s2) := by
  unfold execOverflowOn
  exact .next (State.overflowOn_reach f2)

theorem State.markAcked_reach {s0 x1 x2} (f0 : Reach r s0) :
    Reach r (State.markAcked s0 x1 x2) := by
  unfold State.markAcked
  refine ite_k (Reach r) ?_ f0
  extract_lets v0 t1
  clear_value v0
  have h2 : Reach r t1 := by
    unfold t1
    refine foldl_k (Reach r) f0 ?_
    intro t3 h4 d5
    exact State.releaseSrc_reach h4
  clear_value t1
  exact State.setFld_reach (State.setEpWin_reach h2)

theorem execMarkAcked_reach {x0 x1 s2} (f2 : Reach r s2) :
    OutK (Reach r) (execMarkAcked x0 x1 s2) := by
  unfold execMarkAcked
  exact .next (State.markAcked_reach f2)

theorem State.chConfig_reach {s0 x1 x2 x3} (f0 : Reach r s0) :
    Reach r (State.chConfig s0 x1 x2 x3) := by
  unfold State.chConfig
  extract_lets v0 t1
  clear_value v0
  have h2 : Reach r t1 := State.setBit_reach f0
  clear_value t1
  split
  · rename_i d3 d4
    exact ite_k (Reach r) (State.setReg_reach f0) h2
  · rename_i d5 d6
    exact ite_k (Reach r) (State.setReg_reach f0) h2
  · rename_i d7 d8
    exact ite_k (Reach r) (State.setFld_reach f0) h2
  · rename_i d9 d10
    extract_lets v11
    clear_value v11
    exact ite_k (Reach r) (State.setReg_reach f0) h2

theorem execChConfigWrite_reach {x0 x1 x2 s3} (f3 : Reach r s3) :
    OutK (Reach r) (execChConfigWrite x0 x1 x2 s3) := by
  unfold execChConfigWrite
  exact .next (State.chConfig_reach f3)

/-! ## Streams -/

theorem State.setCState_reach {s0 x1 x2} (f0 : Reach r s0) :
    Reach r (State.setCState s0 x1 x2) := by
  unfold State.setCState
  exact State.setFld_reach f0

theorem State.setSlot_reach {s0 x1 x2 x3} (f0 : Reach r s0) :
    Reach r (State.setSlot s0 x1 x2 x3) := by
  unfold State.setSlot
  extract_lets v0
  clear_value v0
  exact State.setCtx_reach f0

theorem State.powerView_reach {s0} (f0 : Reach r s0) :
    Reach r (State.powerView s0) := by
  unfold State.powerView
  extract_lets t0
  have h1 : Reach r t0 := by
    unfold t0
    refine foldl_k (Reach r) f0 ?_
    intro t2 h3 d4
    extract_lets t5
    have h6 : Reach r t5 := State.setFld_reach h3
    clear_value t5
    exact State.setBit_reach h6
  clear_value t0
  exact State.setFld_reach h1

theorem State.streamView_reach {s0 x1} (f0 : Reach r s0) :
    Reach r (State.streamView s0 x1) := by
  unfold State.streamView
  extract_lets v0 t1 t2 t3
  clear_value v0
  have h4 : Reach r t1 := State.setFld_reach f0
  clear_value t1
  have h5 : Reach r t2 := State.setBit_reach h4
  clear_value t2
  have h6 : Reach r t3 := State.setBit_reach h5
  clear_value t3
  exact State.powerView_reach (State.setFld_reach h6)

theorem State.putRec_reach {s0 x1 x2} (f0 : Reach r s0) :
    Reach r (State.putRec s0 x1 x2) := by
  unfold State.putRec
  extract_lets v0 v1 v2 v3 t4 t5
  clear_value v0 v1 v2 v3
  have h6 : Reach r t4 := State.setCtx_reach f0
  clear_value t4
  have h7 : Reach r t5 := State.put_reach h6
  clear_value t5
  exact State.put_reach h7

theorem State.overflowRec_reach {s0 x1} (f0 : Reach r s0) :
    Reach r (State.overflowRec s0 x1) := by
  unfold State.overflowRec
  extract_lets v0
  clear_value v0
  exact ite_k (Reach r) f0 (State.putRec_reach (State.setCtx_reach f0))

theorem State.post_reach {s0 x1 x2} (f0 : Reach r s0) :
    PairK AnyK (Reach r) (State.post s0 x1 x2) := by
  unfold State.post
  extract_lets t0 v1
  have h2 : Reach r t0 := State.overflowRec_reach f0
  clear_value t0 v1
  exact ite_k (PairK AnyK (Reach r)) (.mk any_k (State.addSat_reach (State.setCtx_reach h2))) (.mk any_k
      (State.putRec_reach h2))

theorem execOverflowRecord_reach {x0 s1} (f1 : Reach r s1) :
    OutK (Reach r) (execOverflowRecord x0 s1) := by
  unfold execOverflowRecord
  exact .next (State.unfire_reach (State.overflowRec_reach f1))

theorem State.snt_reach {s0} (f0 : Reach r s0) :
    Reach r (State.snt s0) := by
  unfold State.snt
  extract_lets v0
  clear_value v0
  exact State.setFld_reach f0

theorem State.consumeRun_reach {s0 x1 x2 x3} (f0 : Reach r s0) :
    Reach r (State.consumeRun s0 x1 x2 x3) := by
  induction x3 generalizing s0 x1 x2 with
  | zero =>
    rw [State.consumeRun]
    exact f0
  | succ y0 ih1 =>
    rw [State.consumeRun]
    exact ite_k (Reach r) (ih1 (State.put_reach f0)) f0

theorem State.closeEntry_reach {s0 x1 x2 x3 x4 x5 x6} (f0 : Reach r s0) :
    Reach r (State.closeEntry s0 x1 x2 x3 x4 x5 x6) := by
  unfold State.closeEntry
  extract_lets t0 t1 v2 t3 t4 v5 t6 t7
  have h8 : Reach r t0 := .upd f0
  clear_value t0
  have h9 : PairK AnyK (Reach r) t1 := State.post_reach h8
  clear_value t1 v2
  have h10 : Reach r t3 := snd_k AnyK h9
  clear_value t3
  have h11 : Reach r t4 := State.addMod_reach h10
  clear_value t4 v5
  have h12 : Reach r t6 := State.setCtx_reach h10
  clear_value t6
  have h13 : Reach r t7 := by
    unfold t7
    split
    · rename_i d14
      exact ite_k (Reach r) (State.addSat_reach h11) h11
    · rename_i d15
      exact State.addSat_reach (State.addMod_reach h10)
    · rename_i d16
      exact State.addSat_reach h12
    · rename_i d17 e18 e19 e20
      exact h10
  clear_value t7
  exact State.snt_reach (State.consumeRun_reach h13)

theorem State.dropEntry_reach {s0 x1 x2 x3} (f0 : Reach r s0) :
    Reach r (State.dropEntry s0 x1 x2 x3) := by
  unfold State.dropEntry
  exact State.closeEntry_reach f0

theorem State.dropAll_reach {s0 x1 x2 x3} (f0 : Reach r s0) :
    Reach r (State.dropAll s0 x1 x2 x3) := by
  unfold State.dropAll
  refine foldl_k (Reach r) f0 ?_
  intro t0 h1 d2
  exact State.dropEntry_reach h1

theorem execDeadlineTimer_reach {s0} (f0 : Reach r s0) :
    OutK (Reach r) (execDeadlineTimer s0) := by
  unfold execDeadlineTimer
  exact .next (State.dropAll_reach f0)

theorem State.sntLog_reach {s0 x1 x2} (f0 : Reach r s0) :
    Reach r (State.sntLog s0 x1 x2) := by
  unfold State.sntLog
  refine ite_k (Reach r) f0 ?_
  extract_lets t0
  have h1 : Reach r t0 := State.setReg_reach f0
  clear_value t0
  exact State.setBit_reach (State.setReg_reach h1)

theorem State.completion_reach {s0 x1 x2 x3} (f0 : Reach r s0) :
    Reach r (State.completion s0 x1 x2 x3) := by
  unfold State.completion
  extract_lets v0 v1 v2 v3
  clear_value v0 v1 v2 v3
  split
  · rename_i d4 e5
    exact State.sntLog_reach (State.addSat_reach f0)
  · rename_i d6 d7 e8
    refine ite_k (Reach r) ?_ ?_
    · extract_lets t9
      have h10 : Reach r t9 := ite_k (Reach r) f0 (State.dropEntry_reach f0)
      clear_value t9
      exact State.addSat_reach h10
    · refine ite_k (Reach r) (State.addSat_reach f0) ?_
      exact ite_k (Reach r) (State.sntLog_reach (State.dropEntry_reach f0)) (State.closeEntry_reach f0)

theorem State.eosBack_reach {s0 x1 x2} (f0 : Reach r s0) :
    Reach r (State.eosBack s0 x1 x2) := by
  unfold State.eosBack
  extract_lets v0
  clear_value v0
  exact ite_k (Reach r) (State.setSlot_reach f0) (State.setSlot_reach f0)

theorem execCompletion_reach {s0} (f0 : Reach r s0) :
    OutK (Reach r) (execCompletion s0) := by
  unfold execCompletion
  refine .next ?_
  split
  · rename_i d0 e1
    exact f0
  · rename_i d2 d3 d4 e5
    extract_lets v6 v7 t8 t9
    clear_value v6 v7
    have h10 : Reach r t8 := State.netDrop_reach f0
    clear_value t8
    have h11 : Reach r t9 := .upd h10
    clear_value t9
    exact ite_k (Reach r) (State.completion_reach h11) (ite_k (Reach r) (State.eosBack_reach h11) h11)

theorem State.needView_reach {s0 x1} (f0 : Reach r s0) :
    Reach r (State.needView s0 x1) := by
  unfold State.needView
  extract_lets t0
  have h1 : Reach r t0 := State.setFld_reach f0
  clear_value t0
  exact State.setFld_reach h1

theorem State.openStream_reach {s0 x1 x2 x3 x4} (f0 : Reach r s0) :
    Reach r (State.openStream s0 x1 x2 x3 x4) := by
  unfold State.openStream
  extract_lets v0 v1 t2 t3
  clear_value v0 v1
  have h4 : Reach r t2 := State.setSlot_reach f0
  clear_value t2
  have h5 : Reach r t3 := ite_k (Reach r) (State.zeroRange_reach h4) h4
  clear_value t3
  exact State.streamView_reach h5

theorem State.recheck_reach {s0 x1} (f0 : Reach r s0) :
    Reach r (State.recheck s0 x1) := by
  unfold State.recheck
  extract_lets t0 t1
  have h2 : Reach r t0 := State.needView_reach f0
  clear_value t0
  have h3 : Reach r t1 := by
    unfold t1
    refine foldl_k (Reach r) h2 ?_
    intro t4 h5 d6
    extract_lets v7 v8 t9
    clear_value v7 v8
    refine ite_k (Reach r) ?_ ?_
    · refine State.setSlot_reach ?_
      unfold t9
      exact snd_k AnyK (State.post_reach h5)
    · refine ite_k (Reach r) ?_ h5
      refine State.setSlot_reach ?_
      unfold t9
      exact snd_k AnyK (State.post_reach h5)
  clear_value t1
  exact State.streamView_reach h3

theorem State.beginClose_reach {s0 x1 x2 x3 x4} (f0 : Reach r s0) :
    Reach r (State.beginClose s0 x1 x2 x3 x4) := by
  unfold State.beginClose
  extract_lets v0 t1
  clear_value v0
  have h2 : Reach r t1 := State.setSlot_reach f0
  clear_value t1
  exact ite_k (Reach r) (State.dropAll_reach h2) h2

theorem State.endRecord_reach {s0 x1 x2 x3} (f0 : Reach r s0) :
    Reach r (State.endRecord s0 x1 x2 x3) := by
  unfold State.endRecord
  extract_lets v0
  clear_value v0
  exact snd_k AnyK (State.post_reach f0)

theorem State.freeSlot_reach {s0 x1 x2} (f0 : Reach r s0) :
    Reach r (State.freeSlot s0 x1 x2) := by
  unfold State.freeSlot
  extract_lets v0
  clear_value v0
  exact State.streamView_reach (State.setSlot_reach f0)

theorem execStreamEnd_reach {x0 x1 s2} (f2 : Reach r s2) :
    OutK (Reach r) (execStreamEnd x0 x1 s2) := by
  unfold execStreamEnd
  extract_lets v0
  clear_value v0
  exact .next (ite_k (Reach r) (State.freeSlot_reach (State.endRecord_reach f2)) f2)

theorem execEndTimeout_reach {x0 x1 s2} (f2 : Reach r s2) :
    OutK (Reach r) (execEndTimeout x0 x1 s2) := by
  unfold execEndTimeout
  extract_lets v0
  clear_value v0
  refine .next ?_
  exact ite_k (Reach r) (State.streamView_reach (State.setSlot_reach (State.endRecord_reach f2))) f2

theorem State.loseStream_reach {s0 x1 x2} (f0 : Reach r s0) :
    Reach r (State.loseStream s0 x1 x2) := by
  unfold State.loseStream
  extract_lets t0 v1
  have h2 : Reach r t0 := State.dropAll_reach f0
  clear_value t0 v1
  exact State.streamView_reach (State.setSlot_reach (State.endRecord_reach h2))

theorem State.stopStreams_reach {s0 x1} (f0 : Reach r s0) :
    Reach r (State.stopStreams s0 x1) := by
  unfold State.stopStreams
  extract_lets t0 t1 t2
  have h3 : Reach r t0 := State.dropAll_reach f0
  clear_value t0
  have h4 : Reach r t1 := by
    unfold t1
    refine foldl_k (Reach r) h3 ?_
    intro t5 h6 d7
    exact State.endRecord_reach h6
  clear_value t1
  have h8 : Reach r t2 := by
    unfold t2
    refine foldl_k (Reach r) h4 ?_
    intro t9 h10 d11
    extract_lets v12
    clear_value v12
    exact State.setSlot_reach h10
  clear_value t2
  exact State.streamView_reach h8

theorem State.addEntry_reach {s0 x1} (f0 : Reach r s0) :
    Reach r (State.addEntry s0 x1) := by
  unfold State.addEntry
  extract_lets v0 t1
  clear_value v0
  have h2 : Reach r t1 := by
    unfold t1
    refine ite_k (Reach r) ?_ f0
    split
    · rename_i d3 d4 e5
      exact .upd f0
    · rename_i d6 e7
      exact f0
  clear_value t1
  exact .upd h2

theorem State.rejectFrame_reach {s0 x1 x2} (f0 : Reach r s0) :
    Reach r (State.rejectFrame s0 x1 x2) := by
  unfold State.rejectFrame
  extract_lets t0 t1
  have h2 : Reach r t0 := State.addEntry_reach f0
  clear_value t0
  have h3 : Reach r t1 := snd_k AnyK (State.post_reach h2)
  clear_value t1
  exact State.consumeRun_reach (State.addSat_reach h3)

theorem State.readFrame_reach {s0 x1 x2 x3} (f0 : Reach r s0) :
    Reach r (State.readFrame s0 x1 x2 x3) := by
  unfold State.readFrame
  extract_lets v0 v1 v2 v3 v4 t5 v6 v7 v8 t9 t10
  clear_value v0 v1 v2 v3 v4
  have h11 : Reach r t5 := State.setSlot_reach f0
  clear_value t5 v6 v7 v8
  have h12 : Reach r t9 := State.snt_reach (State.addEntry_reach (State.setSlot_reach h11))
  clear_value t9
  have h13 : Reach r t10 := ite_k (Reach r) (State.dropEntry_reach h12) h12
  clear_value t10
  refine ite_k (Reach r) (State.rejectFrame_reach h11) ?_
  refine ite_k (Reach r) (State.rejectFrame_reach h11) ?_
  refine ite_k (Reach r) (State.rejectFrame_reach h11) ?_
  exact ite_k (Reach r) (State.dropEntry_reach (State.addEntry_reach (State.setSlot_reach h11))) (ite_k (Reach r)
      (State.beginClose_reach h13) h13)

theorem State.ringFault_reach {s0 x1 x2 x3} (f0 : Reach r s0) :
    Reach r (State.ringFault s0 x1 x2 x3) := by
  unfold State.ringFault
  extract_lets v0 t1 v2 t3
  clear_value v0
  have h4 : Reach r t1 := ite_k (Reach r) (State.beginClose_reach f0) f0
  clear_value t1 v2
  have h5 : Reach r t3 := State.setSlot_reach h4
  clear_value t3
  exact State.put_reach h5

theorem State.ringRead_reach {s0 x1 x2} (f0 : Reach r s0) :
    Reach r (State.ringRead s0 x1 x2) := by
  unfold State.ringRead
  extract_lets v0 v1 v2 t3 v4 v5 v6
  clear_value v0 v1 v2
  have h7 : Reach r t3 := State.unfire_reach f0
  clear_value t3 v4 v5 v6
  refine ite_k (Reach r) f0 ?_
  refine ite_k (Reach r) (State.ringFault_reach h7) ?_
  refine foldl_k (Reach r) h7 ?_
  intro t8 h9 d10
  exact State.readFrame_reach h9

theorem execInputRingRead_reach {x0 x1 s2} (f2 : Reach r s2) :
    OutK (Reach r) (execInputRingRead x0 x1 s2) := by
  unfold execInputRingRead
  exact .next (State.ringRead_reach f2)

theorem State.ingest_reach {s0 x1 x2 x3 x4 x5 x6} (f0 : Reach r s0) :
    OptK (Reach r) (State.ingest s0 x1 x2 x3 x4 x5 x6) := by
  unfold State.ingest
  extract_lets v0
  clear_value v0
  split
  · rename_i t1 t2 d3 e4
    have h5 := use_k (PlacedK (Reach r)) e4 (State.place_reach f0)
    have h6 : Reach r t2 := by cases h5; assumption
    clear h5
    exact .some h6
  · rename_i t7 e8
    exact .none

theorem State.gatherSlot_reach {s0 x1 x2 x3} (f0 : Reach r s0) :
    OptK (Reach r) (State.gatherSlot s0 x1 x2 x3) := by
  unfold State.gatherSlot
  extract_lets v0 v1 v2 t3
  clear_value v0 v1 v2
  have h4 : OptK (Reach r) t3 := by
    unfold t3
    split
    · rename_i d5 e6
      exact .some f0
    · rename_i d7 d8 e9
      extract_lets v10
      clear_value v10
      refine map_k (Reach r) (State.ingest_reach f0) ?_
      intro t11 h12
      exact .upd h12
  clear_value t3
  split
  · rename_i t13
    exact h4
  · rename_i t14 t15
    have h16 := some_out h4
    clear h4
    refine ite_k (OptK (Reach r)) ?_ (.some h16)
    refine map_k (Reach r) (State.ingest_reach h16) ?_
    intro t17 h18
    exact State.setSlot_reach h18

theorem State.gatherAll_reach {s0 x1 x2} (f0 : Reach r s0) :
    OptK (Reach r) (State.gatherAll s0 x1 x2) := by
  unfold State.gatherAll
  extract_lets v0 t1
  clear_value v0
  have h2 : OptK (Reach r) t1 := by
    unfold t1
    refine foldl_k (OptK (Reach r)) (.some f0) ?_
    intro t3 h4 d5
    refine bind_k (Reach r) h4 ?_
    intro t6 h7
    exact State.gatherSlot_reach h7
  clear_value t1
  refine bind_k (Reach r) h2 ?_
  intro t8 h9
  refine map_k (Reach r) (State.ingest_reach h9) ?_
  intro t10 h11
  exact State.setFld_reach (State.setCtx_reach h11)

theorem State.shadowMove_reach {s0 x1 x2 x3 x4} (f0 : Reach r s0) :
    Reach r (State.shadowMove s0 x1 x2 x3 x4) := by
  unfold State.shadowMove
  extract_lets v0
  clear_value v0
  refine fst_k AnyK ?_
  refine foldl_k (PairK (Reach r) AnyK) (.mk f0 any_k) ?_
  intro t1 h2 d3
  extract_lets t4 t5 v6 v7 t8
  have h9 : PairK (Reach r) AnyK t4 := h2
  clear_value t4
  have h10 : Reach r t5 := fst_k AnyK h9
  clear_value t5 v6 v7
  have h11 : Reach r t8 := by
    unfold t8
    split
    · rename_i d12 d13 e14
      extract_lets v15
      clear_value v15
      exact ite_k (Reach r) (State.copyRange_reach h10) (ite_k (Reach r) (State.copyRange_reach h10) h10)
    · rename_i d16 e17
      exact h10
  clear_value t8
  exact ite_k (PairK (Reach r) AnyK) (.mk h10 any_k) (.mk h11 any_k)

theorem execShadowCopy_reach {x0 x1 s2} (f2 : Reach r s2) :
    OutK (Reach r) (execShadowCopy x0 x1 s2) := by
  unfold execShadowCopy
  exact .next (ite_k (Reach r) (State.shadowMove_reach f2) f2)

/-! ## Place -/

theorem State.markDisplaced_reach {s0 x1} (f0 : Reach r s0) :
    Reach r (State.markDisplaced s0 x1) := by
  unfold State.markDisplaced
  extract_lets v0 v1
  clear_value v0 v1
  refine foldl_k (Reach r) f0 ?_
  intro t2 h3 d4
  exact State.setBit_reach h3

theorem State.setDrained_reach {s0 x1 x2} (f0 : Reach r s0) :
    Reach r (State.setDrained s0 x1 x2) := by
  unfold State.setDrained
  refine foldl_k (Reach r) f0 ?_
  intro t0 h1 d2
  exact State.setFld_reach h1

theorem State.writeRoute_reach {s0 x1 x2 x3 x4} (f0 : Reach r s0) :
    Reach r (State.writeRoute s0 x1 x2 x3 x4) := by
  unfold State.writeRoute
  refine foldl_k (Reach r) f0 ?_
  intro t0 h1 d2
  exact State.setRoute_reach h1

theorem State.addBudget_reach {s0 x1 x2 x3 x4} (f0 : Reach r s0) :
    Reach r (State.addBudget s0 x1 x2 x3 x4) := by
  unfold State.addBudget
  refine foldl_k (Reach r) f0 ?_
  intro t0 h1 d2
  refine ite_k (Reach r) ?_ h1
  extract_lets v3
  clear_value v3
  exact State.setFld_reach (State.setFld_reach h1)

theorem State.clearBudgets_reach {s0 x1} (f0 : Reach r s0) :
    Reach r (State.clearBudgets s0 x1) := by
  unfold State.clearBudgets
  refine foldl_k (Reach r) f0 ?_
  intro t0 h1 d2
  refine foldl_k (Reach r) h1 ?_
  intro t3 h4 d5
  exact State.setReg_reach h4

theorem State.clearRoutes_reach {s0 x1} (f0 : Reach r s0) :
    Reach r (State.clearRoutes s0 x1) := by
  unfold State.clearRoutes
  exact State.resetRegs_reach f0

/-! ## Reply -/

theorem State.cmdView_reach {s0} (f0 : Reach r s0) :
    Reach r (State.cmdView s0) := by
  unfold State.cmdView
  exact State.setFld_reach f0

theorem State.replyRaw_reach {s0 x1 x2 x3 x4 x5 x6 x7} (f0 : Reach r s0) :
    Reach r (State.replyRaw s0 x1 x2 x3 x4 x5 x6 x7) := by
  unfold State.replyRaw
  extract_lets v0 v1 v2 t3 t4 t5 t6
  clear_value v0 v1 v2
  have h7 : Reach r t3 := .upd f0
  clear_value t3
  have h8 : Reach r t4 := State.put_reach h7
  clear_value t4
  have h9 : Reach r t5 := State.drdy_reach (State.put_reach h8)
  clear_value t5
  have h10 : Reach r t6 := ite_k (Reach r) h9 (State.addSat_reach h9)
  clear_value t6
  exact State.cmdView_reach (ite_k (Reach r) (State.event_reach h10) h10)

theorem State.reply_reach {s0 x1 x2 x3} (f0 : Reach r s0) :
    Reach r (State.reply s0 x1 x2 x3) := by
  unfold State.reply
  exact State.replyRaw_reach f0

theorem State.ok_reach {s0 x1 x2} (f0 : Reach r s0) :
    Reach r (State.ok s0 x1 x2) := by
  unfold State.ok
  exact State.replyRaw_reach f0

theorem State.okForm_reach {s0 x1 x2 x3} (f0 : Reach r s0) :
    Reach r (State.okForm s0 x1 x2 x3) := by
  unfold State.okForm
  exact State.replyRaw_reach f0

theorem State.refuse_reach {s0 x1 x2} (f0 : Reach r s0) :
    Reach r (State.refuse s0 x1 x2) := by
  unfold State.refuse
  exact State.reply_reach f0

theorem State.await_reach {s0 x1 x2 x3} (f0 : Reach r s0) :
    Reach r (State.await s0 x1 x2 x3) := by
  unfold State.await
  exact State.cmdView_reach (.upd f0)

theorem State.complete_reach {s0} {k1 : Waiting → Bool} {k2 : State → Waiting → State} (f0 : Reach r s0) (f2 : (∀
    y00, Reach r y00 → ∀ y01, Reach r (k2 y00 y01))) :
    Reach r (State.complete s0 k1 k2) := by
  unfold State.complete
  extract_lets v0 t1
  clear_value v0
  have h2 : Reach r t1 := .upd f0
  clear_value t1
  exact State.cmdView_reach (foldl_k (Reach r) h2 f2)

theorem State.powerEvent_reach {s0 x1} (f0 : Reach r s0) :
    Reach r (State.powerEvent s0 x1) := by
  unfold State.powerEvent
  exact State.event_reach f0

theorem State.memPower_reach {s0 x1} (f0 : Reach r s0) :
    Reach r (State.memPower s0 x1) := by
  unfold State.memPower
  extract_lets v0 v1
  clear_value v0 v1
  refine foldl_k (Reach r) f0 ?_
  intro t2 h3 d4
  extract_lets t5
  have h6 : Reach r t5 := ite_k (Reach r) h3 (State.setFld_reach h3)
  clear_value t5
  exact State.setFld_reach h6

theorem State.enterPower_reach {s0 x1} (f0 : Reach r s0) :
    Reach r (State.enterPower s0 x1) := by
  unfold State.enterPower
  exact State.powerEvent_reach (State.memPower_reach (State.setFld_reach f0))

theorem State.takeCmd_reach {s0 x1 x2} (f0 : Reach r s0) :
    Reach r (State.takeCmd s0 x1 x2) := by
  unfold State.takeCmd
  split
  · rename_i d0 d1 e2
    exact State.cmdView_reach (.upd f0)
  · rename_i d3 e4
    extract_lets v5
    clear_value v5
    exact State.put_reach (State.setFld_reach f0)

theorem State.command_reach {s0 x1 x2 x3} {k4 : Cmd → State → State} (f0 : Reach r s0) (f4 : (∀ y00, ∀ y01, Reach r
    y01 → Reach r (k4 y00 y01))) :
    Reach r (State.command s0 x1 x2 x3 k4) := by
  unfold State.command
  refine ite_k (Reach r) f0 ?_
  extract_lets v0 v1 t2 v3 t4
  clear_value v0 v1
  have h5 : Reach r t2 := ite_k (Reach r) (State.enterPower_reach f0) f0
  clear_value t2 v3
  have h6 : Reach r t4 := State.takeCmd_reach h5
  clear_value t4
  refine ite_k (Reach r) (State.reply_reach h6) ?_
  refine ite_k (Reach r) (State.reply_reach h6) ?_
  refine ite_k (Reach r) (State.reply_reach h6) ?_
  refine ite_k (Reach r) (State.reply_reach h6) ?_
  exact ite_k (Reach r) (State.reply_reach h6) (ite_k (Reach r) (State.reply_reach h6) (f4 _ _ h6))

theorem State.takePacket_reach {s0 x1} (f0 : Reach r s0) :
    Reach r (State.takePacket s0 x1) := by
  unfold State.takePacket
  extract_lets v0 t1 v2 v3
  clear_value v0
  have h4 : Reach r t1 := State.put_reach (State.setFld_reach f0)
  clear_value t1 v2 v3
  exact ite_k (Reach r) (State.cmdView_reach (.upd h4)) (State.replyRaw_reach h4)

theorem State.takeUpTo_reach {s0 x1 x2} (f0 : Reach r s0) :
    Reach r (State.takeUpTo s0 x1 x2) := by
  induction x1 generalizing s0 x2 with
  | zero =>
    rw [State.takeUpTo]
    exact f0
  | succ y0 ih1 =>
    rw [State.takeUpTo]
    exact ite_k (Reach r) f0 (ih1 (State.takePacket_reach f0))

theorem execSubmissionWatch_reach {s0} (f0 : Reach r s0) :
    OutK (Reach r) (execSubmissionWatch s0) := by
  unfold execSubmissionWatch
  refine .next ?_
  refine ite_k (Reach r) f0 ?_
  extract_lets t0 v1 v2
  have h3 : Reach r t0 := State.unfire_reach f0
  clear_value t0 v1 v2
  exact ite_k (Reach r) (State.event_reach (State.setBit_reach h3)) (State.takeUpTo_reach (State.setBit_reach h3))

end Sys2Proof.Machine
end

