-- ==== Sys2Proof/Laws/ReachEngines.lean ====
section
/-! SUPPORT. Laws/ReachEngines.lean: every operation of the engines and units of a tile stays within `Reach`:
it writes registers and memory only by the named writes, and leaves the queue and the variant alone. -/
namespace Sys2Proof.Machine

variable {r : State}

/-! ## MatrixEngine -/

theorem State.meLog_reach {s0 x1 x2 x3} (f0 : Reach r s0) :
    Reach r (State.meLog s0 x1 x2 x3) := by
  unfold State.meLog
  extract_lets v0 t1
  clear_value v0
  have h2 : Reach r t1 := State.setReg_reach f0
  clear_value t1
  exact State.setReg_reach h2

theorem State.meConfigFault_reach {s0 x1} (f0 : Reach r s0) :
    Reach r (State.meConfigFault s0 x1) := by
  unfold State.meConfigFault
  exact State.meLog_reach (State.unitConfig_reach f0)

theorem State.meFaults_reach {s0 x1 x2} (f0 : Reach r s0) :
    Reach r (State.meFaults s0 x1 x2) := by
  unfold State.meFaults
  extract_lets t0 t1
  have h2 : Reach r t0 := ite_k (Reach r) (State.signal_reach (State.meLog_reach (State.addSat_reach
      (State.setBit_reach f0)))) f0
  clear_value t0
  have h3 : Reach r t1 := by
    unfold t1
    refine foldl_k (Reach r) h2 ?_
    intro t4 h5 d6
    exact State.signal_reach (State.meLog_reach (State.addSat_reach (State.setBit_reach h5)))
  clear_value t1
  exact ite_k (Reach r) (State.signal_reach (State.meLog_reach (State.addSat_reach (State.setBit_reach h3)))) h3

theorem State.meStatus_reach {s0 x1} (f0 : Reach r s0) :
    Reach r (State.meStatus s0 x1) := by
  unfold State.meStatus
  extract_lets v0 v1 t2 t3 t4 t5 t6 t7
  clear_value v0 v1
  have h8 : Reach r t2 := State.setBit_reach f0
  clear_value t2
  have h9 : Reach r t3 := State.setFld_reach h8
  clear_value t3
  have h10 : Reach r t4 := State.setBit_reach h9
  clear_value t4
  have h11 : Reach r t5 := State.setBit_reach h10
  clear_value t5
  have h12 : Reach r t6 := State.setFld_reach h11
  clear_value t6
  have h13 : Reach r t7 := State.setFld_reach h12
  clear_value t7
  exact State.setFld_reach h13

theorem State.meStall_reach {s0 x1 x2} (f0 : Reach r s0) :
    Reach r (State.meStall s0 x1 x2) := by
  unfold State.meStall
  exact ite_k (Reach r) f0 (State.cycles_reach f0)

theorem State.meSkipped_reach {s0 x1 x2} (f0 : Reach r s0) :
    Reach r (State.meSkipped s0 x1 x2) := by
  unfold State.meSkipped
  exact ite_k (Reach r) f0 (State.addSat_reach f0)

theorem State.mePassVals_reach {s0 x1 x2} (f0 : Reach r s0) :
    PairK AnyK (Reach r) (State.mePassVals s0 x1 x2) := by
  unfold State.mePassVals
  refine ite_k (PairK AnyK (Reach r)) ?_ (.mk any_k f0)
  extract_lets t0 v1 t2 v3 v4 v5
  have h6 : PairK AnyK (Reach r) t0 := State.draw_reach f0
  clear_value t0 v1
  have h7 : Reach r t2 := snd_k AnyK h6
  clear_value t2 v3 v4 v5
  exact .mk any_k h7

theorem State.mePass_reach {s0 x1 x2 x3 x4} (f0 : Reach r s0) :
    Reach r (State.mePass s0 x1 x2 x3 x4) := by
  unfold State.mePass
  extract_lets v0 v1 v2 t3 t4 v5 t6 t7 v8 t9 t10 t11 t12 t13 t14 v15 t16 v17 v18 v19 v20 v21
  clear_value v0 v1 v2
  have h22 : Reach r t3 := ite_k (Reach r) f0 (State.cycles_reach (State.addWrap_reach f0))
  clear_value t3
  have h23 : PairK AnyK (Reach r) t4 := State.readUe_reach h22
  clear_value t4 v5
  have h24 : Reach r t6 := snd_k AnyK h23
  clear_value t6
  have h25 : PairK AnyK (Reach r) t7 := ite_k (PairK AnyK (Reach r)) (State.readUe_reach h24) (.mk any_k h24)
  clear_value t7 v8
  have h26 : Reach r t9 := snd_k AnyK h25
  clear_value t9
  have h27 : Reach r t10 := State.meFaults_reach h26
  clear_value t10
  have h28 : Reach r t11 := State.meSkipped_reach h27
  clear_value t11
  have h29 : Reach r t12 := ite_k (Reach r) (State.setBit_reach h28) h28
  clear_value t12
  have h30 : Reach r t13 := ite_k (Reach r) (State.setBit_reach h29) h29
  clear_value t13
  have h31 : PairK AnyK (Reach r) t14 := State.mePassVals_reach h30
  clear_value t14 v15
  have h32 : Reach r t16 := snd_k AnyK h31
  clear_value t16 v17 v18 v19 v20 v21
  exact State.meStatus_reach (State.setMe_reach h32)

theorem execMePass_reach {x0 x1 x2 x3 s4} (f4 : Reach r s4) :
    OutK (Reach r) (execMePass x0 x1 x2 x3 s4) := by
  unfold execMePass
  extract_lets v0
  clear_value v0
  refine .next ?_
  refine ite_k (Reach r) f4 ?_
  refine ite_k (Reach r) (State.meConfigFault_reach f4) ?_
  refine ite_k (Reach r) f4 ?_
  exact ite_k (Reach r) (State.meStall_reach f4) (ite_k (Reach r) (State.meStall_reach f4) (State.mePass_reach f4))

theorem State.meDropBlock_reach {s0 x1} (f0 : Reach r s0) :
    Reach r (State.meDropBlock s0 x1) := by
  unfold State.meDropBlock
  extract_lets t0 v1 v2 v3
  have h4 : Reach r t0 := State.meLog_reach (State.setBit_reach f0)
  clear_value t0 v1 v2 v3
  exact State.meStatus_reach (State.setMe_reach h4)

theorem execWeightBlockLoad_reach {x0 x1 s2} (f2 : Reach r s2) :
    OutK (Reach r) (execWeightBlockLoad x0 x1 s2) := by
  unfold execWeightBlockLoad
  extract_lets v0 v1 t2 v3 t4 v5
  clear_value v0 v1
  have h6 : PairK AnyK (Reach r) t2 := State.readUe_reach f2
  clear_value t2 v3
  have h7 : Reach r t4 := snd_k AnyK h6
  clear_value t4 v5
  refine .next ?_
  refine ite_k (Reach r) f2 ?_
  refine ite_k (Reach r) (State.meConfigFault_reach f2) ?_
  refine ite_k (Reach r) f2 ?_
  exact ite_k (Reach r) (State.meDropBlock_reach h7) (State.meStatus_reach (State.setMe_reach h7))

theorem State.portVectors_reach {s0 x1} (f0 : Reach r s0) :
    PairK AnyK (Reach r) (State.portVectors s0 x1) := by
  unfold State.portVectors
  extract_lets v0 t1 v2 t3 v4
  clear_value v0
  have h5 : PairK AnyK (Reach r) t1 := State.drawList_reach f0
  clear_value t1 v2
  have h6 : Reach r t3 := snd_k AnyK h5
  clear_value t3 v4
  exact .mk any_k h6

theorem State.emitEntries_reach {s0 x1 x2 x3 x4} (f0 : Reach r s0) :
    Reach r (State.emitEntries s0 x1 x2 x3 x4) := by
  induction x4 generalizing s0 x1 x2 x3 with
  | nil =>
    rw [State.emitEntries]
    exact f0
  | cons y0 y1 ih2 =>
    rw [State.emitEntries]
    split
    · rename_i t3 e4
      exact State.meStall_reach f0
    · rename_i t5 t6 e7
      have h8 := use_k (OptK (Reach r)) e7 (State.emitItem_reach f0)
      have h9 := some_out h8
      clear h8
      extract_lets v10
      clear_value v10
      exact ih2 (State.setMe_reach h9)

theorem State.meEmit_reach {s0 x1} (f0 : Reach r s0) :
    Reach r (State.meEmit s0 x1) := by
  unfold State.meEmit
  extract_lets v0 v1 v2 t3 v4 t5 t6 v7 t8
  clear_value v0 v1 v2
  have h9 : PairK AnyK (Reach r) t3 := State.portVectors_reach f0
  clear_value t3 v4
  have h10 : Reach r t5 := snd_k AnyK h9
  clear_value t5
  have h11 : PairK AnyK (Reach r) t6 := State.draw_reach f0
  clear_value t6 v7
  have h12 : Reach r t8 := snd_k AnyK h11
  clear_value t8
  refine ite_k (Reach r) f0 ?_
  refine ite_k (Reach r) ?_ (State.meStatus_reach (State.emitEntries_reach h12))
  exact ite_k (Reach r) (State.meStatus_reach (State.setMe_reach h10)) (State.meStall_reach f0)

theorem execSliceSetEmit_reach {x0 s1} (f1 : Reach r s1) :
    OutK (Reach r) (execSliceSetEmit x0 s1) := by
  unfold execSliceSetEmit
  exact .next (ite_k (Reach r) f1 (State.meEmit_reach f1))

theorem State.meDrained_reach {s0 x1} (f0 : Reach r s0) :
    Reach r (State.meDrained s0 x1) := by
  unfold State.meDrained
  extract_lets t0 v1 v2 t3
  have h4 : Reach r t0 := State.meEmit_reach f0
  clear_value t0 v1 v2
  have h5 : Reach r t3 := State.meStatus_reach (State.setMe_reach h4)
  clear_value t3
  exact ite_k (Reach r) h4 (State.halt_reach (State.setFld_reach h5))

theorem execMeHaltReq_reach {x0 x1 s2} (f2 : Reach r s2) :
    OutK (Reach r) (execMeHaltReq x0 x1 s2) := by
  unfold execMeHaltReq
  extract_lets t0
  have h1 : Reach r t0 := State.setFld_reach f2
  clear_value t0
  refine .next ?_
  refine ite_k (Reach r) h1 ?_
  exact ite_k (Reach r) (State.startDrain_reach h1) (ite_k (Reach r) (State.abortMe_reach h1) h1)

theorem execMeResume_reach {x0 s1} (f1 : Reach r s1) :
    OutK (Reach r) (execMeResume x0 s1) := by
  unfold execMeResume
  exact .next (ite_k (Reach r) f1 (State.resume_reach f1))

/-! ## Vector -/

theorem State.vspConfigFault_reach {s0 x1} (f0 : Reach r s0) :
    Reach r (State.vspConfigFault s0 x1) := by
  unfold State.vspConfigFault
  exact State.setBit_reach f0

theorem State.vspCount_reach {s0 x1 x2} (f0 : Reach r s0) :
    Reach r (State.vspCount s0 x1 x2) := by
  unfold State.vspCount
  exact ite_k (Reach r) f0 (State.cycles_reach f0)

theorem State.vspStatus_reach {s0 x1} (f0 : Reach r s0) :
    Reach r (State.vspStatus s0 x1) := by
  unfold State.vspStatus
  extract_lets t0
  have h1 : Reach r t0 := State.setBit_reach f0
  clear_value t0
  exact State.setFld_reach h1

theorem State.vspLoad_reach {s0 x1 x2} (f0 : Reach r s0) :
    Reach r (State.vspLoad s0 x1 x2) := by
  unfold State.vspLoad
  refine ite_k (Reach r) f0 ?_
  extract_lets v0 v1 t2 v3 t4 v5 v6 v7 t8 v9 t10 t11 v12
  clear_value v0 v1
  have h13 : PairK AnyK (Reach r) t2 := by
    unfold t2
    refine foldl_k (PairK AnyK (Reach r)) (.mk any_k f0) ?_
    intro t14 h15 d16
    extract_lets t17 v18 t19
    have h20 : PairK AnyK (Reach r) t17 := State.readUe_reach (snd_k AnyK h15)
    clear_value t17 v18
    have h21 : Reach r t19 := snd_k AnyK h20
    clear_value t19
    exact .mk any_k h21
  clear_value t2 v3
  have h22 : Reach r t4 := snd_k AnyK h13
  clear_value t4 v5 v6 v7
  have h23 : PairK AnyK (Reach r) t8 := ite_k (PairK AnyK (Reach r)) (.mk any_k h22) (State.readUe_reach h22)
  clear_value t8 v9
  have h24 : Reach r t10 := snd_k AnyK h23
  clear_value t10
  have h25 : Reach r t11 := ite_k (Reach r) (State.setBit_reach h24) h24
  clear_value t11 v12
  exact State.setVsp_reach h25

theorem State.vspTake_reach {s0 x1 x2} (f0 : Reach r s0) :
    OptK (PairK AnyK (Reach r)) (State.vspTake s0 x1 x2) := by
  unfold State.vspTake
  extract_lets v0 v1 v2 v3 v4 v5 v6 v7 t8 v9 t10 v11 v12 v13 v14 v15 v16 v17 v18 v19 v20 v21 v22 v23 v24 v25 v26
      t27 t28 v29 t30
  clear_value v3 v4 v5 v6 v7
  have h31 : PairK AnyK (Reach r) t8 := State.draw_reach f0
  clear_value t8 v9
  have h32 : Reach r t10 := snd_k AnyK h31
  clear_value t10 v12 v13 v14 v15 v16 v18 v19 v20 v21 v22 v23 v24 v25 v26
  have h33 : Reach r t27 := ite_k (Reach r) (State.setFifo_reach f0) f0
  clear_value t27
  have h34 : PairK AnyK (Reach r) t28 := State.draw_reach h33
  clear_value t28 v29
  have h35 : Reach r t30 := snd_k AnyK h34
  clear_value t30
  refine ite_k (OptK (PairK AnyK (Reach r))) ?_ ?_
  · refine ite_k (OptK (PairK AnyK (Reach r))) (.none) ?_
    exact .some (.mk any_k (State.setVsp_reach (State.meStatus_reach (State.setMe_reach h32))))
  · refine ite_k (OptK (PairK AnyK (Reach r))) ?_ ?_
    · split
      · rename_i d36 e37
        exact .none
      · rename_i d38 d39 d40 d41 e42
        extract_lets v43 v44 t45 v46 t47 v48 v49 t50 v51 t52 v53 v54 t55 t56
        clear_value v43 v44
        have h57 : PairK AnyK (Reach r) t45 := State.drawList_reach f0
        clear_value t45 v46
        have h58 : Reach r t47 := snd_k AnyK h57
        clear_value t47 v48 v49
        have h59 : PairK AnyK (Reach r) t50 := State.readUe_reach h58
        clear_value t50 v51
        have h60 : Reach r t52 := snd_k AnyK h59
        clear_value t52 v53 v54
        have h61 : Reach r t55 := State.setVsp_reach h60
        clear_value t55
        have h62 : Reach r t56 := ite_k (Reach r) (State.release_reach h61) h61
        clear_value t56
        exact .some (.mk any_k h62)
    · exact ite_k (OptK (PairK AnyK (Reach r))) (.none) (.some (.mk any_k (State.setVsp_reach h35)))

theorem State.vspSide_reach {s0 x1 x2 x3} (f0 : Reach r s0) :
    OptK (PairK AnyK (PairK AnyK (Reach r))) (State.vspSide s0 x1 x2 x3) := by
  unfold State.vspSide
  extract_lets v0
  clear_value v0
  exact ite_k (OptK (PairK AnyK (PairK AnyK (Reach r)))) (.none) (.some (.mk any_k (.mk any_k (State.setFifo_reach
      f0))))

theorem State.vspSides_reach {s0 x1 x2 x3 x4 x5 x6} (f0 : Reach r s0) :
    OptK (PairK AnyK (PairK AnyK (Reach r))) (State.vspSides s0 x1 x2 x3 x4 x5 x6) := by
  induction x4 generalizing s0 x1 x2 x3 x5 x6 with
  | nil =>
    rw [State.vspSides]
    exact .some (.mk any_k (.mk any_k f0))
  | cons y0 y1 ih2 =>
    rw [State.vspSides]
    refine ite_k (OptK (PairK AnyK (PairK AnyK (Reach r)))) (ih2 f0) ?_
    split
    · rename_i t3 e4
      exact .none
    · rename_i t5 d6 d7 t8 e9
      have h10 := use_k (OptK (PairK AnyK (PairK AnyK (Reach r)))) e9 (State.vspSide_reach f0)
      have h11 := some_out h10
      clear h10
      have h12 := pair_snd h11
      clear h11
      have h13 := pair_snd h12
      clear h12
      exact ih2 h13

theorem State.carryRead_reach {s0 x1 x2 x3 x4 x5} (f0 : Reach r s0) :
    PairK AnyK (Reach r) (State.carryRead s0 x1 x2 x3 x4 x5) := by
  unfold State.carryRead
  refine ite_k (PairK AnyK (Reach r)) ?_ ?_
  · extract_lets v0 v1 t2 v3 t4 t5
    clear_value v0 v1
    have h6 : PairK AnyK (Reach r) t2 := State.readUe_reach f0
    clear_value t2 v3
    have h7 : Reach r t4 := snd_k AnyK h6
    clear_value t4
    have h8 : Reach r t5 := ite_k (Reach r) (State.setBit_reach h7) h7
    clear_value t5
    exact ite_k (PairK AnyK (Reach r)) (.mk any_k h8) (.mk any_k (State.setBit_reach f0))
  · extract_lets v9
    clear_value v9
    exact .mk any_k f0

theorem State.carryWrite_reach {s0 x1 x2 x3 x4 x5 x6 x7 x8} (f0 : Reach r s0) :
    Reach r (State.carryWrite s0 x1 x2 x3 x4 x5 x6 x7 x8) := by
  unfold State.carryWrite
  refine ite_k (Reach r) ?_ ?_
  · refine ite_k (Reach r) f0 ?_
    extract_lets v0
    clear_value v0
    exact State.setBytes_reach f0
  · extract_lets v1
    clear_value v1
    exact State.setVsp_reach f0

theorem State.reduceStage_reach {s0 x1 x2 x3 x4 x5 x6 x7 x8 x9} (f0 : Reach r s0) :
    PairK AnyK (PairK AnyK (Reach r)) (State.reduceStage s0 x1 x2 x3 x4 x5 x6 x7 x8 x9) := by
  unfold State.reduceStage
  extract_lets v0 v1 v2 v3 v4 v5 v6 t7 v8 v9 v10 v11 v12 t13 v14 t15 v16 v17 v18 v19
  clear_value v0 v1 v2 v3 v4 v5 v6
  have h20 : Reach r t7 := State.setVsp_reach f0
  clear_value t7 v8 v9 v10 v11 v12
  have h21 : PairK AnyK (Reach r) t13 := State.carryRead_reach f0
  clear_value t13 v14
  have h22 : Reach r t15 := snd_k AnyK h21
  clear_value t15 v16 v17 v18 v19
  split
  · rename_i d23 e24
    exact ite_k (PairK AnyK (PairK AnyK (Reach r))) (.mk any_k (.mk any_k h20)) (.mk any_k (.mk any_k
        (State.setVsp_reach f0)))
  · rename_i d25 e26
    exact .mk any_k (.mk any_k (State.setVsp_reach f0))
  · rename_i d27 e28
    exact .mk any_k (.mk any_k (State.carryWrite_reach h22))
  · rename_i d29 e30 e31 e32
    exact .mk any_k (.mk any_k f0)

theorem State.vspExit_reach {s0 x1 x2 x3 x4 x5} (f0 : Reach r s0) :
    Reach r (State.vspExit s0 x1 x2 x3 x4 x5) := by
  unfold State.vspExit
  extract_lets v0 v1 v2 v3 v4 v5 v6 v7 v8 v9 v10 t11 v12
  clear_value v0 v1 v3 v5 v6 v7 v8 v9 v10
  have h13 : Reach r t11 := ite_k (Reach r) f0 (State.addSat_reach f0)
  clear_value t11 v12
  refine ite_k (Reach r) (State.setVsp_reach f0) ?_
  refine ite_k (Reach r) (State.setVsp_reach f0) ?_
  refine ite_k (Reach r) (State.setVsp_reach h13) ?_
  split
  · rename_i d14 e15
    exact State.setVsp_reach h13
  · rename_i d16 d17 d18 e19
    exact State.setVsp_reach h13

theorem State.vspSend_reach {s0 x1 x2 x3} (f0 : Reach r s0) :
    OptK (Reach r) (State.vspSend s0 x1 x2 x3) := by
  unfold State.vspSend
  extract_lets v0 v1 v2
  clear_value v0 v1 v2
  exact ite_k (OptK (Reach r)) (State.emitItem_reach f0) (ite_k (OptK (Reach r)) (.some (State.setFifo_reach f0))
      (.none))

theorem State.vspClose_reach {s0 x1 x2} (f0 : Reach r s0) :
    OptK (Reach r) (State.vspClose s0 x1 x2) := by
  unfold State.vspClose
  extract_lets v0 v1
  clear_value v0 v1
  refine ite_k (OptK (Reach r)) (.some f0) ?_
  refine map_k (Reach r) (State.vspSend_reach f0) ?_
  intro t2 h3
  exact State.setVsp_reach h3

theorem State.vspCloseFull_reach {s0 x1 x2} (f0 : Reach r s0) :
    OptK (Reach r) (State.vspCloseFull s0 x1 x2) := by
  unfold State.vspCloseFull
  exact ite_k (OptK (Reach r)) (State.vspClose_reach f0) (.some f0)

theorem State.vspChain_reach {s0 x1 x2 x3 x4 x5 x6} (f0 : Reach r s0) :
    Reach r (State.vspChain s0 x1 x2 x3 x4 x5 x6) := by
  unfold State.vspChain
  extract_lets v0 v1 v2 v3 v4 v5 v6 v7 v8 v9 v10 v11 v12 v13 v14 v15 t16 v17 t18 v19 v20 t21 v22 t23
  clear_value v0 v1 v2 v3 v4 v5 v6 v7 v8 v9 v10 v11 v12 v13 v14 v15
  have h24 : Reach r t16 := State.setVsp_reach f0
  clear_value t16 v17
  have h25 : PairK AnyK (PairK AnyK (Reach r)) t18 := ite_k (PairK AnyK (PairK AnyK (Reach r)))
      (State.reduceStage_reach h24) (.mk any_k (.mk any_k h24))
  clear_value t18 v19 v20
  have h26 : Reach r t21 := snd_k AnyK (snd_k AnyK h25)
  clear_value t21 v22
  have h27 : Reach r t23 := ite_k (Reach r) h26 (State.addSat_reach h26)
  clear_value t23
  refine elim_k AnyK opt_any h27 ?_
  intro d28 h29
  exact State.vspExit_reach h27

theorem State.vspVector_reach {s0 x1 x2} (f0 : Reach r s0) :
    Reach r (State.vspVector s0 x1 x2) := by
  unfold State.vspVector
  extract_lets v0 t1
  clear_value v0
  have h2 : Reach r t1 := State.vspCount_reach f0
  clear_value t1
  refine elim_k (PairK AnyK (Reach r)) (State.vspTake_reach f0) h2 ?_
  intro t3 h4
  refine elim_k (PairK AnyK (PairK AnyK (Reach r))) (State.vspSides_reach (snd_k AnyK h4)) h2 ?_
  intro t5 h6
  refine elim_k (Reach r) (State.vspCloseFull_reach (State.vspChain_reach (snd_k AnyK (snd_k AnyK h6))))
      (State.vspCount_reach f0) ?_
  intro t7 h8
  exact State.vspStatus_reach (State.vspCount_reach h8)

theorem State.resetCarries_reach {s0 x1 x2 x3} (f0 : Reach r s0) :
    Reach r (State.resetCarries s0 x1 x2 x3) := by
  unfold State.resetCarries
  extract_lets v0 v1 v2 v3 v4
  clear_value v0 v1 v2 v3 v4
  refine ite_k (Reach r) f0 ?_
  refine foldl_k (Reach r) f0 ?_
  intro t5 h6 d7
  extract_lets v8 v9 v10
  clear_value v8 v9 v10
  exact ite_k (Reach r) (ite_k (Reach r) (State.setBytes_reach h6) (State.setBit_reach h6)) (State.setVsp_reach h6)

theorem State.vspToken_reach {s0 x1 x2 x3} (f0 : Reach r s0) :
    Reach r (State.vspToken s0 x1 x2 x3) := by
  unfold State.vspToken
  extract_lets v0 v1 v2 v3 t4
  clear_value v0 v1 v2 v3
  have h5 : Reach r t4 := State.setVsp_reach f0
  clear_value t4
  exact ite_k (Reach r) (State.resetCarries_reach h5) h5

theorem State.vspForward_reach {s0 x1 x2 x3} (f0 : Reach r s0) :
    OptK (Reach r) (State.vspForward s0 x1 x2 x3) := by
  unfold State.vspForward
  extract_lets v0 v1
  clear_value v0 v1
  exact ite_k (OptK (Reach r)) (State.pushItem_reach f0) (.some (ite_k (Reach r) (State.setFifo_reach f0) f0))

theorem State.vspHead_reach {s0 x1 x2 x3 x4} (f0 : Reach r s0) :
    Reach r (State.vspHead s0 x1 x2 x3 x4) := by
  unfold State.vspHead
  refine ite_k (Reach r) ?_ ?_
  · extract_lets v0 t1
    clear_value v0
    have h2 : Reach r t1 := State.setVsp_reach (State.pop_reach f0)
    clear_value t1
    exact State.vspVector_reach h2
  · split
    · rename_i t3 e4
      exact State.vspCount_reach f0
    · rename_i t5 t6 e7
      have h8 := use_k (OptK (Reach r)) e7 (State.vspClose_reach f0)
      have h9 := some_out h8
      clear h8
      split
      · rename_i t10 e11
        exact State.vspCount_reach f0
      · rename_i t12 t13 e14
        have h15 := use_k (OptK (Reach r)) e14 (State.vspForward_reach (State.vspToken_reach h9))
        have h16 := some_out h15
        clear h15
        extract_lets t17
        have h18 : Reach r t17 := State.vspStatus_reach (State.pop_reach h16)
        clear_value t17
        refine ite_k (Reach r) ?_ h18
        refine foldl_k (Reach r) (State.eobPassed_reach h18) ?_
        intro t19 h20 d21
        exact ite_k (Reach r) (State.agRestart_reach h20) h20

theorem State.vspStep_reach {s0 x1 x2} (f0 : Reach r s0) :
    Reach r (State.vspStep s0 x1 x2) := by
  unfold State.vspStep
  extract_lets v0 t1
  clear_value v0
  have h2 : Reach r t1 := State.purge_reach f0
  clear_value t1
  refine ite_k (Reach r) ?_ (State.vspVector_reach f0)
  split
  · rename_i d3 e4
    exact State.vspCount_reach h2
  · rename_i d5 d6 e7
    exact State.vspHead_reach h2

theorem execVspVector_reach {x0 s1} (f1 : Reach r s1) :
    OutK (Reach r) (execVspVector x0 s1) := by
  unfold execVspVector
  extract_lets v0
  clear_value v0
  refine .next ?_
  refine ite_k (Reach r) f1 ?_
  exact ite_k (Reach r) (State.unitConfig_reach f1) (State.vspStep_reach (State.vspLoad_reach f1))

theorem execVspHaltReq_reach {x0 x1 s2} (f2 : Reach r s2) :
    OutK (Reach r) (execVspHaltReq x0 x1 s2) := by
  unfold execVspHaltReq
  extract_lets t0
  have h1 : Reach r t0 := State.setFld_reach f2
  clear_value t0
  refine .next ?_
  refine ite_k (Reach r) h1 ?_
  exact ite_k (Reach r) (State.startDrain_reach h1) (ite_k (Reach r) (State.abortVsp_reach h1) h1)

theorem execVspResume_reach {x0 s1} (f1 : Reach r s1) :
    OutK (Reach r) (execVspResume x0 s1) := by
  unfold execVspResume
  exact .next (ite_k (Reach r) f1 (State.resume_reach f1))

theorem State.vspDrained_reach {s0 x1} (f0 : Reach r s0) :
    Reach r (State.vspDrained s0 x1) := by
  unfold State.vspDrained
  extract_lets v0
  clear_value v0
  exact State.halt_reach (State.vspStatus_reach (State.setVsp_reach f0))

theorem execVspLaneDisable_reach {x0 x1 s2} (f2 : Reach r s2) :
    OutK (Reach r) (execVspLaneDisable x0 x1 s2) := by
  unfold execVspLaneDisable
  extract_lets v0 v1 t2 t3
  clear_value v0 v1
  have h4 : Reach r t2 := State.setFld_reach f2
  clear_value t2
  have h5 : Reach r t3 := State.setFld_reach h4
  clear_value t3
  exact .next (ite_k (Reach r) (State.setBit_reach h5) (State.vspConfigFault_reach f2))

/-! ## Steering -/

theorem State.suPop_reach {s0 x1 x2 x3} (f0 : Reach r s0) :
    Reach r (State.suPop s0 x1 x2 x3) := by
  unfold State.suPop
  exact State.pop_reach f0

theorem State.suDiscard_reach {s0 x1 x2 x3} (f0 : Reach r s0) :
    Reach r (State.suDiscard s0 x1 x2 x3) := by
  unfold State.suDiscard
  exact State.addSat_reach (State.releaseItem_reach (State.pop_reach f0))

theorem State.suWaiting_reach {s0 x1 x2 x3} (f0 : Reach r s0) :
    Reach r (State.suWaiting s0 x1 x2 x3) := by
  unfold State.suWaiting
  exact State.setFld_reach f0

theorem State.suFired_reach {s0 x1} (f0 : Reach r s0) :
    Reach r (State.suFired s0 x1) := by
  unfold State.suFired
  exact ite_k (Reach r) f0 (State.addWrap_reach f0)

theorem State.suStall_reach {s0 x1} (f0 : Reach r s0) :
    Reach r (State.suStall s0 x1) := by
  unfold State.suStall
  exact ite_k (Reach r) f0 (State.cycles_reach f0)

theorem State.suEob_reach {s0 x1 x2} (f0 : Reach r s0) :
    Reach r (State.suEob s0 x1 x2) := by
  unfold State.suEob
  exact ite_k (Reach r) (State.eobPassed_reach f0) f0

theorem State.suCtlEnd_reach {s0 x1 x2 x3 x4} (f0 : Reach r s0) :
    SuResK (Reach r) (State.suCtlEnd s0 x1 x2 x3 x4) := by
  unfold State.suCtlEnd
  refine ite_k (SuResK (Reach r)) ?_ (.full)
  refine .fired ?_
  refine State.suEob_reach ?_
  refine State.suPop_reach ?_
  refine foldl_k (Reach r) f0 ?_
  intro t0 h1 d2
  exact State.pushIn_reach h1

theorem State.fireSelect_reach {s0 x1 x2} (f0 : Reach r s0) :
    SuResK (Reach r) (State.fireSelect s0 x1 x2) := by
  unfold State.fireSelect
  extract_lets v0 v1
  clear_value v0 v1
  split
  · rename_i d2 e3
    exact .wait
  · rename_i d4 d5 e6
    refine ite_k (SuResK (Reach r)) (State.suCtlEnd_reach f0) ?_
    extract_lets v7
    clear_value v7
    split
    · rename_i d8 e9
      exact .wait
    · rename_i d10 d11 e12
      refine ite_k (SuResK (Reach r)) (.full) ?_
      exact .fired (State.suEob_reach (State.suPop_reach (State.suPop_reach (State.pushIn_reach f0))))

theorem State.fireSwitch_reach {s0 x1 x2} (f0 : Reach r s0) :
    SuResK (Reach r) (State.fireSwitch s0 x1 x2) := by
  unfold State.fireSwitch
  extract_lets v0 v1 v2
  clear_value v0 v1 v2
  split
  · rename_i d3 e4
    exact .wait
  · rename_i d5 d6 e7
    refine ite_k (SuResK (Reach r)) (State.suCtlEnd_reach f0) ?_
    extract_lets v8
    clear_value v8
    split
    · rename_i d9 e10
      exact .wait
    · rename_i d11 d12 e13
      refine ite_k (SuResK (Reach r)) (.full) ?_
      exact .fired (State.suEob_reach (State.suPop_reach (State.suPop_reach (State.pushIn_reach f0))))

theorem State.fireGate_reach {s0 x1 x2} (f0 : Reach r s0) :
    SuResK (Reach r) (State.fireGate s0 x1 x2) := by
  unfold State.fireGate
  extract_lets v0 v1 v2
  clear_value v0 v1 v2
  split
  · rename_i d3 e4
    exact .wait
  · rename_i d5 d6 e7
    refine ite_k (SuResK (Reach r)) (State.suCtlEnd_reach f0) ?_
    split
    · rename_i d8 e9
      exact .wait
    · rename_i d10 d11 e12
      refine ite_k (SuResK (Reach r)) (.full) ?_
      refine ite_k (SuResK (Reach r)) ?_ (.fired (State.suPop_reach (State.suDiscard_reach f0)))
      exact .fired (State.suEob_reach (State.suPop_reach (State.suPop_reach (State.pushIn_reach f0))))

theorem State.fireRepeat_reach {s0 x1 x2} (f0 : Reach r s0) :
    SuResK (Reach r) (State.fireRepeat s0 x1 x2) := by
  unfold State.fireRepeat
  extract_lets v0 v1 v2 v3 v4
  clear_value v0 v1 v2 v3 v4
  split
  · rename_i d5 e6
    exact .wait
  · rename_i d7 d8 e9
    refine ite_k (SuResK (Reach r)) (State.suCtlEnd_reach f0) ?_
    split
    · rename_i d10 e11
      exact .wait
    · rename_i d12 d13 e14
      extract_lets v15 t16
      clear_value v15
      have h17 : Reach r t16 := State.pushIn_reach f0
      clear_value t16
      refine ite_k (SuResK (Reach r)) (.full) ?_
      refine ite_k (SuResK (Reach r)) ?_ ?_
      · exact .fired (State.suEob_reach (State.suPop_reach (State.suPop_reach (State.pushIn_reach f0))))
      · refine ite_k (SuResK (Reach r)) (.fired (State.suPop_reach (State.suDiscard_reach f0))) ?_
        exact ite_k (SuResK (Reach r)) (.fired (State.suPop_reach (State.suPop_reach (State.setFld_reach h17))))
            (.fired (State.setFld_reach h17))

theorem State.fireEnd_reach {s0 x1 x2} (f0 : Reach r s0) :
    SuResK (Reach r) (State.fireEnd s0 x1 x2) := by
  unfold State.fireEnd
  extract_lets v0 v1 v2
  clear_value v0 v1 v2
  split
  · rename_i d3 e4
    exact .wait
  · rename_i d5 d6 e7
    refine ite_k (SuResK (Reach r)) (.full) ?_
    extract_lets t8 v9
    clear_value v9
    refine ite_k (SuResK (Reach r)) ?_ ?_
    · refine ite_k (SuResK (Reach r)) (.full) ?_
      unfold t8
      exact .fired (State.suEob_reach (State.suPop_reach (State.pushIn_reach (State.pushIn_reach f0))))
    · unfold t8
      exact .fired (State.suEob_reach (State.suPop_reach (State.pushIn_reach f0)))

theorem State.mergeTake_reach {s0 x1 x2 x3 x4} (f0 : Reach r s0) :
    Reach r (State.mergeTake s0 x1 x2 x3 x4) := by
  unfold State.mergeTake
  extract_lets v0 t1
  clear_value v0
  have h2 : Reach r t1 := State.suEob_reach (State.suPop_reach (State.pushIn_reach f0))
  clear_value t1
  exact ite_k (Reach r) (State.setFld_reach h2) h2

theorem State.fireMerge_reach {s0 x1 x2} (f0 : Reach r s0) :
    SuResK (Reach r) (State.fireMerge s0 x1 x2) := by
  unfold State.fireMerge
  extract_lets v0 v1 v2 v3 v4 t5 v6
  clear_value v0 v1 v2 v3 v4
  have h7 : Reach r t5 := State.setFld_reach f0
  clear_value t5 v6
  refine ite_k (SuResK (Reach r)) (.full) ?_
  split
  · rename_i d8 d9 d10 d11
    refine ite_k (SuResK (Reach r)) ?_ ?_
    · refine ite_k (SuResK (Reach r)) (.fired (State.mergeTake_reach (State.suPop_reach h7))) ?_
      exact ite_k (SuResK (Reach r)) (.fired (State.mergeTake_reach h7)) (.fired (State.mergeTake_reach h7))
    · refine ite_k (SuResK (Reach r)) (.fired (State.mergeTake_reach h7)) ?_
      refine ite_k (SuResK (Reach r)) (.fired (State.mergeTake_reach h7)) ?_
      exact ite_k (SuResK (Reach r)) (.fired (State.setFld_reach (State.mergeTake_reach h7))) (.fired
          (State.setFld_reach (State.mergeTake_reach h7)))
  · rename_i d12 d13 d14
    refine ite_k (SuResK (Reach r)) (.wait) ?_
    exact ite_k (SuResK (Reach r)) (.fired (State.setFld_reach (State.mergeTake_reach h7))) (.fired
        (State.addMod_reach (State.mergeTake_reach h7)))
  · rename_i d15 d16 d17
    refine ite_k (SuResK (Reach r)) (.wait) ?_
    exact ite_k (SuResK (Reach r)) (.fired (State.setFld_reach (State.mergeTake_reach h7))) (.fired
        (State.addMod_reach (State.mergeTake_reach h7)))
  · rename_i d18 d19
    exact .wait

theorem State.suStep_reach {s0 x1 x2 x3} {k4 : State → SuRes} (f0 : Reach r s0) (f4 : (∀ y00, Reach r y00 → SuResK
    (Reach r) (k4 y00))) :
    Reach r (State.suStep s0 x1 x2 x3 k4) := by
  unfold State.suStep
  extract_lets v0 v1 v2 v3 t4
  clear_value v0 v1 v2 v3
  have h5 : Reach r t4 := by
    unfold t4
    refine foldl_k (Reach r) f0 ?_
    intro t6 h7 d8
    exact State.purge_reach h7
  clear_value t4
  refine ite_k (Reach r) f0 ?_
  refine ite_k (Reach r) (State.setBit_reach f0) ?_
  refine ite_k (Reach r) f0 ?_
  refine ite_k (Reach r) (State.setBit_reach f0) ?_
  split
  · rename_i t9 e10
    have h11 := use_k (SuResK (Reach r)) e10 (f4 _ h5)
    exact State.suWaiting_reach h5
  · rename_i t12 e13
    have h14 := use_k (SuResK (Reach r)) e13 (f4 _ h5)
    exact State.suStall_reach (State.suWaiting_reach h5)
  · rename_i t15 t16 e17
    have h18 := use_k (SuResK (Reach r)) e17 (f4 _ h5)
    have h19 : Reach r t16 := by cases h18; assumption
    clear h18
    exact State.suFired_reach (State.suWaiting_reach h19)

theorem execSelectOp_reach {x0 x1 s2} (f2 : Reach r s2) :
    OutK (Reach r) (execSelectOp x0 x1 s2) := by
  unfold execSelectOp
  refine .next ?_
  refine State.suStep_reach f2 ?_
  intro t0 h1
  exact State.fireSelect_reach h1

theorem execSwitchOp_reach {x0 x1 s2} (f2 : Reach r s2) :
    OutK (Reach r) (execSwitchOp x0 x1 s2) := by
  unfold execSwitchOp
  refine .next ?_
  refine State.suStep_reach f2 ?_
  intro t0 h1
  exact State.fireSwitch_reach h1

theorem execGateOp_reach {x0 x1 s2} (f2 : Reach r s2) :
    OutK (Reach r) (execGateOp x0 x1 s2) := by
  unfold execGateOp
  refine .next ?_
  refine State.suStep_reach f2 ?_
  intro t0 h1
  exact State.fireGate_reach h1

theorem execRepeatOp_reach {x0 x1 s2} (f2 : Reach r s2) :
    OutK (Reach r) (execRepeatOp x0 x1 s2) := by
  unfold execRepeatOp
  refine .next ?_
  refine State.suStep_reach f2 ?_
  intro t0 h1
  exact State.fireRepeat_reach h1

theorem execMergeArrival_reach {x0 x1 s2} (f2 : Reach r s2) :
    OutK (Reach r) (execMergeArrival x0 x1 s2) := by
  unfold execMergeArrival
  refine .next ?_
  refine State.suStep_reach f2 ?_
  intro t0 h1
  exact State.fireMerge_reach h1

theorem execEndOp_reach {x0 x1 s2} (f2 : Reach r s2) :
    OutK (Reach r) (execEndOp x0 x1 s2) := by
  unfold execEndOp
  refine .next ?_
  refine State.suStep_reach f2 ?_
  intro t0 h1
  exact State.fireEnd_reach h1

theorem execSuHaltReq_reach {x0 x1 s2} (f2 : Reach r s2) :
    OutK (Reach r) (execSuHaltReq x0 x1 s2) := by
  unfold execSuHaltReq
  extract_lets t0
  have h1 : Reach r t0 := State.setFld_reach f2
  clear_value t0
  refine .next ?_
  refine ite_k (Reach r) h1 ?_
  exact ite_k (Reach r) (State.startDrain_reach h1) (ite_k (Reach r) (State.abortSu_reach h1) h1)

theorem execSuResume_reach {x0 s1} (f1 : Reach r s1) :
    OutK (Reach r) (execSuResume x0 s1) := by
  unfold execSuResume
  exact .next (ite_k (Reach r) f1 (State.resume_reach f1))

/-! ## MemoryUnit -/

theorem execQueuePush_reach {x0 x1 x2 s3} (f3 : Reach r s3) :
    OutK (Reach r) (execQueuePush x0 x1 x2 s3) := by
  unfold execQueuePush
  refine .next ?_
  refine ite_k (Reach r) f3 ?_
  refine ite_k (Reach r) (State.setBit_reach f3) ?_
  split
  · rename_i t0 t1 e2
    have h3 := use_k (OptK (Reach r)) e2 (State.pushQ_reach f3)
    have h4 := some_out h3
    clear h3
    exact h4
  · rename_i t5 e6
    exact State.setBit_reach f3

theorem execQueuePop_reach {x0 x1 s2} (f2 : Reach r s2) :
    OutK (Reach r) (execQueuePop x0 x1 s2) := by
  unfold execQueuePop
  extract_lets t0
  have h1 : Reach r t0 := State.purge_reach f2
  clear_value t0
  refine .next ?_
  refine ite_k (Reach r) ?_ f2
  split
  · rename_i d2 d3 e4
    exact State.pop_reach h1
  · rename_i d5 e6
    exact h1

theorem execRecordRelease_reach {x0 x1 x2 s3} (f3 : Reach r s3) :
    OutK (Reach r) (execRecordRelease x0 x1 x2 s3) := by
  unfold execRecordRelease
  exact .next (ite_k (Reach r) (State.release_reach f3) f3)

theorem execRgnWrite_reach {x0 x1 x2 x3 s4} (f4 : Reach r s4) :
    OutK (Reach r) (execRgnWrite x0 x1 x2 x3 s4) := by
  unfold execRgnWrite
  extract_lets v0 v1
  clear_value v0 v1
  refine .next ?_
  refine ite_k (Reach r) (State.setBit_reach f4) ?_
  split
  · rename_i d2 e3
    exact State.setReg_reach f4
  · rename_i d4 e5
    exact State.setPopped_reach (State.setFld_reach (State.setReg_reach f4))
  · rename_i d6 e7
    exact State.setFld_reach (State.setReg_reach f4)
  · rename_i d8 e9 e10 e11
    exact State.setPopped_reach (State.setFld_reach (State.setReg_reach f4))

theorem execScrubRead_reach {x0 x1 x2 x3 s4} (f4 : Reach r s4) :
    OutK (Reach r) (execScrubRead x0 x1 x2 x3 s4) := by
  unfold execScrubRead
  extract_lets v0 v1 t2 t3
  clear_value v0 v1
  have h4 : Reach r t2 := State.setFld_reach f4
  clear_value t2
  have h5 : Reach r t3 := ite_k (Reach r) h4 (State.addSat_reach h4)
  clear_value t3
  exact .next (ite_k (Reach r) f4 (snd_k AnyK (State.readUe_reach (State.eccAt_reach h5))))

theorem State.rowCeNext_reach {s0 x1} (f0 : Reach r s0) :
    Reach r (State.rowCeNext s0 x1) := by
  unfold State.rowCeNext
  extract_lets v0
  clear_value v0
  split
  · rename_i d1 e2
    exact f0
  · rename_i d3 d4 e5
    extract_lets v6 t7 t8
    clear_value v6
    have h9 : Reach r t7 := State.setMu_reach f0
    clear_value t7
    have h10 : Reach r t8 := State.setReg_reach h9
    clear_value t8
    exact State.signal_reach h10

theorem execRowceRelease_reach {x0 s1} (f1 : Reach r s1) :
    OutK (Reach r) (execRowceRelease x0 s1) := by
  unfold execRowceRelease
  exact .next (State.rowCeNext_reach (State.setBit_reach f1))

theorem State.setRepair_reach {s0 x1 x2 x3 x4 x5} (f0 : Reach r s0) :
    Reach r (State.setRepair s0 x1 x2 x3 x4 x5) := by
  unfold State.setRepair
  exact State.setFld_reach f0

theorem State.remapResult_reach {s0 x1 x2} (f0 : Reach r s0) :
    Reach r (State.remapResult s0 x1 x2) := by
  unfold State.remapResult
  extract_lets t0
  have h1 : Reach r t0 := State.setBit_reach (State.setFld_reach f0)
  clear_value t0
  exact ite_k (Reach r) (State.addSat_reach h1) (State.setBit_reach h1)

theorem State.remapLoad_reach {s0 x1 x2 x3 x4 x5} (f0 : Reach r s0) :
    Reach r (State.remapLoad s0 x1 x2 x3 x4 x5) := by
  unfold State.remapLoad
  refine ite_k (Reach r) (State.setBit_reach f0) ?_
  refine ite_k (Reach r) (State.remapResult_reach f0) ?_
  exact ite_k (Reach r) (State.remapResult_reach f0) (State.remapResult_reach (State.setRepair_reach f0))

theorem execRemapLoad_reach {x0 x1 x2 x3 x4 s5} (f5 : Reach r s5) :
    OutK (Reach r) (execRemapLoad x0 x1 x2 x3 x4 s5) := by
  unfold execRemapLoad
  exact .next (State.remapLoad_reach f5)

theorem State.remapStart_reach {s0 x1 x2 x3 x4 x5} (f0 : Reach r s0) :
    Reach r (State.remapStart s0 x1 x2 x3 x4 x5) := by
  unfold State.remapStart
  refine ite_k (Reach r) (State.setBit_reach f0) ?_
  refine ite_k (Reach r) (State.remapResult_reach f0) ?_
  refine ite_k (Reach r) (State.remapResult_reach f0) ?_
  refine ite_k (Reach r) (State.remapResult_reach f0) ?_
  extract_lets v0 t1
  clear_value v0
  have h2 : Reach r t1 := State.setMu_reach f0
  clear_value t1
  exact State.setFld_reach (State.setBit_reach h2)

theorem execRemap_reach {x0 x1 x2 x3 x4 s5} (f5 : Reach r s5) :
    OutK (Reach r) (execRemap x0 x1 x2 x3 x4 s5) := by
  unfold execRemap
  exact .next (State.remapStart_reach f5)

theorem State.remapReads_reach {s0 x1 x2 x3 x4} (f0 : Reach r s0) :
    Reach r (State.remapReads s0 x1 x2 x3 x4) := by
  unfold State.remapReads
  refine foldl_k (Reach r) f0 ?_
  intro t0 h1 d2
  exact State.ueMet_reach h1

theorem State.remapDone_reach {s0 x1} (f0 : Reach r s0) :
    Reach r (State.remapDone s0 x1) := by
  unfold State.remapDone
  split
  · rename_i d0 e1
    exact f0
  · rename_i d2 d3 d4 d5 d6 e7
    extract_lets v8 t9 v10 t11 t12 v13 t14 t15
    have h16 : Reach r t9 := State.remapReads_reach f0
    clear_value t9 v10
    have h17 : Reach r t11 := by
      unfold t11
      split
      · rename_i d18 d19
        exact State.setRepair_reach h16
      · rename_i d20
        exact h16
    clear_value t11
    have h21 : Reach r t12 := State.setRepair_reach h17
    clear_value t12 v13
    have h22 : Reach r t14 := State.setMu_reach h21
    clear_value t14
    have h23 : Reach r t15 := State.setFld_reach (State.setBit_reach h22)
    clear_value t15
    exact State.remapResult_reach h23

theorem State.fillStart_reach {s0 x1 x2 x3 x4} (f0 : Reach r s0) :
    Reach r (State.fillStart s0 x1 x2 x3 x4) := by
  unfold State.fillStart
  refine ite_k (Reach r) (State.setBit_reach f0) ?_
  refine ite_k (Reach r) (State.setBit_reach f0) ?_
  extract_lets v0 t1 t2
  clear_value v0
  have h3 : Reach r t1 := State.setMu_reach f0
  clear_value t1
  have h4 : Reach r t2 := State.setFld_reach (State.setBit_reach h3)
  clear_value t2
  exact State.setFld_reach (State.setBit_reach h4)

theorem execFillTile_reach {x0 s1} (f1 : Reach r s1) :
    OutK (Reach r) (execFillTile x0 s1) := by
  unfold execFillTile
  exact .next (State.fillStart_reach f1)

theorem execFillRange_reach {x0 x1 x2 s3} (f3 : Reach r s3) :
    OutK (Reach r) (execFillRange x0 x1 x2 s3) := by
  unfold execFillRange
  exact .next (State.fillStart_reach f3)

theorem State.fillAll_reach {s0 x1 x2} (f0 : Reach r s0) :
    Reach r (State.fillAll s0 x1 x2) := by
  unfold State.fillAll
  exact State.fillRange_reach (State.fillRange_reach f0)

theorem State.fillEnd_reach {s0 x1} (f0 : Reach r s0) :
    Reach r (State.fillEnd s0 x1) := by
  unfold State.fillEnd
  split
  · rename_i d0 e1
    exact f0
  · rename_i d2 d3 d4 d5 e6
    extract_lets v7 t8 v9 t10 t11 t12
    clear_value v7
    have h13 : Reach r t8 := ite_k (Reach r) (State.fillAll_reach f0) (State.fillRange_reach f0)
    clear_value t8 v9
    have h14 : Reach r t10 := State.setMu_reach h13
    clear_value t10
    have h15 : Reach r t11 := State.setBit_reach (State.setBit_reach h14)
    clear_value t11
    have h16 : Reach r t12 := State.setFld_reach h15
    clear_value t12
    exact State.setFld_reach (State.setBit_reach h16)

theorem execFillDone_reach {x0 s1} (f1 : Reach r s1) :
    OutK (Reach r) (execFillDone x0 s1) := by
  unfold execFillDone
  exact .next (State.fillEnd_reach f1)

theorem State.setDigest_reach {s0 x1 x2} (f0 : Reach r s0) :
    Reach r (State.setDigest s0 x1 x2) := by
  unfold State.setDigest
  refine foldl_k (Reach r) f0 ?_
  intro t0 h1 d2
  exact State.setReg_reach h1

theorem State.hashGo_reach {s0 x1 x2} (f0 : Reach r s0) :
    Reach r (State.hashGo s0 x1 x2) := by
  unfold State.hashGo
  extract_lets v0 t1 v2
  clear_value v0
  have h3 : Reach r t1 := State.setFld_reach (State.setFld_reach f0)
  clear_value t1 v2
  refine ite_k (Reach r) f0 ?_
  exact ite_k (Reach r) (State.setDigest_reach (State.setBit_reach h3)) (State.setBit_reach (State.setMu_reach h3))

theorem execProofHashGo_reach {x0 x1 s2} (f2 : Reach r s2) :
    OutK (Reach r) (execProofHashGo x0 x1 s2) := by
  unfold execProofHashGo
  exact .next (State.hashGo_reach f2)

theorem State.hashStop_reach {s0 x1} (f0 : Reach r s0) :
    Reach r (State.hashStop s0 x1) := by
  unfold State.hashStop
  exact State.setBit_reach (State.setMu_reach f0)

theorem execProofHashAbandon_reach {x0 s1} (f1 : Reach r s1) :
    OutK (Reach r) (execProofHashAbandon x0 s1) := by
  unfold execProofHashAbandon
  exact .next (State.hashStop_reach f1)

theorem State.hashEnd_reach {s0 x1} (f0 : Reach r s0) :
    Reach r (State.hashEnd s0 x1) := by
  unfold State.hashEnd
  split
  · rename_i d0 e1
    exact f0
  · rename_i d2 d3 d4 e5
    extract_lets v6 v7 t8 v9 t10 t11 t12
    clear_value v6 v7
    have h13 : PairK AnyK (Reach r) t8 := State.readUe_reach f0
    clear_value t8 v9
    have h14 : Reach r t10 := snd_k AnyK h13
    clear_value t10
    have h15 : Reach r t11 := ite_k (Reach r) (State.setBit_reach h14) h14
    clear_value t11
    have h16 : Reach r t12 := State.hashStop_reach (State.setDigest_reach h15)
    clear_value t12
    exact State.setBit_reach (State.setFld_reach h16)

/-! ## Tile -/

theorem execFoldQuotaExpiry_reach {x0 s1} (f1 : Reach r s1) :
    OutK (Reach r) (execFoldQuotaExpiry x0 s1) := by
  unfold execFoldQuotaExpiry
  exact .next (ite_k (Reach r) f1 (State.requestSwitch_reach f1))

theorem execForceSwitch_reach {x0 s1} (f1 : Reach r s1) :
    OutK (Reach r) (execForceSwitch x0 s1) := by
  unfold execForceSwitch
  exact .next (State.requestSwitch_reach f1)

theorem State.switchTo_reach {s0 x1 x2} (f0 : Reach r s0) :
    Reach r (State.switchTo s0 x1 x2) := by
  unfold State.switchTo
  extract_lets v0 t1 t2 t3 t4 v5 t6 v7 t8 t9 t10
  clear_value v0
  have h11 : Reach r t1 := State.setFld_reach (State.setBit_reach f0)
  clear_value t1
  have h12 : Reach r t2 := .upd h11
  clear_value t2
  have h13 : Reach r t3 := State.setFld_reach h12
  clear_value t3
  have h14 : Reach r t4 := ite_k (Reach r) h13 (State.cycles_reach (State.addWrap_reach h13))
  clear_value t4 v5
  have h15 : Reach r t6 := State.meStatus_reach (State.setMe_reach h14)
  clear_value t6 v7
  have h16 : Reach r t8 := State.setFld_reach (State.setVsp_reach h15)
  clear_value t8
  have h17 : Reach r t9 := by
    unfold t9
    refine foldl_k (Reach r) h16 ?_
    intro t18 h19 d20
    exact State.setFld_reach h19
  clear_value t9
  have h21 : Reach r t10 := State.setFld_reach h17
  clear_value t10
  refine ite_k (Reach r) h12 ?_
  refine foldl_k (Reach r) h21 ?_
  intro t22 h23 d24
  exact State.batchStart_reach h23

theorem execFoldSwitch_reach {x0 s1} (f1 : Reach r s1) :
    OutK (Reach r) (execFoldSwitch x0 s1) := by
  unfold execFoldSwitch
  exact .next (ite_k (Reach r) (State.switchTo_reach f1) f1)

theorem execUnitHaltComplete_reach {x0 x1 s2} (f2 : Reach r s2) :
    OutK (Reach r) (execUnitHaltComplete x0 x1 s2) := by
  unfold execUnitHaltComplete
  refine .next ?_
  split
  · rename_i d0
    exact ite_k (Reach r) (State.meDrained_reach f2) f2
  · rename_i d1
    exact ite_k (Reach r) (State.vspDrained_reach f2) f2
  · rename_i d2
    exact ite_k (Reach r) (State.halt_reach f2) f2
  · rename_i d3 d4
    exact ite_k (Reach r) (State.halt_reach (State.setBit_reach f2)) f2

theorem execUnitDrainTimeout_reach {x0 x1 s2} (f2 : Reach r s2) :
    OutK (Reach r) (execUnitDrainTimeout x0 x1 s2) := by
  unfold execUnitDrainTimeout
  extract_lets t0
  refine .next ?_
  split
  · rename_i d1
    unfold t0
    exact ite_k (Reach r) (State.setBit_reach (State.abortMe_reach f2)) f2
  · rename_i d2
    unfold t0
    exact ite_k (Reach r) (State.setBit_reach (State.abortVsp_reach f2)) f2
  · rename_i d3
    unfold t0
    exact ite_k (Reach r) (State.setBit_reach (State.abortSu_reach f2)) f2
  · rename_i d4 d5
    unfold t0
    exact ite_k (Reach r) (State.setBit_reach (State.abortAg_reach f2)) f2

theorem State.setEpoch_reach {s0 x1 x2} (f0 : Reach r s0) :
    Reach r (State.setEpoch s0 x1 x2) := by
  unfold State.setEpoch
  extract_lets t0
  have h1 : Reach r t0 := State.setFld_reach f0
  clear_value t0
  refine foldl_k (Reach r) h1 ?_
  intro t2 h3 d4
  exact State.purge_reach h3

theorem execTileEpochWrite_reach {x0 x1 s2} (f2 : Reach r s2) :
    OutK (Reach r) (execTileEpochWrite x0 x1 s2) := by
  unfold execTileEpochWrite
  exact .next (ite_k (Reach r) (State.setEpoch_reach f2) (State.setBit_reach f2))

theorem execCfgCrcClear_reach {x0 s1} (f1 : Reach r s1) :
    OutK (Reach r) (execCfgCrcClear x0 s1) := by
  unfold execCfgCrcClear
  exact .next (State.setFld_reach f1)

theorem execInjectCheck_reach {x0 s1} (f1 : Reach r s1) :
    OutK (Reach r) (execInjectCheck x0 s1) := by
  unfold execInjectCheck
  exact .next (ite_k (Reach r) (State.setBit_reach f1) f1)

theorem execInjectCombine_reach {x0 s1} (f1 : Reach r s1) :
    OutK (Reach r) (execInjectCombine x0 s1) := by
  unfold execInjectCombine
  exact .next (ite_k (Reach r) (State.setBit_reach f1) f1)

theorem State.fenceTile_reach {s0 x1 x2} (f0 : Reach r s0) :
    Reach r (State.fenceTile s0 x1 x2) := by
  unfold State.fenceTile
  refine ite_k (Reach r) f0 ?_
  extract_lets t0 t1 t2 t3 v4 t5
  have h6 : Reach r t0 := State.setFld_reach (State.setBit_reach f0)
  clear_value t0
  have h7 : Reach r t1 := State.abortUnits_reach h6
  clear_value t1
  have h8 : Reach r t2 := by
    unfold t2
    refine foldl_k (Reach r) h7 ?_
    intro t9 h10 d11
    exact State.setBit_reach (State.setBit_reach (State.setEp_reach h10))
  clear_value t2
  have h12 : Reach r t3 := State.setBit_reach h8
  clear_value t3 v4
  have h13 : Reach r t5 := State.setMu_reach h12
  clear_value t5
  exact State.setFld_reach (State.setBit_reach h13)

theorem execTileFenceReq_reach {x0 x1 s2} (f2 : Reach r s2) :
    OutK (Reach r) (execTileFenceReq x0 x1 s2) := by
  unfold execTileFenceReq
  exact .next (State.fenceTile_reach f2)

theorem State.clearUnits_reach {s0 x1} (f0 : Reach r s0) :
    Reach r (State.clearUnits s0 x1) := by
  unfold State.clearUnits
  exact .upd f0

theorem State.resetTile_reach {s0 x1} (f0 : Reach r s0) :
    Reach r (State.resetTile s0 x1) := by
  unfold State.resetTile
  exact State.clearUnits_reach (State.resetRegs_reach f0)

theorem execTileReset_reach {x0 s1} (f1 : Reach r s1) :
    OutK (Reach r) (execTileReset x0 s1) := by
  unfold execTileReset
  exact .next (ite_k (Reach r) (State.resetTile_reach f1) f1)

theorem State.unfenceTile_reach {s0 x1} (f0 : Reach r s0) :
    Reach r (State.unfenceTile s0 x1) := by
  unfold State.unfenceTile
  exact State.setBit_reach (State.setReg_reach f0)

theorem execTileUnfence_reach {x0 s1} (f1 : Reach r s1) :
    OutK (Reach r) (execTileUnfence x0 s1) := by
  unfold execTileUnfence
  exact .next (ite_k (Reach r) f1 (State.unfenceTile_reach f1))

theorem State.testStart_reach {s0 x1 x2 x3} (f0 : Reach r s0) :
    Reach r (State.testStart s0 x1 x2 x3) := by
  unfold State.testStart
  refine ite_k (Reach r) f0 ?_
  extract_lets t0
  have h1 : Reach r t0 := State.setBit_reach (State.setFld_reach f0)
  clear_value t0
  exact State.setFld_reach (State.setBit_reach h1)

theorem execTestStart_reach {x0 x1 x2 s3} (f3 : Reach r s3) :
    OutK (Reach r) (execTestStart x0 x1 x2 s3) := by
  unfold execTestStart
  exact .next (State.testStart_reach f3)

theorem State.testAbandon_reach {s0 x1} (f0 : Reach r s0) :
    Reach r (State.testAbandon s0 x1) := by
  unfold State.testAbandon
  exact ite_k (Reach r) (State.setBit_reach f0) f0

theorem execTestAbandon_reach {x0 s1} (f1 : Reach r s1) :
    OutK (Reach r) (execTestAbandon x0 s1) := by
  unfold execTestAbandon
  exact .next (State.testAbandon_reach f1)

theorem State.vcmWalk_reach {s0 x1} (f0 : Reach r s0) :
    Reach r (State.vcmWalk s0 x1) := by
  induction x1 generalizing s0 with
  | zero =>
    rw [State.vcmWalk]
    exact f0
  | succ y0 ih1 =>
    rw [State.vcmWalk]
    split
    · rename_i d2 e3
      exact f0
    · rename_i d4 d5 d6 e7
      split
      · rename_i d8 e9
        exact f0
      · rename_i d10 e11
        exact ih1 (State.routeDo_reach f0)

theorem execVcmMgmt_reach {x0 x1 x2 s3} (f3 : Reach r s3) :
    OutK (Reach r) (execVcmMgmt x0 x1 x2 s3) := by
  unfold execVcmMgmt
  extract_lets v0 t1
  clear_value v0
  have h2 : Reach r t1 := State.vcmWalk_reach (.upd f3)
  clear_value t1
  exact .next (.upd h2)

end Sys2Proof.Machine
end

