-- ==== Sys2Proof/Laws/ReachContexts.lean ====
section
/-! SUPPORT. Laws/ReachContexts.lean: every operation of contexts, the health map, the sampler and moved work stays within `Reach`:
it writes registers and memory only by the named writes, and leaves the queue and the variant alone. -/
namespace Sys2Proof.Machine

variable {r : State}

/-! ## Contexts -/

theorem State.setReason_reach {s0 x1 x2 x3 x4} (f0 : Reach r s0) :
    Reach r (State.setReason s0 x1 x2 x3 x4) := by
  unfold State.setReason
  exact State.setReg_reach f0

theorem State.leaseView_reach {s0 x1} (f0 : Reach r s0) :
    Reach r (State.leaseView s0 x1) := by
  unfold State.leaseView
  extract_lets v0 t1 v2 t3 t4
  clear_value v0
  have h5 : Reach r t1 := by
    unfold t1
    refine foldl_k (Reach r) f0 ?_
    intro t6 h7 d8
    exact State.setReg_reach h7
  clear_value t1 v2
  have h9 : Reach r t3 := State.setFld_reach h5
  clear_value t3
  have h10 : Reach r t4 := State.setFld_reach h9
  clear_value t4
  exact State.powerView_reach (State.setFld_reach h10)

theorem State.joinLease_reach {s0 x1 x2 x3 x4} (f0 : Reach r s0) :
    Reach r (State.joinLease s0 x1 x2 x3 x4) := by
  unfold State.joinLease
  extract_lets t0 t1
  have h2 : Reach r t0 := State.setReg_reach f0
  clear_value t0
  have h3 : Reach r t1 := State.setBit_reach (State.setBit_reach h2)
  clear_value t1
  refine ite_k (Reach r) ?_ h3
  refine foldl_k (Reach r) h3 ?_
  intro t4 h5 d6
  split
  · rename_i d7 d8 d9 d10 d11 d12 e13
    exact ite_k (Reach r) (State.closeRange_reach h5) h5
  · rename_i d14 e15
    exact h5

theorem State.loupeView_reach {s0} (f0 : Reach r s0) :
    Reach r (State.loupeView s0) := by
  unfold State.loupeView
  extract_lets v0 v1 t2 t3
  clear_value v0 v1
  have h4 : Reach r t2 := State.setFld_reach f0
  clear_value t2
  have h5 : Reach r t3 := State.setFld_reach h4
  clear_value t3
  exact State.setBit_reach h5

theorem State.queueRetest_reach {s0 x1} (f0 : Reach r s0) :
    Reach r (State.queueRetest s0 x1) := by
  unfold State.queueRetest
  exact ite_k (Reach r) (State.loupeView_reach (.upd f0)) f0

theorem State.leaveLease_reach {s0 x1 x2} (f0 : Reach r s0) :
    Reach r (State.leaveLease s0 x1 x2) := by
  unfold State.leaveLease
  extract_lets t0 t1 t2 t3
  have h4 : Reach r t0 := ite_k (Reach r) (State.resetTile_reach f0) f0
  clear_value t0
  have h5 : Reach r t1 := State.clearUnits_reach (State.resetRegs_reach h4)
  clear_value t1
  have h6 : Reach r t2 := ite_k (Reach r) (State.fillAll_reach h5) h5
  clear_value t2
  have h7 : Reach r t3 := State.setBit_reach (State.setBit_reach h6)
  clear_value t3
  exact State.queueRetest_reach h7

theorem State.haltTile_reach {s0 x1} (f0 : Reach r s0) :
    Reach r (State.haltTile s0 x1) := by
  unfold State.haltTile
  refine foldl_k (Reach r) (State.abortUnits_reach f0) ?_
  intro t0 h1 d2
  exact State.epAbort_reach h1

theorem State.resumeTile_reach {s0 x1} (f0 : Reach r s0) :
    Reach r (State.resumeTile s0 x1) := by
  unfold State.resumeTile
  extract_lets t0 t1
  have h2 : Reach r t0 := State.resume_reach (State.resume_reach (State.resume_reach f0))
  clear_value t0
  have h3 : Reach r t1 := by
    unfold t1
    refine foldl_k (Reach r) h2 ?_
    intro t4 h5 d6
    exact State.resume_reach h5
  clear_value t1
  refine foldl_k (Reach r) h3 ?_
  intro t7 h8 d9
  exact State.epResume_reach h8

theorem State.haltCtx_reach {s0 x1} (f0 : Reach r s0) :
    Reach r (State.haltCtx s0 x1) := by
  unfold State.haltCtx
  refine foldl_k (Reach r) f0 ?_
  intro t0 h1 d2
  exact State.haltTile_reach h1

theorem State.resumeCtx_reach {s0 x1} (f0 : Reach r s0) :
    Reach r (State.resumeCtx s0 x1) := by
  unfold State.resumeCtx
  refine foldl_k (Reach r) f0 ?_
  intro t0 h1 d2
  exact State.resumeTile_reach h1

theorem State.ndcTile_reach {s0 x1 x2} (f0 : Reach r s0) :
    Reach r (State.ndcTile s0 x1 x2) := by
  unfold State.ndcTile
  extract_lets v0 v1 v2 v3 t4
  clear_value v0 v1 v2 v3
  have h5 : Reach r t4 := State.setCtx_reach f0
  clear_value t4
  exact State.addMod_reach h5

theorem State.ndcCtx_reach {s0 x1} (f0 : Reach r s0) :
    Reach r (State.ndcCtx s0 x1) := by
  unfold State.ndcCtx
  refine foldl_k (Reach r) f0 ?_
  intro t0 h1 d2
  exact State.ndcTile_reach h1

theorem State.ndcMark_reach {s0 x1} (f0 : Reach r s0) :
    Reach r (State.ndcMark s0 x1) := by
  unfold State.ndcMark
  extract_lets v0 v1
  clear_value v0 v1
  exact State.setCtx_reach f0

theorem State.maskedWrite_reach {s0 x1 x2} (f0 : Reach r s0) :
    Reach r (State.maskedWrite s0 x1 x2) := by
  unfold State.maskedWrite
  split
  · rename_i d0 e1
    exact f0
  · rename_i d2 d3 e4
    extract_lets v5
    clear_value v5
    exact State.setReg_reach f0

theorem State.vcmWrite_reach {s0 x1 x2 x3} (f0 : Reach r s0) :
    Reach r (State.vcmWrite s0 x1 x2 x3) := by
  unfold State.vcmWrite
  extract_lets v0
  clear_value v0
  exact State.setFld_reach (State.maskedWrite_reach f0)

theorem State.deliver_reach {s0 x1 x2} (f0 : Reach r s0) :
    Reach r (State.deliver s0 x1 x2) := by
  unfold State.deliver
  split
  · rename_i d0 e1
    exact f0
  · rename_i d2 d3 e4
    extract_lets v5 v6
    clear_value v5 v6
    exact State.vcmWrite_reach f0

theorem State.writeSyncMap_reach {s0 x1 x2 x3} (f0 : Reach r s0) :
    Reach r (State.writeSyncMap s0 x1 x2 x3) := by
  unfold State.writeSyncMap
  extract_lets v0
  clear_value v0
  refine foldl_k (Reach r) f0 ?_
  intro t1 h2 d3
  split
  · rename_i d4 e5
    exact h2
  · rename_i d6 d7 e8
    extract_lets v9
    clear_value v9
    exact State.setReg_reach h2

theorem State.writeRegions_reach {s0 x1 x2 x3} (f0 : Reach r s0) :
    Reach r (State.writeRegions s0 x1 x2 x3) := by
  unfold State.writeRegions
  refine foldl_k (Reach r) f0 ?_
  intro t0 h1 d2
  extract_lets t3 t4
  have h5 : Reach r t3 := State.resetRegs_reach h1
  clear_value t3
  have h6 : Reach r t4 := State.setPopped_reach h5
  clear_value t4
  exact State.setReg_reach h6

theorem State.dncFallback_reach {s0 x1} (f0 : Reach r s0) :
    Reach r (State.dncFallback s0 x1) := by
  unfold State.dncFallback
  extract_lets v0
  clear_value v0
  refine foldl_k (Reach r) f0 ?_
  intro t1 h2 d3
  extract_lets v4 v5 v6
  clear_value v4 v5 v6
  refine foldl_k (Reach r) h2 ?_
  intro t7 h8 d9
  extract_lets v10 v11 v12 v13 v14 t15
  clear_value v10 v11 v12 v13 v14
  have h16 : Reach r t15 := State.setBit_reach h8
  clear_value t15
  exact ite_k (Reach r) (ite_k (Reach r) (State.setFld_reach h16) h16) h8

theorem State.writeVmap_reach {s0 x1} (f0 : Reach r s0) :
    Reach r (State.writeVmap s0 x1) := by
  unfold State.writeVmap
  extract_lets t0
  have h1 : Reach r t0 := State.resetRegs_reach f0
  clear_value t0
  refine foldl_k (Reach r) h1 ?_
  intro t2 h3 d4
  split
  · rename_i d5 e6
    exact h3
  · rename_i d7 d8 e9
    refine foldl_k (Reach r) h3 ?_
    intro t10 h11 d12
    exact State.setReg_reach h11

theorem State.configure_reach {s0 x1 x2} (f0 : Reach r s0) :
    Reach r (State.configure s0 x1 x2) := by
  unfold State.configure
  extract_lets v0 t1
  clear_value v0
  have h2 : Reach r t1 := by
    unfold t1
    refine foldl_k (Reach r) f0 ?_
    intro t3 h4 d5
    split
    · rename_i d6 e7
      exact h4
    · rename_i d8 d9 e10
      extract_lets t11 t12
      have h13 : Reach r t11 := State.writeRegions_reach (State.setFld_reach h4)
      clear_value t11
      have h14 : Reach r t12 := by
        unfold t12
        refine foldl_k (Reach r) h13 ?_
        intro t15 h16 d17
        exact State.deliver_reach h16
      clear_value t12
      exact State.writeSyncMap_reach h14
  clear_value t1
  exact State.writeVmap_reach (State.dncFallback_reach h2)

theorem State.followProxies_reach {s0 x1} (f0 : Reach r s0) :
    Reach r (State.followProxies s0 x1) := by
  unfold State.followProxies
  refine foldl_k (Reach r) f0 ?_
  intro t0 h1 d2
  split
  · rename_i d3 e4
    exact h1
  · rename_i d5 d6 e7
    extract_lets v8
    clear_value v8
    exact State.setFld_reach (State.setFld_reach (State.setFld_reach h1))

theorem State.writeProxies_reach {s0 x1} (f0 : Reach r s0) :
    Reach r (State.writeProxies s0 x1) := by
  unfold State.writeProxies
  extract_lets t0
  have h1 : Reach r t0 := by
    unfold t0
    refine foldl_k (Reach r) f0 ?_
    intro t2 h3 d4
    extract_lets v5 v6 t7 t8 t9 t10 t11 t12 t13
    clear_value v5 v6
    have h14 : Reach r t7 := State.setReg_reach h3
    clear_value t7
    have h15 : Reach r t8 := State.setReg_reach h14
    clear_value t8
    have h16 : Reach r t9 := State.setReg_reach h15
    clear_value t9
    have h17 : Reach r t10 := State.setReg_reach h16
    clear_value t10
    have h18 : Reach r t11 := State.setReg_reach h3
    clear_value t11
    have h19 : Reach r t12 := State.setReg_reach h18
    clear_value t12
    have h20 : Reach r t13 := State.setReg_reach (State.setReg_reach h19)
    clear_value t13
    exact ite_k (Reach r) (.upd h17) (ite_k (Reach r) (.upd h20) h3)
  clear_value t0
  exact State.followProxies_reach h1

theorem State.clearProxies_reach {s0 x1} (f0 : Reach r s0) :
    Reach r (State.clearProxies s0 x1) := by
  unfold State.clearProxies
  refine foldl_k (Reach r) f0 ?_
  intro t0 h1 d2
  refine foldl_k (Reach r) h1 ?_
  intro t3 h4 d5
  extract_lets t6 t7 t8
  have h9 : Reach r t6 := State.setReg_reach (State.setReg_reach (State.setReg_reach (State.setReg_reach h4)))
  clear_value t6
  have h10 : Reach r t7 := ite_k (Reach r) (.upd h9) h4
  clear_value t7
  have h11 : Reach r t8 := State.setReg_reach (State.setReg_reach (State.setReg_reach (State.setReg_reach h10)))
  clear_value t8
  exact ite_k (Reach r) (.upd h11) h10

theorem State.startProxies_reach {s0 x1} (f0 : Reach r s0) :
    Reach r (State.startProxies s0 x1) := by
  unfold State.startProxies
  refine foldl_k (Reach r) f0 ?_
  intro t0 h1 d2
  extract_lets v3 v4 t5 v6
  clear_value v3 v4
  have h7 : Reach r t5 := State.setFld_reach h1
  clear_value t5 v6
  exact ite_k (Reach r) (.upd h1) (ite_k (Reach r) (.upd h7) h1)

theorem State.landWeight_reach {s0 x1 x2 x3} (f0 : Reach r s0) :
    Reach r (State.landWeight s0 x1 x2 x3) := by
  unfold State.landWeight
  split
  · rename_i d0 e1
    exact f0
  · rename_i d2 d3 e4
    extract_lets v5 t6
    clear_value v5
    have h7 : Reach r t6 := by
      unfold t6
      split
      · rename_i d8 d9 e10
        exact State.copyRange_reach (State.setBytes_reach f0)
      · rename_i d11 e12
        exact State.setBytes_reach f0
    clear_value t6
    exact State.addSat_reach h7

theorem State.landWeights_reach {s0 x1 x2 x3} (f0 : Reach r s0) :
    SumK (PairK AnyK (Reach r)) (Reach r) (State.landWeights s0 x1 x2 x3) := by
  induction x3 generalizing s0 x1 x2 with
  | nil =>
    rw [State.landWeights]
    exact .inr f0
  | cons y0 y1 ih2 =>
    rw [State.landWeights]
    split
    · rename_i d3 d4 e5
      exact .inl (.mk any_k f0)
    · rename_i d6 d7 e8
      exact ih2 (State.landWeight_reach f0)

theorem State.combineIdentity_reach {s0 x1 x2 x3 x4 x5} (f0 : Reach r s0) :
    Reach r (State.combineIdentity s0 x1 x2 x3 x4 x5) := by
  unfold State.combineIdentity
  extract_lets v0 v1 t2 v3 v4 v5 t6
  clear_value v0 v1
  have h7 : PairK AnyK (Reach r) t2 := State.draw_reach f0
  clear_value t2 v3 v4 v5
  have h8 : Reach r t6 := ite_k (Reach r) f0 (State.zeroRange_reach (snd_k AnyK h7))
  clear_value t6
  refine foldl_k (Reach r) h8 ?_
  intro t9 h10 d11
  extract_lets v12 v13 t14
  clear_value v12 v13
  have h15 : Reach r t14 := State.setBytes_reach h10
  clear_value t14
  exact State.combineReset_reach h15

theorem State.scanIdentity_reach {s0 x1 x2 x3 x4} (f0 : Reach r s0) :
    Reach r (State.scanIdentity s0 x1 x2 x3 x4) := by
  unfold State.scanIdentity
  extract_lets v0 v1 v2
  clear_value v0 v1 v2
  refine ite_k (Reach r) f0 ?_
  refine foldl_k (Reach r) f0 ?_
  intro t3 h4 d5
  exact State.setBytes_reach h4

theorem State.setIdentity_reach {s0 x1 x2} (f0 : Reach r s0) :
    Reach r (State.setIdentity s0 x1 x2) := by
  unfold State.setIdentity
  refine elim_k AnyK opt_any f0 ?_
  intro d0 h1
  extract_lets v2 v3 v4 v5 t6
  clear_value v2 v3 v4 v5
  have h7 : Reach r t6 := State.zeroRange_reach f0
  clear_value t6
  refine elim_k AnyK opt_any ?_ ?_
  · refine elim_k AnyK opt_any h7 ?_
    intro d8 h9
    exact State.scanIdentity_reach h7
  · intro d10 h11
    exact State.combineIdentity_reach f0

theorem State.adoptPlate_reach {s0 x1 x2} (f0 : Reach r s0) :
    Reach r (State.adoptPlate s0 x1 x2) := by
  unfold State.adoptPlate
  extract_lets v0 t1 v2 t3 t4
  clear_value v0
  have h5 : Reach r t1 := State.setCtx_reach f0
  clear_value t1 v2
  have h6 : Reach r t3 := .upd h5
  clear_value t3
  have h7 : Reach r t4 := State.setFld_reach h6
  clear_value t4
  exact State.setFld_reach h7

theorem State.adoptTiles_reach {s0 x1 x2 x3} (f0 : Reach r s0) :
    Reach r (State.adoptTiles s0 x1 x2 x3) := by
  unfold State.adoptTiles
  extract_lets t0 t1 t2
  have h3 : Reach r t0 := by
    unfold t0
    refine foldl_k (Reach r) f0 ?_
    intro t4 h5 d6
    exact State.setReg_reach h5
  clear_value t0
  have h7 : Reach r t1 := by
    unfold t1
    refine foldl_k (Reach r) h3 ?_
    intro t8 h9 d10
    exact State.joinLease_reach (State.setReg_reach h9)
  clear_value t1
  have h11 : Reach r t2 := by
    unfold t2
    refine foldl_k (Reach r) h7 ?_
    intro t12 h13 d14
    exact State.joinLease_reach h13
  clear_value t2
  exact State.leaseView_reach (State.markDisplaced_reach h11)

theorem State.adoptRoutes_reach {s0 x1 x2} (f0 : Reach r s0) :
    SumK AnyK (Reach r) (State.adoptRoutes s0 x1 x2) := by
  unfold State.adoptRoutes
  extract_lets v0 v1
  clear_value v0 v1
  split
  · rename_i d2 d3 e4
    exact .inl any_k
  · rename_i d5 e6
    refine foldl_k (SumK AnyK (Reach r)) (.inr f0) ?_
    intro t7 h8 d9
    split
    · rename_i t10 d11
      clear h8
      exact .inl any_k
    · rename_i t12 t13
      have h14 := inr_out h8
      clear h8
      extract_lets v15
      clear_value v15
      split
      · rename_i d16 e17
        exact .inl any_k
      · rename_i d18 d19 e20
        extract_lets t21 v22
        have h23 : Reach r t21 := State.addBudget_reach (State.writeRoute_reach h14)
        clear_value t21 v22
        exact .inr (State.setCtx_reach h23)

theorem State.addRestore_reach {s0 x1 x2} (f0 : Reach r s0) :
    SumK AnyK (Reach r) (State.addRestore s0 x1 x2) := by
  unfold State.addRestore
  refine foldl_k (SumK AnyK (Reach r)) (.inr f0) ?_
  intro t0 h1 d2
  split
  · rename_i t3 d4
    clear h1
    exact .inl any_k
  · rename_i t5 t6
    have h7 := inr_out h1
    clear h1
    split
    · rename_i d8 e9
      exact .inl any_k
    · rename_i d10 d11 e12
      split
      · rename_i d13 e14
        exact .inl any_k
      · rename_i d15 d16 e17
        extract_lets t18 v19
        have h20 : Reach r t18 := State.addBudget_reach (State.writeRoute_reach h7)
        clear_value t18 v19
        exact .inr (State.setCtx_reach h20)

theorem State.stagePlate_reach {s0 x1 x2 x3} (f0 : Reach r s0) :
    SumK (PairK AnyK (Reach r)) (Reach r) (State.stagePlate s0 x1 x2 x3) := by
  unfold State.stagePlate
  extract_lets v0 v1
  clear_value v0 v1
  refine ite_k (SumK (PairK AnyK (Reach r)) (Reach r)) (.inl (.mk any_k f0)) ?_
  split
  · rename_i d2 d3 e4
    exact .inl (.mk any_k f0)
  · rename_i d5 d6 e7
    extract_lets v8 v9 t10
    clear_value v8 v9
    have h11 : Reach r t10 := State.setDrained_reach (State.adoptTiles_reach (State.adoptPlate_reach f0))
    clear_value t10
    split
    · rename_i t12 d13 e14
      have h15 := use_k (SumK AnyK (Reach r)) e14 (State.adoptRoutes_reach h11)
      clear h15
      exact .inl (.mk any_k f0)
    · rename_i t16 t17 e18
      have h19 := use_k (SumK AnyK (Reach r)) e18 (State.adoptRoutes_reach h11)
      have h20 := inr_out h19
      clear h19
      split
      · rename_i t21 d22 e23
        have h24 := use_k (SumK AnyK (Reach r)) e23 (State.addRestore_reach h20)
        clear h24
        exact .inl (.mk any_k f0)
      · rename_i t25 t26 e27
        have h28 := use_k (SumK AnyK (Reach r)) e27 (State.addRestore_reach h20)
        have h29 := inr_out h28
        clear h28
        refine ite_k (SumK (PairK AnyK (Reach r)) (Reach r)) (.inl (.mk any_k f0)) ?_
        split
        · rename_i d30 d31 e32
          exact .inl (.mk any_k f0)
        · rename_i d33 e34
          extract_lets t35
          have h36 : Reach r t35 := State.configure_reach h29
          clear_value t35
          split
          · rename_i t37 d38 t39 e40
            have h41 := use_k (SumK (PairK AnyK (Reach r)) (Reach r)) e40 (State.landWeights_reach h36)
            have h42 := inl_out h41
            clear h41
            have h43 := pair_snd h42
            clear h42
            extract_lets t44 t45
            have h46 : Reach r t44 := State.withMemoryOf_reach f0 h43
            clear_value t44
            have h47 : Reach r t45 := by
              unfold t45
              refine foldl_k (Reach r) (State.zeroRange_reach h46) ?_
              intro t48 h49 d50
              exact State.fillAll_reach h49
            clear_value t45
            exact .inl (.mk any_k h47)
          · rename_i t51 t52 e53
            have h54 := use_k (SumK (PairK AnyK (Reach r)) (Reach r)) e53 (State.landWeights_reach h36)
            have h55 := inr_out h54
            clear h54
            exact .inr h55

theorem State.setCounters_reach {s0 x1} (f0 : Reach r s0) :
    Reach r (State.setCounters s0 x1) := by
  unfold State.setCounters
  refine foldl_k (Reach r) f0 ?_
  intro t0 h1 d2
  split
  · rename_i d3 e4
    exact h1
  · rename_i d5 d6 e7
    extract_lets t8 t9
    have h10 : Reach r t8 := State.setFld_reach h1
    clear_value t8
    have h11 : Reach r t9 := State.setFld_reach h10
    clear_value t9
    exact State.setFld_reach h11

theorem State.restoreSaved_reach {s0 x1} (f0 : Reach r s0) :
    Reach r (State.restoreSaved s0 x1) := by
  unfold State.restoreSaved
  extract_lets v0 t1 v2
  clear_value v0
  have h3 : Reach r t1 := by
    unfold t1
    refine foldl_k (Reach r) f0 ?_
    intro t4 h5 d6
    extract_lets v7 v8 v9 v10 v11
    clear_value v7 v8 v9 v10 v11
    split
    · rename_i d12 d13 e14
      exact ite_k (Reach r) (State.copyRange_reach h5) h5
    · rename_i d15 e16
      exact h5
  clear_value t1 v2
  exact State.setCtx_reach h3

theorem State.backImages_reach {s0 x1} (f0 : Reach r s0) :
    Reach r (State.backImages s0 x1) := by
  unfold State.backImages
  refine foldl_k (Reach r) f0 ?_
  intro t0 h1 d2
  split
  · rename_i d3 d4 d5 d6 e7 e8
    exact State.copyRange_reach h1
  · rename_i d9 d10 e11
    exact h1

theorem State.uncheckedView_reach {s0 x1} (f0 : Reach r s0) :
    Reach r (State.uncheckedView s0 x1) := by
  unfold State.uncheckedView
  exact State.setFld_reach f0

theorem State.finishLoad_reach {s0 x1} (f0 : Reach r s0) :
    Reach r (State.finishLoad s0 x1) := by
  unfold State.finishLoad
  extract_lets v0 t1 t2 t3 t4
  clear_value v0
  have h5 : Reach r t1 := State.setCounters_reach f0
  clear_value t1
  have h6 : Reach r t2 := by
    unfold t2
    refine foldl_k (Reach r) h5 ?_
    intro t7 h8 d9
    exact State.setIdentity_reach h8
  clear_value t2
  have h10 : Reach r t3 := State.writeProxies_reach (State.restoreSaved_reach (State.backImages_reach h6))
  clear_value t3
  have h11 : Reach r t4 := State.setReg_reach (State.haltCtx_reach h10)
  clear_value t4
  exact State.leaseView_reach (State.needView_reach (State.ndcMark_reach (State.uncheckedView_reach h11)))

theorem State.releaseAll_reach {s0 x1 x2} (f0 : Reach r s0) :
    Reach r (State.releaseAll s0 x1 x2) := by
  unfold State.releaseAll
  extract_lets v0 t1 t2 t3 t4
  clear_value v0
  have h5 : Reach r t1 := State.clearBudgets_reach (State.clearRoutes_reach (State.setDrained_reach f0))
  clear_value t1
  have h6 : Reach r t2 := by
    unfold t2
    refine foldl_k (Reach r) h5 ?_
    intro t7 h8 d9
    exact State.leaveLease_reach h8
  clear_value t2
  have h10 : Reach r t3 := by
    unfold t3
    refine foldl_k (Reach r) h6 ?_
    intro t11 h12 d13
    exact State.setReg_reach h12
  clear_value t3
  have h14 : Reach r t4 := State.resetRegs_reach h10
  clear_value t4
  exact State.clearProxies_reach (State.setReg_reach (State.leaseView_reach h14))

theorem State.dropLoad_reach {s0 x1 x2 x3} (f0 : Reach r s0) :
    Reach r (State.dropLoad s0 x1 x2 x3) := by
  unfold State.dropLoad
  extract_lets v0 t1 t2 t3
  clear_value v0
  have h4 : Reach r t1 := ite_k (Reach r) (State.zeroRange_reach f0) f0
  clear_value t1
  have h5 : Reach r t2 := State.releaseAll_reach h4
  clear_value t2
  have h6 : Reach r t3 := State.setCtx_reach h5
  clear_value t3
  exact State.publish_reach (State.setCState_reach (State.setReason_reach h6))

theorem State.stageLoad_reach {s0 x1 x2} (f0 : Reach r s0) :
    Reach r (State.stageLoad s0 x1 x2) := by
  unfold State.stageLoad
  split
  · rename_i t0 t1 e2
    have h3 := use_k (SumK (PairK AnyK (Reach r)) (Reach r)) e2 (State.stagePlate_reach f0)
    have h4 := inr_out h3
    clear h3
    exact State.publish_reach h4
  · rename_i t5 d6 t7 e8
    have h9 := use_k (SumK (PairK AnyK (Reach r)) (Reach r)) e8 (State.stagePlate_reach f0)
    have h10 := inl_out h9
    clear h9
    have h11 := pair_snd h10
    clear h10
    extract_lets t12
    have h13 : Reach r t12 := State.dropLoad_reach h11
    clear_value t12
    refine State.complete_reach h13 ?_
    intro t14 h15 d16
    exact State.refuse_reach h15

theorem execLoadReady_reach {x0 s1} (f1 : Reach r s1) :
    OutK (Reach r) (execLoadReady x0 s1) := by
  unfold execLoadReady
  refine .next ?_
  refine ite_k (Reach r) f1 ?_
  split
  · rename_i d0 d1 e2
    extract_lets t3
    have h4 : Reach r t3 := State.dropLoad_reach f1
    clear_value t3
    refine State.complete_reach h4 ?_
    intro t5 h6 d7
    exact State.refuse_reach h6
  · rename_i d8 e9
    extract_lets t10 v11 t12
    have h13 : Reach r t10 := State.setCState_reach (State.finishLoad_reach f1)
    clear_value t10 v11
    have h14 : Reach r t12 := State.setCtx_reach h13
    clear_value t12
    refine State.complete_reach h14 ?_
    intro t15 h16 d17
    exact State.ok_reach h16

theorem State.loadAgain_reach {s0 x1} (f0 : Reach r s0) :
    Reach r (State.loadAgain s0 x1) := by
  unfold State.loadAgain
  extract_lets v0 t1 v2 t3 v4 t5
  clear_value v0
  have h6 : Reach r t1 := State.dropLoad_reach f0
  clear_value t1 v2
  have h7 : Reach r t3 := State.releaseAll_reach f0
  clear_value t3 v4
  have h8 : Reach r t5 := State.setCtx_reach h7
  clear_value t5
  refine ite_k (Reach r) ?_ (State.stageLoad_reach h8)
  refine State.complete_reach h6 ?_
  intro t9 h10 d11
  exact State.refuse_reach h10

theorem State.resetPointers_reach {s0 x1 x2} (f0 : Reach r s0) :
    Reach r (State.resetPointers s0 x1 x2) := by
  unfold State.resetPointers
  extract_lets t0 t1
  have h2 : Reach r t0 := State.setPopped_reach f0
  clear_value t0
  have h3 : Reach r t1 := State.setReg_reach (State.setReg_reach (State.setReg_reach (State.setReg_reach h2)))
  clear_value t1
  exact State.setReg_reach h3

theorem State.resetEndpoints_reach {s0 x1 x2 x3} (f0 : Reach r s0) :
    Reach r (State.resetEndpoints s0 x1 x2 x3) := by
  unfold State.resetEndpoints
  extract_lets t0 t1
  have h2 : Reach r t0 := State.setRor_reach f0
  clear_value t0
  have h3 : Reach r t1 := by
    unfold t1
    refine foldl_k (Reach r) h2 ?_
    intro t4 h5 d6
    refine ite_k (Reach r) h5 ?_
    extract_lets t7 t8 t9
    have h10 : Reach r t7 := State.setEpWin_reach h5
    clear_value t7
    have h11 : Reach r t8 := State.setFld_reach h10
    clear_value t8
    have h12 : Reach r t9 := State.setBit_reach (State.setFld_reach h11)
    clear_value t9
    exact State.setReg_reach (State.setReg_reach h12)
  clear_value t1
  refine foldl_k (Reach r) h3 ?_
  intro t13 h14 d15
  exact ite_k (Reach r) (State.setFld_reach h14) h14

theorem State.skipGathers_reach {s0 x1} (f0 : Reach r s0) :
    Reach r (State.skipGathers s0 x1) := by
  unfold State.skipGathers
  extract_lets v0 v1 v2 v3
  clear_value v0 v1 v2 v3
  exact State.setCtx_reach f0

theorem State.startCtx_reach {s0 x1} (f0 : Reach r s0) :
    Reach r (State.startCtx s0 x1) := by
  unfold State.startCtx
  extract_lets v0 t1 t2 t3 v4 t5 v6 t7 t8 t9 v10 t11
  clear_value v0
  have h12 : Reach r t1 := by
    unfold t1
    refine foldl_k (Reach r) f0 ?_
    intro t13 h14 d15
    split
    · rename_i d16 d17 e18
      exact State.resetPointers_reach h14
    · rename_i d19 e20
      exact h14
  clear_value t1
  have h21 : Reach r t2 := State.setCounters_reach h12
  clear_value t2
  have h22 : Reach r t3 := by
    unfold t3
    refine State.startProxies_reach ?_
    refine foldl_k (Reach r) h21 ?_
    intro t23 h24 d25
    exact State.resetEndpoints_reach h24
  clear_value t3 v4
  have h26 : Reach r t5 := ite_k (Reach r) (State.setFld_reach h22) (State.setFld_reach h22)
  clear_value t5 v6
  have h27 : Reach r t7 := by
    unfold t7
    refine foldl_k (Reach r) h26 ?_
    intro t28 h29 d30
    exact State.setEpoch_reach h29
  clear_value t7
  have h31 : Reach r t8 := State.resumeCtx_reach (State.setDrained_reach h27)
  clear_value t8
  have h32 : Reach r t9 := by
    unfold t9
    refine foldl_k (Reach r) h31 ?_
    intro t33 h34 d35
    refine foldl_k (Reach r) h34 ?_
    intro t36 h37 d38
    exact State.batchStart_reach h37
  clear_value t9 v10
  have h39 : Reach r t11 := State.setCtx_reach h32
  clear_value t11
  exact State.setBit_reach (State.setBit_reach (State.setCState_reach h39))

/-! ## HealthMap -/

theorem State.setHealth_reach {s0 x1 x2 x3} (f0 : Reach r s0) :
    Reach r (State.setHealth s0 x1 x2 x3) := by
  unfold State.setHealth
  exact State.setFld_reach f0

theorem State.passTile_reach {s0 x1} (f0 : Reach r s0) :
    Reach r (State.passTile s0 x1) := by
  unfold State.passTile
  extract_lets v0
  clear_value v0
  exact State.setHealth_reach (State.setHealth_reach f0)

theorem State.degrade_reach {s0 x1} (f0 : Reach r s0) :
    Reach r (State.degrade s0 x1) := by
  unfold State.degrade
  extract_lets v0 v1 t2 t3
  clear_value v0 v1
  have h4 : Reach r t2 := State.setHealth_reach f0
  clear_value t2
  have h5 : Reach r t3 := State.setHealth_reach h4
  clear_value t3
  refine ite_k (Reach r) ?_ h4
  split
  · rename_i d6 d7 e8
    exact ite_k (Reach r) (State.loadAgain_reach h5) h5
  · rename_i d9 e10
    exact h5

theorem State.remapView_reach {s0 x1 x2} (f0 : Reach r s0) :
    Reach r (State.remapView s0 x1 x2) := by
  unfold State.remapView
  extract_lets t0 v1
  have h2 : Reach r t0 := State.setFld_reach f0
  clear_value t0 v1
  exact State.setHealth_reach h2

theorem State.oldestView_reach {s0} (f0 : Reach r s0) :
    Reach r (State.oldestView s0) := by
  unfold State.oldestView
  split
  · rename_i d0 e1
    exact State.setReg_reach f0
  · rename_i d2 d3 e4
    exact State.setFld_reach (State.setFld_reach f0)

theorem State.loupeQueue_reach {s0 x1} (f0 : Reach r s0) :
    PairK AnyK (Reach r) (State.loupeQueue s0 x1) := by
  unfold State.loupeQueue
  extract_lets v0 v1 v2
  clear_value v0 v1 v2
  exact ite_k (PairK AnyK (Reach r)) (.mk any_k (State.event_reach (.upd f0))) (.mk any_k (State.loupeView_reach
      (.upd f0)))

theorem State.loupeOut_reach {s0 x1} (f0 : Reach r s0) :
    Reach r (State.loupeOut s0 x1) := by
  unfold State.loupeOut
  exact State.loupeView_reach (.upd f0)

theorem State.loupeNote_reach {s0 x1 x2 x3 x4 x5 x6} (f0 : Reach r s0) :
    Reach r (State.loupeNote s0 x1 x2 x3 x4 x5 x6) := by
  unfold State.loupeNote
  extract_lets v0 t1 t2 v3 v4 v5 t6
  clear_value v0
  have h7 : Reach r t1 := State.setReg_reach f0
  clear_value t1
  have h8 : Reach r t2 := State.addSat_reach h7
  clear_value t2 v3 v4 v5
  have h9 : Reach r t6 := .upd h8
  clear_value t6
  split
  · rename_i d10 d11 e12
    exact State.event_reach h9
  · rename_i d13 e14
    exact h9

theorem State.loupeResult_reach {s0 x1 x2 x3 x4 x5} (f0 : Reach r s0) :
    Reach r (State.loupeResult s0 x1 x2 x3 x4 x5) := by
  unfold State.loupeResult
  extract_lets t0
  have h1 : Reach r t0 := State.publish_reach (State.loupeOut_reach f0)
  clear_value t0
  exact ite_k (Reach r) h1 (State.loupeNote_reach h1)

theorem State.lanesView_reach {s0 x1} (f0 : Reach r s0) :
    Reach r (State.lanesView s0 x1) := by
  unfold State.lanesView
  extract_lets v0 t1
  clear_value v0
  have h2 : Reach r t1 := State.setFld_reach f0
  clear_value t1
  exact ite_k (Reach r) f0 (State.setBit_reach (State.setFld_reach h2))

theorem State.resetTested_reach {s0 x1} (f0 : Reach r s0) :
    Reach r (State.resetTested s0 x1) := by
  unfold State.resetTested
  exact State.lanesView_reach (State.setReg_reach (State.resetTile_reach f0))

theorem State.secondFault_reach {s0 x1} (f0 : Reach r s0) :
    Reach r (State.secondFault s0 x1) := by
  unfold State.secondFault
  exact State.dropAll_reach (State.setBit_reach f0)

theorem State.openHeal_reach {s0 x1 x2 x3 x4} (f0 : Reach r s0) :
    Reach r (State.openHeal s0 x1 x2 x3 x4) := by
  unfold State.openHeal
  extract_lets v0 t1 v2 v3 t4
  clear_value v0
  have h5 : Reach r t1 := ite_k (Reach r) (State.secondFault_reach f0) f0
  clear_value t1 v2 v3
  have h6 : Reach r t4 := .upd h5
  clear_value t4
  exact State.setFld_reach (State.setBit_reach h6)

theorem State.closeWindow_reach {s0 x1} (f0 : Reach r s0) :
    Reach r (State.closeWindow s0 x1) := by
  unfold State.closeWindow
  refine ite_k (Reach r) f0 ?_
  extract_lets t0
  have h1 : Reach r t0 := State.setFld_reach (State.setBit_reach f0)
  clear_value t0
  exact ite_k (Reach r) (State.skipGathers_reach (State.setBit_reach h1)) h1

theorem State.dropHeals_reach {s0 x1} (f0 : Reach r s0) :
    Reach r (State.dropHeals s0 x1) := by
  unfold State.dropHeals
  exact State.closeWindow_reach (.upd f0)

theorem State.freePath_reach {s0 x1 x2} (f0 : Reach r s0) :
    Reach r (State.freePath s0 x1 x2) := by
  unfold State.freePath
  extract_lets v0 t1
  clear_value v0
  have h2 : Reach r t1 := by
    unfold t1
    refine foldl_k (Reach r) f0 ?_
    intro t3 h4 d5
    refine foldl_k (Reach r) h4 ?_
    intro t6 h7 d8
    exact State.setReg_reach h7
  clear_value t1
  exact State.setCtx_reach h2

theorem State.rebudget_reach {s0 x1} (f0 : Reach r s0) :
    Reach r (State.rebudget s0 x1) := by
  unfold State.rebudget
  refine foldl_k (Reach r) (State.clearBudgets_reach f0) ?_
  intro t0 h1 d2
  extract_lets v3 v4 v5
  clear_value v3 v4 v5
  exact State.addBudget_reach h1

theorem State.whileDrained_reach {s0 x1} {k2 : State → State} (f0 : Reach r s0) (f2 : (∀ y00, Reach r y00 → Reach r
    (k2 y00))) :
    Reach r (State.whileDrained s0 x1 k2) := by
  unfold State.whileDrained
  extract_lets v0
  clear_value v0
  refine foldl_k (Reach r) (f2 _ (State.setDrained_reach f0)) ?_
  intro t1 h2 d3
  exact State.setFld_reach h2

theorem State.dropTests_reach {s0 x1} (f0 : Reach r s0) :
    Reach r (State.dropTests s0 x1) := by
  unfold State.dropTests
  extract_lets t0 v1 t2
  have h3 : Reach r t0 := State.setHealth_reach f0
  clear_value t0 v1
  have h4 : Reach r t2 := by
    unfold t2
    split
    · rename_i d5 d6 e7
      exact ite_k (Reach r) (State.setBit_reach (.upd h3)) h3
    · rename_i d8 e9
      exact h3
  clear_value t2
  split
  · rename_i d10 d11 e12
    exact State.loupeResult_reach h4
  · rename_i d13 e14
    exact h4

theorem State.recordFence_reach {s0 x1 x2 x3} (f0 : Reach r s0) :
    Reach r (State.recordFence s0 x1 x2 x3) := by
  unfold State.recordFence
  extract_lets t0 v1
  have h2 : Reach r t0 := State.setHealth_reach (State.setHealth_reach (State.setHealth_reach f0))
  clear_value t0 v1
  exact ite_k (Reach r) (.upd h2) h2

theorem State.afterFence_reach {s0 x1 x2} (f0 : Reach r s0) :
    Reach r (State.afterFence s0 x1 x2) := by
  unfold State.afterFence
  split
  · rename_i d0 e1
    exact State.queueRetest_reach f0
  · rename_i d2 d3 e4
    refine ite_k (Reach r) (State.loadAgain_reach f0) ?_
    split
    · rename_i d5 d6 e7
      exact ite_k (Reach r) (State.openHeal_reach f0) f0
    · rename_i d8 e9
      exact State.leaseView_reach (State.leaveLease_reach (State.rebudget_reach (State.freePath_reach f0)))

theorem State.fenceRecord_reach {s0 x1 x2 x3 x4} (f0 : Reach r s0) :
    Reach r (State.fenceRecord s0 x1 x2 x3 x4) := by
  unfold State.fenceRecord
  refine ite_k (Reach r) f0 ?_
  extract_lets t0 v1 t2 t3 t4
  have h5 : Reach r t0 := State.fenceTile_reach f0
  clear_value t0 v1
  have h6 : Reach r t2 := State.recordFence_reach h5
  clear_value t2
  have h7 : Reach r t3 := by
    unfold t3
    split
    · rename_i d8 d9 e10
      exact State.ndcTile_reach h6
    · rename_i d11 e12
      exact h6
  clear_value t3
  have h13 : Reach r t4 := State.dropTests_reach (State.hashStop_reach h7)
  clear_value t4
  exact State.publish_reach (State.afterFence_reach h13)

/-! ## Sampler -/

theorem State.writeDesc_reach {s0 x1 x2 x3} (f0 : Reach r s0) :
    Reach r (State.writeDesc s0 x1 x2 x3) := by
  unfold State.writeDesc
  refine ite_k (Reach r) (State.setBit_reach f0) ?_
  extract_lets v0 v1 v2
  clear_value v0 v1 v2
  exact State.setReg_reach f0

theorem State.smpMark_reach {s0 x1} (f0 : Reach r s0) :
    Reach r (State.smpMark s0 x1) := by
  unfold State.smpMark
  extract_lets v0 v1 v2
  clear_value v0 v1 v2
  split
  · rename_i d3 e4
    exact f0
  · rename_i d5 d6 e7
    split
    · rename_i d8 e9
      exact State.notePeak_reach f0
    · rename_i d10 e11
      exact State.notePeak_reach f0
    · rename_i d12 e13
      split
      · rename_i d14 d15 d16 e17
        exact .upd f0
      · rename_i d18 e19
        exact f0
    · rename_i d20 e21 e22 e23
      exact f0

theorem State.smpEnables_reach {s0} (f0 : Reach r s0) :
    Reach r (State.smpEnables s0) := by
  unfold State.smpEnables
  extract_lets v0 v1
  clear_value v0 v1
  refine foldl_k (Reach r) f0 ?_
  intro t2 h3 d4
  exact ite_k (Reach r) h3 (State.setBit_reach h3)

theorem State.tapMoved_reach {s0 x1 x2} (f0 : Reach r s0) :
    Reach r (State.tapMoved s0 x1 x2) := by
  unfold State.tapMoved
  refine ite_k (Reach r) f0 ?_
  extract_lets v0
  clear_value v0
  refine State.smpEnables_reach ?_
  refine foldl_k (Reach r) f0 ?_
  intro t1 h2 d3
  exact State.smpMark_reach (State.setBit_reach h2)

theorem State.smpStart_reach {s0} (f0 : Reach r s0) :
    Reach r (State.smpStart s0) := by
  unfold State.smpStart
  refine ite_k (Reach r) f0 ?_
  extract_lets v0 t1 t2
  clear_value v0
  have h3 : Reach r t1 := .upd f0
  clear_value t1
  have h4 : Reach r t2 := State.setBit_reach h3
  clear_value t2
  refine State.smpEnables_reach ?_
  refine foldl_k (Reach r) h4 ?_
  intro t5 h6 d7
  exact State.smpMark_reach h6

theorem State.smpStop_reach {s0} (f0 : Reach r s0) :
    Reach r (State.smpStop s0) := by
  unfold State.smpStop
  exact State.smpEnables_reach (State.setBit_reach f0)

theorem execSamplerStart_reach {s0} (f0 : Reach r s0) :
    OutK (Reach r) (execSamplerStart s0) := by
  unfold execSamplerStart
  exact .next (State.smpStart_reach f0)

theorem execSamplerStop_reach {s0} (f0 : Reach r s0) :
    OutK (Reach r) (execSamplerStop s0) := by
  unfold execSamplerStop
  exact .next (State.smpStop_reach f0)

theorem State.smpValue_reach {s0 x1} (f0 : Reach r s0) :
    PairK AnyK (Reach r) (State.smpValue s0 x1) := by
  unfold State.smpValue
  extract_lets v0 v1 v2 v3 t4 t5 v6 t7
  clear_value v0 v1 v2 v3
  have h8 : PairK AnyK (Reach r) t5 := State.draw_reach f0
  clear_value t5 v6
  have h9 : Reach r t7 := snd_k AnyK h8
  clear_value t7
  split
  · rename_i d10 e11
    unfold t4
    split
    · rename_i t12 d13 t14 e15
      have h16 := use_k (PairK AnyK (Reach r)) e15 (State.draw_reach f0)
      have h17 := pair_snd h16
      clear h16
      exact .mk any_k h17
  · rename_i d18 d19 e20
    extract_lets v21 v22 v23
    clear_value v21 v22 v23
    refine ite_k (PairK AnyK (Reach r)) (.mk any_k h9) ?_
    refine ite_k (PairK AnyK (Reach r)) ?_ ?_
    · unfold t4
      split
      · rename_i t24 d25 t26 e27
        have h28 := use_k (PairK AnyK (Reach r)) e27 (State.draw_reach f0)
        have h29 := pair_snd h28
        clear h28
        exact .mk any_k h29
    · split
      · rename_i d30 e31
        exact .mk any_k f0
      · rename_i d32 e33
        exact .mk any_k f0
      · rename_i d34 e35
        split
        · rename_i d36 e37
          unfold t4
          split
          · rename_i t38 d39 t40 e41
            have h42 := use_k (PairK AnyK (Reach r)) e41 (State.draw_reach f0)
            have h43 := pair_snd h42
            clear h42
            exact .mk any_k h43
        · rename_i d44 d45 d46 e47
          exact .mk any_k f0
      · rename_i d48 e49 e50 e51
        unfold t4
        split
        · rename_i t52 d53 t54 e55
          have h56 := use_k (PairK AnyK (Reach r)) e55 (State.draw_reach f0)
          have h57 := pair_snd h56
          clear h56
          exact .mk any_k h57

theorem State.smpRecord_reach {s0 x1 x2} (f0 : Reach r s0) :
    PairK AnyK (Reach r) (State.smpRecord s0 x1 x2) := by
  unfold State.smpRecord
  extract_lets v0 v1 v2 t3 v4 v5 v6 v7 t8
  clear_value v0 v1 v2
  have h9 : PairK AnyK (Reach r) t3 := State.smpValue_reach f0
  clear_value t3 v4 v5 v6 v7
  have h10 : Reach r t8 := snd_k AnyK h9
  clear_value t8
  exact .mk any_k h10

theorem State.smpWrite_reach {s0 x1 x2 x3} (f0 : Reach r s0) :
    Reach r (State.smpWrite s0 x1 x2 x3) := by
  induction x3 generalizing s0 x1 x2 with
  | nil =>
    rw [State.smpWrite]
    exact f0
  | cons y0 y1 ih2 =>
    rw [State.smpWrite]
    exact ih2 (State.setBit_reach (State.put_reach (snd_k AnyK (State.smpRecord_reach f0))))

theorem execSampleInstant_reach {s0} (f0 : Reach r s0) :
    OutK (Reach r) (execSampleInstant s0) := by
  unfold execSampleInstant
  extract_lets v0 v1 v2 v3 v4 t5 v6 v7 v8 t9 t10 t11 t12 v13 t14
  clear_value v0 v1 v2 v3 v4
  have h15 : Reach r t5 := .upd f0
  clear_value t5 v6 v7 v8
  have h16 : Reach r t9 := State.addMod_reach h15
  clear_value t9
  have h17 : Reach r t10 := State.smpWrite_reach h16
  clear_value t10
  have h18 : Reach r t11 := State.put_reach h17
  clear_value t11
  have h19 : Reach r t12 := State.addMod_reach h18
  clear_value t12 v13
  have h20 : Reach r t14 := .upd h19
  clear_value t14
  refine .next ?_
  refine ite_k (Reach r) f0 ?_
  refine ite_k (Reach r) (State.setBit_reach (State.smpStop_reach h15)) ?_
  refine foldl_k (Reach r) h20 ?_
  intro t21 h22 d23
  exact State.smpMark_reach h22

/-! ## Migrate -/

theorem State.moveOne_reach {s0 x1 x2 x3 x4} (f0 : Reach r s0) :
    Reach r (State.moveOne s0 x1 x2 x3 x4) := by
  unfold State.moveOne
  extract_lets v0 t1
  clear_value v0
  have h2 : Reach r t1 := State.ovfGrow_reach f0
  clear_value t1
  refine ite_k (Reach r) f0 ?_
  refine ite_k (Reach r) (State.rorAdd_reach f0) ?_
  split
  · rename_i t3 t4 e5
    have h6 := use_k (OptK (Reach r)) e5 (State.ovfPut_reach f0)
    have h7 := some_out h6
    clear h6
    exact h7
  · rename_i t8 e9
    exact getD_k (State.ovfPut_reach h2) h2

theorem State.moveSender_reach {s0 x1 x2 x3} (f0 : Reach r s0) :
    Reach r (State.moveSender s0 x1 x2 x3) := by
  unfold State.moveSender
  split
  · rename_i d0 e1
    exact f0
  · rename_i d2 d3 e4
    extract_lets v5 v6 t7 t8 t9 v10 t11
    clear_value v5 v6
    have h12 : Reach r t7 := by
      unfold t7
      refine foldl_k (Reach r) f0 ?_
      intro t13 h14 d15
      exact State.moveOne_reach h14
    clear_value t7
    have h16 : Reach r t8 := State.setFld_reach h12
    clear_value t8
    have h17 : Reach r t9 := by
      unfold t9
      refine foldl_k (Reach r) h16 ?_
      intro t18 h19 d20
      exact State.releaseSrc_reach h19
    clear_value t9 v10
    have h21 : Reach r t11 := State.setEpWin_reach h17
    clear_value t11
    exact ite_k (Reach r) f0 (State.rorFlush_reach (State.setFld_reach h21))

theorem State.ovfEnter_reach {s0 x1 x2 x3} (f0 : Reach r s0) :
    OptK (Reach r) (State.ovfEnter s0 x1 x2 x3) := by
  unfold State.ovfEnter
  refine map_k AnyK opt_any ?_
  intro d0 h1
  extract_lets v2 v3 t4
  clear_value v2 v3
  have h5 : Reach r t4 := State.setBit_reach (State.setEp_reach f0)
  clear_value t4
  exact State.setFld_reach (State.setFld_reach h5)

theorem State.pumpTile_reach {s0 x1 x2 x3} (f0 : Reach r s0) :
    Reach r (State.pumpTile s0 x1 x2 x3) := by
  unfold State.pumpTile
  refine ite_k (Reach r) f0 ?_
  split
  · rename_i d0 e1
    exact f0
  · rename_i d2 d3 e4
    exact State.hashGo_reach f0

theorem State.pump_reach {s0 x1} (f0 : Reach r s0) :
    Reach r (State.pump s0 x1) := by
  unfold State.pump
  refine ite_k (Reach r) ?_ f0
  refine foldl_k (Reach r) f0 ?_
  intro t0 h1 d2
  exact State.pumpTile_reach h1

theorem State.copyRegs_reach {s0 x1 x2} {k3 : ℕ → Bool} (f0 : Reach r s0) :
    Reach r (State.copyRegs s0 x1 x2 k3) := by
  unfold State.copyRegs
  refine foldl_k (Reach r) f0 ?_
  intro t0 h1 d2
  exact State.setReg_reach h1

theorem State.moveUnits_reach {s0 x1 x2} (f0 : Reach r s0) :
    Reach r (State.moveUnits s0 x1 x2) := by
  unfold State.moveUnits
  extract_lets t0 t1 t2 t3 t4 v5 v6 t7 v8
  have h9 : Reach r t0 := State.copyRegs_reach (State.resetRegs_reach f0)
  clear_value t0
  have h10 : Reach r t1 := State.setReg_reach h9
  clear_value t1
  have h11 : Reach r t2 := State.setFld_reach h10
  clear_value t2
  have h12 : Reach r t3 := State.setFld_reach h11
  clear_value t3
  have h13 : Reach r t4 := State.copyRange_reach (State.copyRange_reach h12)
  clear_value t4 v5 v6
  have h14 : Reach r t7 := .upd h13
  clear_value t7 v8
  exact .upd h14

theorem State.reroute_reach {s0 x1 x2} (f0 : Reach r s0) :
    OptK (Reach r) (State.reroute s0 x1 x2) := by
  unfold State.reroute
  extract_lets v0 v1 v2 t3 v4
  clear_value v0 v1 v2
  have h5 : OptK (PairK (Reach r) AnyK) t3 := by
    unfold t3
    refine foldl_k (OptK (PairK (Reach r) AnyK)) (.some (.mk f0 any_k)) ?_
    intro t6 h7 d8
    refine bind_k (PairK (Reach r) AnyK) h7 ?_
    intro t9 h10
    split
    · rename_i t11 t12 d13
      have h14 := pair_fst h10
      clear h10
      refine bind_k AnyK opt_any ?_
      intro d15 h16
      refine map_k AnyK opt_any ?_
      intro d17 h18
      exact .mk (State.writeRoute_reach h14) any_k
  clear_value t3 v4
  refine map_k (PairK (Reach r) AnyK) h5 ?_
  intro t19 h20
  split
  · rename_i t21 t22 d23
    have h24 := pair_fst h20
    clear h20
    extract_lets t25 v26
    have h27 : Reach r t25 := by
      unfold t25
      refine foldl_k (Reach r) h24 ?_
      intro t28 h29 d30
      refine foldl_k (Reach r) h29 ?_
      intro t31 h32 d33
      exact State.setReg_reach h32
    clear_value t25 v26
    exact State.setCtx_reach h27

theorem State.rerelocate_reach {s0 x1} (f0 : Reach r s0) :
    Reach r (State.rerelocate s0 x1) := by
  unfold State.rerelocate
  extract_lets v0
  clear_value v0
  refine foldl_k (Reach r) f0 ?_
  intro t1 h2 d3
  split
  · rename_i d4 e5
    exact h2
  · rename_i d6 d7 e8
    extract_lets v9 v10 v11 v12
    clear_value v9 v10 v11 v12
    exact State.setFld_reach h2

theorem State.dncRestore_reach {s0 x1 x2} (f0 : Reach r s0) :
    Reach r (State.dncRestore s0 x1 x2) := by
  unfold State.dncRestore
  extract_lets v0 v1
  clear_value v0 v1
  refine foldl_k (Reach r) f0 ?_
  intro t2 h3 d4
  refine foldl_k (Reach r) h3 ?_
  intro t5 h6 d7
  extract_lets v8 v9
  clear_value v8 v9
  exact ite_k (Reach r) (State.setFld_reach (State.setBit_reach h6)) h6

theorem State.displacedView_reach {s0 x1} (f0 : Reach r s0) :
    Reach r (State.displacedView s0 x1) := by
  unfold State.displacedView
  extract_lets v0 t1
  clear_value v0
  have h2 : Reach r t1 := State.markDisplaced_reach f0
  clear_value t1
  refine foldl_k (Reach r) h2 ?_
  intro t3 h4 d5
  exact ite_k (Reach r) (State.setBit_reach h4) h4

theorem State.placementMoved_reach {s0 x1 x2 x3} (f0 : Reach r s0) :
    Reach r (State.placementMoved s0 x1 x2 x3) := by
  unfold State.placementMoved
  extract_lets t0 t1 t2
  have h3 : Reach r t0 := State.rerelocate_reach f0
  clear_value t0
  have h4 : Reach r t1 := by
    unfold t1
    refine foldl_k (Reach r) h3 ?_
    intro t5 h6 d7
    refine foldl_k (Reach r) h6 ?_
    intro t8 h9 d10
    exact ite_k (Reach r) (State.setFld_reach h9) h9
  clear_value t1
  have h11 : Reach r t2 := by
    unfold t2
    refine foldl_k (Reach r) h4 ?_
    intro t12 h13 d14
    exact State.writeSyncMap_reach h13
  clear_value t2
  refine State.tapMoved_reach ?_
  exact State.followProxies_reach (State.displacedView_reach (State.writeVmap_reach (State.dncFallback_reach h11)))

theorem State.joinSenders_reach {s0 x1 x2} (f0 : Reach r s0) :
    Reach r (State.joinSenders s0 x1 x2) := by
  unfold State.joinSenders
  refine foldl_k (Reach r) f0 ?_
  intro t0 h1 d2
  refine ite_k (Reach r) h1 ?_
  extract_lets v3 v4 v5
  clear_value v3 v4 v5
  exact State.setFld_reach h1

theorem State.joinReceivers_reach {s0 x1 x2 x3} (f0 : Reach r s0) :
    Reach r (State.joinReceivers s0 x1 x2 x3) := by
  unfold State.joinReceivers
  refine foldl_k (Reach r) f0 ?_
  intro t0 h1 d2
  refine ite_k (Reach r) h1 ?_
  extract_lets v3 v4
  clear_value v3 v4
  split
  · rename_i d5 e6
    exact State.setFld_reach h1
  · rename_i d7 d8 e9
    extract_lets v10 t11 t12
    clear_value v10
    have h13 : Reach r t11 := by
      unfold t11
      refine foldl_k (Reach r) h1 ?_
      intro t14 h15 d16
      exact ite_k (Reach r) (State.release_reach h15) h15
    clear_value t11
    have h17 : Reach r t12 := State.setRor_reach h13
    clear_value t12
    exact State.setFld_reach h17

theorem State.resendTo_reach {s0 x1 x2} (f0 : Reach r s0) :
    Reach r (State.resendTo s0 x1 x2) := by
  unfold State.resendTo
  refine foldl_k (Reach r) f0 ?_
  intro t0 h1 d2
  split
  · rename_i d3 e4
    exact h1
  · rename_i d5 d6 e7
    extract_lets v8 v9
    clear_value v8 v9
    exact State.setEpWin_reach h1

theorem State.quiesceInto_reach {s0 x1 x2 x3} (f0 : Reach r s0) :
    Reach r (State.quiesceInto s0 x1 x2 x3) := by
  unfold State.quiesceInto
  refine foldl_k (Reach r) f0 ?_
  intro t0 h1 d2
  refine ite_k (Reach r) (State.resendTo_reach h1) ?_
  refine ite_k (Reach r) ?_ h1
  refine ite_k (Reach r) ?_ (ite_k (Reach r) (State.setBit_reach (State.setEp_reach h1)) h1)
  extract_lets t3
  have h4 : Reach r t3 := ite_k (Reach r) h1 (getD_k (State.ovfEnter_reach h1) (State.ctxNote_reach h1))
  clear_value t3
  refine foldl_k (Reach r) h4 ?_
  intro t5 h6 d7
  exact State.moveSender_reach h6

theorem State.flightMoved_reach {s0 x1 x2 x3 x4} (f0 : Reach r s0) :
    Reach r (State.flightMoved s0 x1 x2 x3 x4) := by
  unfold State.flightMoved
  extract_lets v0 v1 v2
  clear_value v0 v1 v2
  exact .upd f0

theorem State.restoreResident_reach {s0 x1 x2 x3} (f0 : Reach r s0) :
    OptK (Reach r) (State.restoreResident s0 x1 x2 x3) := by
  unfold State.restoreResident
  refine foldl_k (OptK (Reach r)) (.some f0) ?_
  intro t0 h1 d2
  refine bind_k (Reach r) h1 ?_
  intro t3 h4
  split
  · rename_i d5 e6
    exact .some h4
  · rename_i d7 d8 e9
    extract_lets v10
    clear_value v10
    exact ite_k (OptK (Reach r)) (.none) (.some (State.copyRange_reach h4))

theorem State.restoreVtile_reach {s0 x1 x2 x3} (f0 : Reach r s0) :
    OptK (Reach r) (State.restoreVtile s0 x1 x2 x3) := by
  unfold State.restoreVtile
  refine map_k (Reach r) (State.restoreResident_reach f0) ?_
  intro t0 h1
  extract_lets t2
  have h3 : Reach r t2 := by
    unfold t2
    refine foldl_k (Reach r) h1 ?_
    intro t4 h5 d6
    exact State.setIdentity_reach h5
  clear_value t2
  refine foldl_k (Reach r) h3 ?_
  intro t7 h8 d9
  exact State.shadowMove_reach h8

theorem State.healBatch_reach {s0 x1 x2} (f0 : Reach r s0) :
    Reach r (State.healBatch s0 x1 x2) := by
  unfold State.healBatch
  extract_lets v0
  clear_value v0
  refine foldl_k (Reach r) f0 ?_
  intro t1 h2 d3
  exact ite_k (Reach r) (State.pushIn_reach h2) (ite_k (Reach r) (State.setFld_reach h2) h2)

theorem State.ndcSeenAt_reach {s0 x1 x2} (f0 : Reach r s0) :
    Reach r (State.ndcSeenAt s0 x1 x2) := by
  unfold State.ndcSeenAt
  extract_lets v0 v1
  clear_value v0 v1
  exact State.setCtx_reach f0

theorem State.vacate_reach {s0 x1} (f0 : Reach r s0) :
    PairK AnyK (Reach r) (State.vacate s0 x1) := by
  unfold State.vacate
  refine ite_k (PairK AnyK (Reach r)) (.mk any_k f0) ?_
  extract_lets t0 v1
  have h2 : Reach r t0 := State.setHealth_reach (State.resetTested_reach (State.testAbandon_reach f0))
  clear_value t0 v1
  split
  · rename_i d3 d4 e5
    exact ite_k (PairK AnyK (Reach r)) (.mk any_k (State.setBit_reach (.upd h2))) (.mk any_k h2)
  · rename_i d6 e7
    split
    · rename_i d8 d9 e10
      exact .mk any_k (State.loupeResult_reach h2)
    · rename_i d11 e12
      exact .mk any_k h2

theorem State.moveWork_reach {s0 x1 x2 x3 x4 x5 x6} (f0 : Reach r s0) :
    SumK AnyK (Reach r) (State.moveWork s0 x1 x2 x3 x4 x5 x6) := by
  unfold State.moveWork
  extract_lets t0 t1 t2 t3 v4 v5 t6
  have h7 : Reach r t0 := State.hashStop_reach (State.ndcTile_reach f0)
  clear_value t0
  have h8 : Reach r t1 := snd_k AnyK (State.vacate_reach h7)
  clear_value t1
  have h9 : Reach r t2 := State.clearUnits_reach (State.resetRegs_reach h8)
  clear_value t2
  have h10 : Reach r t3 := State.setReg_reach h9
  clear_value t3 v4 v5
  split
  · rename_i t11 e12
    exact .inl any_k
  · rename_i t13 t14 e15
    have h16 := use_k (OptK (Reach r)) e15 (State.reroute_reach (State.freePath_reach (State.setDrained_reach h10)))
    have h17 := some_out h16
    clear h16
    extract_lets t18 v19 t20 t21 t22 t23
    have h24 : Reach r t18 := State.configure_reach (State.joinLease_reach (State.joinLease_reach h17))
    clear_value t18 v19
    have h25 : Reach r t20 := State.setFld_reach h24
    clear_value t20
    have h26 : Reach r t21 := State.setFld_reach h25
    clear_value t21
    have h27 : Reach r t22 := State.copyRegs_reach h26
    clear_value t22
    have h28 : OptK (Reach r) t23 := ite_k (OptK (Reach r)) (.some (State.joinLease_reach (State.moveUnits_reach
        h25))) (State.restoreVtile_reach h27)
    clear_value t23
    split
    · rename_i t29
      exact .inl any_k
    · rename_i t30 t31
      have h32 := some_out h28
      clear h28
      extract_lets t33 t34 t35 t36 t37 t38 t39 t40 t41 t42 t43
      have h44 : Reach r t33 := ite_k (Reach r) (State.dncRestore_reach h32) h32
      clear_value t33
      have h45 : Reach r t34 := State.placementMoved_reach (State.flightMoved_reach h44)
      clear_value t34
      have h46 : Reach r t35 := ite_k (Reach r) h45 (State.joinReceivers_reach (State.joinSenders_reach h45))
      clear_value t35
      have h47 : Reach r t36 := State.quiesceInto_reach h46
      clear_value t36
      have h48 : Reach r t37 := ite_k (Reach r) (State.healBatch_reach h47) h47
      clear_value t37
      have h49 : Reach r t38 := ite_k (Reach r) (State.resumeTile_reach h48) (State.haltTile_reach h48)
      clear_value t38
      have h50 : Reach r t39 := State.clearUnits_reach (State.resetRegs_reach (State.haltTile_reach h49))
      clear_value t39
      have h51 : Reach r t40 := ite_k (Reach r) (State.fillAll_reach h50) h50
      clear_value t40
      have h52 : Reach r t41 := by
        unfold t41
        split
        · rename_i t53 t54 e55
          have h56 := use_k (SumK AnyK (Reach r)) e55 (State.addRestore_reach h51)
          have h57 := inr_out h56
          clear h56
          exact h57
        · rename_i t58 d59 e60
          have h61 := use_k (SumK AnyK (Reach r)) e60 (State.addRestore_reach h51)
          clear h61
          exact h51
      clear_value t41
      have h62 : Reach r t42 := ite_k (Reach r) (State.ndcSeenAt_reach h52) (State.leaveLease_reach h49)
      clear_value t42
      have h63 : Reach r t43 := by
        unfold t43
        refine State.ndcSeenAt_reach ?_
        unfold t6
        refine foldl_k (Reach r) (State.rebudget_reach h62) ?_
        intro t64 h65 d66
        exact State.setFld_reach h65
      clear_value t43
      exact .inr (State.pump_reach (State.uncheckedView_reach (State.leaseView_reach h63)))

theorem State.healDone_reach {s0 x1 x2 x3 x4 x5 x6} (f0 : Reach r s0) :
    Reach r (State.healDone s0 x1 x2 x3 x4 x5 x6) := by
  unfold State.healDone
  extract_lets t0 t1 t2 t3
  have h4 : Reach r t0 := State.addSat_reach f0
  clear_value t0
  have h5 : Reach r t1 := ite_k (Reach r) (State.addSat_reach h4) h4
  clear_value t1
  have h6 : Reach r t2 := State.setReg_reach h5
  clear_value t2
  have h7 : Reach r t3 := State.setReg_reach h6
  clear_value t3
  exact State.eventAt_reach h7

theorem State.migrate_reach {s0 x1 x2 x3 x4 x5} (f0 : Reach r s0) :
    OptK (Reach r) (State.migrate s0 x1 x2 x3 x4 x5) := by
  unfold State.migrate
  split
  · rename_i t0 d1 e2
    have h3 := use_k (SumK AnyK (Reach r)) e2 (State.moveWork_reach f0)
    clear h3
    exact .none
  · rename_i t4 t5 e6
    have h7 := use_k (SumK AnyK (Reach r)) e6 (State.moveWork_reach f0)
    have h8 := inr_out h7
    clear h7
    extract_lets t9 v10 t11
    have h12 : PairK AnyK (Reach r) t9 := State.draw_reach h8
    clear_value t9 v10
    have h13 : Reach r t11 := snd_k AnyK h12
    clear_value t11
    exact .some (State.publish_reach (State.recheck_reach (State.healDone_reach h13)))

theorem State.returnWork_reach {s0 x1 x2} (f0 : Reach r s0) :
    Reach r (State.returnWork s0 x1 x2) := by
  unfold State.returnWork
  exact ite_k (Reach r) (getD_k (State.migrate_reach f0) f0) f0

theorem State.abandonTest_reach {s0 x1} (f0 : Reach r s0) :
    Reach r (State.abandonTest s0 x1) := by
  unfold State.abandonTest
  split
  · rename_i t0 d1 t2 e3
    have h4 := use_k (PairK AnyK (Reach r)) e3 (State.vacate_reach f0)
    have h5 := pair_snd h4
    clear h4
    exact State.returnWork_reach h5
  · rename_i t6 t7 e8
    have h9 := use_k (PairK AnyK (Reach r)) e8 (State.vacate_reach f0)
    have h10 := pair_snd h9
    clear h9
    exact h10

theorem State.stopTests_reach {s0 x1} (f0 : Reach r s0) :
    Reach r (State.stopTests s0 x1) := by
  unfold State.stopTests
  extract_lets v0
  clear_value v0
  refine foldl_k (Reach r) f0 ?_
  intro t1 h2 d3
  exact State.abandonTest_reach h2

theorem State.addReserve_reach {s0 x1} (f0 : Reach r s0) :
    OptK (Reach r) (State.addReserve s0 x1) := by
  unfold State.addReserve
  extract_lets v0
  clear_value v0
  refine ite_k (OptK (Reach r)) (.none) ?_
  refine bind_k AnyK opt_any ?_
  intro d1 h2
  extract_lets t3 v4
  have h5 : Reach r t3 := snd_k AnyK (State.vacate_reach f0)
  clear_value t3 v4
  split
  · rename_i t6 d7 e8
    have h9 := use_k (SumK AnyK (Reach r)) e8 (State.addRestore_reach (State.setDrained_reach h5))
    clear h9
    exact .none
  · rename_i t10 t11 e12
    have h13 := use_k (SumK AnyK (Reach r)) e12 (State.addRestore_reach (State.setDrained_reach h5))
    have h14 := inr_out h13
    clear h13
    refine .some ?_
    refine foldl_k (Reach r) (State.joinLease_reach h14) ?_
    intro t15 h16 d17
    exact State.setFld_reach h16

theorem State.replenish_reach {s0 x1 x2} (f0 : Reach r s0) :
    Reach r (State.replenish s0 x1 x2) := by
  induction x2 generalizing s0 x1 with
  | zero =>
    rw [State.replenish]
    exact State.leaseView_reach f0
  | succ y0 ih1 =>
    rw [State.replenish]
    split
    · rename_i t2 t3 e4
      have h5 := use_k (OptK (Reach r)) e4 (State.addReserve_reach f0)
      have h6 := some_out h5
      clear h5
      exact ih1 h6
    · rename_i t7 e8
      exact State.leaseView_reach f0

theorem State.replenishAll_reach {s0} (f0 : Reach r s0) :
    Reach r (State.replenishAll s0) := by
  unfold State.replenishAll
  refine foldl_k (Reach r) f0 ?_
  intro t0 h1 d2
  exact ite_k (Reach r) (State.replenish_reach h1) h1

end Sys2Proof.Machine
end

