-- ==== Sys2Proof/Laws/ReachUnits.lean ====
section
/-! SUPPORT. Laws/ReachUnits.lean: every operation of transfer engines, Treup, memory commands, spilling, proofs and healing stays within `Reach`:
it writes registers and memory only by the named writes, and leaves the queue and the variant alone. -/
namespace Sys2Proof.Machine

variable {r : State}

/-! ## Xe -/

theorem State.setEng_reach {s0 x1 x2 x3} (f0 : Reach r s0) :
    Reach r (State.setEng s0 x1 x2 x3) := by
  unfold State.setEng
  exact .upd f0

theorem State.poison_reach {s0 x1 x2} (f0 : Reach r s0) :
    Reach r (State.poison s0 x1 x2) := by
  unfold State.poison
  extract_lets v0 v1
  clear_value v0 v1
  exact .upd f0

theorem State.xeMove_reach {s0 x1 x2} (f0 : Reach r s0) :
    Reach r (State.xeMove s0 x1 x2) := by
  unfold State.xeMove
  extract_lets v0 t1
  clear_value v0
  have h2 : Reach r t1 := ite_k (Reach r) (State.hostPut_reach f0) (State.copyRange_reach f0)
  clear_value t1
  refine ite_k (Reach r) f0 ?_
  refine ite_k (Reach r) (ite_k (Reach r) (State.hostPut_reach f0) (State.setBytes_reach f0)) ?_
  refine foldl_k (Reach r) h2 ?_
  intro t3 h4 d5
  extract_lets v6 v7
  clear_value v6 v7
  exact State.poison_reach h4

theorem State.cplLook_reach {s0 x1 x2} (f0 : Reach r s0) :
    Reach r (State.cplLook s0 x1 x2) := by
  unfold State.cplLook
  extract_lets v0 v1
  clear_value v0 v1
  exact State.setEng_reach (State.unfire_reach f0)

theorem State.flushDue_reach {s0 x1 x2 x3} (f0 : Reach r s0) :
    Reach r (State.flushDue s0 x1 x2 x3) := by
  induction x3 generalizing s0 x1 x2 with
  | nil =>
    rw [State.flushDue]
    exact State.setEng_reach f0
  | cons y0 y1 ih2 =>
    rw [State.flushDue]
    refine ite_k (Reach r) (State.setEng_reach f0) ?_
    extract_lets v3 v4
    clear_value v3 v4
    exact ih2 (State.put_reach (State.put_reach f0))

theorem State.engView_reach {s0 x1 x2} (f0 : Reach r s0) :
    Reach r (State.engView s0 x1 x2) := by
  unfold State.engView
  extract_lets t0 v1
  have h2 : Reach r t0 := ite_k (Reach r) f0 (State.flushDue_reach (State.cplLook_reach f0))
  clear_value t0 v1
  exact State.setBit_reach (State.setFld_reach h2)

theorem State.announce_reach {s0 x1 x2 x3} (f0 : Reach r s0) :
    Reach r (State.announce s0 x1 x2 x3) := by
  unfold State.announce
  extract_lets v0 v1
  clear_value v0 v1
  exact ite_k (Reach r) (State.addCounter_reach f0) (State.signal_reach f0)

theorem State.xeFinish_reach {s0 x1 x2 x3 x4 x5 x6} (f0 : Reach r s0) :
    Reach r (State.xeFinish s0 x1 x2 x3 x4 x5 x6) := by
  unfold State.xeFinish
  extract_lets t0 v1 v2 t3 t4 t5
  have h6 : Reach r t0 := State.addSat_reach f0
  clear_value t0 v1 v2
  have h7 : Reach r t3 := State.setEng_reach h6
  clear_value t3
  have h8 : Reach r t4 := State.engView_reach h7
  clear_value t4
  have h9 : Reach r t5 := ite_k (Reach r) (State.announce_reach h8) h8
  clear_value t5
  exact ite_k (Reach r) (State.event_reach h9) h9

theorem State.takeDesc_reach {s0 x1 x2} (f0 : Reach r s0) :
    PairK AnyK (Reach r) (State.takeDesc s0 x1 x2) := by
  unfold State.takeDesc
  extract_lets v0 v1 v2 t3
  clear_value v0 v1 v2
  have h4 : Reach r t3 := State.setEng_reach f0
  clear_value t3
  exact .mk any_k (State.put_reach h4)

theorem State.askHost_reach {s0 x1 x2 x3} (f0 : Reach r s0) :
    Reach r (State.askHost s0 x1 x2 x3) := by
  unfold State.askHost
  extract_lets v0 v1 v2 v3 v4 v5 t6 v7 v8
  clear_value v0 v1 v2 v3 v4 v5
  have h9 : Reach r t6 := State.setEng_reach f0
  clear_value t6 v7 v8
  exact ite_k (Reach r) f0 (State.sendTl_reach (.upd h9))

theorem State.replyEngine_reach {s0 x1 x2 x3} (f0 : Reach r s0) :
    Reach r (State.replyEngine s0 x1 x2 x3) := by
  unfold State.replyEngine
  refine State.complete_reach f0 ?_
  intro t0 h1 d2
  exact State.okForm_reach h1

theorem State.xeDrained_reach {s0 x1 x2} (f0 : Reach r s0) :
    Reach r (State.xeDrained s0 x1 x2) := by
  unfold State.xeDrained
  extract_lets v0
  clear_value v0
  split
  · rename_i d1 e2
    exact f0
  · rename_i d3 d4 e5
    exact ite_k (Reach r) (State.replyEngine_reach (State.setBit_reach (State.setEng_reach f0))) f0

theorem execXeDescriptorStart_reach {x0 x1 s2} (f2 : Reach r s2) :
    OutK (Reach r) (execXeDescriptorStart x0 x1 s2) := by
  unfold execXeDescriptorStart
  extract_lets t0 t1 v2 t3 v4 t5 v6 v7
  have h8 : Reach r t0 := State.unfire_reach f2
  clear_value t0
  have h9 : Reach r t1 := ite_k (Reach r) (State.engView_reach (State.cplLook_reach h8)) h8
  clear_value t1 v2
  have h10 : PairK AnyK (Reach r) t3 := State.takeDesc_reach h9
  clear_value t3 v4
  have h11 : Reach r t5 := snd_k AnyK h10
  clear_value t5 v6 v7
  refine .next ?_
  refine ite_k (Reach r) (State.xeDrained_reach h9) ?_
  refine ite_k (Reach r) (State.askLines_reach h9) ?_
  exact ite_k (Reach r) (State.xeDrained_reach (State.xeFinish_reach h11)) (State.askHost_reach
      (State.engView_reach (State.setEng_reach h11)))

theorem State.xeLeave_reach {s0 x1 x2 x3} (f0 : Reach r s0) :
    Reach r (State.xeLeave s0 x1 x2 x3) := by
  unfold State.xeLeave
  extract_lets v0 t1 v2
  clear_value v0
  have h3 : Reach r t1 := State.setEng_reach f0
  clear_value t1 v2
  exact .upd h3

theorem execXeDescriptorComplete_reach {x0 x1 x2 s3} (f3 : Reach r s3) :
    OutK (Reach r) (execXeDescriptorComplete x0 x1 x2 s3) := by
  unfold execXeDescriptorComplete
  refine .next ?_
  split
  · rename_i d0 e1
    exact f3
  · rename_i d2 d3 e4
    extract_lets v5 t6 v7 t8 v9 v10 v11 t12 v13
    clear_value v5
    have h14 : PairK AnyK (Reach r) t6 := State.draw_reach f3
    clear_value t6 v7
    have h15 : Reach r t8 := snd_k AnyK h14
    clear_value t8 v9 v10 v11
    have h16 : Reach r t12 := State.xeLeave_reach (State.xeMove_reach f3)
    clear_value t12 v13
    split
    · rename_i d17 d18 e19
      exact State.xeDrained_reach (State.xeFinish_reach (State.xeLeave_reach (State.xeMove_reach h15)))
    · rename_i d20 e21
      refine ite_k (Reach r) f3 ?_
      refine ite_k (Reach r) (State.askLines_reach (State.askLines_reach f3)) ?_
      exact State.xeDrained_reach (ite_k (Reach r) (State.xeFinish_reach h16) (State.xeFinish_reach h16))

theorem State.xeCancel_reach {s0 x1 x2 x3} (f0 : Reach r s0) :
    Reach r (State.xeCancel s0 x1 x2 x3) := by
  unfold State.xeCancel
  extract_lets t0 v1 t2 v3 v4
  have h5 : PairK AnyK (Reach r) t0 := State.draw_reach f0
  clear_value t0 v1
  have h6 : Reach r t2 := snd_k AnyK h5
  clear_value t2 v3 v4
  exact State.xeFinish_reach (State.xeLeave_reach (State.xeMove_reach h6))

theorem State.cancelTaken_reach {s0 x1 x2 x3 x4} (f0 : Reach r s0) :
    Reach r (State.cancelTaken s0 x1 x2 x3 x4) := by
  induction x3 generalizing s0 x1 x2 x4 with
  | zero =>
    rw [State.cancelTaken]
    exact f0
  | succ y0 ih1 =>
    rw [State.cancelTaken]
    refine ite_k (Reach r) f0 ?_
    extract_lets t2 v3 t4
    have h5 : PairK AnyK (Reach r) t2 := State.takeDesc_reach f0
    clear_value t2 v3
    have h6 : Reach r t4 := snd_k AnyK h5
    clear_value t4
    exact ih1 (State.xeFinish_reach h6)

theorem State.xeAbort_reach {s0 x1 x2} (f0 : Reach r s0) :
    Reach r (State.xeAbort s0 x1 x2) := by
  unfold State.xeAbort
  extract_lets v0 v1 t2 t3 v4 t5 t6
  clear_value v0 v1
  have h7 : Reach r t2 := by
    unfold t2
    refine foldl_k (Reach r) f0 ?_
    intro t8 h9 d10
    exact State.xeCancel_reach h9
  clear_value t2
  have h11 : Reach r t3 := ite_k (Reach r) (State.cancelTaken_reach h7) h7
  clear_value t3 v4
  have h12 : Reach r t5 := State.setEng_reach h11
  clear_value t5
  have h13 : Reach r t6 := ite_k (Reach r) (State.setBit_reach h12) h12
  clear_value t6
  exact State.replyEngine_reach (State.setBit_reach h13)

theorem State.xeHalt_reach {s0 x1 x2 x3} (f0 : Reach r s0) :
    Reach r (State.xeHalt s0 x1 x2 x3) := by
  unfold State.xeHalt
  extract_lets v0 t1 v2 t3 v4
  clear_value v0
  have h5 : Reach r t1 := State.setEng_reach f0
  clear_value t1 v2
  have h6 : Reach r t3 := State.setBit_reach h5
  clear_value t3 v4
  refine ite_k (Reach r) f0 ?_
  exact ite_k (Reach r) (State.xeAbort_reach h5) (ite_k (Reach r) h5 (State.xeDrained_reach (State.setEng_reach h6)))

theorem execXeHaltReq_reach {x0 x1 x2 s3} (f3 : Reach r s3) :
    OutK (Reach r) (execXeHaltReq x0 x1 x2 s3) := by
  unfold execXeHaltReq
  exact .next (State.xeHalt_reach (State.setFld_reach f3))

theorem State.xeResume_reach {s0 x1 x2} (f0 : Reach r s0) :
    Reach r (State.xeResume s0 x1 x2) := by
  unfold State.xeResume
  exact State.setBit_reach f0

theorem execXeEngResume_reach {x0 x1 s2} (f2 : Reach r s2) :
    OutK (Reach r) (execXeEngResume x0 x1 s2) := by
  unfold execXeEngResume
  exact .next (State.xeResume_reach f2)

theorem execXeDrainTimeout_reach {x0 x1 s2} (f2 : Reach r s2) :
    OutK (Reach r) (execXeDrainTimeout x0 x1 s2) := by
  unfold execXeDrainTimeout
  extract_lets v0
  clear_value v0
  exact .next (ite_k (Reach r) (State.xeAbort_reach f2) f2)

theorem State.abortEngines_reach {s0} (f0 : Reach r s0) :
    Reach r (State.abortEngines s0) := by
  unfold State.abortEngines
  refine foldl_k (Reach r) f0 ?_
  intro t0 h1 d2
  exact State.xeHalt_reach h1

theorem State.abortTileDescs_reach {s0} (f0 : Reach r s0) :
    Reach r (State.abortTileDescs s0) := by
  unfold State.abortTileDescs
  refine foldl_k (Reach r) f0 ?_
  intro t0 h1 d2
  refine foldl_k (Reach r) h1 ?_
  intro t3 h4 d5
  exact State.xeCancel_reach h4

theorem State.dropEngines_reach {s0 x1} (f0 : Reach r s0) :
    Reach r (State.dropEngines s0 x1) := by
  unfold State.dropEngines
  refine foldl_k (Reach r) f0 ?_
  intro t0 h1 d2
  extract_lets v3
  clear_value v3
  exact ite_k (Reach r) (State.setBit_reach (State.xeHalt_reach h1)) h1

/-! ## BootLine -/

theorem State.alert_reach {s0} (f0 : Reach r s0) :
    Reach r (State.alert s0) := by
  unfold State.alert
  exact .upd f0

theorem State.setStage_reach {s0 x1} (f0 : Reach r s0) :
    Reach r (State.setStage s0 x1) := by
  unfold State.setStage
  extract_lets t0 v1 t2 t3
  have h4 : Reach r t0 := State.setFld_reach f0
  clear_value t0 v1
  have h5 : Reach r t2 := .upd h4
  clear_value t2
  have h6 : Reach r t3 := ite_k (Reach r) (State.put_reach h5) h5
  clear_value t3
  exact ite_k (Reach r) (State.alert_reach h6) h6

theorem State.mailboxUp_reach {s0} (f0 : Reach r s0) :
    Reach r (State.mailboxUp s0) := by
  unfold State.mailboxUp
  exact ite_k (Reach r) (State.setStage_reach (.upd f0)) f0

/-! ## Treup -/

theorem State.refuseNp_reach {s0 x1 x2 x3} (f0 : Reach r s0) :
    Reach r (State.refuseNp s0 x1 x2 x3) := by
  unfold State.refuseNp
  exact State.tlLog_reach (State.sendTl_reach f0)

theorem State.refusePw_reach {s0 x1 x2 x3} (f0 : Reach r s0) :
    Reach r (State.refusePw s0 x1 x2 x3) := by
  unfold State.refusePw
  exact State.tlLog_reach (State.sendTl_reach f0)

theorem State.complTl_reach {s0 x1 x2 x3 x4} (f0 : Reach r s0) :
    Reach r (State.complTl s0 x1 x2 x3 x4) := by
  unfold State.complTl
  exact ite_k (Reach r) (State.sendTl_reach f0) (State.sendTl_reach f0)

theorem State.smpHostWord_reach {s0 x1 x2} (f0 : Reach r s0) :
    Reach r (State.smpHostWord s0 x1 x2) := by
  unfold State.smpHostWord
  split
  · rename_i d0 e1
    exact f0
  · rename_i d2 d3 e4
    extract_lets t5 t6
    have h7 : Reach r t5 := State.writeDesc_reach f0
    clear_value t5
    have h8 : Reach r t6 := ite_k (Reach r) (State.smpStart_reach h7) h7
    clear_value t6
    exact ite_k (Reach r) (ite_k (Reach r) (State.smpStop_reach h8) h8) h7

theorem State.hostBytes_reach {s0 x1 x2 x3} (f0 : Reach r s0) :
    Reach r (State.hostBytes s0 x1 x2 x3) := by
  unfold State.hostBytes
  refine ite_k (Reach r) ?_ ?_
  · refine ite_k (Reach r) f0 ?_
    refine foldl_k (Reach r) f0 ?_
    intro t0 h1 d2
    exact State.smpHostWord_reach h1
  · extract_lets t3 t4
    have h5 : Reach r t3 := State.setBytes_reach f0
    clear_value t3
    have h6 : Reach r t4 := ite_k (Reach r) (State.poison_reach h5) h5
    clear_value t4
    refine foldl_k (Reach r) h6 ?_
    intro t7 h8 d9
    exact State.fire_reach h8

theorem State.smpMasked_reach {s0 x1 x2 x3 x4} (f0 : Reach r s0) :
    Reach r (State.smpMasked s0 x1 x2 x3 x4) := by
  unfold State.smpMasked
  refine foldl_k (Reach r) f0 ?_
  intro t0 h1 d2
  exact State.hostBytes_reach h1

theorem State.evictOldest_reach {s0} (f0 : Reach r s0) :
    Reach r (State.evictOldest s0) := by
  unfold State.evictOldest
  split
  · rename_i d0 e1
    exact f0
  · rename_i d2 d3 e4
    exact State.addSat_reach (State.askLines_reach f0)

theorem State.filterView_reach {s0} (f0 : Reach r s0) :
    Reach r (State.filterView s0) := by
  unfold State.filterView
  exact State.setFld_reach f0

theorem State.grantLine_reach {s0 x1 x2 x3} (f0 : Reach r s0) :
    Reach r (State.grantLine s0 x1 x2 x3) := by
  unfold State.grantLine
  extract_lets v0 t1 v2 t3
  clear_value v0
  have h4 : Reach r t1 := State.dropCopy_reach f0
  clear_value t1 v2
  have h5 : Reach r t3 := State.filterView_reach (.upd h4)
  clear_value t3
  exact State.complTl_reach h5

theorem State.takeReturn_reach {s0 x1 x2 x3} (f0 : Reach r s0) :
    Reach r (State.takeReturn s0 x1 x2 x3) := by
  unfold State.takeReturn
  extract_lets v0 t1
  clear_value v0
  have h2 : Reach r t1 := State.filterView_reach (State.dropCopy_reach f0)
  clear_value t1
  split
  · rename_i d3 d4
    exact ite_k (Reach r) (State.hostBytes_reach h2) h2
  · rename_i d5
    exact h2

theorem State.tryHost_reach {s0 x1} (f0 : Reach r s0) :
    PairK AnyK (Reach r) (State.tryHost s0 x1) := by
  unfold State.tryHost
  split
  · rename_i d0 d1 d2 d3
    refine ite_k (PairK AnyK (Reach r)) (.mk any_k f0) ?_
    refine ite_k (PairK AnyK (Reach r)) (.mk any_k (State.refuseNp_reach f0)) ?_
    exact ite_k (PairK AnyK (Reach r)) (.mk any_k (State.refuseNp_reach f0)) (.mk any_k (State.complTl_reach f0))
  · rename_i d4 d5 d6 d7 d8
    refine ite_k (PairK AnyK (Reach r)) (.mk any_k (State.refusePw_reach f0)) ?_
    refine ite_k (PairK AnyK (Reach r)) (.mk any_k (State.refusePw_reach f0)) ?_
    exact ite_k (PairK AnyK (Reach r)) (.mk any_k (State.askLines_reach f0)) (.mk any_k (State.hostBytes_reach f0))
  · rename_i d9 d10 d11 d12 d13 d14
    refine ite_k (PairK AnyK (Reach r)) (.mk any_k (State.refusePw_reach f0)) ?_
    refine ite_k (PairK AnyK (Reach r)) (.mk any_k (State.smpMasked_reach f0)) ?_
    refine ite_k (PairK AnyK (Reach r)) (.mk any_k (State.askLines_reach f0)) ?_
    extract_lets v15 t16 v17 t18
    clear_value v15
    have h19 : Reach r t16 := State.hostBytes_reach f0
    clear_value t16 v17
    have h20 : Reach r t18 := by
      unfold t18
      refine foldl_k (Reach r) h19 ?_
      intro t21 h22 d23
      exact State.poison_reach h22
    clear_value t18
    refine .mk any_k ?_
    refine ite_k (Reach r) ?_ h20
    refine foldl_k (Reach r) h20 ?_
    intro t24 h25 d26
    exact State.poison_reach h25
  · rename_i d27 d28 d29 d30 d31
    extract_lets v32 v33 t34
    clear_value v32 v33
    have h35 : Reach r t34 := State.fire_reach (State.setNum_reach f0)
    clear_value t34
    refine ite_k (PairK AnyK (Reach r)) (.mk any_k (State.refuseNp_reach f0)) ?_
    refine ite_k (PairK AnyK (Reach r)) (.mk any_k (State.refuseNp_reach f0)) ?_
    refine ite_k (PairK AnyK (Reach r)) (.mk any_k (State.askLines_reach f0)) ?_
    exact ite_k (PairK AnyK (Reach r)) (.mk any_k (State.complTl_reach f0)) (.mk any_k (State.complTl_reach h35))
  · rename_i d36 d37 d38 d39
    refine ite_k (PairK AnyK (Reach r)) (.mk any_k f0) ?_
    refine ite_k (PairK AnyK (Reach r)) (.mk any_k (State.refuseNp_reach f0)) ?_
    refine ite_k (PairK AnyK (Reach r)) (.mk any_k (State.refuseNp_reach f0)) ?_
    exact ite_k (PairK AnyK (Reach r)) (.mk any_k (State.evictOldest_reach f0)) (.mk any_k (State.grantLine_reach f0))
  · rename_i d40 d41 d42 d43
    exact .mk any_k (State.takeReturn_reach f0)

theorem State.drainIn_reach {s0 x1} (f0 : Reach r s0) :
    Reach r (State.drainIn s0 x1) := by
  induction x1 generalizing s0 with
  | nil =>
    rw [State.drainIn]
    exact .upd f0
  | cons y0 y1 ih2 =>
    rw [State.drainIn]
    exact ite_k (Reach r) (ih2 (snd_k AnyK (State.tryHost_reach f0))) (.upd (snd_k AnyK (State.tryHost_reach f0)))

theorem State.hostOp_reach {s0 x1} (f0 : Reach r s0) :
    Reach r (State.hostOp s0 x1) := by
  unfold State.hostOp
  exact ite_k (Reach r) f0 (State.drainIn_reach f0)

theorem execRead_reach {x0 x1 x2 s3} (f3 : Reach r s3) :
    OutK (Reach r) (execRead x0 x1 x2 s3) := by
  unfold execRead
  exact .next (State.hostOp_reach f3)

theorem execWrite_reach {x0 x1 x2 x3 x4 s5} (f5 : Reach r s5) :
    OutK (Reach r) (execWrite x0 x1 x2 x3 x4 s5) := by
  unfold execWrite
  exact .next (State.hostOp_reach f5)

theorem execWriteMasked_reach {x0 x1 x2 x3 x4 s5} (f5 : Reach r s5) :
    OutK (Reach r) (execWriteMasked x0 x1 x2 x3 x4 s5) := by
  unfold execWriteMasked
  exact .next (State.hostOp_reach f5)

theorem execAtomic_reach {x0 x1 x2 x3 s4} (f4 : Reach r s4) :
    OutK (Reach r) (execAtomic x0 x1 x2 x3 s4) := by
  unfold execAtomic
  exact .next (State.hostOp_reach f4)

theorem execShare_reach {x0 x1 s2} (f2 : Reach r s2) :
    OutK (Reach r) (execShare x0 x1 s2) := by
  unfold execShare
  exact .next (State.hostOp_reach f2)

theorem execOwn_reach {x0 x1 s2} (f2 : Reach r s2) :
    OutK (Reach r) (execOwn x0 x1 s2) := by
  unfold execOwn
  exact .next (State.hostOp_reach f2)

theorem execReturnLine_reach {x0 x1 x2 x3 x4 s5} (f5 : Reach r s5) :
    OutK (Reach r) (execReturnLine x0 x1 x2 x3 x4 s5) := by
  unfold execReturnLine
  extract_lets v0 v1
  clear_value v0 v1
  refine .next ?_
  refine ite_k (Reach r) f5 ?_
  exact ite_k (Reach r) (State.refusePw_reach f5) (ite_k (Reach r) (State.takeReturn_reach f5) (State.hostOp_reach
      f5))

theorem State.resume__reach {s0 x1 x2} (f0 : Reach r s0) :
    Reach r (State.resume_ s0 x1 x2) := by
  unfold State.resume_
  extract_lets t0
  have h1 : Reach r t0 := by
    unfold t0
    refine foldl_k (Reach r) f0 ?_
    intro t2 h3 d4
    split
    · rename_i d5 d6 d7
      exact State.putLine_reach h3
    · rename_i d8
      exact h3
  clear_value t0
  exact ite_k (Reach r) (State.drdy_reach h1) h1

theorem State.endSnoop_reach {s0 x1} (f0 : Reach r s0) :
    Reach r (State.endSnoop s0 x1) := by
  unfold State.endSnoop
  extract_lets v0 t1 t2
  clear_value v0
  have h3 : Reach r t1 := .upd f0
  clear_value t1
  have h4 : Reach r t2 := State.resume__reach h3
  clear_value t2
  exact State.drainIn_reach h4

theorem execSnoopRsp_reach {x0 x1 x2 x3 s4} (f4 : Reach r s4) :
    OutK (Reach r) (execSnoopRsp x0 x1 x2 x3 s4) := by
  unfold execSnoopRsp
  extract_lets v0 v1 t2 v3
  clear_value v0 v1
  have h4 : Reach r t2 := ite_k (Reach r) (State.hostBytes_reach f4) f4
  clear_value t2 v3
  refine .next ?_
  refine ite_k (Reach r) f4 ?_
  split
  · rename_i d5 e6
    exact f4
  · rename_i d7 d8 e9
    extract_lets t10
    have h11 : Reach r t10 := ite_k (Reach r) (State.filterView_reach (State.dropCopy_reach h4)) (.upd h4)
    clear_value t10
    exact State.endSnoop_reach h11

theorem execSnoopTimeout_reach {x0 s1} (f1 : Reach r s1) :
    OutK (Reach r) (execSnoopTimeout x0 s1) := by
  unfold execSnoopTimeout
  refine .next ?_
  split
  · rename_i d0 e1
    exact f1
  · rename_i d2 d3 e4
    refine ite_k (Reach r) f1 ?_
    extract_lets t5 t6 t7
    have h8 : Reach r t5 := State.filterView_reach (State.dropCopy_reach f1)
    clear_value t5
    have h9 : Reach r t6 := State.addSat_reach (State.addSat_reach h8)
    clear_value t6
    have h10 : Reach r t7 := State.linkError_reach (State.tlLog_reach h9)
    clear_value t7
    exact State.endSnoop_reach h10

theorem execWatchPoll_reach {s0} (f0 : Reach r s0) :
    OutK (Reach r) (execWatchPoll s0) := by
  unfold execWatchPoll
  refine .next ?_
  refine ite_k (Reach r) f0 ?_
  extract_lets v0 v1 v2 v3 t4
  clear_value v0 v1 v2 v3
  have h5 : Reach r t4 := .upd f0
  clear_value t4
  exact State.askLines_reach h5

theorem State.readOver_reach {s0 x1} (f0 : Reach r s0) :
    Reach r (State.readOver s0 x1) := by
  unfold State.readOver
  extract_lets v0 t1 v2 v3
  clear_value v0
  have h4 : Reach r t1 := .upd f0
  clear_value t1 v2 v3
  split
  · rename_i d5 e6
    exact h4
  · rename_i d7 d8 e9
    exact State.askHost_reach h4

theorem execCpl_reach {x0 x1 x2 x3 s4} (f4 : Reach r s4) :
    OutK (Reach r) (execCpl x0 x1 x2 x3 s4) := by
  unfold execCpl
  refine .next ?_
  refine ite_k (Reach r) f4 ?_
  split
  · rename_i d0 e1
    exact f4
  · rename_i d2 d3 e4
    extract_lets v5 t6
    clear_value v5
    have h7 : Reach r t6 := ite_k (Reach r) (State.setBytes_reach f4) f4
    clear_value t6
    exact State.readOver_reach (ite_k (Reach r) (State.poison_reach h7) h7)

theorem execCplTimeout_reach {x0 s1} (f1 : Reach r s1) :
    OutK (Reach r) (execCplTimeout x0 s1) := by
  unfold execCplTimeout
  refine .next ?_
  split
  · rename_i d0 e1
    exact f1
  · rename_i d2 d3 e4
    exact ite_k (Reach r) f1 (State.readOver_reach (State.tlLog_reach (State.poison_reach f1)))

theorem execTlCredit_reach {x0 x1 x2 s3} (f3 : Reach r s3) :
    OutK (Reach r) (execTlCredit x0 x1 x2 s3) := by
  unfold execTlCredit
  exact .next (State.sendHeld_reach (.upd f3))

theorem State.setTl_reach {s0 x1} (f0 : Reach r s0) :
    Reach r (State.setTl s0 x1) := by
  unfold State.setTl
  exact State.setFld_reach f0

theorem State.dropHeld_reach {s0} (f0 : Reach r s0) :
    Reach r (State.dropHeld s0) := by
  unfold State.dropHeld
  extract_lets v0 v1 t2
  clear_value v0 v1
  have h3 : Reach r t2 := .upd f0
  clear_value t2
  refine foldl_k (Reach r) h3 ?_
  intro t4 h5 d6
  split
  · rename_i d7 d8 d9
    exact State.dropWrite_reach h5
  · rename_i d10 d11 d12
    exact State.dropWrite_reach h5
  · rename_i d13 e14 e15
    exact h5

theorem State.loseLines_reach {s0} (f0 : Reach r s0) :
    Reach r (State.loseLines s0) := by
  unfold State.loseLines
  extract_lets t0 v1 v2 t3 t4
  have h5 : Reach r t0 := State.addSat_reach f0
  clear_value t0 v1 v2
  have h6 : Reach r t3 := State.filterView_reach (.upd h5)
  clear_value t3
  have h7 : Reach r t4 := by
    unfold t4
    refine foldl_k (Reach r) h6 ?_
    intro t8 h9 d10
    exact State.resume__reach h9
  clear_value t4
  exact State.drainIn_reach h7

theorem State.tlDown_reach {s0 x1} (f0 : Reach r s0) :
    Reach r (State.tlDown s0 x1) := by
  unfold State.tlDown
  extract_lets t0 t1 v2 t3 t4
  have h5 : Reach r t0 := State.setFld_reach (State.setTl_reach f0)
  clear_value t0
  have h6 : Reach r t1 := State.addSat_reach h5
  clear_value t1 v2
  have h7 : Reach r t3 := .upd h6
  clear_value t3
  have h8 : Reach r t4 := State.loseLines_reach (State.dropHeld_reach h7)
  clear_value t4
  exact State.abortEngines_reach h8

theorem State.enterRecovery_reach {s0} (f0 : Reach r s0) :
    Reach r (State.enterRecovery s0) := by
  unfold State.enterRecovery
  extract_lets v0 t1 v2 t3
  clear_value v0
  have h4 : Reach r t1 := State.addSat_reach (State.setTl_reach f0)
  clear_value t1 v2
  have h5 : Reach r t3 := .upd h4
  clear_value t3
  exact ite_k (Reach r) (State.tlDown_reach h5) h5

theorem State.lanesUse_reach {s0 x1 x2 x3} (f0 : Reach r s0) :
    Reach r (State.lanesUse s0 x1 x2 x3) := by
  unfold State.lanesUse
  refine foldl_k (Reach r) f0 ?_
  intro t0 h1 d2
  exact State.setFld_reach h1

theorem State.tlActive_reach {s0 x1 x2 x3} (f0 : Reach r s0) :
    Reach r (State.tlActive s0 x1 x2 x3) := by
  unfold State.tlActive
  extract_lets t0 t1 v2
  have h3 : Reach r t0 := State.setBit_reach (State.setTl_reach f0)
  clear_value t0
  have h4 : Reach r t1 := State.lanesUse_reach (State.setBit_reach h3)
  clear_value t1 v2
  exact State.sendHeld_reach (.upd h4)

theorem execTlReplay_reach {x0 x1 s2} (f2 : Reach r s2) :
    OutK (Reach r) (execTlReplay x0 x1 s2) := by
  unfold execTlReplay
  refine .next ?_
  refine ite_k (Reach r) f2 ?_
  split
  · rename_i d0
    exact State.addSat_reach (State.addSat_reach f2)
  · rename_i d1
    extract_lets t2 v3
    have h4 : Reach r t2 := State.addSat_reach (State.addSat_reach f2)
    clear_value t2 v3
    exact .upd h4
  · rename_i d5
    extract_lets t6 v7 v8
    have h9 : Reach r t6 := State.addSat_reach (State.addSat_reach f2)
    clear_value t6 v7 v8
    exact ite_k (Reach r) (State.enterRecovery_reach h9) (.upd h9)

theorem execTlRecovery_reach {x0 x1 s2} (f2 : Reach r s2) :
    OutK (Reach r) (execTlRecovery x0 x1 s2) := by
  unfold execTlRecovery
  extract_lets t0 v1 v2
  have h3 : Reach r t0 := ite_k (Reach r) (State.enterRecovery_reach f2) f2
  clear_value t0 v1 v2
  refine .next ?_
  refine ite_k (Reach r) h3 ?_
  refine ite_k (Reach r) (State.tlDown_reach h3) ?_
  split
  · rename_i d4 e5
    exact State.tlDown_reach h3
  · rename_i d6 d7 d8 e9
    exact ite_k (Reach r) (State.tlActive_reach h3) (State.tlActive_reach h3)

theorem State.laneTraining_reach {s0 x1} (f0 : Reach r s0) :
    Reach r (State.laneTraining s0 x1) := by
  unfold State.laneTraining
  extract_lets t0 v1 t2 t3
  have h4 : PairK AnyK (Reach r) t0 := State.drawList_reach f0
  clear_value t0 v1
  have h5 : Reach r t2 := snd_k AnyK h4
  clear_value t2
  have h6 : Reach r t3 := State.setBit_reach h5
  clear_value t3
  refine foldl_k (Reach r) h6 ?_
  intro t7 h8 d9
  extract_lets v10 t11 t12
  clear_value v10
  have h13 : Reach r t11 := State.setBit_reach h8
  clear_value t11
  have h14 : Reach r t12 := State.setFld_reach h13
  clear_value t12
  exact State.setFld_reach h14

theorem execTlTraining_reach {x0 s1} (f1 : Reach r s1) :
    OutK (Reach r) (execTlTraining x0 s1) := by
  unfold execTlTraining
  refine .next ?_
  refine ite_k (Reach r) f1 ?_
  refine ite_k (Reach r) (State.tlDown_reach f1) ?_
  extract_lets t0 t1
  have h2 : Reach r t0 := State.laneTraining_reach f1
  clear_value t0
  have h3 : Reach r t1 := State.setFld_reach h2
  clear_value t1
  split
  · rename_i d4 e5
    exact State.tlDown_reach h3
  · rename_i d6 d7 e8
    extract_lets v9 t10 t11 t12 t13 t14 v15 v16 t17
    clear_value v9
    have h18 : Reach r t10 := State.setFld_reach h3
    clear_value t10
    have h19 : Reach r t11 := State.setFld_reach h18
    clear_value t11
    have h20 : Reach r t12 := State.setFld_reach h19
    clear_value t12
    have h21 : Reach r t13 := State.setFld_reach h20
    clear_value t13
    have h22 : Reach r t14 := State.setFld_reach h21
    clear_value t14 v15 v16
    have h23 : Reach r t17 := .upd h22
    clear_value t17
    split
    · rename_i d24 e25
      exact State.tlDown_reach h3
    · rename_i d26 d27 d28 e29
      extract_lets t30
      have h31 : Reach r t30 := State.tlActive_reach h23
      clear_value t30
      exact ite_k (Reach r) (State.event_reach h31) (State.mailboxUp_reach h31)

theorem execTlDown_reach {s0} (f0 : Reach r s0) :
    OutK (Reach r) (execTlDown s0) := by
  unfold execTlDown
  refine .next ?_
  refine ite_k (Reach r) f0 ?_
  exact ite_k (Reach r) (State.tlDown_reach f0) (ite_k (Reach r) (State.tlDown_reach f0) (State.tlDown_reach f0))

theorem execTlDownRetry_reach {s0} (f0 : Reach r s0) :
    OutK (Reach r) (execTlDownRetry s0) := by
  unfold execTlDownRetry
  exact .next (ite_k (Reach r) (State.setTl_reach f0) f0)

theorem State.retrain_reach {s0} (f0 : Reach r s0) :
    Reach r (State.retrain s0) := by
  unfold State.retrain
  exact ite_k (Reach r) (State.enterRecovery_reach (.upd f0)) (ite_k (Reach r) (State.setTl_reach f0) f0)

theorem execRetrain_reach {s0} (f0 : Reach r s0) :
    OutK (Reach r) (execRetrain s0) := by
  unfold execRetrain
  exact .next (State.retrain_reach f0)

theorem execFullTrain_reach {s0} (f0 : Reach r s0) :
    OutK (Reach r) (execFullTrain s0) := by
  unfold execFullTrain
  exact .next (State.setTl_reach f0)

/-! ## Stop -/

theorem State.endRound_reach {s0 x1 x2 x3 x4} (f0 : Reach r s0) :
    Reach r (State.endRound s0 x1 x2 x3 x4) := by
  unfold State.endRound
  extract_lets v0 t1 v2 t3 t4 t5
  clear_value v0
  have h6 : Reach r t1 := State.setFld_reach (State.setBit_reach f0)
  clear_value t1 v2
  have h7 : Reach r t3 := State.setFld_reach h6
  clear_value t3
  have h8 : Reach r t4 := State.setFld_reach h7
  clear_value t4
  have h9 : Reach r t5 := State.setReg_reach h8
  clear_value t5
  exact State.setCtx_reach h9

theorem State.abandonRound_reach {s0 x1} (f0 : Reach r s0) :
    Reach r (State.abandonRound s0 x1) := by
  unfold State.abandonRound
  extract_lets t0 v1
  have h2 : Reach r t0 := by
    unfold t0
    refine ite_k (Reach r) ?_ f0
    refine State.endRound_reach ?_
    refine foldl_k (Reach r) f0 ?_
    intro t3 h4 d5
    exact State.hashStop_reach h4
  clear_value t0 v1
  exact State.setCtx_reach h2

theorem State.endJoin_reach {s0 x1} (f0 : Reach r s0) :
    Reach r (State.endJoin s0 x1) := by
  unfold State.endJoin
  refine ite_k (Reach r) ?_ f0
  refine State.complete_reach (.upd f0) ?_
  intro t0 h1 d2
  exact State.reply_reach h1

theorem State.closeRings_reach {s0 x1} (f0 : Reach r s0) :
    Reach r (State.closeRings s0 x1) := by
  unfold State.closeRings
  extract_lets v0 t1 t2 t3
  clear_value v0
  have h4 : Reach r t1 := State.setCtx_reach f0
  clear_value t1
  have h5 : Reach r t2 := State.setBit_reach h4
  clear_value t2
  have h6 : Reach r t3 := by
    unfold t3
    refine foldl_k (Reach r) h5 ?_
    intro t7 h8 d9
    exact State.ringRead_reach h8
  clear_value t3
  exact State.dropAll_reach h6

theorem State.faultEvent_reach {s0 x1 x2 x3} (f0 : Reach r s0) :
    Reach r (State.faultEvent s0 x1 x2 x3) := by
  unfold State.faultEvent
  exact State.event_reach f0

theorem State.toFaulted_reach {s0 x1 x2 x3} (f0 : Reach r s0) :
    Reach r (State.toFaulted s0 x1 x2 x3) := by
  unfold State.toFaulted
  exact State.faultEvent_reach (State.setCState_reach (State.setReason_reach f0))

theorem State.replyStops_reach {s0 x1 x2} (f0 : Reach r s0) :
    Reach r (State.replyStops s0 x1 x2) := by
  unfold State.replyStops
  extract_lets t0
  have h1 : Reach r t0 := by
    unfold t0
    refine State.complete_reach f0 ?_
    intro t2 h3 d4
    exact State.okForm_reach h3
  clear_value t0
  refine ite_k (Reach r) ?_ h1
  refine State.complete_reach h1 ?_
  intro t5 h6 d7
  exact State.replyRaw_reach h6

theorem State.endStop_reach {s0 x1 x2} (f0 : Reach r s0) :
    Reach r (State.endStop s0 x1 x2) := by
  unfold State.endStop
  extract_lets t0 t1 t2 v3
  have h4 : Reach r t0 := by
    unfold t0
    refine State.setDrained_reach ?_
    exact State.haltCtx_reach (State.stopStreams_reach (State.ndcCtx_reach (State.stopTests_reach f0)))
  clear_value t0
  have h5 : Reach r t1 := State.setBit_reach (State.abandonRound_reach h4)
  clear_value t1
  have h6 : Reach r t2 := by
    unfold t2
    split
    · rename_i d7 e8
      exact State.setCState_reach h5
    · rename_i d9 d10 d11 e12
      exact State.toFaulted_reach h5
    · rename_i d13 e14
      exact State.setCState_reach h5
    · rename_i d15 e16
      exact State.toFaulted_reach h5
  clear_value t2 v3
  exact State.replyStops_reach (State.setCtx_reach h6)

theorem State.abortCtx_reach {s0 x1} (f0 : Reach r s0) :
    Reach r (State.abortCtx s0 x1) := by
  unfold State.abortCtx
  extract_lets t0 t1 t2
  have h3 : Reach r t0 := State.endJoin_reach f0
  clear_value t0
  have h4 : Reach r t1 := ite_k (Reach r) (State.closeRings_reach h3) h3
  clear_value t1
  have h5 : Reach r t2 := State.setFld_reach (State.setCState_reach h4)
  clear_value t2
  exact State.endStop_reach h5

theorem State.drainCtx_reach {s0 x1 x2} (f0 : Reach r s0) :
    Reach r (State.drainCtx s0 x1 x2) := by
  unfold State.drainCtx
  extract_lets t0 t1 v2
  have h3 : Reach r t0 := State.closeRings_reach (State.endJoin_reach f0)
  clear_value t0
  have h4 : Reach r t1 := State.setFld_reach (State.setCState_reach h3)
  clear_value t1 v2
  exact State.setCtx_reach h4

theorem State.ctxFault_reach {s0 x1 x2 x3} (f0 : Reach r s0) :
    Reach r (State.ctxFault s0 x1 x2 x3) := by
  unfold State.ctxFault
  refine ite_k (Reach r) (State.faultEvent_reach f0) ?_
  split
  · rename_i d0 e1
    exact State.abortCtx_reach (State.setCtx_reach f0)
  · rename_i d2 e3
    exact State.abortCtx_reach (State.setCtx_reach f0)
  · rename_i d4 e5
    exact State.toFaulted_reach (State.endJoin_reach f0)
  · rename_i d6 e7
    exact State.toFaulted_reach f0
  · rename_i d8 e9 e10 e11 e12
    exact f0

theorem State.endBeyond_reach {s0 x1 x2} (f0 : Reach r s0) :
    Reach r (State.endBeyond s0 x1 x2) := by
  unfold State.endBeyond
  extract_lets v0 t1
  clear_value v0
  have h2 : Reach r t1 := by
    unfold t1
    refine foldl_k (Reach r) f0 ?_
    intro t3 h4 d5
    exact State.endRecord_reach h4
  clear_value t1
  refine foldl_k (Reach r) h2 ?_
  intro t6 h7 d8
  extract_lets v9
  clear_value v9
  exact State.setSlot_reach h7

theorem State.restartKept_reach {s0 x1} (f0 : Reach r s0) :
    Reach r (State.restartKept s0 x1) := by
  unfold State.restartKept
  exact State.recheck_reach (State.skipGathers_reach (State.startCtx_reach f0))

theorem State.reconfigure_reach {s0 x1} (f0 : Reach r s0) :
    Reach r (State.reconfigure s0 x1) := by
  unfold State.reconfigure
  extract_lets v0 t1 t2 t3 t4 v5 t6 t7
  clear_value v0
  have h8 : Reach r t1 := State.setDrained_reach (State.haltCtx_reach (State.ndcCtx_reach f0))
  clear_value t1
  have h9 : Reach r t2 := State.abandonRound_reach h8
  clear_value t2 v5
  have h10 : Reach r t6 := State.clearProxies_reach (State.clearBudgets_reach (State.clearRoutes_reach h9))
  clear_value t6
  have h11 : Reach r t7 := by
    unfold t7
    refine foldl_k (Reach r) h10 ?_
    intro t12 h13 d14
    exact State.clearUnits_reach (State.resetRegs_reach h13)
  clear_value t7
  split
  · rename_i d15 d16 e17
    unfold t4
    refine State.complete_reach ?_ ?_
    · unfold t3
      exact State.restartKept_reach (State.setBit_reach (State.setReason_reach h9))
    · intro t18 h19 d20
      exact State.refuse_reach h19
  · rename_i d21 d22 e23
    split
    · rename_i t24 d25 t26 e27
      have h28 := use_k (SumK (PairK AnyK (Reach r)) (Reach r)) e27 (State.stagePlate_reach h11)
      have h29 := inl_out h28
      clear h28
      have h30 := pair_snd h29
      clear h29
      unfold t4
      refine State.complete_reach ?_ ?_
      · unfold t3
        exact State.restartKept_reach (State.setBit_reach (State.setReason_reach h9))
      · intro t31 h32 d33
        exact State.refuse_reach h32
    · rename_i t34 t35 e36
      have h37 := use_k (SumK (PairK AnyK (Reach r)) (Reach r)) e36 (State.stagePlate_reach h11)
      have h38 := inr_out h37
      clear h37
      split
      · rename_i d39 d40 e41
        unfold t4
        refine State.complete_reach ?_ ?_
        · unfold t3
          exact State.restartKept_reach (State.setBit_reach (State.setReason_reach h9))
        · intro t42 h43 d44
          exact State.refuse_reach h43
      · rename_i d45 e46
        extract_lets t47 t48 t49
        have h50 : Reach r t47 := by
          unfold t47
          refine foldl_k (Reach r) h38 ?_
          intro t51 h52 d53
          exact State.leaveLease_reach h52
        clear_value t47
        have h54 : Reach r t48 := State.finishLoad_reach (State.endBeyond_reach h50)
        clear_value t48
        have h55 : Reach r t49 := by
          unfold t49
          refine State.publish_reach ?_
          unfold t3
          exact State.restartKept_reach (State.setBit_reach h54)
        clear_value t49
        refine State.complete_reach h55 ?_
        intro t56 h57 d58
        exact State.ok_reach h57

theorem execContextDrainComplete_reach {x0 s1} (f1 : Reach r s1) :
    OutK (Reach r) (execContextDrainComplete x0 s1) := by
  unfold execContextDrainComplete
  refine .next ?_
  refine ite_k (Reach r) ?_ f1
  exact ite_k (Reach r) (State.reconfigure_reach (State.setCtx_reach f1)) (State.endStop_reach f1)

/-! ## ExtMem -/

theorem State.setMc_reach {s0 x1 x2} (f0 : Reach r s0) :
    Reach r (State.setMc s0 x1 x2) := by
  unfold State.setMc
  exact .upd f0

theorem State.countCe_reach {s0 x1 x2} (f0 : Reach r s0) :
    Reach r (State.countCe s0 x1 x2) := by
  unfold State.countCe
  extract_lets t0 v1
  have h2 : Reach r t0 := ite_k (Reach r) (State.addSat_reach f0) (State.addSat_reach f0)
  clear_value t0 v1
  exact ite_k (Reach r) (State.setMc_reach h2) (State.setMc_reach h2)

theorem State.repairHbm_reach {s0 x1 x2 x3 x4} (f0 : Reach r s0) :
    Reach r (State.repairHbm s0 x1 x2 x3 x4) := by
  unfold State.repairHbm
  refine ite_k (Reach r) (State.addSat_reach (.upd f0)) ?_
  extract_lets v0 v1
  clear_value v0 v1
  exact ite_k (Reach r) f0 (State.addSat_reach (.upd f0))

theorem State.rowEvent_reach {s0 x1 x2 x3 x4} (f0 : Reach r s0) :
    Reach r (State.rowEvent s0 x1 x2 x3 x4) := by
  unfold State.rowEvent
  extract_lets v0 v1
  clear_value v0 v1
  split
  · rename_i d2 d3 e4
    exact State.repairHbm_reach (State.setMc_reach f0)
  · rename_i d5 e6
    exact State.setMc_reach f0

theorem State.memUe_reach {s0 x1 x2 x3 x4} (f0 : Reach r s0) :
    Reach r (State.memUe s0 x1 x2 x3 x4) := by
  unfold State.memUe
  extract_lets t0 v1 t2 t3 v4 t5 v6 t7 t8 t9
  have h10 : PairK AnyK (Reach r) t0 := State.draw_reach f0
  clear_value t0 v1
  have h11 : Reach r t2 := snd_k AnyK h10
  clear_value t2
  have h12 : Reach r t3 := State.addSat_reach h11
  clear_value t3 v4
  have h13 : PairK AnyK (Reach r) t5 := State.draw_reach h11
  clear_value t5 v6
  have h14 : Reach r t7 := snd_k AnyK h13
  clear_value t7
  have h15 : Reach r t8 := State.addSat_reach h14
  clear_value t8
  have h16 : Reach r t9 := ite_k (Reach r) (State.logOnce_reach h12) (State.logOnce_reach h15)
  clear_value t9
  exact State.event_reach h16

theorem State.loseWords_reach {s0 x1 x2} (f0 : Reach r s0) :
    Reach r (State.loseWords s0 x1 x2) := by
  unfold State.loseWords
  exact .upd f0

theorem execControllerPatrolScrub_reach {x0 x1 x2 x3 x4 s5} (f5 : Reach r s5) :
    OutK (Reach r) (execControllerPatrolScrub x0 x1 x2 x3 x4 s5) := by
  unfold execControllerPatrolScrub
  extract_lets v0 v1 v2 v3 t4
  clear_value v0 v1 v3
  have h5 : Reach r t4 := State.countCe_reach f5
  clear_value t4
  refine .next ?_
  refine ite_k (Reach r) f5 ?_
  split
  · rename_i d6
    exact f5
  · rename_i d7
    exact ite_k (Reach r) (State.rowEvent_reach h5) h5
  · rename_i d8 d9
    refine ite_k (Reach r) f5 ?_
    extract_lets t10
    have h11 : Reach r t10 := State.memUe_reach (State.loseWords_reach f5)
    clear_value t10
    exact ite_k (Reach r) (State.repairHbm_reach h11) h11

theorem execHbmEcsPoll_reach {x0 x1 x2 s3} (f3 : Reach r s3) :
    OutK (Reach r) (execHbmEcsPoll x0 x1 x2 s3) := by
  unfold execHbmEcsPoll
  refine .next ?_
  refine ite_k (Reach r) f3 ?_
  extract_lets t0
  have h1 : Reach r t0 := ite_k (Reach r) f3 (State.countCe_reach f3)
  clear_value t0
  split
  · rename_i d2
    exact h1
  · rename_i d3 d4
    extract_lets v5
    clear_value v5
    exact State.memUe_reach (State.loseWords_reach h1)

theorem execMemCeRate_reach {x0 s1} (f1 : Reach r s1) :
    OutK (Reach r) (execMemCeRate x0 s1) := by
  unfold execMemCeRate
  extract_lets v0
  clear_value v0
  exact .next (ite_k (Reach r) (State.event_reach (State.setMc_reach f1)) f1)

theorem State.setXts_reach {s0 x1} (f0 : Reach r s0) :
    Reach r (State.setXts s0 x1) := by
  unfold State.setXts
  extract_lets v0 v1
  clear_value v0 v1
  refine foldl_k (Reach r) f0 ?_
  intro t2 h3 d4
  extract_lets v5
  clear_value v5
  refine foldl_k (Reach r) h3 ?_
  intro t6 h7 d8
  extract_lets v9 v10
  clear_value v9 v10
  split
  · rename_i d11 e12
    exact State.setReg_reach (State.setReg_reach h7)
  · rename_i d13 d14 d15 e16
    extract_lets t17
    have h18 : Reach r t17 := State.setReg_reach h7
    clear_value t17
    exact State.setReg_reach h18

theorem State.followXts_reach {s0 x1} (f0 : Reach r s0) :
    Reach r (State.followXts s0 x1) := by
  unfold State.followXts
  exact ite_k (Reach r) (State.setXts_reach f0) f0

theorem State.openAlloc_reach {s0 x1 x2} (f0 : Reach r s0) :
    OptK (Reach r) (State.openAlloc s0 x1 x2) := by
  unfold State.openAlloc
  extract_lets t0
  have h1 : Reach r t0 := .upd f0
  clear_value t0
  exact ite_k (OptK (Reach r)) (.none) (.some (State.followXts_reach h1))

theorem execMemAlloc_reach {x0 x1 x2 x3 s4} (f4 : Reach r s4) :
    OutK (Reach r) (execMemAlloc x0 x1 x2 x3 s4) := by
  unfold execMemAlloc
  extract_lets v0 v1 v2
  clear_value v0 v1 v2
  refine .next ?_
  refine State.command_reach f4 ?_
  intro d3 t4 h5
  extract_lets v6
  clear_value v6
  split
  · rename_i d7 e8
    exact State.reply_reach h5
  · rename_i d9 d10 e11
    refine ite_k (Reach r) ?_ ?_
    · refine elim_k (Reach r) (State.openAlloc_reach h5) (State.reply_reach h5) ?_
      intro t12 h13
      exact State.ok_reach h13
    · split
      · rename_i d14 e15
        exact State.reply_reach h5
      · rename_i d16 d17 e18
        extract_lets v19 t20
        clear_value v19
        have h21 : Reach r t20 := .upd h5
        clear_value t20
        exact State.ok_reach (State.openAs_reach h21)

theorem execMemFree_reach {x0 x1 s2} (f2 : Reach r s2) :
    OutK (Reach r) (execMemFree x0 x1 s2) := by
  unfold execMemFree
  refine .next ?_
  refine State.command_reach f2 ?_
  intro d0 t1 h2
  split
  · rename_i d3 e4
    exact State.reply_reach h2
  · rename_i d5 d6 e7
    extract_lets t8 t9
    have h10 : Reach r t8 := ite_k (Reach r) (State.zeroRange_reach h2) h2
    clear_value t8
    have h11 : Reach r t9 := by
      unfold t9
      split
      · rename_i d12 d13 e14
        exact State.closeRange_reach h10
      · rename_i d15 e16
        exact h10
    clear_value t9
    exact State.ok_reach (State.followXts_reach (.upd h11))

theorem execXeAssign_reach {x0 x1 x2 x3 x4 x5 s6} (f6 : Reach r s6) :
    OutK (Reach r) (execXeAssign x0 x1 x2 x3 x4 x5 s6) := by
  unfold execXeAssign
  extract_lets v0 v1 v2 v3 v4 v5
  clear_value v0 v1 v2 v3 v4 v5
  refine .next ?_
  refine State.command_reach f6 ?_
  intro d6 t7 h8
  extract_lets v9 t10 t11 t12 t13 t14
  clear_value v9
  have h15 : Reach r t10 := State.setBit_reach (State.setBit_reach h8)
  clear_value t10
  have h16 : Reach r t11 := State.setFld_reach h15
  clear_value t11
  have h17 : Reach r t12 := State.setReg_reach h16
  clear_value t12
  have h18 : Reach r t13 := State.setReg_reach h17
  clear_value t13
  have h19 : Reach r t14 := State.engView_reach (State.setEng_reach h18)
  clear_value t14
  refine ite_k (Reach r) (State.reply_reach h8) ?_
  exact ite_k (Reach r) (State.reply_reach h8) (State.ok_reach (State.putNum_reach (State.putNum_reach h19)))

theorem execXeStop_reach {x0 x1 s2} (f2 : Reach r s2) :
    OutK (Reach r) (execXeStop x0 x1 s2) := by
  unfold execXeStop
  extract_lets v0
  clear_value v0
  refine .next ?_
  refine State.command_reach f2 ?_
  intro d1 t2 h3
  exact ite_k (Reach r) (State.okForm_reach h3) (State.xeHalt_reach (State.await_reach h3))

theorem execXeResume_reach {x0 x1 s2} (f2 : Reach r s2) :
    OutK (Reach r) (execXeResume x0 x1 s2) := by
  unfold execXeResume
  extract_lets v0
  clear_value v0
  refine .next ?_
  refine State.command_reach f2 ?_
  intro d1 t2 h3
  exact ite_k (Reach r) (State.reply_reach h3) (State.ok_reach (State.xeResume_reach h3))

theorem execMemQuery_reach {x0 s1} (f1 : Reach r s1) :
    OutK (Reach r) (execMemQuery x0 s1) := by
  unfold execMemQuery
  refine .next ?_
  refine State.command_reach f1 ?_
  intro d0 t1 h2
  exact State.ok_reach h2

/-! ## Spill -/

theorem State.spillRing_reach {s0 x1 x2 x3} (f0 : Reach r s0) :
    OptK (Reach r) (State.spillRing s0 x1 x2 x3) := by
  unfold State.spillRing
  refine map_k (Reach r) (State.ovfEnter_reach f0) ?_
  intro t0 h1
  refine foldl_k (Reach r) h1 ?_
  intro t2 h3 d4
  exact State.moveSender_reach h3

theorem State.spill_reach {s0 x1} (f0 : Reach r s0) :
    OptK (Reach r) (State.spill s0 x1) := by
  unfold State.spill
  refine foldl_k (OptK (Reach r)) (.some f0) ?_
  intro t0 h1 d2
  refine bind_k (Reach r) h1 ?_
  intro t3 h4
  exact State.spillRing_reach h4

theorem State.spillOrFail_reach {s0 x1} (f0 : Reach r s0) :
    Reach r (State.spillOrFail s0 x1) := by
  unfold State.spillOrFail
  exact getD_k (State.spill_reach f0) (State.ctxFault_reach f0)

theorem State.clearRefused_reach {s0 x1} (f0 : Reach r s0) :
    Reach r (State.clearRefused s0 x1) := by
  unfold State.clearRefused
  refine foldl_k (Reach r) f0 ?_
  intro t0 h1 d2
  refine foldl_k (Reach r) h1 ?_
  intro t3 h4 d5
  exact ite_k (Reach r) (State.setBit_reach h4) h4

theorem State.sampleCtx_reach {s0 x1} (f0 : Reach r s0) :
    Reach r (State.sampleCtx s0 x1) := by
  unfold State.sampleCtx
  extract_lets t0 v1 v2 v3 v4 v5 v6 v7 t8 t9
  have h10 : Reach r t0 := State.ndcCtx_reach f0
  clear_value t0 v1 v2 v3 v4 v5 v6 v7
  have h11 : Reach r t8 := State.setCtx_reach h10
  clear_value t8
  have h12 : Reach r t9 := by
    unfold t9
    refine ite_k (Reach r) (State.setCtx_reach h10) ?_
    exact ite_k (Reach r) (State.setCtx_reach h10) (ite_k (Reach r) (State.ctxFault_reach h11)
        (State.spillOrFail_reach h11))
  clear_value t9
  exact State.clearRefused_reach h12

theorem execProgressSample_reach {s0} (f0 : Reach r s0) :
    OutK (Reach r) (execProgressSample s0) := by
  unfold execProgressSample
  refine .next ?_
  refine foldl_k (Reach r) f0 ?_
  intro t0 h1 d2
  exact ite_k (Reach r) (State.sampleCtx_reach h1) h1

theorem execContextDrainTimeout_reach {x0 s1} (f1 : Reach r s1) :
    OutK (Reach r) (execContextDrainTimeout x0 s1) := by
  unfold execContextDrainTimeout
  refine .next ?_
  refine ite_k (Reach r) ?_ f1
  exact ite_k (Reach r) (State.abortCtx_reach f1) (State.spillOrFail_reach (State.setCtx_reach f1))

/-! ## Proof -/

theorem State.beginRound_reach {s0 x1 x2 x3} (f0 : Reach r s0) :
    Reach r (State.beginRound s0 x1 x2 x3) := by
  unfold State.beginRound
  extract_lets v0 t1 t2
  clear_value v0
  have h3 : Reach r t1 := State.setBit_reach f0
  clear_value t1
  have h4 : Reach r t2 := State.setCtx_reach h3
  clear_value t2
  exact State.pump_reach h4

theorem State.proofGather_reach {s0 x1 x2 x3} (f0 : Reach r s0) :
    Reach r (State.proofGather s0 x1 x2 x3) := by
  unfold State.proofGather
  extract_lets v0
  clear_value v0
  refine ite_k (Reach r) f0 ?_
  exact ite_k (Reach r) (ite_k (Reach r) f0 (State.addSat_reach (State.setCtx_reach f0))) (State.beginRound_reach f0)

theorem execGather_reach {x0 s1} (f1 : Reach r s1) :
    OutK (Reach r) (execGather x0 s1) := by
  unfold execGather
  refine .next ?_
  split
  · rename_i d0 e1
    exact f1
  · rename_i d2 d3 e4
    refine ite_k (Reach r) f1 ?_
    split
    · rename_i t5 e6
      exact f1
    · rename_i t7 t8 e9
      have h10 := use_k (OptK (Reach r)) e9 (State.gatherAll_reach f1)
      have h11 := some_out h10
      clear h10
      exact State.proofGather_reach h11

theorem State.tookHash_reach {s0 x1 x2} (f0 : Reach r s0) :
    Reach r (State.tookHash s0 x1 x2) := by
  unfold State.tookHash
  split
  · rename_i d0 e1
    exact f0
  · rename_i d2 d3 e4
    split
    · rename_i d5 e6
      exact f0
    · rename_i d7 d8 e9
      extract_lets v10
      clear_value v10
      exact ite_k (Reach r) (State.pump_reach (State.setCtx_reach f0)) (State.pump_reach f0)

theorem execProofHashDone_reach {x0 s1} (f1 : Reach r s1) :
    OutK (Reach r) (execProofHashDone x0 s1) := by
  unfold execProofHashDone
  refine .next ?_
  refine ite_k (Reach r) ?_ f1
  split
  · rename_i d0 e1
    exact f1
  · rename_i d2 d3 d4 e5
    exact State.tookHash_reach (State.hashEnd_reach f1)

theorem State.repairRegion_reach {s0 x1 x2 x3} (f0 : Reach r s0) :
    OptK (Reach r) (State.repairRegion s0 x1 x2 x3) := by
  unfold State.repairRegion
  split
  · rename_i d0 d1 d2 d3 e4 e5
    extract_lets v6 t7
    clear_value v6
    have h8 : Reach r t7 := State.copyRange_reach f0
    clear_value t7
    exact ite_k (OptK (Reach r)) (.none) (ite_k (OptK (Reach r)) (.some (snd_k AnyK (State.loupeQueue_reach h8)))
        (.some h8))
  · rename_i d9 d10 e11
    exact .none

theorem State.repairRegions_reach {s0 x1 x2} (f0 : Reach r s0) :
    PairK (Reach r) AnyK (State.repairRegions s0 x1 x2) := by
  induction x2 generalizing s0 x1 with
  | nil =>
    rw [State.repairRegions]
    exact .mk f0 any_k
  | cons y0 y1 ih2 =>
    rw [State.repairRegions]
    split
    · rename_i t3 e4
      exact .mk f0 any_k
    · rename_i t5 t6 e7
      have h8 := use_k (OptK (Reach r)) e7 (State.repairRegion_reach f0)
      have h9 := some_out h8
      clear h8
      exact ih2 h9

theorem State.finishRound_reach {s0 x1} (f0 : Reach r s0) :
    Reach r (State.finishRound s0 x1) := by
  unfold State.finishRound
  extract_lets v0 v1 t2 t3 v4 v5 t6 v7 t8 t9
  clear_value v0 v1
  have h10 : PairK (Reach r) AnyK t2 := State.repairRegions_reach f0
  clear_value t2
  have h11 : Reach r t3 := fst_k AnyK h10
  clear_value t3 v4 v5
  have h12 : Reach r t6 := State.addSat_reach (State.endRound_reach h11)
  clear_value t6 v7
  have h13 : Reach r t8 := State.addSat_reach h12
  clear_value t8
  have h14 : Reach r t9 := State.event_reach h13
  clear_value t9
  refine ite_k (Reach r) (State.setCtx_reach h12) ?_
  split
  · rename_i d15 d16
    exact State.ctxFault_reach h14
  · rename_i d17
    exact h14

theorem execProofRoundEnd_reach {x0 s1} (f1 : Reach r s1) :
    OutK (Reach r) (execProofRoundEnd x0 s1) := by
  unfold execProofRoundEnd
  refine .next ?_
  refine ite_k (Reach r) ?_ f1
  extract_lets t0
  have h1 : Reach r t0 := State.finishRound_reach f1
  clear_value t0
  exact ite_k (Reach r) (State.beginRound_reach h1) h1

theorem execProofConfig_reach {x0 x1 x2 x3 x4 s5} (f5 : Reach r s5) :
    OutK (Reach r) (execProofConfig x0 x1 x2 x3 x4 s5) := by
  unfold execProofConfig
  extract_lets v0 v1
  clear_value v0 v1
  refine .next ?_
  refine State.command_reach f5 ?_
  intro d2 t3 h4
  extract_lets v5 t6 t7 t8 t9
  clear_value v5
  have h10 : Reach r t7 := by
    unfold t7
    unfold t6
    exact State.setFld_reach h4
  clear_value t7
  have h11 : Reach r t8 := by
    unfold t8
    unfold t6
    exact State.setFld_reach h10
  clear_value t8
  have h12 : Reach r t9 := by
    unfold t9
    unfold t6
    exact State.setFld_reach h11
  clear_value t9
  refine State.ok_reach ?_
  unfold t6
  exact State.setFld_reach h12

theorem execProofRound_reach {x0 s1} (f1 : Reach r s1) :
    OutK (Reach r) (execProofRound x0 s1) := by
  unfold execProofRound
  refine .next ?_
  refine State.command_reach f1 ?_
  intro d0 t1 h2
  extract_lets v3 v4
  clear_value v3 v4
  refine ite_k (Reach r) (State.reply_reach h2) ?_
  exact ite_k (Reach r) (State.ok_reach (State.setCtx_reach h2)) (State.ok_reach (State.beginRound_reach h2))

theorem execProofRead_reach {x0 s1} (f1 : Reach r s1) :
    OutK (Reach r) (execProofRead x0 s1) := by
  unfold execProofRead
  refine .next ?_
  refine State.command_reach f1 ?_
  intro d0 t1 h2
  extract_lets v3
  clear_value v3
  exact ite_k (Reach r) (State.ok_reach h2) (State.ok_reach h2)

theorem execProofRegions_reach {x0 x1 s2} (f2 : Reach r s2) :
    OutK (Reach r) (execProofRegions x0 x1 s2) := by
  unfold execProofRegions
  refine .next ?_
  refine State.command_reach f2 ?_
  intro d0 t1 h2
  extract_lets v3 v4
  clear_value v3 v4
  exact ite_k (Reach r) (State.reply_reach h2) (State.ok_reach (State.hostPut_reach h2))

/-! ## Heal -/

theorem State.noSpare_reach {s0 x1 x2 x3 x4} (f0 : Reach r s0) :
    Reach r (State.noSpare s0 x1 x2 x3 x4) := by
  unfold State.noSpare
  refine ite_k (Reach r) (State.fenceRecord_reach f0) ?_
  refine ite_k (Reach r) f0 ?_
  extract_lets v0 t1 t2 t3 t4
  clear_value v0
  have h5 : Reach r t1 := .upd f0
  clear_value t1
  have h6 : Reach r t2 := State.addSat_reach h5
  clear_value t2
  have h7 : Reach r t3 := State.degrade_reach (State.setFld_reach h6)
  clear_value t3
  have h8 : Reach r t4 := by
    unfold t4
    split
    · rename_i d9 e10
      exact h7
    · rename_i d11 d12 e13
      split
      · rename_i d14 d15 e16
        exact ite_k (Reach r) (State.openHeal_reach h7) h7
      · rename_i d17 e18
        exact h7
  clear_value t4
  exact State.publish_reach h8

theorem State.repairRow_reach {s0 x1 x2 x3 x4} (f0 : Reach r s0) :
    Reach r (State.repairRow s0 x1 x2 x3 x4) := by
  unfold State.repairRow
  refine ite_k (Reach r) (.upd f0) ?_
  split
  · rename_i d0 d1 e2
    exact State.remapStart_reach f0
  · rename_i d3 e4
    exact State.noSpare_reach (State.remapStart_reach f0)

theorem State.rewriteRow_reach {s0 x1 x2 x3} (f0 : Reach r s0) :
    Reach r (State.rewriteRow s0 x1 x2 x3) := by
  unfold State.rewriteRow
  split
  · rename_i d0 e1
    exact f0
  · rename_i d2 d3 e4
    split
    · rename_i d5 e6
      exact f0
    · rename_i d7 d8 e9
      refine foldl_k (Reach r) f0 ?_
      intro t10 h11 d12
      split
      · rename_i d13 e14
        exact h11
      · rename_i d15 d16 e17
        split
        · rename_i d18 d19 e20
          exact ite_k (Reach r) (State.copyRange_reach h11) h11
        · rename_i d21 e22
          exact h11

theorem execRemapComplete_reach {x0 s1} (f1 : Reach r s1) :
    OutK (Reach r) (execRemapComplete x0 s1) := by
  unfold execRemapComplete
  refine .next ?_
  split
  · rename_i d0 e1
    exact f1
  · rename_i d2 d3 d4 d5 d6 e7
    extract_lets v8 t9 v10 v11 v12 t13 t14 t15 v16 t17 v18 t19 t20
    clear_value v8
    have h21 : Reach r t9 := State.remapDone_reach f1
    clear_value t9 v10 v11 v12
    have h22 : Reach r t13 := .upd h21
    clear_value t13
    have h23 : Reach r t14 := ite_k (Reach r) h22 (State.degrade_reach (State.remapView_reach h22))
    clear_value t14
    have h24 : Reach r t15 := State.rewriteRow_reach h23
    clear_value t15 v16
    have h25 : Reach r t17 := ite_k (Reach r) (.upd h24) h23
    clear_value t17 v18
    have h26 : Reach r t19 := by
      unfold t19
      split
      · rename_i d27 d28 e29
        exact State.repairRow_reach (.upd h25)
      · rename_i d30 e31
        exact h25
    clear_value t19
    have h32 : Reach r t20 := by
      unfold t20
      split
      · rename_i d33 d34 e35
        exact State.pump_reach h26
      · rename_i d36 e37
        exact h26
    clear_value t20
    exact State.publish_reach h32

theorem State.arithFault_reach {s0 x1} (f0 : Reach r s0) :
    Reach r (State.arithFault s0 x1) := by
  unfold State.arithFault
  split
  · rename_i d0 e1
    exact f0
  · rename_i d2 d3 e4
    exact State.eventAt_reach (State.addSat_reach f0)

theorem State.ueSignal_reach {s0 x1 x2 x3} (f0 : Reach r s0) :
    Reach r (State.ueSignal s0 x1 x2 x3) := by
  unfold State.ueSignal
  extract_lets v0 t1 v2 t3 v4 v5 v6 v7 v8 v9 v10 v11 t12
  clear_value v0
  have h13 : Reach r t1 := .upd f0
  clear_value t1 v2
  have h14 : Reach r t3 := .upd h13
  clear_value t3 v4 v5 v6 v7 v8 v9 v10 v11
  have h15 : Reach r t12 := .upd h14
  clear_value t12
  refine ite_k (Reach r) h13 ?_
  exact ite_k (Reach r) (State.fenceRecord_reach h14) (ite_k (Reach r) (State.fenceRecord_reach h14)
      (State.repairRow_reach h15))

theorem State.portRecord_reach {s0 x1 x2 x3} (f0 : Reach r s0) :
    Reach r (State.portRecord s0 x1 x2 x3) := by
  unfold State.portRecord
  extract_lets t0
  have h1 : Reach r t0 := State.setFld_reach f0
  clear_value t0
  split
  · rename_i d2 d3 d4 e5
    exact State.setFld_reach h1
  · rename_i d6 e7
    exact h1

theorem State.fallbackAll_reach {s0} (f0 : Reach r s0) :
    Reach r (State.fallbackAll s0) := by
  unfold State.fallbackAll
  refine foldl_k (Reach r) f0 ?_
  intro t0 h1 d2
  exact ite_k (Reach r) (State.recheck_reach (State.displacedView_reach (State.dncFallback_reach h1))) h1

theorem State.portFailed_reach {s0 x1 x2 x3 x4} (f0 : Reach r s0) :
    Reach r (State.portFailed s0 x1 x2 x3 x4) := by
  unfold State.portFailed
  extract_lets v0 v1 t2 t3 t4 t5
  clear_value v0 v1
  have h6 : Reach r t2 := State.portRecord_reach f0
  clear_value t2
  have h7 : Reach r t3 := ite_k (Reach r) (State.portRecord_reach h6) h6
  clear_value t3
  have h8 : Reach r t4 := State.publish_reach (State.fallbackAll_reach h7)
  clear_value t4
  have h9 : Reach r t5 := ite_k (Reach r) (State.fenceRecord_reach h8) h8
  clear_value t5
  exact ite_k (Reach r) f0 (ite_k (Reach r) (State.fenceRecord_reach h9) h9)

theorem State.respond_reach {s0 x1} (f0 : Reach r s0) :
    Reach r (State.respond s0 x1) := by
  unfold State.respond
  extract_lets v0 v1 t2 v3 v4 v5 v6
  clear_value v0 v3 v4 v5 v6
  split
  · rename_i d7 e8
    unfold t2
    exact ite_k (Reach r) f0 (State.fenceRecord_reach (State.arithFault_reach f0))
  · rename_i d9 e10
    unfold t2
    exact ite_k (Reach r) f0 (State.fenceRecord_reach (State.arithFault_reach f0))
  · rename_i d11 e12
    unfold t2
    exact ite_k (Reach r) f0 (State.fenceRecord_reach (State.arithFault_reach f0))
  · rename_i d13 e14
    exact ite_k (Reach r) f0 (State.fenceRecord_reach f0)
  · rename_i d15 e16
    exact ite_k (Reach r) f0 (State.ueSignal_reach f0)
  · rename_i d17 e18
    exact ite_k (Reach r) f0 (State.repairRow_reach f0)
  · rename_i d19 e20
    exact ite_k (Reach r) f0 (State.repairRow_reach f0)
  · rename_i d21 e22
    exact State.portFailed_reach f0
  · rename_i d23 e24
    exact ite_k (Reach r) f0 (State.ctxFault_reach f0)
  · rename_i d25 e26
    exact f0

theorem execFaultSignal_reach {s0} (f0 : Reach r s0) :
    OutK (Reach r) (execFaultSignal s0) := by
  unfold execFaultSignal
  refine .next ?_
  split
  · rename_i d0 e1
    exact f0
  · rename_i d2 d3 d4 e5
    exact State.respond_reach (.upd f0)

theorem execUnitHang_reach {x0 x1 s2} (f2 : Reach r s2) :
    OutK (Reach r) (execUnitHang x0 x1 s2) := by
  unfold execUnitHang
  exact .next (ite_k (Reach r) (State.signal_reach (State.setFld_reach f2)) f2)

theorem State.healFails_reach {s0 x1 x2 x3} (f0 : Reach r s0) :
    Reach r (State.healFails s0 x1 x2 x3) := by
  unfold State.healFails
  extract_lets v0 t1
  clear_value v0
  have h2 : Reach r t1 := .upd f0
  clear_value t1
  exact State.closeWindow_reach (State.ctxFault_reach h2)

theorem State.endLost_reach {s0 x1 x2} (f0 : Reach r s0) :
    Reach r (State.endLost s0 x1 x2) := by
  unfold State.endLost
  refine foldl_k (Reach r) f0 ?_
  intro t0 h1 d2
  exact State.loseStream_reach h1

theorem State.healTo_reach {s0 x1 x2} (f0 : Reach r s0) :
    Reach r (State.healTo s0 x1 x2) := by
  unfold State.healTo
  exact .upd f0

theorem execHeal_reach {x0 x1 s2} (f2 : Reach r s2) :
    OutK (Reach r) (execHeal x0 x1 s2) := by
  unfold execHeal
  refine .next ?_
  split
  · rename_i d0 e1
    exact f2
  · rename_i d2 d3 e4
    split
    · rename_i d5 e6
      exact State.healFails_reach f2
    · rename_i d7 d8 e9
      extract_lets t10
      have h11 : Reach r t10 := State.endLost_reach f2
      clear_value t10
      split
      · rename_i t12 d13 e14
        have h15 := use_k (SumK AnyK (Reach r)) e14 (State.moveWork_reach h11)
        clear h15
        exact State.healFails_reach h11
      · rename_i t16 t17 e18
        have h19 := use_k (SumK AnyK (Reach r)) e18 (State.moveWork_reach h11)
        have h20 := inr_out h19
        clear h19
        exact State.healTo_reach h20

theorem execHealComplete_reach {x0 s1} (f1 : Reach r s1) :
    OutK (Reach r) (execHealComplete x0 s1) := by
  unfold execHealComplete
  extract_lets v0 v1 t2 t3 t4
  clear_value v0 v1
  have h5 : Reach r t2 := .upd f1
  clear_value t2
  have h6 : Reach r t3 := State.recheck_reach (State.closeWindow_reach h5)
  clear_value t3
  have h7 : Reach r t4 := State.publish_reach (State.replenish_reach h6)
  clear_value t4
  refine .next ?_
  refine ite_k (Reach r) f1 ?_
  refine foldl_k (Reach r) h7 ?_
  intro t8 h9 d10
  exact State.healDone_reach h9

theorem State.rehome_reach {s0 x1 x2} (f0 : Reach r s0) :
    OptK (Reach r) (State.rehome s0 x1 x2) := by
  induction x2 generalizing s0 x1 with
  | nil =>
    rw [State.rehome]
    exact .some f0
  | cons y0 y1 ih2 =>
    rw [State.rehome]
    split
    · rename_i d3 e4
      exact .none
    · rename_i d5 d6 e7
      split
      · rename_i t8 d9 e10
        have h11 := use_k (SumK AnyK (Reach r)) e10 (State.moveWork_reach f0)
        clear h11
        exact .none
      · rename_i t12 t13 e14
        have h15 := use_k (SumK AnyK (Reach r)) e14 (State.moveWork_reach f0)
        have h16 := inr_out h15
        clear h15
        exact ih2 h16

end Sys2Proof.Machine
end

