-- ==== Sys2Proof/Laws/ReachCommands.lean ====
section
/-! SUPPORT. Laws/ReachCommands.lean: every operation of testing, security, zeroising, the command packets and time stays within `Reach`:
it writes registers and memory only by the named writes, and leaves the queue and the variant alone. -/
namespace Sys2Proof.Machine

variable {r : State}

/-! ## Testing -/

theorem State.emptyTile_reach {s0 x1 x2 x3} (f0 : Reach r s0) :
    OptK (PairK AnyK (Reach r)) (State.emptyTile s0 x1 x2 x3) := by
  unfold State.emptyTile
  refine bind_k AnyK opt_any ?_
  intro d0 h1
  refine map_k (Reach r) (State.migrate_reach f0) ?_
  intro t2 h3
  exact .mk any_k h3

theorem State.underTest_reach {s0 x1 x2 x3} (f0 : Reach r s0) :
    Reach r (State.underTest s0 x1 x2 x3) := by
  unfold State.underTest
  exact State.testStart_reach (State.setHealth_reach f0)

theorem State.rotate_reach {s0 x1} (f0 : Reach r s0) :
    OptK (Reach r) (State.rotate s0 x1) := by
  unfold State.rotate
  extract_lets v0 t1
  clear_value v0
  split
  · rename_i d2 e3
    refine .some ?_
    unfold t1
    extract_lets v4 t5 t6
    clear_value v4
    have h7 : Reach r t5 := .upd f0
    clear_value t5
    have h8 : Reach r t6 := State.setBit_reach (State.setFld_reach h7)
    clear_value t6
    exact State.underTest_reach h8
  · rename_i d9 d10 d11 e12
    refine map_k (PairK AnyK (Reach r)) (State.emptyTile_reach f0) ?_
    intro t13 h14
    unfold t1
    extract_lets v15 t16 t17
    clear_value v15
    have h18 : Reach r t16 := .upd (snd_k AnyK h14)
    clear_value t16
    have h19 : Reach r t17 := State.setBit_reach (State.setFld_reach h18)
    clear_value t17
    exact State.underTest_reach h19

theorem execRotationSchedule_reach {s0} (f0 : Reach r s0) :
    OutK (Reach r) (execRotationSchedule s0) := by
  unfold execRotationSchedule
  refine .next ?_
  refine ite_k (Reach r) f0 ?_
  extract_lets v0 t1
  clear_value v0
  have h2 : Reach r t1 := State.oldestView_reach (State.setFld_reach f0)
  clear_value t1
  refine getD_k ?_ h2
  refine findSome_k (Reach r) ?_
  intro d3
  exact State.rotate_reach h2

theorem State.loupeGo_reach {s0 x1 x2} (f0 : Reach r s0) :
    Reach r (State.loupeGo s0 x1 x2) := by
  unfold State.loupeGo
  extract_lets v0 v1 v2
  clear_value v0 v1 v2
  exact State.underTest_reach (State.loupeView_reach (.upd f0))

theorem State.loupeTry_reach {s0 x1} (f0 : Reach r s0) :
    OptK (Reach r) (State.loupeTry s0 x1) := by
  unfold State.loupeTry
  extract_lets v0 t1
  clear_value v0
  have h2 : Reach r t1 := State.abandonTest_reach f0
  clear_value t1
  refine ite_k (OptK (Reach r)) (.none) ?_
  refine ite_k (OptK (Reach r)) ?_ ?_
  · exact ite_k (OptK (Reach r)) (.some (State.loupeOut_reach f0)) (ite_k (OptK (Reach r)) (.some
        (State.loupeGo_reach f0)) (.none))
  · refine ite_k (OptK (Reach r)) (.some (State.loupeResult_reach f0)) ?_
    split
    · rename_i d3 e4
      exact .some (State.loupeGo_reach h2)
    · rename_i d5 d6 d7 e8
      refine ite_k (OptK (Reach r)) (.none) ?_
      split
      · rename_i t9 e10
        exact .some (State.loupeResult_reach h2)
      · rename_i t11 d12 t13 e14
        have h15 := use_k (OptK (PairK AnyK (Reach r))) e14 (State.emptyTile_reach h2)
        have h16 := some_out h15
        clear h15
        have h17 := pair_snd h16
        clear h16
        exact .some (State.loupeGo_reach h17)

theorem execLoupeStart_reach {s0} (f0 : Reach r s0) :
    OutK (Reach r) (execLoupeStart s0) := by
  unfold execLoupeStart
  refine .next ?_
  refine ite_k (Reach r) f0 ?_
  refine getD_k ?_ f0
  refine findSome_k (Reach r) ?_
  intro d0
  exact State.loupeTry_reach f0

theorem State.testsDone_reach {s0 x1} (f0 : Reach r s0) :
    Reach r (State.testsDone s0 x1) := by
  unfold State.testsDone
  extract_lets v0 t1
  clear_value v0
  have h2 : Reach r t1 := by
    unfold t1
    refine ite_k (Reach r) ?_ f0
    refine State.complete_reach f0 ?_
    intro t3 h4 d5
    exact State.okForm_reach h4
  clear_value t1
  refine ite_k (Reach r) h2 ?_
  refine State.complete_reach h2 ?_
  intro t6 h7 d8
  exact State.okForm_reach h7

theorem State.passed_reach {s0 x1 x2} (f0 : Reach r s0) :
    Reach r (State.passed s0 x1 x2) := by
  unfold State.passed
  extract_lets t0 t1 v2
  have h3 : Reach r t0 := State.setHealth_reach (State.passTile_reach f0)
  clear_value t0
  have h4 : Reach r t1 := State.setReg_reach h3
  clear_value t1 v2
  exact ite_k (Reach r) h3 (.upd h4)

theorem State.afterPass_reach {s0 x1 x2} (f0 : Reach r s0) :
    Reach r (State.afterPass s0 x1 x2) := by
  unfold State.afterPass
  split
  · rename_i d0
    exact ite_k (Reach r) (State.replenishAll_reach f0) f0
  · rename_i d1 d2
    refine ite_k (Reach r) (State.returnWork_reach f0) ?_
    extract_lets t3
    have h4 : Reach r t3 := State.leaveLease_reach (State.rebudget_reach (State.freePath_reach f0))
    clear_value t3
    exact State.replenish_reach (State.recheck_reach h4)

theorem State.afterFail_reach {s0 x1} (f0 : Reach r s0) :
    Reach r (State.afterFail s0 x1) := by
  unfold State.afterFail
  split
  · rename_i d0
    exact f0
  · rename_i d1 d2
    exact State.replenish_reach (State.recheck_reach f0)

theorem State.outcomeOf_reach {s0 x1 x2} (f0 : Reach r s0) :
    PairK (Reach r) AnyK (State.outcomeOf s0 x1 x2) := by
  unfold State.outcomeOf
  split
  · rename_i d0
    exact .mk f0 any_k
  · rename_i d1 d2 d3
    exact .mk f0 any_k
  · rename_i d4 d5
    extract_lets v6
    clear_value v6
    exact ite_k (PairK (Reach r) AnyK) (.mk (State.lanesView_reach (State.setHealth_reach f0)) any_k) (.mk f0 any_k)

theorem State.rotationDone_reach {s0 x1 x2} (f0 : Reach r s0) :
    Reach r (State.rotationDone s0 x1 x2) := by
  unfold State.rotationDone
  extract_lets v0 v1 t2 t3
  clear_value v0 v1
  have h4 : Reach r t2 := .upd f0
  clear_value t2
  have h5 : Reach r t3 := State.setBit_reach (State.setBit_reach h4)
  clear_value t3
  split
  · rename_i t6 t7 e8
    have h9 := use_k (PairK (Reach r) AnyK) e8 (State.outcomeOf_reach h5)
    have h10 := pair_fst h9
    clear h9
    exact State.afterPass_reach (State.publish_reach (State.addSat_reach (State.passed_reach h10)))
  · rename_i t11 t12 d13 e14
    have h15 := use_k (PairK (Reach r) AnyK) e14 (State.outcomeOf_reach h5)
    have h16 := pair_fst h15
    clear h15
    exact State.afterFail_reach (State.fenceRecord_reach h16)

theorem State.loupeDone_reach {s0 x1 x2} (f0 : Reach r s0) :
    Reach r (State.loupeDone s0 x1 x2) := by
  unfold State.loupeDone
  extract_lets v0
  clear_value v0
  split
  · rename_i t1 t2 e3
    have h4 := use_k (PairK (Reach r) AnyK) e3 (State.outcomeOf_reach f0)
    have h5 := pair_fst h4
    clear h4
    extract_lets t6
    have h7 : Reach r t6 := State.passed_reach h5
    clear_value t6
    exact State.afterPass_reach (State.loupeResult_reach h7)
  · rename_i t8 t9 d10 d11 e12
    have h13 := use_k (PairK (Reach r) AnyK) e12 (State.outcomeOf_reach f0)
    have h14 := pair_fst h13
    clear h13
    extract_lets t15
    have h16 : Reach r t15 := State.fenceRecord_reach (State.loupeOut_reach h14)
    clear_value t15
    exact State.afterFail_reach (State.loupeNote_reach h16)

theorem State.retestDone_reach {s0 x1 x2} (f0 : Reach r s0) :
    Reach r (State.retestDone s0 x1 x2) := by
  unfold State.retestDone
  extract_lets v0 t1
  clear_value v0
  have h2 : Reach r t1 := State.loupeOut_reach f0
  clear_value t1
  split
  · rename_i t3 t4 e5
    have h6 := use_k (PairK (Reach r) AnyK) e5 (State.outcomeOf_reach h2)
    have h7 := pair_fst h6
    clear h6
    extract_lets t8 v9 t10
    have h11 : Reach r t8 := State.addSat_reach (State.setHealth_reach (State.passed_reach h7))
    clear_value t8 v9
    have h12 : Reach r t10 := .upd h11
    clear_value t10
    exact State.replenishAll_reach (State.publish_reach (State.unfenceTile_reach h12))
  · rename_i t13 t14 d15 e16
    have h17 := use_k (PairK (Reach r) AnyK) e16 (State.outcomeOf_reach h2)
    have h18 := pair_fst h17
    clear h17
    exact State.publish_reach (State.setHealth_reach (State.recordFence_reach h18))

theorem execTileTestDone_reach {x0 x1 s2} (f2 : Reach r s2) :
    OutK (Reach r) (execTileTestDone x0 x1 s2) := by
  unfold execTileTestDone
  refine .next ?_
  refine ite_k (Reach r) f2 ?_
  extract_lets t0 v1 v2 v3 v4 t5
  have h6 : Reach r t0 := State.resetTested_reach f2
  clear_value t0 v1 v2 v3 v4
  have h7 : Reach r t5 := State.setReg_reach h6
  clear_value t5
  split
  · rename_i d8 d9 e10
    exact State.testsDone_reach (State.oldestView_reach (State.rotationDone_reach h7))
  · rename_i d11 e12
    split
    · rename_i d13 d14 e15
      refine State.testsDone_reach ?_
      exact State.oldestView_reach (ite_k (Reach r) (State.retestDone_reach h7) (State.loupeDone_reach h7))
    · rename_i d16 e17
      exact h7

theorem execTestOverdue_reach {s0} (f0 : Reach r s0) :
    OutK (Reach r) (execTestOverdue s0) := by
  unfold execTestOverdue
  extract_lets v0
  clear_value v0
  refine .next ?_
  refine ite_k (Reach r) f0 ?_
  refine foldl_k (Reach r) (State.oldestView_reach f0) ?_
  intro t1 h2 d3
  refine ite_k (Reach r) h2 ?_
  extract_lets v4 t5 t6
  clear_value v4
  have h7 : Reach r t5 := .upd h2
  clear_value t5
  have h8 : Reach r t6 := State.event_reach h7
  clear_value t6
  exact ite_k (Reach r) (State.fenceRecord_reach h8) h8

theorem execHealthRead_reach {x0 x1 s2} (f2 : Reach r s2) :
    OutK (Reach r) (execHealthRead x0 x1 s2) := by
  unfold execHealthRead
  refine .next ?_
  refine State.command_reach f2 ?_
  intro d0 t1 h2
  exact ite_k (Reach r) (State.reply_reach h2) (State.ok_reach (State.hostPut_reach h2))

theorem execLoupeRequest_reach {x0 x1 x2 x3 x4 x5 s6} (f6 : Reach r s6) :
    OutK (Reach r) (execLoupeRequest x0 x1 x2 x3 x4 x5 s6) := by
  unfold execLoupeRequest
  extract_lets v0
  clear_value v0
  refine .next ?_
  refine State.command_reach f6 ?_
  intro d1 t2 h3
  split
  · rename_i d4 e5
    exact State.reply_reach h3
  · rename_i d6 d7 e8
    extract_lets v9 t10 v11 t12
    clear_value v9
    have h13 : PairK AnyK (Reach r) t10 := State.loupeQueue_reach h3
    clear_value t10 v11
    have h14 : Reach r t12 := snd_k AnyK h13
    clear_value t12
    exact ite_k (Reach r) (State.reply_reach h3) (State.ok_reach h14)

theorem execLoupeStop_reach {x0 s1} (f1 : Reach r s1) :
    OutK (Reach r) (execLoupeStop x0 s1) := by
  unfold execLoupeStop
  refine .next ?_
  refine State.command_reach f1 ?_
  intro d0 t1 h2
  extract_lets v3 t4 v5 t6
  clear_value v3
  have h7 : Reach r t4 := by
    unfold t4
    refine foldl_k (Reach r) h2 ?_
    intro t8 h9 d10
    exact State.loupeResult_reach h9
  clear_value t4 v5
  have h11 : Reach r t6 := by
    unfold t6
    refine foldl_k (Reach r) h7 ?_
    intro t12 h13 d14
    exact State.abandonTest_reach h13
  clear_value t6
  exact ite_k (Reach r) (State.testsDone_reach (State.okForm_reach h11)) (ite_k (Reach r) (State.ok_reach h7)
      (State.await_reach h7))

theorem execRotationPause_reach {x0 s1} (f1 : Reach r s1) :
    OutK (Reach r) (execRotationPause x0 s1) := by
  unfold execRotationPause
  refine .next ?_
  refine State.command_reach f1 ?_
  intro d0 t1 h2
  extract_lets t3
  have h4 : Reach r t3 := State.setBit_reach h2
  clear_value t3
  split
  · rename_i d5 e6
    exact ite_k (Reach r) (State.testsDone_reach (State.okForm_reach h4)) (State.ok_reach h4)
  · rename_i d7 d8 e9
    exact ite_k (Reach r) (State.testsDone_reach (State.okForm_reach (State.abandonTest_reach h4)))
        (State.await_reach h4)

theorem execRotationResume_reach {x0 s1} (f1 : Reach r s1) :
    OutK (Reach r) (execRotationResume x0 s1) := by
  unfold execRotationResume
  refine .next ?_
  refine State.command_reach f1 ?_
  intro d0 t1 h2
  exact State.ok_reach (State.setBit_reach h2)

theorem execTileFence_reach {x0 x1 s2} (f2 : Reach r s2) :
    OutK (Reach r) (execTileFence x0 x1 s2) := by
  unfold execTileFence
  extract_lets v0 t1
  clear_value v0
  refine .next ?_
  refine State.command_reach f2 ?_
  intro d2 t3 h4
  refine ite_k (Reach r) (State.reply_reach h4) ?_
  extract_lets t5
  have h6 : Reach r t5 := State.testsDone_reach (State.abandonTest_reach h4)
  clear_value t5
  split
  · rename_i d7 e8
    refine State.ok_reach ?_
    unfold t1
    exact State.fenceRecord_reach h6
  · rename_i d9 d10 d11 e12
    refine ite_k (Reach r) ?_ ?_
    · refine State.ok_reach ?_
      unfold t1
      exact State.fenceRecord_reach h6
    · split
      · rename_i t13 e14
        exact State.refuse_reach h6
      · rename_i t15 d16 t17 e18
        have h19 := use_k (OptK (PairK AnyK (Reach r))) e18 (State.emptyTile_reach h6)
        have h20 := some_out h19
        clear h19
        have h21 := pair_snd h20
        clear h20
        refine State.ok_reach ?_
        refine State.replenish_reach ?_
        unfold t1
        exact State.fenceRecord_reach h21

theorem execTileRetest_reach {x0 x1 s2} (f2 : Reach r s2) :
    OutK (Reach r) (execTileRetest x0 x1 s2) := by
  unfold execTileRetest
  extract_lets v0
  clear_value v0
  refine .next ?_
  refine State.command_reach f2 ?_
  intro d1 t2 h3
  refine ite_k (Reach r) (State.reply_reach h3) ?_
  refine ite_k (Reach r) (State.ok_reach h3) ?_
  extract_lets v4 v5
  clear_value v4 v5
  exact State.ok_reach (State.loupeView_reach (.upd h3))

theorem execHealthConfig_reach {x0 x1 x2 x3 s4} (f4 : Reach r s4) :
    OutK (Reach r) (execHealthConfig x0 x1 x2 x3 s4) := by
  unfold execHealthConfig
  extract_lets v0 t1
  clear_value v0
  refine .next ?_
  refine State.command_reach f4 ?_
  intro d2 t3 h4
  extract_lets t5 t6 t7
  have h8 : Reach r t5 := by
    unfold t5
    unfold t1
    exact State.setFld_reach (State.setFld_reach (State.setFld_reach h4))
  clear_value t5
  have h9 : Reach r t6 := by
    unfold t6
    refine foldl_k (Reach r) h8 ?_
    intro t10 h11 d12
    exact State.degrade_reach h11
  clear_value t6
  have h13 : Reach r t7 := ite_k (Reach r) (State.publish_reach h9) h9
  clear_value t7
  exact State.ok_reach h13

/-! ## Security -/

theorem State.setDigestRegs_reach {s0} {k1 : ℕ → ℕ} {x2} (f0 : Reach r s0) :
    Reach r (State.setDigestRegs s0 k1 x2) := by
  unfold State.setDigestRegs
  refine foldl_k (Reach r) f0 ?_
  intro t0 h1 d2
  exact State.setReg_reach h1

theorem State.secView_reach {s0} (f0 : Reach r s0) :
    Reach r (State.secView s0) := by
  unfold State.secView
  extract_lets v0 t1 t2 v3
  clear_value v0
  have h4 : Reach r t1 := State.setFld_reach f0
  clear_value t1
  have h5 : Reach r t2 := by
    unfold t2
    refine foldl_k (Reach r) h4 ?_
    intro t6 h7 d8
    exact State.setDigestRegs_reach h7
  clear_value t2 v3
  exact State.setDigestRegs_reach h5

theorem State.signView_reach {s0} (f0 : Reach r s0) :
    Reach r (State.signView s0) := by
  unfold State.signView
  exact State.setFld_reach f0

theorem State.leavesView_reach {s0} (f0 : Reach r s0) :
    Reach r (State.leavesView s0) := by
  unfold State.leavesView
  extract_lets v0
  exact State.setBit_reach (State.setBit_reach f0)

theorem State.slotsView_reach {s0 x1} (f0 : Reach r s0) :
    Reach r (State.slotsView s0 x1) := by
  unfold State.slotsView
  exact State.setFld_reach f0

theorem State.setConf_reach {s0 x1 x2} (f0 : Reach r s0) :
    Reach r (State.setConf s0 x1 x2) := by
  unfold State.setConf
  extract_lets t0 t1 v2
  have h3 : Reach r t0 := State.setBit_reach f0
  clear_value t0
  have h4 : Reach r t1 := State.setFld_reach h3
  clear_value t1 v2
  exact State.secView_reach (State.setBit_reach (State.setBit_reach h4))

theorem State.giveXts_reach {s0 x1} (f0 : Reach r s0) :
    OptK (Reach r) (State.giveXts s0 x1) := by
  unfold State.giveXts
  split
  · rename_i d0 e1
    exact .none
  · rename_i d2 d3 e4
    extract_lets t5
    have h6 : Reach r t5 := State.setBit_reach (State.setFld_reach f0)
    clear_value t5
    exact ite_k (OptK (Reach r)) (.some (State.setXts_reach h6)) (.none)

theorem State.dropXts_reach {s0 x1} (f0 : Reach r s0) :
    Reach r (State.dropXts s0 x1) := by
  unfold State.dropXts
  extract_lets t0
  have h1 : Reach r t0 := State.setBit_reach (State.setFld_reach f0)
  clear_value t0
  exact State.setXts_reach h1

theorem State.queueSign_reach {s0 x1} (f0 : Reach r s0) :
    Reach r (State.queueSign s0 x1) := by
  unfold State.queueSign
  extract_lets v0 v1 v2
  clear_value v0 v1 v2
  exact State.signView_reach (.upd f0)

theorem State.reserveLeaves_reach {s0} (f0 : Reach r s0) :
    Reach r (State.reserveLeaves s0) := by
  unfold State.reserveLeaves
  extract_lets v0 v1 v2
  clear_value v0 v1 v2
  exact ite_k (Reach r) f0 (State.setFld_reach (.upd f0))

theorem State.useLeaf_reach {s0} (f0 : Reach r s0) :
    PairK AnyK (Reach r) (State.useLeaf s0) := by
  unfold State.useLeaf
  extract_lets v0 t1 t2 v3 v4
  clear_value v0
  have h5 : Reach r t1 := State.addSat_reach (State.setFld_reach f0)
  clear_value t1
  have h6 : Reach r t2 := State.addSat_reach h5
  clear_value t2 v3 v4
  exact .mk any_k (State.leavesView_reach (.upd h6))

theorem State.finishAttest_reach {s0 x1} (f0 : Reach r s0) :
    Reach r (State.finishAttest s0 x1) := by
  unfold State.finishAttest
  extract_lets v0 t1 v2 t3 v4 v5 v6 t7 v8
  clear_value v0
  have h9 : PairK AnyK (Reach r) t1 := State.useLeaf_reach f0
  clear_value t1 v2
  have h10 : Reach r t3 := snd_k AnyK h9
  clear_value t3 v4 v5 v6
  have h11 : Reach r t7 := .upd h10
  clear_value t7 v8
  exact State.replyRaw_reach (State.hostPut_reach h11)

theorem execAttest_reach {x0 x1 x2 s3} (f3 : Reach r s3) :
    OutK (Reach r) (execAttest x0 x1 x2 s3) := by
  unfold execAttest
  refine .next ?_
  refine State.command_reach f3 ?_
  intro d0 t1 h2
  refine ite_k (Reach r) (State.reply_reach h2) ?_
  refine ite_k (Reach r) ?_ ?_
  · extract_lets t3 v4 t5
    have h6 : PairK AnyK (Reach r) t3 := State.draw_reach h2
    clear_value t3 v4
    have h7 : Reach r t5 := snd_k AnyK h6
    clear_value t5
    exact State.refuse_reach h7
  · extract_lets t8
    have h9 : Reach r t8 := State.await_reach h2
    clear_value t8
    exact State.queueSign_reach h9

theorem State.importNote_reach {s0 x1} (f0 : Reach r s0) :
    Reach r (State.importNote s0 x1) := by
  unfold State.importNote
  exact State.setBit_reach f0

theorem execKeyImport_reach {x0 x1 x2 x3 s4} (f4 : Reach r s4) :
    OutK (Reach r) (execKeyImport x0 x1 x2 x3 s4) := by
  unfold execKeyImport
  extract_lets v0
  clear_value v0
  refine .next ?_
  refine State.command_reach f4 ?_
  intro d1 t2 h3
  extract_lets v4 v5
  clear_value v4 v5
  refine ite_k (Reach r) (State.reply_reach h3) ?_
  refine ite_k (Reach r) (State.reply_reach (State.importNote_reach h3)) ?_
  refine ite_k (Reach r) (State.refuse_reach (State.importNote_reach h3)) ?_
  refine ite_k (Reach r) (State.refuse_reach (State.importNote_reach h3)) ?_
  refine ite_k (Reach r) (State.refuse_reach (State.importNote_reach h3)) ?_
  refine ite_k (Reach r) (State.refuse_reach (State.importNote_reach h3)) ?_
  split
  · rename_i d6 e7
    exact State.reply_reach (State.importNote_reach h3)
  · rename_i d8 d9 e10
    extract_lets v11 t12
    clear_value v11
    have h13 : Reach r t12 := .upd h3
    clear_value t12
    exact State.ok_reach (State.importNote_reach (State.slotsView_reach h13))

theorem State.setEnrolled_reach {s0 x1 x2} (f0 : Reach r s0) :
    Reach r (State.setEnrolled s0 x1 x2) := by
  unfold State.setEnrolled
  exact State.secView_reach (.upd f0)

theorem execKeyEnroll_reach {x0 x1 x2 s3} (f3 : Reach r s3) :
    OutK (Reach r) (execKeyEnroll x0 x1 x2 s3) := by
  unfold execKeyEnroll
  refine .next ?_
  refine State.command_reach f3 ?_
  intro d0 t1 h2
  extract_lets v3 t4
  clear_value v3
  refine ite_k (Reach r) (State.reply_reach h2) ?_
  split
  · rename_i d5 e6
    split
    · rename_i d7 d8 d9 e10
      unfold t4
      exact State.ok_reach h2
    · rename_i d11 d12 d13 e14 e15
      unfold t4
      exact State.ok_reach (State.setEnrolled_reach h2)
    · rename_i d16 d17 e18 e19
      exact State.reply_reach h2
  · rename_i d20 e21
    split
    · rename_i d22 e23
      exact State.reply_reach h2
    · rename_i d24 d25 e26
      refine ite_k (Reach r) (State.reply_reach h2) ?_
      unfold t4
      exact State.ok_reach (State.setEnrolled_reach h2)
  · rename_i d27 e28 e29
    exact State.reply_reach h2

theorem execSecStatus_reach {x0 s1} (f1 : Reach r s1) :
    OutK (Reach r) (execSecStatus x0 s1) := by
  unfold execSecStatus
  refine .next ?_
  refine State.command_reach f1 ?_
  intro d0 t1 h2
  exact State.ok_reach h2

theorem State.loseSram_reach {s0 x1} (f0 : Reach r s0) :
    Reach r (State.loseSram s0 x1) := by
  unfold State.loseSram
  exact State.loseRange_reach (State.loseRange_reach f0)

theorem execSecPurge_reach {x0 s1} (f1 : Reach r s1) :
    OutK (Reach r) (execSecPurge x0 s1) := by
  unfold execSecPurge
  extract_lets v0 t1 t2 v3 v4
  clear_value v0
  have h5 : Reach r t1 := State.loseSram_reach f1
  clear_value t1
  have h6 : Reach r t2 := State.setBit_reach (State.setBit_reach h5)
  clear_value t2 v3 v4
  exact .next (ite_k (Reach r) (State.publish_reach (.upd h6)) f1)

/-! ## Zeroise -/

theorem State.closeStreams_reach {s0 x1} (f0 : Reach r s0) :
    Reach r (State.closeStreams s0 x1) := by
  unfold State.closeStreams
  extract_lets v0 v1 t2
  clear_value v0 v1
  have h3 : Reach r t2 := by
    unfold t2
    refine ite_k (Reach r) ?_ f0
    refine foldl_k (Reach r) f0 ?_
    intro t4 h5 d6
    split
    · rename_i d7 d8 d9 d10 d11 d12 e13
      exact ite_k (Reach r) (State.closeRange_reach h5) h5
    · rename_i d14 e15
      exact h5
  clear_value t2
  exact State.setReg_reach h3

theorem State.freeAlloc_reach {s0 x1} (f0 : Reach r s0) :
    Reach r (State.freeAlloc s0 x1) := by
  unfold State.freeAlloc
  extract_lets t0 t1
  have h2 : Reach r t0 := State.zeroRange_reach f0
  clear_value t0
  have h3 : Reach r t1 := by
    unfold t1
    split
    · rename_i d4 d5 e6
      exact State.closeRange_reach h2
    · rename_i d7 e8
      exact h2
  clear_value t1
  exact .upd h3

theorem State.clearKeys_reach {s0 x1} (f0 : Reach r s0) :
    Reach r (State.clearKeys s0 x1) := by
  unfold State.clearKeys
  exact .upd f0

theorem State.zeroised_reach {s0 x1 x2} (f0 : Reach r s0) :
    Reach r (State.zeroised s0 x1 x2) := by
  unfold State.zeroised
  extract_lets v0 t1 t2 v3 v4 v5 t6 t7 t8 t9 t10 t11 t12 t13
  clear_value v0
  have h14 : Reach r t1 := ite_k (Reach r) (State.dropEngines_reach f0) f0
  clear_value t1
  have h15 : Reach r t2 := State.closeStreams_reach (State.releaseAll_reach (State.dropHeals_reach h14))
  clear_value t2 v3 v4 v5
  have h16 : Reach r t6 := State.zeroRange_reach (State.zeroRange_reach (State.zeroRange_reach h15))
  clear_value t6
  have h17 : Reach r t7 := State.snt_reach (.upd h16)
  clear_value t7
  have h18 : Reach r t8 := State.setCtx_reach h17
  clear_value t8
  have h19 : Reach r t9 := State.setReg_reach (State.setReg_reach h18)
  clear_value t9
  have h20 : Reach r t10 := State.slotsView_reach (State.clearKeys_reach h19)
  clear_value t10
  have h21 : Reach r t11 := ite_k (Reach r) (State.setConf_reach (State.dropXts_reach h20)) h20
  clear_value t11
  have h22 : Reach r t12 := by
    unfold t12
    refine foldl_k (Reach r) h21 ?_
    intro t23 h24 d25
    exact State.freeAlloc_reach h24
  clear_value t12
  have h26 : Reach r t13 := State.resetRegs_reach h22
  clear_value t13
  exact ite_k (Reach r) (State.publish_reach (State.setCtx_reach h26)) (State.publish_reach (State.setCState_reach
      h19))

theorem execZeroiseComplete_reach {x0 s1} (f1 : Reach r s1) :
    OutK (Reach r) (execZeroiseComplete x0 s1) := by
  unfold execZeroiseComplete
  refine .next ?_
  refine ite_k (Reach r) f1 ?_
  extract_lets v0 t1
  clear_value v0
  have h2 : Reach r t1 := State.zeroised_reach f1
  clear_value t1
  refine State.complete_reach h2 ?_
  intro t3 h4 d5
  exact State.okForm_reach h4

/-! ## Commands -/

theorem execIdentify_reach {x0 s1} (f1 : Reach r s1) :
    OutK (Reach r) (execIdentify x0 s1) := by
  unfold execIdentify
  refine .next ?_
  refine State.command_reach f1 ?_
  intro d0 t1 h2
  extract_lets v3
  clear_value v3
  exact State.ok_reach h2

theorem execDeviceStatus_reach {x0 s1} (f1 : Reach r s1) :
    OutK (Reach r) (execDeviceStatus x0 s1) := by
  unfold execDeviceStatus
  refine .next ?_
  refine State.command_reach f1 ?_
  intro d0 t1 h2
  exact State.ok_reach h2

theorem execDeviceConfig_reach {x0 x1 x2 x3 x4 s5} (f5 : Reach r s5) :
    OutK (Reach r) (execDeviceConfig x0 x1 x2 x3 x4 s5) := by
  unfold execDeviceConfig
  extract_lets v0 v1 v2 v3
  clear_value v0 v1 v2 v3
  refine .next ?_
  refine State.command_reach f5 ?_
  intro d4 t5 h6
  extract_lets v7 v8 t9 t10 t11
  clear_value v7 v8
  have h12 : Reach r t9 := State.setFld_reach h6
  clear_value t9
  have h13 : Reach r t10 := ite_k (Reach r) h12 (State.drdy_reach (State.setBit_reach (State.setBit_reach h12)))
  clear_value t10
  have h14 : Reach r t11 := State.setFld_reach h13
  clear_value t11
  exact ite_k (Reach r) (State.reply_reach h6) (State.ok_reach (State.setFld_reach h14))

theorem State.ctxCommand_reach {s0 x1 x2 x3 x4} {k5 : Cmd → State → State} (f0 : Reach r s0) (f5 : (∀ y00, ∀ y01,
    Reach r y01 → Reach r (k5 y00 y01))) :
    Reach r (State.ctxCommand s0 x1 x2 x3 x4 k5) := by
  unfold State.ctxCommand
  exact ite_k (Reach r) f0 (State.command_reach f0 f5)

theorem State.allocFor_reach {s0 x1 x2 x3} (f0 : Reach r s0) :
    OptK (PairK AnyK (Reach r)) (State.allocFor s0 x1 x2 x3) := by
  unfold State.allocFor
  refine ite_k (OptK (PairK AnyK (Reach r))) (.some (.mk any_k f0)) ?_
  refine map_k AnyK opt_any ?_
  intro d0 h1
  exact .mk h1 (.upd f0)

theorem State.freshCtx_reach {s0 x1} (f0 : Reach r s0) :
    Reach r (State.freshCtx s0 x1) := by
  unfold State.freshCtx
  extract_lets v0
  clear_value v0
  exact State.resetRegs_reach f0

theorem State.createCtx_reach {s0 x1 x2 x3 x4} (f0 : Reach r s0) :
    OptK (Reach r) (State.createCtx s0 x1 x2 x3 x4) := by
  unfold State.createCtx
  refine bind_k (PairK AnyK (Reach r)) (State.allocFor_reach f0) ?_
  intro t0 h1
  split
  · rename_i t2 d3 t4
    have h5 := pair_snd h1
    clear h1
    refine bind_k (PairK AnyK (Reach r)) (State.allocFor_reach h5) ?_
    intro t6 h7
    split
    · rename_i t8 d9 t10
      have h11 := pair_snd h7
      clear h7
      refine map_k (PairK AnyK (Reach r)) (State.allocFor_reach h11) ?_
      intro t12 h13
      split
      · rename_i t14 d15 t16
        have h17 := pair_snd h13
        clear h13
        extract_lets t18 t19
        have h20 : Reach r t18 := State.setCtx_reach (State.freshCtx_reach h17)
        clear_value t18
        have h21 : Reach r t19 := State.setFld_reach h20
        clear_value t19
        exact State.setCState_reach (State.setFld_reach h21)

theorem execCtxCreate_reach {x0 x1 x2 x3 x4 s5} (f5 : Reach r s5) :
    OutK (Reach r) (execCtxCreate x0 x1 x2 x3 x4 s5) := by
  unfold execCtxCreate
  refine .next ?_
  refine State.command_reach f5 ?_
  intro d0 t1 h2
  extract_lets v3
  clear_value v3
  refine ite_k (Reach r) (State.reply_reach h2) ?_
  split
  · rename_i t4 e5
    exact State.reply_reach h2
  · rename_i t6 t7 e8
    have h9 := use_k (OptK (Reach r)) e8 (State.createCtx_reach h2)
    have h10 := some_out h9
    clear h9
    refine ite_k (Reach r) ?_ (State.ok_reach h10)
    split
    · rename_i t11 e12
      exact State.reply_reach h2
    · rename_i t13 t14 e15
      have h16 := use_k (OptK (Reach r)) e15 (State.giveXts_reach (State.setConf_reach h10))
      have h17 := some_out h16
      clear h16
      exact State.ok_reach h17

theorem execCtxDestroy_reach {x0 s1} (f1 : Reach r s1) :
    OutK (Reach r) (execCtxDestroy x0 s1) := by
  unfold execCtxDestroy
  extract_lets v0
  clear_value v0
  refine .next ?_
  refine State.ctxCommand_reach f1 ?_
  intro d1 t2 h3
  extract_lets v4 t5 v6
  clear_value v4
  have h7 : Reach r t5 := State.setCState_reach (State.dropLoad_reach h3)
  clear_value t5 v6
  split
  · rename_i d8 e9
    refine State.await_reach ?_
    refine State.complete_reach h7 ?_
    intro t10 h11 d12
    exact State.refuse_reach h11
  · rename_i d13 e14
    exact State.await_reach (State.abortCtx_reach (State.setCtx_reach h3))
  · rename_i d15 e16
    exact State.await_reach (State.abortCtx_reach (State.setCtx_reach h3))
  · rename_i d17 e18 e19 e20
    exact State.await_reach (State.setCState_reach (State.endJoin_reach h3))

theorem execCtxTiming_reach {x0 x1 x2 x3 s4} (f4 : Reach r s4) :
    OutK (Reach r) (execCtxTiming x0 x1 x2 x3 s4) := by
  unfold execCtxTiming
  extract_lets v0 v1 v2 v3
  clear_value v0 v1 v2 v3
  refine .next ?_
  refine State.ctxCommand_reach f4 ?_
  intro d4 t5 h6
  extract_lets v7 t8 t9
  clear_value v7
  have h10 : Reach r t8 := State.setFld_reach h6
  clear_value t8
  have h11 : Reach r t9 := State.setFld_reach h10
  clear_value t9
  exact State.ok_reach (State.setFld_reach h11)

theorem State.commandStart_reach {s0 x1 x2} (f0 : Reach r s0) :
    Reach r (State.commandStart s0 x1 x2) := by
  unfold State.commandStart
  extract_lets t0 t1 v2
  have h3 : Reach r t0 := State.ndcMark_reach (State.setBit_reach (State.setReg_reach f0))
  clear_value t0
  have h4 : Reach r t1 := State.setReg_reach h3
  clear_value t1 v2
  exact State.startCtx_reach (State.setCtx_reach h4)

theorem execCtxStart_reach {x0 x1 s2} (f2 : Reach r s2) :
    OutK (Reach r) (execCtxStart x0 x1 s2) := by
  unfold execCtxStart
  extract_lets v0
  clear_value v0
  refine .next ?_
  refine State.ctxCommand_reach f2 ?_
  intro d1 t2 h3
  extract_lets v4 t5
  clear_value v4
  refine ite_k (Reach r) (State.reply_reach h3) ?_
  split
  · rename_i d6 e7
    unfold t5
    exact State.ok_reach (State.commandStart_reach (State.endJoin_reach h3))
  · rename_i d8 e9
    split
    · rename_i t10 e11
      exact State.refuse_reach h3
    · rename_i t12 t13 e14
      have h15 := use_k (OptK (Reach r)) e14 (State.rehome_reach h3)
      have h16 := some_out h15
      clear h15
      unfold t5
      exact State.ok_reach (State.commandStart_reach h16)
  · rename_i d17 e18 e19
    exact State.reply_reach h3

theorem execCtxStop_reach {x0 s1} (f1 : Reach r s1) :
    OutK (Reach r) (execCtxStop x0 s1) := by
  unfold execCtxStop
  extract_lets v0
  clear_value v0
  refine .next ?_
  refine State.ctxCommand_reach f1 ?_
  intro d1 t2 h3
  extract_lets v4
  clear_value v4
  refine ite_k (Reach r) (State.abortCtx_reach (State.await_reach h3)) ?_
  refine ite_k (Reach r) (State.drainCtx_reach (State.await_reach h3)) ?_
  exact ite_k (Reach r) (State.okForm_reach (State.endJoin_reach h3)) (State.reply_reach h3)

theorem execCtxQuery_reach {x0 s1} (f1 : Reach r s1) :
    OutK (Reach r) (execCtxQuery x0 s1) := by
  unfold execCtxQuery
  refine .next ?_
  refine State.ctxCommand_reach f1 ?_
  intro d0 t1 h2
  extract_lets v3 v4
  clear_value v3 v4
  exact State.ok_reach h2

theorem execPlateLoad_reach {x0 x1 x2 s3} (f3 : Reach r s3) :
    OutK (Reach r) (execPlateLoad x0 x1 x2 s3) := by
  unfold execPlateLoad
  extract_lets v0
  clear_value v0
  refine .next ?_
  refine State.ctxCommand_reach f3 ?_
  intro d1 t2 h3
  refine ite_k (Reach r) (State.reply_reach h3) ?_
  refine ite_k (Reach r) (State.reply_reach h3) ?_
  split
  · rename_i d4 d5 e6
    exact State.refuse_reach (State.setReason_reach h3)
  · rename_i d7 d8 e9
    exact State.stageLoad_reach (State.await_reach (State.setCState_reach h3))

theorem execPlateUnload_reach {x0 s1} (f1 : Reach r s1) :
    OutK (Reach r) (execPlateUnload x0 s1) := by
  unfold execPlateUnload
  refine .next ?_
  refine State.ctxCommand_reach f1 ?_
  intro d0 t1 h2
  extract_lets v3
  clear_value v3
  exact ite_k (Reach r) (State.await_reach (State.setCState_reach (State.endJoin_reach h2))) (State.reply_reach h2)

theorem execPlateReconfigure_reach {x0 x1 x2 s3} (f3 : Reach r s3) :
    OutK (Reach r) (execPlateReconfigure x0 x1 x2 s3) := by
  unfold execPlateReconfigure
  extract_lets v0
  clear_value v0
  refine .next ?_
  refine State.ctxCommand_reach f3 ?_
  intro d1 t2 h3
  refine ite_k (Reach r) (State.reply_reach h3) ?_
  refine ite_k (Reach r) (State.reply_reach h3) ?_
  extract_lets t4 v5 t6
  have h7 : Reach r t4 := State.setBit_reach h3
  clear_value t4 v5
  have h8 : Reach r t6 := State.setCtx_reach h7
  clear_value t6
  exact State.drainCtx_reach (State.await_reach h8)

theorem execClassSet_reach {x0 x1 x2 x3 x4 s5} (f5 : Reach r s5) :
    OutK (Reach r) (execClassSet x0 x1 x2 x3 x4 s5) := by
  unfold execClassSet
  extract_lets v0 v1 v2 v3
  clear_value v0 v1 v2 v3
  refine .next ?_
  refine State.command_reach f5 ?_
  intro d4 t5 h6
  refine ite_k (Reach r) (State.refuse_reach h6) ?_
  extract_lets t7
  have h8 : Reach r t7 := State.setFld_reach (State.setFld_reach h6)
  clear_value t7
  exact State.ok_reach (State.setBit_reach (State.setFld_reach h8))

theorem State.placeRings_reach {s0 x1 x2 x3 x4 x5 x6 x7} (f0 : Reach r s0) :
    Reach r (State.placeRings s0 x1 x2 x3 x4 x5 x6 x7) := by
  unfold State.placeRings
  extract_lets v0 v1 t2 v3 t4 t5 t6 t7
  clear_value v0 v1
  have h8 : Reach r t2 := State.setReg_reach f0
  clear_value t2 v3
  have h9 : Reach r t4 := State.setCtx_reach h8
  clear_value t4
  have h10 : Reach r t5 := State.openAs_reach h9
  clear_value t5
  have h11 : Reach r t6 := ite_k (Reach r) h10 (State.openAs_reach h10)
  clear_value t6
  have h12 : Reach r t7 := by
    unfold t7
    refine foldl_k (Reach r) (State.putNum_reach h11) ?_
    intro t13 h14 d15
    exact State.putNum_reach (State.setSlot_reach h14)
  clear_value t7
  exact State.followXts_reach h12

theorem execStreamConfig_reach {x0 x1 s2} (f2 : Reach r s2) :
    OutK (Reach r) (execStreamConfig x0 x1 s2) := by
  unfold execStreamConfig
  extract_lets v0
  clear_value v0
  refine .next ?_
  refine State.command_reach f2 ?_
  intro d1 t2 h3
  extract_lets v4 v5 v6 v7 v8 t9
  clear_value v4 v5 v6 v7 v8
  have h10 : Reach r t9 := State.closeStreams_reach h3
  clear_value t9
  refine ite_k (Reach r) (State.reply_reach h3) ?_
  refine ite_k (Reach r) (State.reply_reach h3) ?_
  split
  · rename_i d11 e12
    exact State.reply_reach h3
  · rename_i d13 d14 e15
    split
    · rename_i d16 e17
      exact State.reply_reach h3
    · rename_i d18 d19 e20
      exact State.ok_reach (State.placeRings_reach h10)

theorem execStreamOpen_reach {x0 x1 x2 s3} (f3 : Reach r s3) :
    OutK (Reach r) (execStreamOpen x0 x1 x2 s3) := by
  unfold execStreamOpen
  refine .next ?_
  refine State.command_reach f3 ?_
  intro d0 t1 h2
  extract_lets v3
  clear_value v3
  split
  · rename_i d4 d5 e6
    exact State.refuse_reach (State.setFld_reach h2)
  · rename_i d7 d8 d9 e10
    extract_lets t11
    have h12 : Reach r t11 := State.openStream_reach h2
    clear_value t11
    exact State.ok_reach h12

theorem execStreamClose_reach {x0 x1 s2} (f2 : Reach r s2) :
    OutK (Reach r) (execStreamClose x0 x1 s2) := by
  unfold execStreamClose
  extract_lets v0 v1
  clear_value v0 v1
  refine .next ?_
  refine State.command_reach f2 ?_
  intro d2 t3 h4
  extract_lets v5 v6 t7
  clear_value v5 v6
  have h8 : Reach r t7 := ite_k (Reach r) (State.beginClose_reach h4) h4
  clear_value t7
  exact State.okForm_reach h8

theorem execStreamQuery_reach {x0 x1 s2} (f2 : Reach r s2) :
    OutK (Reach r) (execStreamQuery x0 x1 s2) := by
  unfold execStreamQuery
  extract_lets v0 v1
  clear_value v0 v1
  refine .next ?_
  refine State.command_reach f2 ?_
  intro d2 t3 h4
  extract_lets v5 v6
  clear_value v5 v6
  exact State.ok_reach h4

theorem execDiagOpen_reach {x0 x1 x2 s3} (f3 : Reach r s3) :
    OutK (Reach r) (execDiagOpen x0 x1 x2 s3) := by
  unfold execDiagOpen
  extract_lets v0 v1 v2
  clear_value v0 v1 v2
  refine .next ?_
  refine ite_k (Reach r) f3 ?_
  refine State.command_reach f3 ?_
  intro d3 t4 h5
  refine ite_k (Reach r) (State.reply_reach h5) ?_
  split
  · rename_i d6 d7 e8
    exact State.ok_reach h5
  · rename_i d9 e10
    refine ite_k (Reach r) (State.reply_reach h5) ?_
    split
    · rename_i d11 e12
      exact State.reply_reach h5
    · rename_i d13 d14 e15
      exact State.ok_reach (State.openAs_reach h5)

theorem execDiagClose_reach {x0 x1 x2 s3} (f3 : Reach r s3) :
    OutK (Reach r) (execDiagClose x0 x1 x2 s3) := by
  unfold execDiagClose
  refine .next ?_
  refine State.command_reach f3 ?_
  intro d0 t1 h2
  split
  · rename_i d3 e4
    exact State.reply_reach h2
  · rename_i d5 d6 e7
    exact State.ok_reach (State.closeRange_reach h2)

theorem execCountersRead_reach {x0 x1 x2 s3} (f3 : Reach r s3) :
    OutK (Reach r) (execCountersRead x0 x1 x2 s3) := by
  unfold execCountersRead
  refine .next ?_
  refine State.command_reach f3 ?_
  intro d0 t1 h2
  exact ite_k (Reach r) (State.reply_reach h2) (ite_k (Reach r) (State.reply_reach h2) (State.ok_reach
      (State.hostPut_reach h2)))

/-! ## Time -/

theorem State.slewView_reach {s0} (f0 : Reach r s0) :
    Reach r (State.slewView s0) := by
  unfold State.slewView
  exact State.setBit_reach (State.setFld_reach f0)

theorem State.setSlew_reach {s0 x1} (f0 : Reach r s0) :
    Reach r (State.setSlew s0 x1) := by
  unfold State.setSlew
  exact State.slewView_reach (.upd f0)

theorem State.stepTb_reach {s0 x1} (f0 : Reach r s0) :
    Reach r (State.stepTb s0 x1) := by
  unfold State.stepTb
  exact State.setFld_reach f0

theorem State.endAlign_reach {s0} {k1 : State → Waiting → State} (f0 : Reach r s0) (f1 : (∀ y00, Reach r y00 → ∀
    y01, Reach r (k1 y00 y01))) :
    Reach r (State.endAlign s0 k1) := by
  unfold State.endAlign
  exact State.complete_reach (.upd f0) f1

theorem State.align_reach {s0 x1} (f0 : Reach r s0) :
    Reach r (State.align s0 x1) := by
  unfold State.align
  extract_lets t0
  refine ite_k (Reach r) ?_ ?_
  · unfold t0
    refine State.endAlign_reach (State.setSlew_reach f0) ?_
    intro t1 h2 d3
    exact State.ok_reach h2
  · refine ite_k (Reach r) ?_ ?_
    · unfold t0
      refine State.endAlign_reach (State.stepTb_reach (State.setSlew_reach f0)) ?_
      intro t4 h5 d6
      exact State.ok_reach h5
    · refine State.endAlign_reach f0 ?_
      intro t7 h8 d9
      exact State.refuse_reach h8

theorem execTbSlewStep_reach {s0} (f0 : Reach r s0) :
    OutK (Reach r) (execTbSlewStep s0) := by
  unfold execTbSlewStep
  extract_lets v0 v1 t2
  clear_value v0 v1
  have h3 : Reach r t2 := ite_k (Reach r) (State.addMod_reach f0) (ite_k (Reach r) f0 (State.addMod_reach f0))
  clear_value t2
  exact .next (ite_k (Reach r) f0 (State.setSlew_reach h3))

theorem execSyncInEdge_reach {x0 s1} (f1 : Reach r s1) :
    OutK (Reach r) (execSyncInEdge x0 s1) := by
  unfold execSyncInEdge
  refine .next ?_
  refine ite_k (Reach r) f1 ?_
  extract_lets t0 v1 v2 t3
  have h4 : Reach r t0 := State.setFld_reach (State.setReg_reach f1)
  clear_value t0 v1 v2
  have h5 : Reach r t3 := State.setFld_reach h4
  clear_value t3
  split
  · rename_i d6 e7
    exact h4
  · rename_i d8 d9 e10
    exact ite_k (Reach r) h4 (State.align_reach h5)

theorem execNoSync_reach {s0} (f0 : Reach r s0) :
    OutK (Reach r) (execNoSync s0) := by
  unfold execNoSync
  refine .next ?_
  split
  · rename_i d0 e1
    exact f0
  · rename_i d2 d3 e4
    refine ite_k (Reach r) ?_ f0
    refine State.endAlign_reach f0 ?_
    intro t5 h6 d7
    exact State.refuse_reach h6

theorem execTbRead_reach {x0 s1} (f1 : Reach r s1) :
    OutK (Reach r) (execTbRead x0 s1) := by
  unfold execTbRead
  refine .next ?_
  refine State.command_reach f1 ?_
  intro d0 t1 h2
  exact State.ok_reach h2

theorem State.calAdd_reach {s0 x1} (f0 : Reach r s0) :
    Reach r (State.calAdd s0 x1) := by
  unfold State.calAdd
  extract_lets v0 v1
  clear_value v0 v1
  exact State.setFld_reach (State.setFld_reach f0)

theorem State.setCalSlew_reach {s0 x1} (f0 : Reach r s0) :
    Reach r (State.setCalSlew s0 x1) := by
  unfold State.setCalSlew
  exact .upd f0

theorem execCalSet_reach {x0 x1 x2 s3} (f3 : Reach r s3) :
    OutK (Reach r) (execCalSet x0 x1 x2 s3) := by
  unfold execCalSet
  refine .next ?_
  refine State.command_reach f3 ?_
  intro d0 t1 h2
  extract_lets t3
  have h4 : Reach r t3 := State.setFld_reach (State.setFld_reach h2)
  clear_value t3
  exact State.ok_reach (State.setCalSlew_reach (State.setBit_reach h4))

theorem execCalDiscipline_reach {x0 x1 x2 s3} (f3 : Reach r s3) :
    OutK (Reach r) (execCalDiscipline x0 x1 x2 s3) := by
  unfold execCalDiscipline
  extract_lets v0
  clear_value v0
  refine .next ?_
  refine State.command_reach f3 ?_
  intro d1 t2 h3
  extract_lets t4
  have h5 : Reach r t4 := State.setFld_reach h3
  clear_value t4
  refine State.ok_reach ?_
  exact ite_k (Reach r) (State.setCalSlew_reach h5) (State.calAdd_reach (State.setCalSlew_reach h5))

theorem execCalSlewStep_reach {s0} (f0 : Reach r s0) :
    OutK (Reach r) (execCalSlewStep s0) := by
  unfold execCalSlewStep
  extract_lets v0 v1
  clear_value v0 v1
  exact .next (ite_k (Reach r) f0 (State.setCalSlew_reach (State.calAdd_reach f0)))

theorem execVbatLow_reach {x0 s1} (f1 : Reach r s1) :
    OutK (Reach r) (execVbatLow x0 s1) := by
  unfold execVbatLow
  exact .next (State.setBit_reach f1)

end Sys2Proof.Machine
end

