-- ==== Sys2Proof/Laws/ReachLanel.lean ====
section
/-! SUPPORT. Laws/ReachLanel.lean: every operation of Lanel links, proxies, joins and the contact sheet stays within `Reach`:
it writes registers and memory only by the named writes, and leaves the queue and the variant alone. -/
namespace Sys2Proof.Machine

variable {r : State}

/-! ## Lanel -/

theorem State.setPort_reach {s0 x1 x2} (f0 : Reach r s0) :
    Reach r (State.setPort s0 x1 x2) := by
  unfold State.setPort
  exact .upd f0

theorem State.setLn_reach {s0 x1 x2} (f0 : Reach r s0) :
    Reach r (State.setLn s0 x1 x2) := by
  unfold State.setLn
  exact State.setPort_reach (State.setFld_reach f0)

theorem State.lnDrop_reach {s0 x1} (f0 : Reach r s0) :
    Reach r (State.lnDrop s0 x1) := by
  unfold State.lnDrop
  extract_lets v0
  clear_value v0
  exact State.setPort_reach (State.addSat_reach f0)

theorem State.lnLost_reach {s0 x1} (f0 : Reach r s0) :
    Reach r (State.lnLost s0 x1) := by
  unfold State.lnLost
  extract_lets t0
  have h1 : Reach r t0 := by
    unfold t0
    split
    · rename_i d2 d3 e4
      refine ite_k (Reach r) ?_ f0
      refine State.endAlign_reach f0 ?_
      intro t5 h6 d7
      exact State.refuse_reach h6
    · rename_i d8 e9
      exact f0
  clear_value t0
  refine foldl_k (Reach r) h1 ?_
  intro t10 h11 d12
  split
  · rename_i d13 e14
    exact h11
  · rename_i d15 d16 e17
    refine State.complete_reach (.upd h11) ?_
    intro t18 h19 d20
    exact State.refuse_reach h19

theorem State.lnClear_reach {s0 x1} (f0 : Reach r s0) :
    Reach r (State.lnClear s0 x1) := by
  unfold State.lnClear
  extract_lets t0 v1 t2 v3 t4
  have h5 : Reach r t0 := State.lnDrop_reach f0
  clear_value t0 v1
  have h6 : Reach r t2 := State.setPort_reach h5
  clear_value t2 v3
  have h7 : Reach r t4 := State.signView_reach (.upd h6)
  clear_value t4
  exact State.lnLost_reach h7

theorem State.lnDown_reach {s0 x1 x2} (f0 : Reach r s0) :
    Reach r (State.lnDown s0 x1 x2) := by
  unfold State.lnDown
  extract_lets t0 t1 t2 t3 v4 t5
  have h6 : Reach r t0 := State.lnClear_reach f0
  clear_value t0
  have h7 : Reach r t1 := State.setFld_reach (State.setLn_reach h6)
  clear_value t1
  have h8 : Reach r t2 := State.addSat_reach h7
  clear_value t2
  have h9 : PairK AnyK (Reach r) t3 := State.draw_reach h8
  clear_value t3 v4
  have h10 : Reach r t5 := snd_k AnyK h9
  clear_value t5
  exact State.linkError_reach h10

theorem State.lnRefused_reach {s0 x1 x2} (f0 : Reach r s0) :
    Reach r (State.lnRefused s0 x1 x2) := by
  unfold State.lnRefused
  refine State.complete_reach f0 ?_
  intro t0 h1 d2
  exact State.refuse_reach h1

theorem State.lnFence_reach {s0 x1 x2} (f0 : Reach r s0) :
    Reach r (State.lnFence s0 x1 x2) := by
  unfold State.lnFence
  exact State.lnRefused_reach (State.setFld_reach (State.setLn_reach (State.lnClear_reach f0)))

theorem State.lnOff_reach {s0 x1 x2} (f0 : Reach r s0) :
    Reach r (State.lnOff s0 x1 x2) := by
  unfold State.lnOff
  extract_lets t0 v1 v2 t3 t4
  have h5 : Reach r t0 := State.lnClear_reach f0
  clear_value t0 v1
  have h6 : Reach r t3 := State.setPort_reach (State.setReg_reach h5)
  clear_value t3
  have h7 : Reach r t4 := by
    unfold t4
    refine State.complete_reach h6 ?_
    intro t8 h9 d10
    exact State.reply_reach h9
  clear_value t4
  refine State.complete_reach h7 ?_
  intro t11 h12 d13
  exact State.okForm_reach h12

theorem State.rekeyEnd_reach {s0 x1} (f0 : Reach r s0) :
    Reach r (State.rekeyEnd s0 x1) := by
  unfold State.rekeyEnd
  extract_lets v0
  clear_value v0
  exact ite_k (Reach r) (State.addSat_reach (State.setPort_reach (State.setLn_reach f0))) f0

theorem State.stamp_reach {s0} (f0 : Reach r s0) :
    PairK AnyK (Reach r) (State.stamp s0) := by
  unfold State.stamp
  extract_lets t0 v1 t2
  have h3 : PairK AnyK (Reach r) t0 := State.draw_reach f0
  clear_value t0 v1
  have h4 : Reach r t2 := snd_k AnyK h3
  clear_value t2
  exact .mk any_k h4

theorem State.lnStamp_reach {s0 x1 x2} (f0 : Reach r s0) :
    PairK AnyK (Reach r) (State.lnStamp s0 x1 x2) := by
  unfold State.lnStamp
  refine ite_k (PairK AnyK (Reach r)) ?_ ?_
  · extract_lets t0 v1 t2 v3
    have h4 : PairK AnyK (Reach r) t0 := State.stamp_reach f0
    clear_value t0 v1
    have h5 : Reach r t2 := snd_k AnyK h4
    clear_value t2 v3
    split
    · rename_i d6 d7 e8
      exact .mk any_k (ite_k (Reach r) (.upd h5) h5)
    · rename_i d9 e10
      exact .mk any_k h5
  · refine ite_k (PairK AnyK (Reach r)) ?_ (.mk any_k f0)
    extract_lets t11 v12 t13
    have h14 : PairK AnyK (Reach r) t11 := State.stamp_reach f0
    clear_value t11 v12
    have h15 : Reach r t13 := snd_k AnyK h14
    clear_value t13
    exact .mk any_k h15

theorem State.lnSend_reach {s0 x1 x2 x3} (f0 : Reach r s0) :
    Reach r (State.lnSend s0 x1 x2 x3) := by
  unfold State.lnSend
  extract_lets v0 v1 t2 v3 t4 t5 v6 t7 v8 v9 t10 t11 v12
  clear_value v0 v1
  have h13 : PairK AnyK (Reach r) t2 := ite_k (PairK AnyK (Reach r)) (State.draw_reach f0) (.mk any_k f0)
  clear_value t2 v3
  have h14 : Reach r t4 := snd_k AnyK h13
  clear_value t4
  have h15 : PairK AnyK (Reach r) t5 := State.lnStamp_reach h14
  clear_value t5 v6
  have h16 : Reach r t7 := snd_k AnyK h15
  clear_value t7 v8 v9
  have h17 : Reach r t10 := ite_k (Reach r) h16 (State.setReg_reach h16)
  clear_value t10
  have h18 : Reach r t11 := State.addWrap_reach (State.setPort_reach h17)
  clear_value t11 v12
  exact ite_k (Reach r) (State.rekeyEnd_reach (State.setReg_reach (State.setPort_reach h18))) h18

theorem State.lnPumpN_reach {s0 x1 x2} (f0 : Reach r s0) :
    Reach r (State.lnPumpN s0 x1 x2) := by
  induction x2 generalizing s0 x1 with
  | zero =>
    rw [State.lnPumpN]
    exact f0
  | succ y0 ih1 =>
    rw [State.lnPumpN]
    split
    · rename_i d2 e3
      exact f0
    · rename_i d4 d5 e6
      split
      · rename_i d7 e8
        exact f0
      · rename_i d9 d10 d11 d12 e13
        refine ite_k (Reach r) f0 ?_
        extract_lets t14
        have h15 : Reach r t14 := State.setPort_reach f0
        clear_value t14
        exact ih1 (State.lnSend_reach h15)

theorem State.lnPump_reach {s0 x1} (f0 : Reach r s0) :
    Reach r (State.lnPump s0 x1) := by
  unfold State.lnPump
  extract_lets t0
  have h1 : Reach r t0 := State.lnPumpN_reach f0
  clear_value t0
  exact State.setPort_reach h1

theorem State.lnDrained_reach {s0 x1} (f0 : Reach r s0) :
    Reach r (State.lnDrained s0 x1) := by
  unfold State.lnDrained
  extract_lets v0 t1
  clear_value v0
  have h2 : Reach r t1 := State.lnPump_reach (State.setPort_reach f0)
  clear_value t1
  exact ite_k (Reach r) f0 (ite_k (Reach r) (State.lnOff_reach f0) (ite_k (Reach r) (State.lnOff_reach h2) h2))

theorem State.lnQueue_reach {s0 x1 x2 x3 x4} (f0 : Reach r s0) :
    Reach r (State.lnQueue s0 x1 x2 x3 x4) := by
  unfold State.lnQueue
  refine ite_k (Reach r) ?_ (State.addSat_reach f0)
  extract_lets v0
  clear_value v0
  exact State.lnDrained_reach (State.lnPump_reach (State.setPort_reach f0))

theorem State.lnManage_reach {s0 x1 x2 x3 x4} (f0 : Reach r s0) :
    Reach r (State.lnManage s0 x1 x2 x3 x4) := by
  unfold State.lnManage
  exact State.lnQueue_reach f0

theorem execLvcCredit_reach {x0 x1 x2 s3} (f3 : Reach r s3) :
    OutK (Reach r) (execLvcCredit x0 x1 x2 s3) := by
  unfold execLvcCredit
  refine .next ?_
  refine ite_k (Reach r) ?_ f3
  extract_lets v0 t1
  clear_value v0
  have h2 : Reach r t1 := State.setPort_reach f3
  clear_value t1
  exact State.lnDrained_reach (State.lnPump_reach h2)

theorem State.lnAuthFail_reach {s0 x1} (f0 : Reach r s0) :
    Reach r (State.lnAuthFail s0 x1) := by
  unfold State.lnAuthFail
  extract_lets v0 v1 t2 t3
  clear_value v0 v1
  have h4 : Reach r t2 := State.setFld_reach (State.addSat_reach f0)
  clear_value t2
  have h5 : Reach r t3 := State.setPort_reach h4
  clear_value t3
  exact ite_k (Reach r) (State.lnFence_reach h5) h5

theorem State.lnOpen_reach {s0 x1 x2} (f0 : Reach r s0) :
    PairK AnyK (Reach r) (State.lnOpen s0 x1 x2) := by
  unfold State.lnOpen
  extract_lets v0 v1 v2 t3
  clear_value v0 v1 v2
  have h4 : Reach r t3 := State.setPort_reach (State.setReg_reach f0)
  clear_value t3
  refine ite_k (PairK AnyK (Reach r)) (.mk any_k (State.lnAuthFail_reach f0)) ?_
  split
  · rename_i d5 e6
    exact .mk any_k (State.lnAuthFail_reach f0)
  · rename_i d7 d8 e9
    exact .mk any_k (State.addWrap_reach h4)

theorem State.lnGot_reach {s0 x1 x2 x3} {k4 : List Byte → State → State} (f0 : Reach r s0) (f4 : (∀ y00, ∀ y01,
    Reach r y01 → Reach r (k4 y00 y01))) :
    Reach r (State.lnGot s0 x1 x2 x3 k4) := by
  unfold State.lnGot
  refine ite_k (Reach r) f0 ?_
  split
  · rename_i t0 t1 e2
    have h3 := use_k (PairK AnyK (Reach r)) e2 (State.lnOpen_reach f0)
    have h4 := pair_snd h3
    clear h3
    exact h4
  · rename_i t5 d6 t7 e8
    have h9 := use_k (PairK AnyK (Reach r)) e8 (State.lnOpen_reach f0)
    have h10 := pair_snd h9
    clear h9
    exact f4 _ _ h10

theorem State.lnUnknown_reach {s0 x1} (f0 : Reach r s0) :
    Reach r (State.lnUnknown s0 x1) := by
  unfold State.lnUnknown
  exact State.addSat_reach f0

theorem execKeepalive_reach {x0 x1 s2} (f2 : Reach r s2) :
    OutK (Reach r) (execKeepalive x0 x1 s2) := by
  unfold execKeepalive
  refine .next ?_
  refine State.lnGot_reach f2 ?_
  intro d0 t1 h2
  exact h2

theorem execKeepaliveSend_reach {x0 s1} (f1 : Reach r s1) :
    OutK (Reach r) (execKeepaliveSend x0 s1) := by
  unfold execKeepaliveSend
  exact .next (ite_k (Reach r) (State.lnManage_reach f1) f1)

theorem execKeepaliveTimeout_reach {x0 s1} (f1 : Reach r s1) :
    OutK (Reach r) (execKeepaliveTimeout x0 s1) := by
  unfold execKeepaliveTimeout
  extract_lets v0
  clear_value v0
  exact .next (ite_k (Reach r) (State.lnDown_reach f1) f1)

theorem execCreditTimeout_reach {x0 s1} (f1 : Reach r s1) :
    OutK (Reach r) (execCreditTimeout x0 s1) := by
  unfold execCreditTimeout
  extract_lets v0 v1
  clear_value v0 v1
  exact .next (ite_k (Reach r) (State.lnDown_reach f1) f1)

theorem execClose_reach {x0 x1 s2} (f2 : Reach r s2) :
    OutK (Reach r) (execClose x0 x1 s2) := by
  unfold execClose
  refine .next ?_
  refine State.lnGot_reach f2 ?_
  intro d0 t1 h2
  exact State.lnDown_reach h2

theorem execLnReplay_reach {x0 x1 x2 s3} (f3 : Reach r s3) :
    OutK (Reach r) (execLnReplay x0 x1 x2 s3) := by
  unfold execLnReplay
  extract_lets v0 t1
  clear_value v0
  have h2 : Reach r t1 := State.addSat_reach f3
  clear_value t1
  refine .next ?_
  refine ite_k (Reach r) f3 ?_
  split
  · rename_i d3
    exact State.addSat_reach (State.addSat_reach h2)
  · rename_i d4
    exact State.setPort_reach (State.addSat_reach (State.addSat_reach f3))
  · rename_i d5
    exact State.setPort_reach (State.addSat_reach (State.addSat_reach f3))

theorem execLnRetrain_reach {x0 x1 s2} (f2 : Reach r s2) :
    OutK (Reach r) (execLnRetrain x0 x1 s2) := by
  unfold execLnRetrain
  extract_lets v0 v1 t2 t3
  clear_value v0 v1
  have h4 : Reach r t2 := State.addSat_reach f2
  clear_value t2
  have h5 : Reach r t3 := State.setPort_reach h4
  clear_value t3
  exact .next (ite_k (Reach r) f2 (ite_k (Reach r) (State.lnDown_reach h5) h5))

theorem State.lnFail_reach {s0 x1} (f0 : Reach r s0) :
    Reach r (State.lnFail s0 x1) := by
  unfold State.lnFail
  extract_lets v0 v1 t2
  clear_value v0 v1
  have h3 : Reach r t2 := State.setPort_reach f0
  clear_value t2
  exact ite_k (Reach r) (State.lnFence_reach h3) (State.lnRefused_reach (State.lnDown_reach h3))

theorem State.lnHello_reach {s0 x1} (f0 : Reach r s0) :
    Reach r (State.lnHello s0 x1) := by
  unfold State.lnHello
  extract_lets t0 v1 t2 v3 v4 v5 v6 t7
  have h8 : PairK AnyK (Reach r) t0 := State.draw_reach f0
  clear_value t0 v1
  have h9 : Reach r t2 := snd_k AnyK h8
  clear_value t2 v3 v4 v5 v6
  have h10 : Reach r t7 := State.setPort_reach (State.setLn_reach h9)
  clear_value t7
  refine foldl_k (Reach r) h10 ?_
  intro t11 h12 d13
  exact State.lnQueue_reach h12

theorem State.lnKemStart_reach {s0 x1 x2} (f0 : Reach r s0) :
    Reach r (State.lnKemStart s0 x1 x2) := by
  unfold State.lnKemStart
  extract_lets t0 v1 t2 v3 v4 v5
  have h6 : PairK AnyK (Reach r) t0 := State.draw_reach f0
  clear_value t0 v1
  have h7 : Reach r t2 := snd_k AnyK h6
  clear_value t2 v3 v4 v5
  exact State.lnQueue_reach (State.setPort_reach h7)

theorem State.lnHelloDone_reach {s0 x1 x2} (f0 : Reach r s0) :
    Reach r (State.lnHelloDone s0 x1 x2) := by
  unfold State.lnHelloDone
  extract_lets v0 v1 v2 v3 t4 t5
  clear_value v0 v1 v2 v3
  have h6 : Reach r t4 := State.setPort_reach f0
  clear_value t4
  have h7 : Reach r t5 := State.setBit_reach h6
  clear_value t5
  exact ite_k (Reach r) (State.lnKemStart_reach h7) h7

theorem execHello_reach {x0 x1 s2} (f2 : Reach r s2) :
    OutK (Reach r) (execHello x0 x1 s2) := by
  unfold execHello
  extract_lets v0 v1 t2 v3 v4 t5
  clear_value v0 v1
  have h6 : Reach r t2 := State.addWrap_reach f2
  clear_value t2 v3 v4
  have h7 : Reach r t5 := State.setPort_reach h6
  clear_value t5
  refine .next ?_
  refine ite_k (Reach r) f2 ?_
  exact ite_k (Reach r) (State.lnFail_reach h7) (ite_k (Reach r) (State.lnHelloDone_reach h7) h7)

theorem State.lnDerive_reach {s0 x1 x2} (f0 : Reach r s0) :
    Reach r (State.lnDerive s0 x1 x2) := by
  unfold State.lnDerive
  extract_lets v0 v1 v2 v3 v4 v5 v6 v7 v8 v9 t10 t11
  clear_value v0 v1 v2 v3 v4 v5 v6 v7 v8 v9
  have h12 : Reach r t10 := State.setReg_reach (State.setReg_reach f0)
  clear_value t10
  have h13 : Reach r t11 := State.setPort_reach h12
  clear_value t11
  exact ite_k (Reach r) (State.lnManage_reach (State.setPort_reach f0)) (ite_k (Reach r) (State.lnFail_reach h13)
      (State.queueSign_reach h13))

theorem State.lnRekey_reach {s0 x1} (f0 : Reach r s0) :
    Reach r (State.lnRekey s0 x1) := by
  unfold State.lnRekey
  extract_lets v0 v1
  clear_value v0 v1
  exact State.setPort_reach (State.setLn_reach f0)

theorem State.lnKem_reach {s0 x1 x2 x3} {k4 : State → State} (f0 : Reach r s0) (f4 : (∀ y00, Reach r y00 → Reach r
    (k4 y00))) :
    Reach r (State.lnKem s0 x1 x2 x3 k4) := by
  unfold State.lnKem
  extract_lets v0 v1 v2 t3 v4 t5 v6 t7
  clear_value v0 v1 v2
  have h8 : PairK AnyK (Reach r) t3 := State.draw_reach f0
  clear_value t3 v4
  have h9 : Reach r t5 := snd_k AnyK h8
  clear_value t5 v6
  have h10 : Reach r t7 := State.setPort_reach h9
  clear_value t7
  refine ite_k (Reach r) (f4 _ f0) ?_
  exact ite_k (Reach r) (ite_k (Reach r) (f4 _ f0) (State.lnDerive_reach (State.setPort_reach f0))) (ite_k (Reach
      r) (f4 _ f0) (State.lnDerive_reach (State.lnQueue_reach h10)))

theorem execKem_reach {x0 x1 s2} (f2 : Reach r s2) :
    OutK (Reach r) (execKem x0 x1 s2) := by
  unfold execKem
  refine .next ?_
  refine ite_k (Reach r) ?_ ?_
  · extract_lets t0
    have h1 : Reach r t0 := State.addWrap_reach f2
    clear_value t0
    refine ite_k (Reach r) (State.lnFail_reach h1) ?_
    refine State.lnKem_reach h1 ?_
    intro t2 h3
    exact State.lnFail_reach h3
  · refine State.lnGot_reach f2 ?_
    intro d4 t5 h6
    extract_lets t7
    have h8 : Reach r t7 := ite_k (Reach r) (State.lnRekey_reach h6) h6
    clear_value t7
    refine ite_k (Reach r) ?_ h8
    refine State.lnKem_reach h8 ?_
    intro t9 h10
    exact State.lnDown_reach h10

theorem State.lnActive_reach {s0 x1} (f0 : Reach r s0) :
    Reach r (State.lnActive s0 x1) := by
  unfold State.lnActive
  extract_lets v0 v1 t2 t3 v4 t5
  clear_value v0 v1
  have h6 : Reach r t2 := State.addSat_reach (State.setDigestRegs_reach f0)
  clear_value t2
  have h7 : Reach r t3 := State.setFld_reach (State.setLn_reach h6)
  clear_value t3 v4
  have h8 : Reach r t5 := State.setPort_reach h7
  clear_value t5
  refine State.complete_reach (State.lnPump_reach h8) ?_
  intro t9 h10 d11
  exact State.ok_reach h10

theorem State.lnFinish_reach {s0 x1} (f0 : Reach r s0) :
    Reach r (State.lnFinish s0 x1) := by
  unfold State.lnFinish
  extract_lets v0 v1 t2 v3
  clear_value v0 v1
  have h4 : Reach r t2 := ite_k (Reach r) (State.lnManage_reach (State.setPort_reach f0)) f0
  clear_value t2 v3
  exact ite_k (Reach r) (State.lnActive_reach h4) h4

theorem execSign_reach {x0 x1 s2} (f2 : Reach r s2) :
    OutK (Reach r) (execSign x0 x1 s2) := by
  unfold execSign
  extract_lets v0 t1 v2
  clear_value v0
  have h3 : Reach r t1 := State.addWrap_reach f2
  clear_value t1 v2
  refine .next ?_
  refine ite_k (Reach r) f2 ?_
  exact ite_k (Reach r) (State.lnFinish_reach (State.setPort_reach h3)) (State.lnFail_reach h3)

theorem execFinished_reach {x0 x1 s2} (f2 : Reach r s2) :
    OutK (Reach r) (execFinished x0 x1 s2) := by
  unfold execFinished
  refine .next ?_
  refine ite_k (Reach r) f2 ?_
  refine ite_k (Reach r) (State.lnFail_reach f2) ?_
  split
  · rename_i t0 t1 e2
    have h3 := use_k (PairK AnyK (Reach r)) e2 (State.lnOpen_reach f2)
    have h4 := pair_snd h3
    clear h3
    exact ite_k (Reach r) (State.lnFail_reach h4) h4
  · rename_i t5 d6 t7 e8
    have h9 := use_k (PairK AnyK (Reach r)) e8 (State.lnOpen_reach f2)
    have h10 := pair_snd h9
    clear h9
    exact State.lnFinish_reach (State.setPort_reach h10)

theorem execHandshakeTimeout_reach {x0 s1} (f1 : Reach r s1) :
    OutK (Reach r) (execHandshakeTimeout x0 s1) := by
  unfold execHandshakeTimeout
  exact .next (ite_k (Reach r) (State.lnFail_reach f1) f1)

theorem execSigningQueue_reach {x0 s1} (f1 : Reach r s1) :
    OutK (Reach r) (execSigningQueue x0 s1) := by
  unfold execSigningQueue
  refine .next ?_
  split
  · rename_i d0 e1
    exact f1
  · rename_i d2 d3 d4 e5
    extract_lets t6 t7 v8 t9 t10 t11 v12 t13 t14 v15 v16 t17
    have h18 : PairK AnyK (Reach r) t7 := by
      unfold t7
      refine State.draw_reach ?_
      unfold t6
      exact State.signView_reach (.upd f1)
    clear_value t7 v8
    have h19 : Reach r t9 := snd_k AnyK h18
    clear_value t9
    have h20 : Reach r t10 := by
      unfold t10
      refine State.reserveLeaves_reach ?_
      unfold t6
      exact State.signView_reach (.upd f1)
    clear_value t10
    have h21 : PairK AnyK (Reach r) t11 := State.useLeaf_reach h20
    clear_value t11 v12
    have h22 : Reach r t13 := snd_k AnyK h21
    clear_value t13
    have h23 : Reach r t14 := State.lnManage_reach h22
    clear_value t14 v15 v16
    have h24 : Reach r t17 := .upd h20
    clear_value t17
    refine ite_k (Reach r) ?_ ?_
    · refine ite_k (Reach r) ?_ ?_
      · refine State.lnFail_reach ?_
        unfold t6
        exact State.signView_reach (.upd f1)
      · refine State.complete_reach h19 ?_
        intro t25 h26 d27
        exact State.refuse_reach h26
    · refine ite_k (Reach r) f1 ?_
      refine ite_k (Reach r) (State.setBit_reach f1) ?_
      exact ite_k (Reach r) (State.lnFinish_reach (State.setPort_reach h23)) (State.finishAttest_reach h24)

theorem execRekey_reach {x0 x1 s2} (f2 : Reach r s2) :
    OutK (Reach r) (execRekey x0 x1 s2) := by
  unfold execRekey
  extract_lets v0
  clear_value v0
  refine .next ?_
  split
  · rename_i d1
    refine ite_k (Reach r) ?_ f2
    exact ite_k (Reach r) (State.lnKemStart_reach (State.lnRekey_reach f2)) (State.lnManage_reach
        (State.lnRekey_reach f2))
  · rename_i d2 d3
    refine State.lnGot_reach f2 ?_
    intro d4 t5 h6
    exact ite_k (Reach r) (State.lnKemStart_reach (State.lnRekey_reach h6)) h6

theorem execRekeySwitch_reach {x0 x1 s2} (f2 : Reach r s2) :
    OutK (Reach r) (execRekeySwitch x0 x1 s2) := by
  unfold execRekeySwitch
  refine .next ?_
  refine State.lnGot_reach f2 ?_
  intro d0 t1 h2
  split
  · rename_i d3 e4
    exact h2
  · rename_i d5 d6 e7
    exact State.rekeyEnd_reach (State.setReg_reach (State.setPort_reach h2))

theorem execRekeyTimeout_reach {x0 s1} (f1 : Reach r s1) :
    OutK (Reach r) (execRekeyTimeout x0 s1) := by
  unfold execRekeyTimeout
  exact .next (ite_k (Reach r) (State.lnDown_reach f1) f1)

theorem State.lnLanes_reach {s0 x1 x2} (f0 : Reach r s0) :
    PairK AnyK (Reach r) (State.lnLanes s0 x1 x2) := by
  unfold State.lnLanes
  extract_lets v0 v1 v2 v3 t4 t5 t6 t7
  clear_value v0 v1 v2 v3
  have h8 : Reach r t4 := by
    unfold t4
    refine foldl_k (Reach r) f0 ?_
    intro t9 h10 d11
    exact State.setFld_reach h10
  clear_value t4
  have h12 : Reach r t5 := by
    unfold t5
    refine foldl_k (Reach r) h8 ?_
    intro t13 h14 d15
    exact State.setFld_reach h14
  clear_value t5
  have h16 : Reach r t6 := State.setPort_reach h12
  clear_value t6
  have h17 : Reach r t7 := ite_k (Reach r) h16 (State.publish_reach h16)
  clear_value t7
  exact .mk any_k h17

theorem State.lnTrained_reach {s0 x1 x2 x3 x4} (f0 : Reach r s0) :
    Reach r (State.lnTrained s0 x1 x2 x3 x4) := by
  unfold State.lnTrained
  extract_lets t0 v1 t2 t3 t4
  have h5 : PairK AnyK (Reach r) t0 := State.drawList_reach f0
  clear_value t0 v1
  have h6 : Reach r t2 := snd_k AnyK h5
  clear_value t2
  have h7 : Reach r t3 := by
    unfold t3
    refine foldl_k (Reach r) h6 ?_
    intro t8 h9 d10
    extract_lets v11 v12 v13 t14
    clear_value v11 v12 v13
    have h15 : Reach r t14 := State.setBit_reach (State.setFld_reach h9)
    clear_value t14
    exact ite_k (Reach r) h9 (State.setFld_reach (State.setFld_reach h15))
  clear_value t3
  have h16 : Reach r t4 := State.setBit_reach (State.setBit_reach h7)
  clear_value t4
  exact State.lnHello_reach h16

theorem State.lnTrain_reach {s0 x1 x2} (f0 : Reach r s0) :
    Reach r (State.lnTrain s0 x1 x2) := by
  unfold State.lnTrain
  extract_lets t0
  have h1 : Reach r t0 := State.setLn_reach f0
  clear_value t0
  split
  · rename_i d2
    exact h1
  · rename_i d3 d4
    extract_lets t5 v6 t7
    have h8 : PairK AnyK (Reach r) t5 := State.lnLanes_reach h1
    clear_value t5 v6
    have h9 : Reach r t7 := snd_k AnyK h8
    clear_value t7
    refine ite_k (Reach r) (State.lnRefused_reach (State.lnDown_reach h9)) ?_
    split
    · rename_i d10 e11
      exact State.lnRefused_reach (State.lnDown_reach h9)
    · rename_i d12 d13 d14 e15
      exact State.lnTrained_reach h9

theorem execLnPortEnable_reach {x0 x1 s2} (f2 : Reach r s2) :
    OutK (Reach r) (execLnPortEnable x0 x1 s2) := by
  unfold execLnPortEnable
  exact .next (ite_k (Reach r) (State.lnTrain_reach f2) f2)

theorem execTrainTimeout_reach {x0 s1} (f1 : Reach r s1) :
    OutK (Reach r) (execTrainTimeout x0 s1) := by
  unfold execTrainTimeout
  extract_lets v0
  clear_value v0
  exact .next (ite_k (Reach r) (State.lnRefused_reach (State.lnDown_reach f1)) f1)

theorem execDownRetry_reach {x0 x1 s2} (f2 : Reach r s2) :
    OutK (Reach r) (execDownRetry x0 x1 s2) := by
  unfold execDownRetry
  exact .next (ite_k (Reach r) (State.lnTrain_reach f2) f2)

theorem execLnEnable_reach {x0 x1 x2 s3} (f3 : Reach r s3) :
    OutK (Reach r) (execLnEnable x0 x1 x2 s3) := by
  unfold execLnEnable
  extract_lets v0
  clear_value v0
  refine .next ?_
  refine State.command_reach f3 ?_
  intro d1 t2 h3
  refine ite_k (Reach r) (State.refuse_reach h3) ?_
  refine ite_k (Reach r) (State.reply_reach h3) ?_
  exact ite_k (Reach r) (State.refuse_reach h3) (State.lnTrain_reach (State.await_reach h3))

theorem State.lnDisable_reach {s0 x1 x2} (f0 : Reach r s0) :
    Reach r (State.lnDisable s0 x1 x2) := by
  unfold State.lnDisable
  extract_lets v0
  clear_value v0
  exact ite_k (Reach r) (State.lnOff_reach f0) (ite_k (Reach r) f0 (State.lnDrained_reach (State.setPort_reach f0)))

theorem execLnDisable_reach {x0 x1 s2} (f2 : Reach r s2) :
    OutK (Reach r) (execLnDisable x0 x1 s2) := by
  unfold execLnDisable
  extract_lets v0
  clear_value v0
  refine .next ?_
  refine State.command_reach f2 ?_
  intro d1 t2 h3
  refine ite_k (Reach r) (State.reply_reach h3) ?_
  exact ite_k (Reach r) (State.ok_reach (State.lnOff_reach h3)) (State.lnDisable_reach (State.await_reach h3))

theorem execLnDisableReq_reach {x0 x1 s2} (f2 : Reach r s2) :
    OutK (Reach r) (execLnDisableReq x0 x1 s2) := by
  unfold execLnDisableReq
  extract_lets t0
  have h1 : Reach r t0 := State.setFld_reach f2
  clear_value t0
  exact .next (ite_k (Reach r) h1 (State.lnDisable_reach h1))

theorem execLnDrainTimeout_reach {x0 s1} (f1 : Reach r s1) :
    OutK (Reach r) (execLnDrainTimeout x0 s1) := by
  unfold execLnDrainTimeout
  extract_lets v0 v1
  clear_value v0 v1
  exact .next (ite_k (Reach r) (State.lnOff_reach f1) f1)

theorem execLnStatus_reach {x0 x1 s2} (f2 : Reach r s2) :
    OutK (Reach r) (execLnStatus x0 x1 s2) := by
  unfold execLnStatus
  extract_lets v0
  clear_value v0
  refine .next ?_
  refine State.command_reach f2 ?_
  intro d1 t2 h3
  extract_lets v4 v5
  clear_value v4 v5
  exact State.ok_reach h3

/-! ## Proxies -/

theorem State.setEg_reach {s0 x1 x2} (f0 : Reach r s0) :
    Reach r (State.setEg s0 x1 x2) := by
  unfold State.setEg
  exact .upd f0

theorem State.setIng_reach {s0 x1 x2} (f0 : Reach r s0) :
    Reach r (State.setIng s0 x1 x2) := by
  unfold State.setIng
  exact .upd f0

theorem State.edgeSend_reach {s0 x1 x2 x3} (f0 : Reach r s0) :
    Reach r (State.edgeSend s0 x1 x2 x3) := by
  unfold State.edgeSend
  exact .upd f0

theorem State.edgeReply_reach {s0 x1 x2 x3 x4} (f0 : Reach r s0) :
    Reach r (State.edgeReply s0 x1 x2 x3 x4) := by
  unfold State.edgeReply
  exact State.edgeSend_reach f0

theorem State.egressTake_reach {s0 x1 x2} (f0 : Reach r s0) :
    Reach r (State.egressTake s0 x1 x2) := by
  unfold State.egressTake
  split
  · rename_i d0 e1
    exact f0
  · rename_i d2 d3 d4 e5
    extract_lets v6 v7 t8 v9 v10
    clear_value v6 v7
    have h11 : Reach r t8 := State.netDrop_reach f0
    clear_value t8 v9 v10
    refine ite_k (Reach r) (State.edgeReply_reach h11) ?_
    refine ite_k (Reach r) (State.edgeReply_reach h11) ?_
    refine ite_k (Reach r) (State.edgeReply_reach h11) ?_
    split
    · rename_i d12 e13
      exact State.edgeReply_reach h11
    · rename_i d14 d15 e16
      exact State.edgeReply_reach (State.setEg_reach h11)

theorem execEgressSend_reach {x0 x1 s2} (f2 : Reach r s2) :
    OutK (Reach r) (execEgressSend x0 x1 s2) := by
  unfold execEgressSend
  extract_lets v0 v1 v2
  clear_value v0 v1 v2
  refine .next ?_
  split
  · rename_i d3 e4
    exact f2
  · rename_i d5 d6 d7 d8 e9
    refine ite_k (Reach r) ?_ f2
    extract_lets v10 t11
    clear_value v10
    have h12 : Reach r t11 := State.setFld_reach f2
    clear_value t11
    exact State.lnQueue_reach (State.setEg_reach h12)

theorem State.lnRouted_reach {s0 x1 x2 x3} {k4 : List Byte → State → State} (f0 : Reach r s0) (f4 : (∀ y00, ∀ y01,
    Reach r y01 → Reach r (k4 y00 y01))) :
    Reach r (State.lnRouted s0 x1 x2 x3 k4) := by
  unfold State.lnRouted
  refine ite_k (Reach r) f0 ?_
  split
  · rename_i t0 t1 e2
    have h3 := use_k (PairK AnyK (Reach r)) e2 (State.lnOpen_reach f0)
    have h4 := pair_snd h3
    clear h3
    exact h4
  · rename_i t5 d6 t7 e8
    have h9 := use_k (PairK AnyK (Reach r)) e8 (State.lnOpen_reach f0)
    have h10 := pair_snd h9
    clear h9
    exact ite_k (Reach r) (State.lnUnknown_reach h10) (f4 _ _ h10)

theorem execTransitFrame_reach {x0 x1 s2} (f2 : Reach r s2) :
    OutK (Reach r) (execTransitFrame x0 x1 s2) := by
  unfold execTransitFrame
  refine .next ?_
  refine State.lnRouted_reach f2 ?_
  intro d0 t1 h2
  extract_lets v3 v4 v5
  clear_value v3 v4 v5
  exact ite_k (Reach r) (State.lnUnknown_reach h2) (ite_k (Reach r) (State.addSat_reach h2) (State.lnQueue_reach h2))

theorem execProxyCredit_reach {x0 x1 s2} (f2 : Reach r s2) :
    OutK (Reach r) (execProxyCredit x0 x1 s2) := by
  unfold execProxyCredit
  refine .next ?_
  refine State.lnRouted_reach f2 ?_
  intro d0 t1 h2
  extract_lets v3
  clear_value v3
  split
  · rename_i d4 e5
    exact State.lnUnknown_reach h2
  · rename_i d6 d7 e8
    exact State.addSat_reach h2

theorem State.inInject_reach {s0 x1 x2 x3} (f0 : Reach r s0) :
    Reach r (State.inInject s0 x1 x2 x3) := by
  unfold State.inInject
  extract_lets v0
  clear_value v0
  exact State.edgeSend_reach f0

theorem State.inPump_reach {s0 x1 x2 x3} (f0 : Reach r s0) :
    Reach r (State.inPump s0 x1 x2 x3) := by
  induction x3 generalizing s0 x1 x2 with
  | zero =>
    rw [State.inPump]
    exact f0
  | succ y0 ih1 =>
    rw [State.inPump]
    split
    · rename_i d2 e3
      exact f0
    · rename_i d4 d5 d6 e7
      refine ite_k (Reach r) f0 ?_
      split
      · rename_i d8 e9
        exact ih1 (State.signal_reach (State.setIng_reach f0))
      · rename_i d10 d11 e12
        extract_lets v13 t14
        clear_value v13
        have h15 : Reach r t14 := State.addMod_reach f0
        clear_value t14
        exact ih1 (State.inInject_reach (State.setIng_reach h15))

theorem State.inPumpAll_reach {s0 x1 x2} (f0 : Reach r s0) :
    Reach r (State.inPumpAll s0 x1 x2) := by
  unfold State.inPumpAll
  exact State.inPump_reach f0

theorem execIngressFrame_reach {x0 x1 s2} (f2 : Reach r s2) :
    OutK (Reach r) (execIngressFrame x0 x1 s2) := by
  unfold execIngressFrame
  refine .next ?_
  refine State.lnRouted_reach f2 ?_
  intro d0 t1 h2
  extract_lets v3 v4 v5 v6
  clear_value v3 v4 v5 v6
  split
  · rename_i d7 e8
    exact State.lnUnknown_reach h2
  · rename_i d9 d10 e11
    extract_lets v12 t13 v14
    clear_value v12
    have h15 : Reach r t13 := ite_k (Reach r) (State.setReg_reach (State.setReg_reach h2)) h2
    clear_value t13 v14
    exact ite_k (Reach r) (State.addSat_reach (State.setIng_reach h15)) (State.inPumpAll_reach (State.setIng_reach
        h15))

theorem State.inCredit_reach {s0 x1 x2 x3} (f0 : Reach r s0) :
    Reach r (State.inCredit s0 x1 x2 x3) := by
  unfold State.inCredit
  extract_lets v0 v1
  clear_value v0 v1
  exact State.lnQueue_reach f0

theorem State.inAck_reach {s0 x1} (f0 : Reach r s0) :
    Reach r (State.inAck s0 x1) := by
  unfold State.inAck
  split
  · rename_i d0 e1
    exact f0
  · rename_i d2 d3 d4 e5
    extract_lets t6
    have h7 : Reach r t6 := State.netDrop_reach f0
    clear_value t6
    split
    · rename_i d8 e9
      exact h7
    · rename_i d10 d11 d12 e13
      extract_lets v14
      clear_value v14
      exact State.inPumpAll_reach (State.inCredit_reach (State.setIng_reach h7))

theorem State.inNack_reach {s0 x1} (f0 : Reach r s0) :
    Reach r (State.inNack s0 x1) := by
  unfold State.inNack
  split
  · rename_i d0 e1
    exact f0
  · rename_i d2 d3 d4 e5
    extract_lets t6 v7
    have h8 : Reach r t6 := State.netDrop_reach f0
    clear_value t6 v7
    split
    · rename_i d9 e10
      exact h8
    · rename_i d11 d12 d13 e14
      extract_lets v15
      clear_value v15
      refine ite_k (Reach r) (State.setIng_reach h8) ?_
      exact ite_k (Reach r) (State.inPumpAll_reach (State.setIng_reach h8)) (State.signal_reach (State.setIng_reach
          h8))

theorem State.inRetry_reach {s0 x1 x2} (f0 : Reach r s0) :
    Reach r (State.inRetry s0 x1 x2) := by
  unfold State.inRetry
  extract_lets v0 t1
  clear_value v0
  have h2 : Reach r t1 := State.setIng_reach f0
  clear_value t1
  refine ite_k (Reach r) ?_ f0
  refine foldl_k (Reach r) h2 ?_
  intro t3 h4 d5
  exact State.inInject_reach h4

theorem State.inTimeout_reach {s0 x1 x2 x3} (f0 : Reach r s0) :
    Reach r (State.inTimeout s0 x1 x2 x3) := by
  unfold State.inTimeout
  extract_lets v0
  clear_value v0
  split
  · rename_i d1 e2
    exact f0
  · rename_i d3 d4 e5
    exact ite_k (Reach r) f0 (State.inInject_reach f0)

theorem State.atPlace_reach {s0 x1} {k2 : ℕ → State} {k3 : ℕ → State} (f0 : Reach r s0) (f2 : (∀ y00, Reach r (k2
    y00))) (f3 : (∀ y00, Reach r (k3 y00))) :
    Reach r (State.atPlace s0 x1 k2 k3) := by
  unfold State.atPlace
  exact ite_k (Reach r) (f2 _) (ite_k (Reach r) (f3 _) f0)

theorem execData_reach {x0 s1} (f1 : Reach r s1) :
    OutK (Reach r) (execData x0 s1) := by
  unfold execData
  refine .next ?_
  refine State.atPlace_reach f1 ?_ ?_
  · intro d0
    exact State.dataAt_reach f1
  · intro d1
    exact State.egressTake_reach f1

theorem execToken_reach {x0 s1} (f1 : Reach r s1) :
    OutK (Reach r) (execToken x0 s1) := by
  unfold execToken
  refine .next ?_
  refine State.atPlace_reach f1 ?_ ?_
  · intro d0
    exact State.tokenAt_reach f1
  · intro d1
    exact State.egressTake_reach f1

theorem execCounterAdd_reach {x0 s1} (f1 : Reach r s1) :
    OutK (Reach r) (execCounterAdd x0 s1) := by
  unfold execCounterAdd
  refine .next ?_
  refine State.atPlace_reach f1 ?_ ?_
  · intro d0
    exact State.addAt_reach f1
  · intro d1
    exact State.egressTake_reach f1

theorem execCombine_reach {x0 s1} (f1 : Reach r s1) :
    OutK (Reach r) (execCombine x0 s1) := by
  unfold execCombine
  refine .next ?_
  refine State.atPlace_reach f1 ?_ ?_
  · intro d0
    exact State.combineMsg_reach f1
  · intro d1
    exact State.egressTake_reach f1

theorem execAck_reach {x0 s1} (f1 : Reach r s1) :
    OutK (Reach r) (execAck x0 s1) := by
  unfold execAck
  refine .next ?_
  refine State.atPlace_reach f1 ?_ ?_
  · intro d0
    exact State.ackAt_reach f1
  · intro d1
    exact State.inAck_reach f1

theorem execNack_reach {x0 s1} (f1 : Reach r s1) :
    OutK (Reach r) (execNack x0 s1) := by
  unfold execNack
  refine .next ?_
  refine State.atPlace_reach f1 ?_ ?_
  · intro d0
    exact State.nackAt_reach f1
  · intro d1
    exact State.inNack_reach f1

theorem execRetryRound_reach {x0 x1 s2} (f2 : Reach r s2) :
    OutK (Reach r) (execRetryRound x0 x1 s2) := by
  unfold execRetryRound
  refine .next ?_
  refine State.atPlace_reach f2 ?_ ?_
  · intro d0
    exact State.retryRound_reach f2
  · intro d1
    exact State.inRetry_reach f2

theorem execAckTimeout_reach {x0 x1 x2 s3} (f3 : Reach r s3) :
    OutK (Reach r) (execAckTimeout x0 x1 x2 s3) := by
  unfold execAckTimeout
  refine .next ?_
  refine State.atPlace_reach f3 ?_ ?_
  · intro d0
    exact State.ackTimeout_reach f3
  · intro d1
    exact State.inTimeout_reach f3

/-! ## Joins -/

theorem State.tbAsk_reach {s0 x1} (f0 : Reach r s0) :
    Reach r (State.tbAsk s0 x1) := by
  unfold State.tbAsk
  exact State.lnManage_reach f0

theorem execTbAlign_reach {x0 x1 s2} (f2 : Reach r s2) :
    OutK (Reach r) (execTbAlign x0 x1 s2) := by
  unfold execTbAlign
  extract_lets v0
  clear_value v0
  refine .next ?_
  refine ite_k (Reach r) f2 ?_
  refine State.command_reach f2 ?_
  intro d1 t2 h3
  refine ite_k (Reach r) (State.refuse_reach h3) ?_
  extract_lets t4 v5 t6
  have h7 : Reach r t4 := State.await_reach h3
  clear_value t4 v5
  have h8 : Reach r t6 := .upd h7
  clear_value t6
  exact ite_k (Reach r) (State.tbAsk_reach h8) h8

theorem execTbReq_reach {x0 x1 s2} (f2 : Reach r s2) :
    OutK (Reach r) (execTbReq x0 x1 s2) := by
  unfold execTbReq
  refine .next ?_
  refine State.lnGot_reach f2 ?_
  intro d0 t1 h2
  extract_lets t3 v4 t5
  have h6 : PairK AnyK (Reach r) t3 := State.stamp_reach h2
  clear_value t3 v4
  have h7 : Reach r t5 := snd_k AnyK h6
  clear_value t5
  exact State.lnManage_reach h7

theorem execTbRsp_reach {x0 x1 s2} (f2 : Reach r s2) :
    OutK (Reach r) (execTbRsp x0 x1 s2) := by
  unfold execTbRsp
  refine .next ?_
  refine State.lnGot_reach f2 ?_
  intro d0 t1 h2
  split
  · rename_i d3 e4
    exact h2
  · rename_i d5 d6 e7
    refine ite_k (Reach r) h2 ?_
    extract_lets t8 v9 t10 v11 v12 v13 v14 v15 v16 v17 v18 t19
    have h20 : PairK AnyK (Reach r) t8 := State.stamp_reach h2
    clear_value t8 v9
    have h21 : Reach r t10 := snd_k AnyK h20
    clear_value t10 v11 v12 v13 v14 v15 v16 v17 v18
    have h22 : Reach r t19 := State.setFld_reach (State.setFld_reach h21)
    clear_value t19
    exact ite_k (Reach r) (State.tbAsk_reach (.upd h21)) (State.align_reach h22)

theorem State.setJoin_reach {s0 x1 x2} (f0 : Reach r s0) :
    Reach r (State.setJoin s0 x1 x2) := by
  unfold State.setJoin
  exact .upd f0

theorem State.dropJoin_reach {s0 x1} (f0 : Reach r s0) :
    Reach r (State.dropJoin s0 x1) := by
  unfold State.dropJoin
  exact .upd f0

theorem State.joinReply_reach {s0 x1} {k2 : State → Cmd → State} (f0 : Reach r s0) (f2 : (∀ y00, Reach r y00 → ∀
    y01, Reach r (k2 y00 y01))) :
    Reach r (State.joinReply s0 x1 k2) := by
  unfold State.joinReply
  refine State.complete_reach f0 ?_
  intro t0 h1 d2
  exact f2 _ h1 _

theorem execLnJoin_reach {x0 x1 x2 x3 s4} (f4 : Reach r s4) :
    OutK (Reach r) (execLnJoin x0 x1 x2 x3 s4) := by
  unfold execLnJoin
  extract_lets v0
  clear_value v0
  refine .next ?_
  refine State.command_reach f4 ?_
  intro d1 t2 h3
  extract_lets v4 v5 t6
  clear_value v4 v5
  have h7 : Reach r t6 := State.setJoin_reach (State.await_reach h3)
  clear_value t6
  refine ite_k (Reach r) (State.reply_reach h3) ?_
  exact ite_k (Reach r) (State.reply_reach h3) (ite_k (Reach r) (State.refuse_reach h3) (State.lnManage_reach h7))

theorem State.joinEnd_reach {s0 x1 x2} (f0 : Reach r s0) :
    Reach r (State.joinEnd s0 x1 x2) := by
  unfold State.joinEnd
  exact State.lnManage_reach f0

theorem State.joinImage_reach {s0 x1 x2 x3 x4} (f0 : Reach r s0) :
    Reach r (State.joinImage s0 x1 x2 x3 x4) := by
  unfold State.joinImage
  extract_lets v0 v1 v2 v3 v4
  clear_value v0 v1 v2 v3 v4
  refine foldl_k (Reach r) f0 ?_
  intro t5 h6 d7
  extract_lets v8 v9
  clear_value v8 v9
  exact State.lnManage_reach h6

theorem State.joinExport_reach {s0 x1 x2} (f0 : Reach r s0) :
    Reach r (State.joinExport s0 x1 x2) := by
  unfold State.joinExport
  extract_lets t0 t1
  have h2 : Reach r t0 := State.lnManage_reach f0
  clear_value t0
  have h3 : Reach r t1 := by
    unfold t1
    refine foldl_k (Reach r) h2 ?_
    intro t4 h5 d6
    refine foldl_k (Reach r) h5 ?_
    intro t7 h8 d9
    exact State.joinImage_reach h8
  clear_value t1
  exact State.joinEnd_reach h3

theorem execJoinReq_reach {x0 x1 s2} (f2 : Reach r s2) :
    OutK (Reach r) (execJoinReq x0 x1 s2) := by
  unfold execJoinReq
  refine .next ?_
  refine State.lnGot_reach f2 ?_
  intro d0 t1 h2
  extract_lets v3
  clear_value v3
  split
  · rename_i d4
    exact State.joinEnd_reach h2
  · rename_i d5 d6
    exact ite_k (Reach r) (State.joinEnd_reach h2) (State.joinExport_reach h2)

theorem execJoinData_reach {x0 x1 s2} (f2 : Reach r s2) :
    OutK (Reach r) (execJoinData x0 x1 s2) := by
  unfold execJoinData
  refine .next ?_
  refine State.lnGot_reach f2 ?_
  intro d0 t1 h2
  split
  · rename_i d3 e4
    exact h2
  · rename_i d5 d6 d7 e8
    refine ite_k (Reach r) (State.setJoin_reach h2) ?_
    extract_lets v9 v10 v11
    clear_value v9 v10 v11
    split
    · rename_i d12 e13
      exact h2
    · rename_i d14 d15 d16 d17 d18 e19
      refine ite_k (Reach r) h2 ?_
      extract_lets t20
      have h21 : Reach r t20 := State.setBytes_reach h2
      clear_value t20
      split
      · rename_i d22 d23 e24
        exact State.setBytes_reach h21
      · rename_i d25 e26
        exact h21

theorem execJoinEnd_reach {x0 x1 s2} (f2 : Reach r s2) :
    OutK (Reach r) (execJoinEnd x0 x1 s2) := by
  unfold execJoinEnd
  refine .next ?_
  refine State.lnGot_reach f2 ?_
  intro d0 t1 h2
  split
  · rename_i d3 e4
    exact h2
  · rename_i d5 d6 d7 e8
    extract_lets v9 t10 t11
    clear_value v9
    have h12 : Reach r t10 := State.commandStart_reach h2
    clear_value t10
    have h13 : Reach r t11 := State.setBit_reach (State.setBit_reach h12)
    clear_value t11
    refine ite_k (Reach r) ?_ ?_
    · refine State.joinReply_reach (State.dropJoin_reach h2) ?_
      intro t14 h15 d16
      exact State.refuse_reach h15
    · refine ite_k (Reach r) ?_ (State.setJoin_reach h13)
      refine State.joinReply_reach (State.dropJoin_reach h2) ?_
      intro t17 h18 d19
      exact State.refuse_reach h18

theorem execJoinStepReached_reach {x0 s1} (f1 : Reach r s1) :
    OutK (Reach r) (execJoinStepReached x0 s1) := by
  unfold execJoinStepReached
  refine .next ?_
  split
  · rename_i d0 e1
    exact f1
  · rename_i d2 d3 e4
    refine ite_k (Reach r) f1 ?_
    extract_lets v5 v6 t7 t8 t9
    clear_value v5 v6
    have h10 : Reach r t7 := State.setCtx_reach (State.dropJoin_reach f1)
    clear_value t7
    have h11 : Reach r t8 := State.setBit_reach h10
    clear_value t8
    have h12 : Reach r t9 := ite_k (Reach r) h11 (State.setBit_reach h11)
    clear_value t9
    refine State.joinReply_reach h12 ?_
    intro t13 h14 d15
    exact State.ok_reach h14

/-! ## Sheet -/

theorem State.sheetView_reach {s0} (f0 : Reach r s0) :
    Reach r (State.sheetView s0) := by
  unfold State.sheetView
  extract_lets v0 t1 t2 t3 t4
  clear_value v0
  have h5 : Reach r t1 := State.setFld_reach f0
  clear_value t1
  have h6 : Reach r t2 := State.setFld_reach h5
  clear_value t2
  have h7 : Reach r t3 := State.setFld_reach h6
  clear_value t3
  have h8 : Reach r t4 := State.setFld_reach h7
  clear_value t4
  exact State.setFld_reach h8

theorem State.sheetVc_reach {s0 x1 x2 x3} (f0 : Reach r s0) :
    PairK AnyK (Reach r) (State.sheetVc s0 x1 x2 x3) := by
  unfold State.sheetVc
  extract_lets t0 v1 t2 v3 v4 v5 v6
  have h7 : PairK AnyK (Reach r) t0 := State.draw_reach f0
  clear_value t0 v1
  have h8 : Reach r t2 := snd_k AnyK h7
  clear_value t2 v3 v4 v5 v6
  exact .mk any_k h8

theorem State.sheetRouter_reach {s0 x1} (f0 : Reach r s0) :
    PairK AnyK (Reach r) (State.sheetRouter s0 x1) := by
  unfold State.sheetRouter
  extract_lets v0 t1 v2 t3
  clear_value v0
  have h4 : PairK AnyK (Reach r) t1 := by
    unfold t1
    refine foldl_k (PairK AnyK (Reach r)) (.mk any_k f0) ?_
    intro t5 h6 d7
    extract_lets t8 v9 t10
    have h11 : PairK AnyK (Reach r) t8 := State.sheetVc_reach (snd_k AnyK h6)
    clear_value t8 v9
    have h12 : Reach r t10 := snd_k AnyK h11
    clear_value t10
    exact .mk any_k h12
  clear_value t1 v2
  have h13 : Reach r t3 := snd_k AnyK h4
  clear_value t3
  exact .mk any_k h13

theorem State.sheetSection_reach {s0 x1 x2} (f0 : Reach r s0) :
    PairK AnyK (Reach r) (State.sheetSection s0 x1 x2) := by
  unfold State.sheetSection
  split
  · rename_i d0
    exact .mk any_k (State.loseRange_reach f0)
  · rename_i d1
    extract_lets t2
    have h3 : Reach r t2 := State.setBytes_reach (State.zeroRange_reach f0)
    clear_value t2
    exact .mk any_k (State.loseRange_reach h3)
  · rename_i d4
    refine .mk any_k ?_
    refine foldl_k (Reach r) f0 ?_
    intro t5 h6 d7
    exact State.setBytes_reach h6
  · rename_i d8
    extract_lets t9 v10 t11
    have h12 : PairK AnyK (Reach r) t9 := by
      unfold t9
      refine foldl_k (PairK AnyK (Reach r)) (.mk any_k f0) ?_
      intro t13 h14 d15
      extract_lets t16 v17 t18
      have h19 : PairK AnyK (Reach r) t16 := State.sheetRouter_reach (snd_k AnyK h14)
      clear_value t16 v17
      have h20 : Reach r t18 := snd_k AnyK h19
      clear_value t18
      exact .mk any_k (State.setBytes_reach h20)
    clear_value t9 v10
    have h21 : Reach r t11 := snd_k AnyK h12
    clear_value t11
    exact .mk any_k h21
  · rename_i d22
    exact .mk any_k (State.setBytes_reach (State.zeroRange_reach f0))
  · rename_i d23
    exact .mk any_k (State.setBytes_reach (State.zeroRange_reach f0))
  · rename_i d24 e25 e26 e27 e28 e29 e30
    extract_lets v31 v32 v33
    clear_value v31 v32 v33
    exact .mk any_k (State.setBytes_reach f0)

theorem State.sheetEntry_reach {s0 x1 x2 x3} (f0 : Reach r s0) :
    Reach r (State.sheetEntry s0 x1 x2 x3) := by
  unfold State.sheetEntry
  exact State.setBytes_reach f0

theorem State.sheetSections_reach {s0 x1 x2 x3} (f0 : Reach r s0) :
    Reach r (State.sheetSections s0 x1 x2 x3) := by
  induction x3 generalizing s0 x1 x2 with
  | zero =>
    rw [State.sheetSections]
    exact f0
  | succ y0 ih1 =>
    rw [State.sheetSections]
    exact ih1 (State.setNum_reach (State.sheetEntry_reach (snd_k AnyK (State.sheetSection_reach f0))))

theorem State.sheetLater_reach {s0 x1} (f0 : Reach r s0) :
    Reach r (State.sheetLater s0 x1) := by
  unfold State.sheetLater
  extract_lets v0 v1
  clear_value v0 v1
  exact ite_k (Reach r) f0 (State.sheetView_reach (State.setNum_reach (State.setBytes_reach f0)))

theorem State.writeSheet_reach {s0 x1 x2 x3} (f0 : Reach r s0) :
    Reach r (State.writeSheet s0 x1 x2 x3) := by
  unfold State.writeSheet
  refine ite_k (Reach r) (State.sheetLater_reach f0) ?_
  extract_lets v0 v1 v2 t3 v4 t5 t6 t7
  clear_value v0 v1 v2
  have h8 : PairK AnyK (Reach r) t3 := State.draw_reach f0
  clear_value t3 v4
  have h9 : Reach r t5 := snd_k AnyK h8
  clear_value t5
  have h10 : Reach r t6 := State.sheetEntry_reach (State.setBytes_reach (State.zeroRange_reach h9))
  clear_value t6
  have h11 : Reach r t7 := State.sheetSections_reach h10
  clear_value t7
  exact State.sheetView_reach (ite_k (Reach r) (State.setNum_reach h11) h11)

theorem State.sheetPartial_reach {s0} (f0 : Reach r s0) :
    Reach r (State.sheetPartial s0) := by
  unfold State.sheetPartial
  exact State.sheetView_reach (ite_k (Reach r) (State.setNum_reach f0) f0)

theorem execSheetRead_reach {x0 x1 x2 x3 s4} (f4 : Reach r s4) :
    OutK (Reach r) (execSheetRead x0 x1 x2 x3 s4) := by
  unfold execSheetRead
  extract_lets v0
  clear_value v0
  refine .next ?_
  refine State.command_reach f4 ?_
  intro d1 t2 h3
  refine ite_k (Reach r) (State.reply_reach h3) ?_
  extract_lets v4 t5 t6
  clear_value v4
  have h7 : Reach r t5 := State.hostPut_reach h3
  clear_value t5
  have h8 : Reach r t6 := ite_k (Reach r) (State.sheetView_reach (State.setNum_reach h7)) h7
  clear_value t6
  exact State.ok_reach h8

end Sys2Proof.Machine
end

