-- ==== Sys2Proof/Laws/ReachModule.lean ====
section
/-! SUPPORT. Laws/ReachModule.lean: every operation of resets, register writes, boot, power, the sideband and a tick stays within `Reach`:
it writes registers and memory only by the named writes, and leaves the queue and the variant alone. -/
namespace Sys2Proof.Machine

variable {r : State}

/-! ## Reset -/

theorem State.loseMemory_reach {s0 x1} (f0 : Reach r s0) :
    Reach r (State.loseMemory s0 x1) := by
  unfold State.loseMemory
  extract_lets v0 t1 t2 t3
  clear_value v0
  have h4 : Reach r t1 := by
    unfold t1
    refine foldl_k (Reach r) f0 ?_
    intro t5 h6 d7
    exact State.loseRange_reach h6
  clear_value t1
  have h8 : Reach r t2 := State.loseRange_reach (State.loseRange_reach (State.loseRange_reach h4))
  clear_value t2
  have h9 : Reach r t3 := .upd h8
  clear_value t3
  exact ite_k (Reach r) (State.loseRange_reach h9) h9

theorem State.restart_reach {s0 x1 x2} (f0 : Reach r s0) :
    Reach r (State.restart s0 x1 x2) := by
  unfold State.restart
  extract_lets t0 t1 t2 t3
  have h0 : Reach r t0 := State.loseMemory_reach f0
  have h1 : Reach r t1 :=
    .core (State.resetRegs_reach (x1 := fun a => !alwaysOn a) h0) rfl rfl rfl rfl rfl rfl
  have h2 : Reach r t2 := State.setFld_reach (State.setFld_reach h1)
  have h3 : Reach r t3 := State.setFld_reach h2
  exact .upd h3

theorem State.countModule_reach {s0 x1} (f0 : Reach r s0) :
    Reach r (State.countModule s0 x1) := by
  unfold State.countModule
  extract_lets v0 t1 v2 t3
  clear_value v0
  have h4 : Reach r t1 := State.addSat_reach f0
  clear_value t1 v2
  have h5 : Reach r t3 := State.setFld_reach (State.setReg_reach h4)
  clear_value t3
  exact ite_k (Reach r) h4 (ite_k (Reach r) (State.setBit_reach h5) h5)

theorem State.moduleReset_reach {s0 x1 x2} (f0 : Reach r s0) :
    Reach r (State.moduleReset s0 x1 x2) := by
  unfold State.moduleReset
  extract_lets t0
  have h1 : Reach r t0 := ite_k (Reach r) (State.writeSheet_reach f0) f0
  clear_value t0
  exact State.restart_reach (State.countModule_reach h1)

theorem State.countCompute_reach {s0} (f0 : Reach r s0) :
    Reach r (State.countCompute s0) := by
  unfold State.countCompute
  extract_lets t0
  have h1 : Reach r t0 := State.setReg_reach (State.setReg_reach f0)
  clear_value t0
  exact State.setFld_reach h1

theorem State.quiesce_reach {s0} (f0 : Reach r s0) :
    Reach r (State.quiesce s0) := by
  unfold State.quiesce
  extract_lets t0
  have h1 : Reach r t0 := by
    unfold t0
    refine foldl_k (Reach r) f0 ?_
    intro t2 h3 d4
    extract_lets t5
    have h6 : Reach r t5 := ite_k (Reach r) (State.setBit_reach h3) h3
    exact ite_k (Reach r) (State.haltCtx_reach h6) h6
  clear_value t0
  exact State.abortTileDescs_reach h1

theorem State.computeTrigger_reach {s0 x1 x2} (f0 : Reach r s0) :
    Reach r (State.computeTrigger s0 x1 x2) := by
  unfold State.computeTrigger
  refine ite_k (Reach r) (State.moduleReset_reach f0) ?_
  refine ite_k (Reach r) (State.moduleReset_reach f0) ?_
  extract_lets t0 t1 v2 t3 t4
  have h5 : Reach r t0 := ite_k (Reach r) f0 (State.countCompute_reach f0)
  clear_value t0
  have h6 : Reach r t1 := ite_k (Reach r) h5 (State.writeSheet_reach h5)
  clear_value t1 v2
  have h7 : Reach r t3 := State.setBit_reach (State.setFld_reach h6)
  clear_value t3
  have h8 : Reach r t4 := State.addSat_reach (State.setFld_reach h7)
  clear_value t4
  exact State.quiesce_reach (State.setFld_reach h8)

theorem execDeviceResetCompute_reach {x0 s1} (f1 : Reach r s1) :
    OutK (Reach r) (execDeviceResetCompute x0 s1) := by
  unfold execDeviceResetCompute
  refine .next ?_
  refine State.command_reach f1 ?_
  intro d0 t1 h2
  exact State.computeTrigger_reach (State.await_reach h2)

theorem execDeviceResetModule_reach {x0 s1} (f1 : Reach r s1) :
    OutK (Reach r) (execDeviceResetModule x0 s1) := by
  unfold execDeviceResetModule
  refine .next ?_
  refine State.command_reach f1 ?_
  intro d0 t1 h2
  extract_lets t3
  have h4 : Reach r t3 := State.setReg_reach (State.setReg_reach (State.ok_reach h2))
  clear_value t3
  exact State.moduleReset_reach (State.setBit_reach h4)

theorem execDrainFailed_reach {x0 s1} (f1 : Reach r s1) :
    OutK (Reach r) (execDrainFailed x0 s1) := by
  unfold execDrainFailed
  exact .next (ite_k (Reach r) (State.computeTrigger_reach f1) f1)

theorem State.computeClear_reach {s0} (f0 : Reach r s0) :
    Reach r (State.computeClear s0) := by
  unfold State.computeClear
  extract_lets v0 t1 t2 t3
  clear_value v0
  have h4 : Reach r t1 := State.resetRegs_reach f0
  clear_value t1
  have h5 : Reach r t2 := .upd h4
  clear_value t2
  have h6 : Reach r t3 := by
    unfold t3
    refine foldl_k (Reach r) h5 ?_
    intro t7 h8 d9
    exact State.setCtx_reach h8
  clear_value t3
  refine foldl_k (Reach r) h6 ?_
  intro t10 h11 d12
  exact State.setFld_reach h11

theorem State.bistFailed_reach {s0 x1 x2} (f0 : Reach r s0) :
    Reach r (State.bistFailed s0 x1 x2) := by
  unfold State.bistFailed
  extract_lets t0
  have h1 : Reach r t0 := by
    unfold t0
    refine foldl_k (Reach r) f0 ?_
    intro t2 h3 d4
    refine ite_k (Reach r) h3 ?_
    extract_lets v5 v6 v7 t8
    clear_value v5 v6 v7
    have h9 : Reach r t8 := State.portRecord_reach h3
    clear_value t8
    exact ite_k (Reach r) (State.portRecord_reach h9) h9
  clear_value t0
  refine foldl_k (Reach r) h1 ?_
  intro t10 h11 d12
  exact ite_k (Reach r) (State.recordFence_reach h11) h11

theorem State.refence_reach {s0} (f0 : Reach r s0) :
    Reach r (State.refence s0) := by
  unfold State.refence
  refine foldl_k (Reach r) f0 ?_
  intro t0 h1 d2
  extract_lets t3 t4 t5
  have h6 : Reach r t3 := by
    unfold t3
    refine foldl_k (Reach r) h1 ?_
    intro t7 h8 d9
    exact ite_k (Reach r) (State.setFence_reach h8) h8
  clear_value t3
  have h10 : Reach r t4 := State.lanesView_reach h6
  clear_value t4
  have h11 : Reach r t5 := State.setFld_reach (State.setBit_reach h10)
  clear_value t5
  exact ite_k (Reach r) (State.setBit_reach h11) h10

theorem State.fillAfterReset_reach {s0} (f0 : Reach r s0) :
    Reach r (State.fillAfterReset s0) := by
  unfold State.fillAfterReset
  refine foldl_k (Reach r) f0 ?_
  intro t0 h1 d2
  exact ite_k (Reach r) (State.loseSram_reach h1) (State.fillAll_reach h1)

theorem State.dropFrames_reach {s0} (f0 : Reach r s0) :
    Reach r (State.dropFrames s0) := by
  unfold State.dropFrames
  refine foldl_k (Reach r) ?_ ?_
  · refine foldl_k (Reach r) f0 ?_
    intro t0 h1 d2
    refine foldl_k (Reach r) h1 ?_
    intro t3 h4 d5
    exact State.setFld_reach h4
  · intro t6 h7 d8
    exact State.setIng_reach (State.setEg_reach h7)

theorem State.dropWork_reach {s0} (f0 : Reach r s0) :
    Reach r (State.dropWork s0) := by
  unfold State.dropWork
  extract_lets t0 t1 v2 v3
  have h4 : Reach r t0 := by
    unfold t0
    refine foldl_k (Reach r) f0 ?_
    intro t5 h6 d7
    exact State.endJoin_reach (State.abandonRound_reach (State.dropHeals_reach h6))
  clear_value t0
  have h8 : Reach r t1 := by
    unfold t1
    refine foldl_k (Reach r) h4 ?_
    intro t9 h10 d11
    exact State.setHealth_reach h10
  clear_value t1 v2 v3
  exact State.loupeView_reach (State.setBit_reach (.upd h8))

theorem State.dropReserves_reach {s0 x1} (f0 : Reach r s0) :
    Reach r (State.dropReserves s0 x1) := by
  unfold State.dropReserves
  refine foldl_k (Reach r) f0 ?_
  intro t0 h1 d2
  exact State.leaseView_reach (State.leaveLease_reach (State.rebudget_reach (State.freePath_reach h1)))

theorem State.restoreCtx_reach {s0 x1} (f0 : Reach r s0) :
    PairK AnyK (Reach r) (State.restoreCtx s0 x1) := by
  unfold State.restoreCtx
  extract_lets t0 t1 v2 t3 v4 t5 t6 v7 t8
  have h9 : Reach r t0 := State.dropReserves_reach f0
  clear_value t0
  have h10 : PairK AnyK (Reach r) t1 := by
    unfold t1
    split
    · rename_i t11 e12
      exact .mk any_k h9
    · rename_i t13 t14 e15
      have h16 := use_k (OptK (Reach r)) e15 (State.rehome_reach h9)
      have h17 := some_out h16
      clear h16
      exact .mk any_k h17
  clear_value t1 v2
  have h18 : Reach r t3 := snd_k AnyK h10
  clear_value t3 v4
  have h19 : Reach r t5 := State.configure_reach h18
  clear_value t5
  have h20 : PairK AnyK (Reach r) t6 := by
    unfold t6
    refine foldl_k (PairK AnyK (Reach r)) (.mk any_k h19) ?_
    intro t21 h22 d23
    split
    · rename_i t24 e25
      exact .mk any_k (snd_k AnyK h22)
    · rename_i t26 t27 e28
      have h29 := use_k (OptK (Reach r)) e28 (State.restoreVtile_reach (snd_k AnyK h22))
      have h30 := some_out h29
      clear h29
      exact .mk any_k h30
  clear_value t6 v7
  have h31 : Reach r t8 := snd_k AnyK h20
  clear_value t8
  refine .mk any_k ?_
  exact State.replenish_reach (State.setDrained_reach (State.haltCtx_reach (State.setCounters_reach h31)))

theorem State.eosAgain_reach {s0 x1} (f0 : Reach r s0) :
    Reach r (State.eosAgain s0 x1) := by
  unfold State.eosAgain
  refine foldl_k (Reach r) f0 ?_
  intro t0 h1 d2
  extract_lets v3
  clear_value v3
  exact State.setSlot_reach h1

theorem State.restartCtx_reach {s0 x1} (f0 : Reach r s0) :
    Reach r (State.restartCtx s0 x1) := by
  unfold State.restartCtx
  extract_lets t0 t1
  have h2 : Reach r t0 := State.eosAgain_reach (State.setBit_reach f0)
  clear_value t0
  have h3 : Reach r t1 := by
    unfold t1
    refine foldl_k (Reach r) h2 ?_
    intro t4 h5 d6
    exact State.loseStream_reach h5
  clear_value t1
  exact State.ndcMark_reach (State.restartKept_reach h3)

theorem State.stopAfterReset_reach {s0 x1 x2} (f0 : Reach r s0) :
    Reach r (State.stopAfterReset s0 x1 x2) := by
  unfold State.stopAfterReset
  exact State.abortCtx_reach (State.setCState_reach (State.setCtx_reach f0))

theorem State.endCtx_reach {s0 x1} (f0 : Reach r s0) :
    Reach r (State.endCtx s0 x1) := by
  unfold State.endCtx
  extract_lets v0 v1 v2 t3 t4 v5 t6 v7
  clear_value v0 v1
  have h8 : Reach r t3 := ite_k (Reach r) (State.setBit_reach f0) f0
  clear_value t3
  have h9 : PairK AnyK (Reach r) t4 := State.restoreCtx_reach (State.setCState_reach h8)
  clear_value t4 v5
  have h10 : Reach r t6 := snd_k AnyK h9
  clear_value t6 v7
  refine ite_k (Reach r) (State.zeroised_reach f0) ?_
  refine ite_k (Reach r) f0 ?_
  split
  · rename_i d11 d12
    extract_lets v13
    clear_value v13
    refine ite_k (Reach r) (State.stopAfterReset_reach h10) ?_
    exact ite_k (Reach r) (State.endStop_reach (State.setCState_reach (State.setCtx_reach h10))) (ite_k (Reach r)
        (State.toFaulted_reach h10) (State.setCState_reach h10))
  · rename_i d14
    refine ite_k (Reach r) (ite_k (Reach r) (State.stopAfterReset_reach h10) (State.restartCtx_reach h10)) ?_
    exact ite_k (Reach r) (State.endStop_reach (State.setCState_reach h10)) (State.setCState_reach h10)

theorem State.cancelCommands_reach {s0} (f0 : Reach r s0) :
    Reach r (State.cancelCommands s0) := by
  unfold State.cancelCommands
  extract_lets t0 v1 t2 v3 t4
  have h5 : Reach r t0 := by
    unfold t0
    refine State.complete_reach f0 ?_
    intro t6 h7 d8
    exact State.reply_reach h7
  clear_value t0 v1
  have h9 : Reach r t2 := State.signView_reach (.upd h5)
  clear_value t2 v3
  have h10 : Reach r t4 := .upd h9
  clear_value t4
  split
  · rename_i d11 e12
    exact h9
  · rename_i d13 d14 e15
    exact ite_k (Reach r) (State.setFld_reach h10) h10

theorem State.estopAct_reach {s0} (f0 : Reach r s0) :
    Reach r (State.estopAct s0) := by
  unfold State.estopAct
  extract_lets t0 t1 v2
  have h3 : Reach r t0 := by
    unfold t0
    refine foldl_k (Reach r) f0 ?_
    intro t4 h5 d6
    exact ite_k (Reach r) (State.abortCtx_reach h5) (State.endJoin_reach h5)
  clear_value t0
  have h7 : Reach r t1 := by
    unfold t1
    refine foldl_k (Reach r) h3 ?_
    intro t8 h9 d10
    exact ite_k (Reach r) h9 (State.lnDisable_reach h9)
  clear_value t1 v2
  exact State.powerEvent_reach (.upd h7)

theorem State.estopHeldActs_reach {s0} (f0 : Reach r s0) :
    Reach r (State.estopHeldActs s0) := by
  unfold State.estopHeldActs
  exact ite_k (Reach r) (State.estopAct_reach f0) f0

theorem State.remapsAgain_reach {s0 x1} (f0 : Reach r s0) :
    Reach r (State.remapsAgain s0 x1) := by
  unfold State.remapsAgain
  refine foldl_k (Reach r) f0 ?_
  intro t0 h1 d2
  split
  · rename_i d3 d4 d5 d6 d7 e8
    exact State.repairRow_reach h1
  · rename_i d9 e10
    exact h1

theorem execComputeReset_reach {x0 x1 s2} (f2 : Reach r s2) :
    OutK (Reach r) (execComputeReset x0 x1 s2) := by
  unfold execComputeReset
  refine .next ?_
  refine ite_k (Reach r) f2 ?_
  extract_lets v0 v1 t2 t3 t4 t5 t6 t7 v8 t9 v10 t11
  clear_value v0 v1
  have h12 : Reach r t2 := State.dropWork_reach (State.cancelCommands_reach f2)
  clear_value t2
  have h13 : Reach r t3 := State.fillAfterReset_reach (State.refence_reach (State.bistFailed_reach
      (State.computeClear_reach h12)))
  clear_value t3
  have h14 : Reach r t4 := by
    unfold t4
    refine foldl_k (Reach r) (State.dropFrames_reach h13) ?_
    intro t15 h16 d17
    exact State.endCtx_reach h16
  clear_value t4
  have h18 : Reach r t5 := by
    unfold t5
    refine State.remapsAgain_reach ?_
    refine foldl_k (Reach r) h14 ?_
    intro t19 h20 d21
    exact State.returnWork_reach h20
  clear_value t5
  have h22 : Reach r t6 := State.smpEnables_reach (State.setFld_reach h18)
  clear_value t6
  have h23 : Reach r t7 := ite_k (Reach r) h22 (State.publish_reach h22)
  clear_value t7 v8
  have h24 : Reach r t9 := State.event_reach h23
  clear_value t9 v10
  have h25 : Reach r t11 := .upd h24
  clear_value t11
  refine State.estopHeldActs_reach ?_
  refine State.complete_reach h25 ?_
  intro t26 h27 d28
  exact State.ok_reach h27

theorem execModuleReset_reach {s0} (f0 : Reach r s0) :
    OutK (Reach r) (execModuleReset s0) := by
  unfold execModuleReset
  exact .next (ite_k (Reach r) (State.moduleReset_reach f0) f0)

theorem execResetN_reach {x0 s1} (f1 : Reach r s1) :
    OutK (Reach r) (execResetN x0 s1) := by
  unfold execResetN
  refine .next ?_
  extract_lets t0 v1
  have h2 : Reach r t0 := ite_k (Reach r) (State.moduleReset_reach f1) f1
  clear_value t0 v1
  exact .upd h2

theorem execPllUnlock_reach {s0} (f0 : Reach r s0) :
    OutK (Reach r) (execPllUnlock s0) := by
  unfold execPllUnlock
  exact .next (ite_k (Reach r) (State.moduleReset_reach f0) f0)

theorem State.beat_reach {s0} (f0 : Reach r s0) :
    Reach r (State.beat s0) := by
  unfold State.beat
  extract_lets t0 t1 v2
  have h3 : Reach r t0 := State.addMod_reach f0
  clear_value t0
  have h4 : Reach r t1 := State.setFld_reach (State.setBit_reach h3)
  clear_value t1 v2
  exact .upd h4

theorem execBelfryCount_reach {s0} (f0 : Reach r s0) :
    OutK (Reach r) (execBelfryCount s0) := by
  unfold execBelfryCount
  exact .next (ite_k (Reach r) (State.beat_reach f0) f0)

theorem execWatchdogFire_reach {x0 x1 s2} (f2 : Reach r s2) :
    OutK (Reach r) (execWatchdogFire x0 x1 s2) := by
  unfold execWatchdogFire
  extract_lets v0 t1 t2 v3
  clear_value v0
  have h4 : Reach r t1 := State.addSat_reach (State.setBit_reach f2)
  clear_value t1
  have h5 : Reach r t2 := State.setBit_reach (State.setFld_reach h4)
  clear_value t2 v3
  exact .next (ite_k (Reach r) (State.writeSheet_reach (.upd h5)) f2)

theorem execWarmRestart_reach {s0} (f0 : Reach r s0) :
    OutK (Reach r) (execWarmRestart s0) := by
  unfold execWarmRestart
  refine .next ?_
  refine ite_k (Reach r) f0 ?_
  refine ite_k (Reach r) (State.setBit_reach f0) ?_
  extract_lets t0 v1
  have h2 : Reach r t0 := State.setBit_reach f0
  clear_value t0 v1
  exact State.computeTrigger_reach (.upd h2)

theorem execStubTimeout_reach {s0} (f0 : Reach r s0) :
    OutK (Reach r) (execStubTimeout s0) := by
  unfold execStubTimeout
  exact .next (ite_k (Reach r) (State.moduleReset_reach f0) f0)

/-! ## RegWrite -/

theorem State.after_reach {s0} {k1 : State → Host.Outcome State Fault Refusal} (f0 : Reach r s0) (f1 : (∀ y00,
    Reach r y00 → OutK (Reach r) (k1 y00))) :
    Reach r (State.after s0 k1) := by
  unfold State.after
  split
  · rename_i t0 t1 e2
    have h3 := use_k (OutK (Reach r)) e2 (f1 _ f0)
    have h4 := next_out h3
    clear h3
    exact h4
  · rename_i t5 e6
    exact f0

theorem State.onBit_reach {s0 x1 x2} {k3 : State → Host.Outcome State Fault Refusal} (f0 : Reach r s0) (f3 : (∀
    y00, Reach r y00 → OutK (Reach r) (k3 y00))) :
    Reach r (State.onBit s0 x1 x2 k3) := by
  unfold State.onBit
  exact ite_k (Reach r) (State.after_reach f0 f3) f0

theorem State.guardedWrite_reach {s0 x1 x2 x3} (f0 : Reach r s0) :
    OptK (Reach r) (State.guardedWrite s0 x1 x2 x3) := by
  unfold State.guardedWrite
  extract_lets v0 v1 v2 v3
  clear_value v0 v1 v2 v3
  refine ite_k (OptK (Reach r)) ?_ ?_
  · refine .some ?_
    refine State.after_reach f0 ?_
    intro t4 h5
    exact execTileEpochWrite_reach h5
  · refine ite_k (OptK (Reach r)) ?_ ?_
    · refine .some ?_
      refine State.after_reach f0 ?_
      intro t6 h7
      exact execVspLaneDisable_reach h7
    · refine ite_k (OptK (Reach r)) ?_ ?_
      · refine .some ?_
        refine State.after_reach f0 ?_
        intro t8 h9
        exact execAgHashM_reach h9
      · refine ite_k (OptK (Reach r)) ?_ ?_
        · refine .some ?_
          refine State.after_reach f0 ?_
          intro t10 h11
          exact execRgnWrite_reach h11
        · refine ite_k (OptK (Reach r)) ?_ ?_
          · refine .some ?_
            refine State.after_reach f0 ?_
            intro t12 h13
            exact execRtEntry_reach h13
          · refine ite_k (OptK (Reach r)) ?_ ?_
            · refine .some ?_
              refine State.after_reach f0 ?_
              intro t14 h15
              exact execChConfigWrite_reach h15
            · refine ite_k (OptK (Reach r)) ?_ (.none)
              refine .some ?_
              refine State.after_reach f0 ?_
              intro t16 h17
              exact execChConfigWrite_reach h17

theorem State.tileTrigger_reach {s0 x1 x2 x3} (f0 : Reach r s0) :
    Reach r (State.tileTrigger s0 x1 x2 x3) := by
  unfold State.tileTrigger
  extract_lets v0 v1 v2 v3 v4 v5
  clear_value v0 v1 v2 v3 v4 v5
  split
  · rename_i d6
    refine State.onBit_reach f0 ?_
    intro t7 h8
    exact execForceSwitch_reach h8
  · rename_i d9
    refine State.onBit_reach f0 ?_
    intro t10 h11
    exact execCfgCrcClear_reach h11
  · rename_i d12
    refine State.onBit_reach ?_ ?_
    · refine State.onBit_reach ?_ ?_
      · refine State.onBit_reach f0 ?_
        intro t13 h14
        exact execTileFenceReq_reach h14
      · intro t15 h16
        exact execTileReset_reach h16
    · intro t17 h18
      exact execTileUnfence_reach h18
  · rename_i d19
    refine State.onBit_reach ?_ ?_
    · refine State.onBit_reach f0 ?_
      intro t20 h21
      exact execTestStart_reach h21
    · intro t22 h23
      exact execTestAbandon_reach h23
  · rename_i d24
    refine State.onBit_reach ?_ ?_
    · refine State.onBit_reach f0 ?_
      intro t25 h26
      exact execMeHaltReq_reach h26
    · intro t27 h28
      exact execMeResume_reach h28
  · rename_i d29
    refine State.onBit_reach ?_ ?_
    · refine State.onBit_reach f0 ?_
      intro t30 h31
      exact execVspHaltReq_reach h31
    · intro t32 h33
      exact execVspResume_reach h33
  · rename_i d34
    refine State.onBit_reach ?_ ?_
    · refine State.onBit_reach f0 ?_
      intro t35 h36
      exact execSuHaltReq_reach h36
    · intro t37 h38
      exact execSuResume_reach h38
  · rename_i d39
    refine ite_k (Reach r) ?_ f0
    refine State.after_reach f0 ?_
    intro t40 h41
    exact execRowceRelease_reach h41
  · rename_i d42
    refine State.onBit_reach f0 ?_
    intro t43 h44
    exact ite_k (OutK (Reach r)) (execRemap_reach h44) (execRemapLoad_reach h44)
  · rename_i d45
    refine State.onBit_reach f0 ?_
    intro t46 h47
    exact ite_k (OutK (Reach r)) (execFillRange_reach h47) (execFillTile_reach h47)
  · rename_i d48
    refine State.onBit_reach ?_ ?_
    · refine State.onBit_reach f0 ?_
      intro t49 h50
      exact execProofHashGo_reach h50
    · intro t51 h52
      exact execProofHashAbandon_reach h52
  · rename_i d53
    refine State.after_reach f0 ?_
    intro t54 h55
    exact execSyncSetCmd_reach h55
  · rename_i d56
    refine State.after_reach f0 ?_
    intro t57 h58
    exact execSyncAdd_reach h58
  · rename_i d59
    refine State.onBit_reach ?_ ?_
    · refine State.onBit_reach f0 ?_
      intro t60 h61
      exact execRtFenceReq_reach h61
    · intro t62 h63
      exact execRtUnfence_reach h63
  · rename_i d64 e65 e66 e67 e68 e69 e70 e71 e72 e73 e74 e75 e76 e77 e78
    refine ite_k (Reach r) ?_ ?_
    · refine State.onBit_reach ?_ ?_
      · refine State.onBit_reach ?_ ?_
        · refine State.onBit_reach f0 ?_
          intro t79 h80
          exact execAgHaltReq_reach h80
        · intro t81 h82
          exact execAgResume_reach h82
      · intro t83 h84
        exact execAgRestart_reach h84
    · refine ite_k (Reach r) ?_ ?_
      · refine State.onBit_reach ?_ ?_
        · refine State.onBit_reach ?_ ?_
          · refine State.onBit_reach ?_ ?_
            · refine State.onBit_reach f0 ?_
              intro t85 h86
              exact execChEpHaltReq_reach h86
            · intro t87 h88
              exact execChEpResume_reach h88
          · intro t89 h90
            exact execOverflowOn_reach h90
        · intro t91 h92
          exact execMarkAcked_reach h92
      · refine ite_k (Reach r) ?_ f0
        refine State.after_reach f0 ?_
        intro t93 h94
        exact execChConfigWrite_reach h94

theorem State.globalTrigger_reach {s0 x1 x2} (f0 : Reach r s0) :
    Reach r (State.globalTrigger s0 x1 x2) := by
  unfold State.globalTrigger
  refine ite_k (Reach r) ?_ ?_
  · refine State.onBit_reach ?_ ?_
    · refine State.onBit_reach f0 ?_
      intro t0 h1
      exact execRetrain_reach h1
    · intro t2 h3
      exact execFullTrain_reach h3
  · refine ite_k (Reach r) (State.drdy_reach f0) ?_
    refine ite_k (Reach r) ?_ ?_
    · refine State.after_reach f0 ?_
      intro t4 h5
      exact execSecPurge_reach h5
    · refine ite_k (Reach r) ?_ ?_
      · refine State.onBit_reach ?_ ?_
        · refine State.onBit_reach f0 ?_
          intro t6 h7
          exact execSamplerStart_reach h7
        · intro t8 h9
          exact execSamplerStop_reach h9
      · extract_lets t10
        have h11 : Reach r t10 := by
          unfold t10
          refine foldl_k (Reach r) f0 ?_
          intro t12 h13 d14
          extract_lets v15 v16
          clear_value v15 v16
          refine ite_k (Reach r) ?_ h13
          refine State.onBit_reach ?_ ?_
          · refine State.onBit_reach h13 ?_
            intro t17 h18
            exact execXeHaltReq_reach h18
          · intro t19 h20
            exact execXeEngResume_reach h20
        clear_value t10
        refine foldl_k (Reach r) h11 ?_
        intro t21 h22 d23
        extract_lets v24
        clear_value v24
        refine ite_k (Reach r) ?_ h22
        refine State.onBit_reach h22 ?_
        intro t25 h26
        exact execLnDisableReq_reach h26

theorem State.regWrite_reach {s0 x1 x2} (f0 : Reach r s0) :
    Reach r (State.regWrite s0 x1 x2) := by
  unfold State.regWrite
  refine elim_k AnyK opt_any f0 ?_
  intro d0 h1
  refine ite_k (Reach r) ?_ (State.globalTrigger_reach (State.writeDesc_reach f0))
  extract_lets v2 v3 v4 t5 t6
  clear_value v2 v3 v4
  have h7 : Reach r t5 := State.writeDesc_reach f0
  clear_value t5
  have h8 : Reach r t6 := ite_k (Reach r) (State.setFld_reach h7) h7
  clear_value t6
  exact getD_k (State.guardedWrite_reach f0) (State.tileTrigger_reach h8)

theorem execRegisterWrite_reach {x0 x1 x2 s3} (f3 : Reach r s3) :
    OutK (Reach r) (execRegisterWrite x0 x1 x2 s3) := by
  unfold execRegisterWrite
  exact .next (ite_k (Reach r) (State.regWrite_reach f3) f3)

theorem State.vcmDeliver_reach {s0 x1 x2 x3 x4} (f0 : Reach r s0) :
    PairK AnyK (Reach r) (State.vcmDeliver s0 x1 x2 x3 x4) := by
  unfold State.vcmDeliver
  extract_lets v0 t1
  clear_value v0
  have h2 : Reach r t1 := State.vcmWalk_reach (.upd f0)
  clear_value t1
  exact .mk any_k (.upd h2)

theorem State.vcmWrites_reach {s0 x1 x2} (f0 : Reach r s0) :
    Reach r (State.vcmWrites s0 x1 x2) := by
  unfold State.vcmWrites
  refine foldl_k (Reach r) f0 ?_
  intro t0 h1 d2
  extract_lets v3 v4
  clear_value v3 v4
  exact State.regWrite_reach (State.setFld_reach h1)

theorem execVcmConfig_reach {x0 x1 x2 x3 s4} (f4 : Reach r s4) :
    OutK (Reach r) (execVcmConfig x0 x1 x2 x3 s4) := by
  unfold execVcmConfig
  extract_lets t0
  have h1 : PairK AnyK (Reach r) t0 := State.vcmDeliver_reach f4
  clear_value t0
  refine .next ?_
  refine foldl_k (Reach r) (snd_k AnyK h1) ?_
  intro t2 h3 d4
  exact State.vcmWrites_reach h3

theorem execVcmHeal_reach {x0 x1 x2 x3 x4 s5} (f5 : Reach r s5) :
    OutK (Reach r) (execVcmHeal x0 x1 x2 x3 x4 s5) := by
  unfold execVcmHeal
  extract_lets t0
  have h1 : PairK AnyK (Reach r) t0 := State.vcmDeliver_reach f5
  clear_value t0
  refine .next ?_
  refine foldl_k (Reach r) (snd_k AnyK h1) ?_
  intro t2 h3 d4
  exact State.regWrite_reach h3

/-! ## Boot -/

theorem State.readInput_reach {s0 x1 x2 x3} (f0 : Reach r s0) :
    Reach r (State.readInput s0 x1 x2 x3) := by
  unfold State.readInput
  extract_lets v0 v1 t2 t3
  clear_value v0 v1
  have h4 : Reach r t2 := .upd f0
  clear_value t2
  have h5 : Reach r t3 := State.setFld_reach (State.setFld_reach h4)
  clear_value t3
  exact State.setBit_reach (State.setBit_reach h5)

theorem execPowerOn_reach {x0 x1 s2} (f2 : Reach r s2) :
    OutK (Reach r) (execPowerOn x0 x1 s2) := by
  unfold execPowerOn
  extract_lets v0 v1 t2 t3 v4 v5
  clear_value v0 v1
  have h6 : Reach r t2 := .upd f2
  clear_value t2
  have h7 : Reach r t3 := State.setFld_reach (State.setBit_reach h6)
  clear_value t3 v4 v5
  exact .next (ite_k (Reach r) f2 (ite_k (Reach r) (State.readInput_reach (.upd h7)) (.upd f2)))

theorem execInputRange_reach {x0 x1 x2 s3} (f3 : Reach r s3) :
    OutK (Reach r) (execInputRange x0 x1 x2 s3) := by
  unfold execInputRange
  extract_lets v0 v1 v2 t3 v4 v5 v6 v7 t8 t9
  clear_value v0 v1 v2
  have h10 : Reach r t3 := State.readInput_reach f3
  clear_value t3 v4 v5 v6 v7
  have h11 : Reach r t8 := .upd h10
  clear_value t8
  have h12 : Reach r t9 := ite_k (Reach r) (State.powerEvent_reach h11) h11
  clear_value t9
  exact .next (ite_k (Reach r) (.upd f3) (ite_k (Reach r) (State.alert_reach h12) h12))

theorem execInputShutdown_reach {s0} (f0 : Reach r s0) :
    OutK (Reach r) (execInputShutdown s0) := by
  unfold execInputShutdown
  refine .next ?_
  split
  · rename_i d0 d1 e2
    refine ite_k (Reach r) ?_ f0
    extract_lets t3 v4 v5
    have h6 : Reach r t3 := State.restart_reach f0
    clear_value t3 v4 v5
    exact .upd h6
  · rename_i d7 e8
    exact f0

theorem execVbatLoss_reach {s0} (f0 : Reach r s0) :
    OutK (Reach r) (execVbatLoss s0) := by
  unfold execVbatLoss
  exact .next (ite_k (Reach r) f0 (State.resetRegs_reach f0))

theorem State.bootHalt_reach {s0 x1} (f0 : Reach r s0) :
    Reach r (State.bootHalt s0 x1) := by
  unfold State.bootHalt
  exact State.setStage_reach (State.setFld_reach f0)

theorem State.bootStore_reach {s0} (f0 : Reach r s0) :
    Reach r (State.bootStore s0) := by
  unfold State.bootStore
  extract_lets t0
  have h1 : Reach r t0 := State.setFld_reach f0
  clear_value t0
  exact State.secView_reach (State.leavesView_reach (State.setFld_reach h1))

theorem State.dirtyFill_reach {s0} (f0 : Reach r s0) :
    Reach r (State.dirtyFill s0) := by
  unfold State.dirtyFill
  refine ite_k (Reach r) ?_ f0
  extract_lets t0
  have h1 : Reach r t0 := State.zeroRange_reach (State.zeroRange_reach (State.zeroRange_reach f0))
  clear_value t0
  exact State.setBit_reach (State.setBit_reach h1)

theorem State.selfTest_reach {s0 x1} (f0 : Reach r s0) :
    Reach r (State.selfTest s0 x1) := by
  unfold State.selfTest
  extract_lets t0 t1 v2
  have h3 : Reach r t0 := by
    unfold t0
    refine foldl_k (Reach r) f0 ?_
    intro t4 h5 d6
    exact State.setRepair_reach h5
  clear_value t0
  have h7 : Reach r t1 := by
    unfold t1
    refine foldl_k (Reach r) h3 ?_
    intro t8 h9 d10
    exact ite_k (Reach r) h9 (State.loseSram_reach h9)
  clear_value t1 v2
  exact .upd h7

theorem State.trainHbm_reach {s0 x1} (f0 : Reach r s0) :
    Reach r (State.trainHbm s0 x1) := by
  unfold State.trainHbm
  extract_lets t0
  have h1 : Reach r t0 := ite_k (Reach r) f0 (State.setFld_reach (State.setFld_reach f0))
  clear_value t0
  refine foldl_k (Reach r) h1 ?_
  intro t2 h3 d4
  refine ite_k (Reach r) (State.setFld_reach h3) ?_
  extract_lets v5 t6 t7
  clear_value v5
  have h8 : Reach r t6 := State.setFld_reach (State.setFld_reach h3)
  clear_value t6
  have h9 : Reach r t7 := State.setFld_reach h8
  clear_value t7
  exact State.setFld_reach h9

theorem State.trainLp_reach {s0 x1} (f0 : Reach r s0) :
    Reach r (State.trainLp s0 x1) := by
  unfold State.trainLp
  refine foldl_k (Reach r) f0 ?_
  intro t0 h1 d2
  exact State.setFld_reach h1

theorem State.bootRom_reach {s0 x1} (f0 : Reach r s0) :
    Reach r (State.bootRom s0 x1) := by
  unfold State.bootRom
  refine ite_k (Reach r) (State.bootHalt_reach f0) ?_
  extract_lets t0 t1 t2 t3
  have h4 : Reach r t0 := State.setStage_reach (State.setBit_reach (State.setBit_reach f0))
  clear_value t0
  have h5 : Reach r t1 := State.setFld_reach (State.setFld_reach h4)
  clear_value t1
  have h6 : Reach r t2 := State.setStage_reach (State.setDigestRegs_reach h5)
  clear_value t2
  have h7 : Reach r t3 := by
    unfold t3
    refine State.trainHbm_reach ?_
    exact State.selfTest_reach (State.dirtyFill_reach (State.setStage_reach (State.bootStore_reach h6)))
  clear_value t3
  refine ite_k (Reach r) (State.bootHalt_reach h4) ?_
  refine ite_k (Reach r) (State.bootHalt_reach h6) ?_
  exact ite_k (Reach r) (State.bootHalt_reach (State.trainLp_reach h7)) (State.mailboxUp_reach
      (State.setStage_reach (State.trainLp_reach h7)))

theorem execBootSequence_reach {x0 s1} (f1 : Reach r s1) :
    OutK (Reach r) (execBootSequence x0 s1) := by
  unfold execBootSequence
  exact .next (ite_k (Reach r) (State.bootRom_reach f1) f1)

theorem State.acceptImage_reach {s0 x1 x2} (f0 : Reach r s0) :
    Reach r (State.acceptImage s0 x1 x2) := by
  unfold State.acceptImage
  extract_lets t0 t1 v2 t3
  have h4 : Reach r t0 := State.setFld_reach f0
  clear_value t0
  have h5 : Reach r t1 := State.setBit_reach (State.setFld_reach h4)
  clear_value t1 v2
  have h6 : Reach r t3 := .upd h5
  clear_value t3
  exact State.setStage_reach h6

theorem State.refuseImage_reach {s0 x1} (f0 : Reach r s0) :
    Reach r (State.refuseImage s0 x1) := by
  unfold State.refuseImage
  extract_lets t0 v1
  have h2 : Reach r t0 := State.setFld_reach (State.addSat_reach f0)
  clear_value t0 v1
  exact State.setStage_reach (.upd h2)

theorem execImageLoadRequest_reach {s0} (f0 : Reach r s0) :
    OutK (Reach r) (execImageLoadRequest s0) := by
  unfold execImageLoadRequest
  refine .next ?_
  refine ite_k (Reach r) ?_ f0
  extract_lets t0 v1 v2 t3 t4 v5
  have h6 : Reach r t0 := State.unfire_reach f0
  clear_value t0 v1 v2
  have h7 : Reach r t3 := .upd h6
  clear_value t3
  have h8 : Reach r t4 := State.setStage_reach h7
  clear_value t4 v5
  split
  · rename_i d9 d10 e11
    exact State.refuseImage_reach h8
  · rename_i d12 e13
    exact State.acceptImage_reach h8

theorem State.firstTiles_reach {s0} (f0 : Reach r s0) :
    Reach r (State.firstTiles s0) := by
  unfold State.firstTiles
  extract_lets t0
  have h1 : Reach r t0 := by
    unfold t0
    refine foldl_k (Reach r) f0 ?_
    intro t2 h3 d4
    exact State.remapView_reach h3
  clear_value t0
  refine foldl_k (Reach r) h1 ?_
  intro t5 h6 d7
  split
  · rename_i d8 d9 e10
    exact State.setHealth_reach (State.setHealth_reach (State.setHealth_reach h6))
  · rename_i d11 e12
    exact ite_k (Reach r) (State.recordFence_reach h6) (State.passTile_reach h6)

theorem State.firstPorts_reach {s0} (f0 : Reach r s0) :
    Reach r (State.firstPorts s0) := by
  unfold State.firstPorts
  extract_lets t0 t1
  have h2 : Reach r t0 := by
    unfold t0
    refine foldl_k (Reach r) f0 ?_
    intro t3 h4 d5
    exact State.setReg_reach h4
  clear_value t0
  have h6 : Reach r t1 := by
    unfold t1
    refine foldl_k (Reach r) h2 ?_
    intro t7 h8 d9
    exact State.setFld_reach h8
  clear_value t1
  exact State.bistFailed_reach h6

theorem State.firstMap_reach {s0} (f0 : Reach r s0) :
    Reach r (State.firstMap s0) := by
  unfold State.firstMap
  refine State.sheetPartial_reach ?_
  exact State.setFld_reach (State.summaryView_reach (State.firstPorts_reach (State.firstTiles_reach f0)))

theorem State.initTiles_reach {s0} (f0 : Reach r s0) :
    Reach r (State.initTiles s0) := by
  unfold State.initTiles
  extract_lets t0
  have h1 : Reach r t0 := State.refence_reach f0
  clear_value t0
  refine foldl_k (Reach r) h1 ?_
  intro t2 h3 d4
  refine ite_k (Reach r) h3 ?_
  extract_lets t5 t6 v7 t8
  have h9 : Reach r t5 := by
    unfold t5
    refine foldl_k (Reach r) h3 ?_
    intro t10 h11 d12
    extract_lets t13 v14 t15
    have h16 : PairK AnyK (Reach r) t13 := State.draw_reach h11
    clear_value t13 v14
    have h17 : Reach r t15 := snd_k AnyK h16
    clear_value t15
    exact State.setReg_reach h17
  clear_value t5
  have h18 : PairK AnyK (Reach r) t6 := State.draw_reach h9
  clear_value t6 v7
  have h19 : Reach r t8 := snd_k AnyK h18
  clear_value t8
  exact State.setFld_reach h19

theorem State.commitSvn_reach {s0 x1} (f0 : Reach r s0) :
    Reach r (State.commitSvn s0 x1) := by
  unfold State.commitSvn
  refine ite_k (Reach r) f0 ?_
  refine ite_k (Reach r) ?_ (State.setBit_reach f0)
  extract_lets v0 v1 t2
  clear_value v0 v1
  have h3 : Reach r t2 := .upd f0
  clear_value t2
  exact State.secView_reach (State.setBit_reach (State.setFld_reach h3))

theorem State.openWindows_reach {s0} (f0 : Reach r s0) :
    Reach r (State.openWindows s0) := by
  unfold State.openWindows
  extract_lets t0 v1 t2 t3 v4
  have h5 : Reach r t0 := State.zeroRange_reach f0
  clear_value t0 v1
  have h6 : Reach r t2 := .upd h5
  clear_value t2
  have h7 : Reach r t3 := State.drdy_reach (State.openAs_reach (State.openAs_reach h6))
  clear_value t3 v4
  exact .upd h7

theorem State.postReady_reach {s0} (f0 : Reach r s0) :
    Reach r (State.postReady s0) := by
  unfold State.postReady
  extract_lets v0 t1 t2 v3 t4 v5 t6
  clear_value v0
  have h7 : Reach r t1 := State.setStage_reach (State.setFld_reach f0)
  clear_value t1
  have h8 : Reach r t2 := State.beat_reach (State.oldestView_reach h7)
  clear_value t2 v3
  have h9 : Reach r t4 := State.event_reach h8
  clear_value t4 v5
  have h10 : Reach r t6 := ite_k (Reach r) (State.event_reach h9) h9
  clear_value t6
  split
  · rename_i d11 e12
    exact h10
  · rename_i d13 d14 e15
    extract_lets t16 v17 t18
    have h19 : Reach r t16 := State.setBit_reach (State.setFld_reach h10)
    clear_value t16 v17
    have h20 : Reach r t18 := .upd h19
    clear_value t18
    exact State.event_reach h20

theorem execFwInit_reach {x0 x1 s2} (f2 : Reach r s2) :
    OutK (Reach r) (execFwInit x0 x1 s2) := by
  unfold execFwInit
  refine .next ?_
  refine ite_k (Reach r) f2 ?_
  extract_lets t0 t1 v2 t3 t4 t5 t6 t7
  have h8 : Reach r t0 := State.setDigestRegs_reach (State.setDigestRegs_reach f2)
  clear_value t0
  have h9 : Reach r t1 := State.initTiles_reach (State.firstMap_reach h8)
  clear_value t1 v2
  have h10 : Reach r t3 := State.setBit_reach (State.setBit_reach h9)
  clear_value t3
  have h11 : Reach r t4 := State.openWindows_reach (State.commitSvn_reach h10)
  clear_value t4
  have h12 : Reach r t5 := State.setFld_reach h11
  clear_value t5
  have h13 : Reach r t6 := State.postReady_reach (State.powerView_reach (State.setFld_reach h12))
  clear_value t6
  have h14 : Reach r t7 := by
    unfold t7
    refine foldl_k (Reach r) h13 ?_
    intro t15 h16 d17
    exact State.queueRetest_reach h16
  clear_value t7
  exact ite_k (Reach r) (State.estopHeldActs_reach (State.alert_reach h14)) h14

theorem execFwInitTimeout_reach {s0} (f0 : Reach r s0) :
    OutK (Reach r) (execFwInitTimeout s0) := by
  unfold execFwInitTimeout
  exact .next (ite_k (Reach r) (State.moduleReset_reach (State.setFld_reach f0)) f0)

/-! ## Power -/

theorem State.powerNote_reach {s0 x1} (f0 : Reach r s0) :
    Reach r (State.powerNote s0 x1) := by
  unfold State.powerNote
  exact ite_k (Reach r) (State.powerEvent_reach f0) f0

theorem State.fullView_reach {s0} (f0 : Reach r s0) :
    Reach r (State.fullView s0) := by
  unfold State.fullView
  exact .upd f0

theorem State.gateView_reach {s0} (f0 : Reach r s0) :
    Reach r (State.gateView s0) := by
  unfold State.gateView
  extract_lets v0 v1 t2 v3 v4 t5 v6 v7 t8 t9
  clear_value v0 v1
  have h10 : Reach r t2 := State.addSat_reach f0
  clear_value t2 v3 v4
  have h11 : Reach r t5 := ite_k (Reach r) (.upd h10) (.upd f0)
  clear_value t5 v6 v7
  have h12 : Reach r t8 := State.setBit_reach (State.setFld_reach h11)
  clear_value t8
  have h13 : Reach r t9 := State.fullView_reach h12
  clear_value t9
  exact ite_k (Reach r) (State.powerNote_reach h13) h13

theorem State.shutGates_reach {s0} (f0 : Reach r s0) :
    Reach r (State.shutGates s0) := by
  unfold State.shutGates
  extract_lets t0 v1
  have h2 : Reach r t0 := State.setFld_reach (State.setFld_reach f0)
  clear_value t0 v1
  exact .upd h2

theorem State.lowerFree_reach {s0} (f0 : Reach r s0) :
    PairK AnyK (Reach r) (State.lowerFree s0) := by
  unfold State.lowerFree
  extract_lets v0 v1
  clear_value v0 v1
  exact ite_k (PairK AnyK (Reach r)) (.mk any_k (State.setFld_reach f0)) (ite_k (PairK AnyK (Reach r)) (.mk any_k
      (State.setFld_reach f0)) (.mk any_k f0))

theorem State.lowerTiles_reach {s0 x1} (f0 : Reach r s0) :
    Reach r (State.lowerTiles s0 x1) := by
  unfold State.lowerTiles
  exact .upd f0

theorem State.raiseGates_reach {s0} (f0 : Reach r s0) :
    Reach r (State.raiseGates s0) := by
  unfold State.raiseGates
  extract_lets v0 v1 v2 t3
  clear_value v0 v1 v2
  have h4 : Reach r t3 := .upd f0
  clear_value t3
  refine ite_k (Reach r) (.upd f0) ?_
  exact ite_k (Reach r) (State.setFld_reach h4) (ite_k (Reach r) (State.setFld_reach h4) h4)

theorem execGateStepDown_reach {x0 s1} (f1 : Reach r s1) :
    OutK (Reach r) (execGateStepDown x0 s1) := by
  unfold execGateStepDown
  refine .next ?_
  refine ite_k (Reach r) f1 ?_
  refine ite_k (Reach r) (.upd f1) ?_
  refine ite_k (Reach r) f1 ?_
  extract_lets t0 v1 t2 v3 t4 t5
  have h6 : PairK AnyK (Reach r) t0 := State.lowerFree_reach f1
  clear_value t0 v1
  have h7 : Reach r t2 := snd_k AnyK h6
  clear_value t2 v3
  have h8 : Reach r t4 := ite_k (Reach r) (.upd h7) (.upd h7)
  clear_value t4
  have h9 : Reach r t5 := ite_k (Reach r) (State.lowerTiles_reach h8) h8
  clear_value t5
  exact State.gateView_reach h9

theorem execGateStepUp_reach {x0 x1 s2} (f2 : Reach r s2) :
    OutK (Reach r) (execGateStepUp x0 x1 s2) := by
  unfold execGateStepUp
  refine .next ?_
  refine ite_k (Reach r) f2 ?_
  extract_lets t0 v1 v2 t3 v4
  have h5 : Reach r t0 := State.setFld_reach f2
  clear_value t0 v1 v2
  have h6 : Reach r t3 := State.powerView_reach (.upd h5)
  clear_value t3 v4
  exact State.gateView_reach (ite_k (Reach r) (State.raiseGates_reach h6) h6)

theorem execOverLimit_reach {s0} (f0 : Reach r s0) :
    OutK (Reach r) (execOverLimit s0) := by
  unfold execOverLimit
  refine .next ?_
  split
  · rename_i d0 d1 e2
    refine ite_k (Reach r) ?_ f0
    exact State.powerNote_reach (State.gateView_reach (State.lowerTiles_reach (State.setBit_reach f0)))
  · rename_i d3 e4
    exact f0

theorem execOverLimitClear_reach {s0} (f0 : Reach r s0) :
    OutK (Reach r) (execOverLimitClear s0) := by
  unfold execOverLimitClear
  refine .next ?_
  split
  · rename_i d0 d1 e2
    exact ite_k (Reach r) (State.setBit_reach f0) f0
  · rename_i d3 e4
    exact f0

theorem State.emergency_reach {s0} (f0 : Reach r s0) :
    Reach r (State.emergency s0) := by
  unfold State.emergency
  refine ite_k (Reach r) f0 ?_
  extract_lets t0 t1 v2
  have h3 : Reach r t0 := State.addSat_reach (State.setBit_reach f0)
  clear_value t0
  have h4 : Reach r t1 := State.setFld_reach (State.setFld_reach h3)
  clear_value t1 v2
  exact State.alert_reach (State.powerNote_reach (.upd h4))

theorem execSensorRead_reach {x0 s1} (f1 : Reach r s1) :
    OutK (Reach r) (execSensorRead x0 s1) := by
  unfold execSensorRead
  extract_lets v0 v1 v2 v3 v4 v5 t6 t7 t8 t9 v10 t11 v12 v13 t14 t15 v16 t17
  clear_value v0 v1 v2 v3 v4 v5
  have h18 : Reach r t6 := State.setFld_reach (State.setFld_reach f1)
  clear_value t6
  have h19 : Reach r t7 := State.setFld_reach (State.setFld_reach h18)
  clear_value t7
  have h20 : Reach r t8 := State.setFld_reach h19
  clear_value t8
  have h21 : Reach r t9 := by
    unfold t9
    refine foldl_k (Reach r) h20 ?_
    intro t22 h23 d24
    exact State.setBit_reach h23
  clear_value t9 v10
  have h25 : Reach r t11 := ite_k (Reach r) (State.powerNote_reach h21) h21
  clear_value t11 v12 v13
  have h26 : Reach r t14 := .upd h25
  clear_value t14
  have h27 : Reach r t15 := by
    unfold t15
    refine ite_k (Reach r) ?_ (ite_k (Reach r) (State.setBit_reach h26) h26)
    exact State.emergency_reach (State.shutGates_reach (State.addSat_reach (State.setBit_reach h26)))
  clear_value t15 v16
  have h28 : Reach r t17 := by
    unfold t17
    refine ite_k (Reach r) h27 ?_
    exact ite_k (Reach r) (State.lowerTiles_reach h27) (ite_k (Reach r) (snd_k AnyK (State.lowerFree_reach h27)) h27)
  clear_value t17
  exact .next (ite_k (Reach r) f1 (State.gateView_reach h28))

theorem execThermalEmergency_reach {s0} (f0 : Reach r s0) :
    OutK (Reach r) (execThermalEmergency s0) := by
  unfold execThermalEmergency
  exact .next (ite_k (Reach r) (State.gateView_reach (State.emergency_reach f0)) f0)

theorem execThermalEmergencyEnd_reach {s0} (f0 : Reach r s0) :
    OutK (Reach r) (execThermalEmergencyEnd s0) := by
  unfold execThermalEmergencyEnd
  refine .next ?_
  refine ite_k (Reach r) ?_ f0
  extract_lets t0 v1
  have h2 : Reach r t0 := State.setBit_reach f0
  clear_value t0 v1
  exact State.powerNote_reach (.upd h2)

theorem State.powerStops_reach {s0 x1} (f0 : Reach r s0) :
    Reach r (State.powerStops s0 x1) := by
  unfold State.powerStops
  extract_lets t0 t1 t2 t3 t4
  have h5 : Reach r t0 := State.setBit_reach f0
  clear_value t0
  have h6 : Reach r t1 := by
    unfold t1
    refine foldl_k (Reach r) h5 ?_
    intro t7 h8 d9
    exact State.loupeResult_reach h8
  clear_value t1
  have h10 : Reach r t2 := by
    unfold t2
    split
    · rename_i d11 d12 e13
      exact State.abandonTest_reach h6
    · rename_i d14 e15
      exact h6
  clear_value t2
  have h16 : Reach r t3 := by
    unfold t3
    refine ite_k (Reach r) ?_ h6
    refine foldl_k (Reach r) h10 ?_
    intro t17 h18 d19
    exact State.abandonTest_reach h18
  clear_value t3
  have h20 : Reach r t4 := by
    unfold t4
    refine foldl_k (Reach r) h16 ?_
    intro t21 h22 d23
    refine ite_k (Reach r) (ite_k (Reach r) (State.abortCtx_reach h22) h22) ?_
    refine ite_k (Reach r) ?_ h22
    extract_lets t24 v25
    have h26 : Reach r t24 := State.drainCtx_reach h22
    clear_value t24 v25
    exact .upd h26
  clear_value t4
  refine foldl_k (Reach r) h20 ?_
  intro t27 h28 d29
  exact State.xeHalt_reach h28

theorem State.powerPorts_reach {s0 x1} (f0 : Reach r s0) :
    Reach r (State.powerPorts s0 x1) := by
  unfold State.powerPorts
  refine foldl_k (Reach r) f0 ?_
  intro t0 h1 d2
  exact ite_k (Reach r) h1 (State.lnDisable_reach h1)

theorem State.saveRegion_reach {s0 x1} (f0 : Reach r s0) :
    Reach r (State.saveRegion s0 x1) := by
  unfold State.saveRegion
  extract_lets v0 v1 v2 v3 v4
  clear_value v0 v1 v2 v3 v4
  split
  · rename_i d5 e6
    exact f0
  · rename_i d7 d8 e9
    extract_lets t10 v11
    have h12 : Reach r t10 := State.copyRange_reach f0
    clear_value t10 v11
    exact State.setCtx_reach h12

theorem State.powerUnload_reach {s0 x1} (f0 : Reach r s0) :
    Reach r (State.powerUnload s0 x1) := by
  unfold State.powerUnload
  refine foldl_k (Reach r) f0 ?_
  intro t0 h1 d2
  refine ite_k (Reach r) h1 ?_
  exact ite_k (Reach r) (State.zeroised_reach (State.endJoin_reach h1)) (ite_k (Reach r) (State.zeroised_reach
      (State.endJoin_reach h1)) h1)

theorem State.slumberLoss_reach {s0} (f0 : Reach r s0) :
    Reach r (State.slumberLoss s0) := by
  unfold State.slumberLoss
  extract_lets t0 t1
  have h2 : Reach r t0 := State.loseRange_reach (State.loseRange_reach (State.loseRange_reach f0))
  clear_value t0
  have h3 : Reach r t1 := .upd h2
  clear_value t1
  exact State.refence_reach (State.computeClear_reach h3)

theorem State.powerReply_reach {s0} {k1 : State → Waiting → State} {x2} (f0 : Reach r s0) (f1 : (∀ y00, Reach r y00
    → ∀ y01, Reach r (k1 y00 y01))) :
    Reach r (State.powerReply s0 k1 x2) := by
  unfold State.powerReply
  extract_lets v0 t1 v2 t3
  clear_value v0
  have h4 : Reach r t1 := .upd f0
  clear_value t1 v2
  have h5 : Reach r t3 := .upd h4
  clear_value t3
  exact State.complete_reach h5 f1

theorem State.powerEnter_reach {s0 x1 x2} (f0 : Reach r s0) :
    Reach r (State.powerEnter s0 x1 x2) := by
  unfold State.powerEnter
  refine ite_k (Reach r) ?_ ?_
  · refine State.powerReply_reach (State.setFld_reach f0) ?_
    intro t0 h1 d2
    exact State.reply_reach h1
  · extract_lets v3 t4 t5 t6 t7
    clear_value v3
    have h8 : Reach r t4 := by
      unfold t4
      refine ite_k (Reach r) ?_ f0
      refine foldl_k (Reach r) f0 ?_
      intro t9 h10 d11
      exact State.saveRegion_reach h10
    clear_value t4
    have h12 : Reach r t5 := ite_k (Reach r) (State.powerUnload_reach h8) h8
    clear_value t5
    have h13 : Reach r t6 := by
      unfold t6
      refine State.powerReply_reach (State.enterPower_reach h12) ?_
      intro t14 h15 d16
      exact State.okForm_reach h15
    clear_value t6
    have h17 : Reach r t7 := ite_k (Reach r) (State.tlDown_reach h13) h13
    clear_value t7
    exact ite_k (Reach r) (State.slumberLoss_reach h17) h17

theorem State.powerGo_reach {s0} (f0 : Reach r s0) :
    Reach r (State.powerGo s0) := by
  unfold State.powerGo
  split
  · rename_i d0 e1
    exact f0
  · rename_i d2 d3 d4 e5
    refine ite_k (Reach r) f0 ?_
    extract_lets t6 t7
    have h8 : Reach r t6 := State.powerStops_reach f0
    clear_value t6
    have h9 : Reach r t7 := ite_k (Reach r) (State.powerPorts_reach h8) h8
    clear_value t7
    exact ite_k (Reach r) h8 (ite_k (Reach r) h9 (State.powerEnter_reach h9))

theorem State.powerBegin_reach {s0 x1 x2 x3} (f0 : Reach r s0) :
    Reach r (State.powerBegin s0 x1 x2 x3) := by
  unfold State.powerBegin
  extract_lets v0 t1
  clear_value v0
  have h2 : Reach r t1 := .upd f0
  clear_value t1
  exact State.powerGo_reach (State.setFld_reach h2)

theorem State.powerOvertake_reach {s0 x1} (f0 : Reach r s0) :
    Reach r (State.powerOvertake s0 x1) := by
  unfold State.powerOvertake
  exact State.powerGo_reach (.upd f0)

theorem execPwrState_reach {x0 x1 x2 s3} (f3 : Reach r s3) :
    OutK (Reach r) (execPwrState x0 x1 x2 s3) := by
  unfold execPwrState
  extract_lets v0 v1 v2
  clear_value v0 v1 v2
  refine .next ?_
  refine ite_k (Reach r) f3 ?_
  refine State.command_reach f3 ?_
  intro d3 t4 h5
  refine ite_k (Reach r) (State.reply_reach h5) ?_
  refine ite_k (Reach r) (State.powerOvertake_reach (State.await_reach h5)) ?_
  refine ite_k (Reach r) (State.okForm_reach h5) ?_
  split
  · rename_i d6 d7 e8
    exact State.reply_reach h5
  · rename_i d9 d10 e11
    exact State.powerBegin_reach (State.await_reach h5)

theorem execPwrLimit_reach {x0 x1 s2} (f2 : Reach r s2) :
    OutK (Reach r) (execPwrLimit x0 x1 s2) := by
  unfold execPwrLimit
  refine .next ?_
  refine ite_k (Reach r) f2 ?_
  refine State.command_reach f2 ?_
  intro d0 t1 h2
  exact ite_k (Reach r) (State.refuse_reach h2) (State.ok_reach (State.setFld_reach h2))

theorem execPwrStatus_reach {x0 s1} (f1 : Reach r s1) :
    OutK (Reach r) (execPwrStatus x0 s1) := by
  unfold execPwrStatus
  refine .next ?_
  refine ite_k (Reach r) f1 ?_
  refine State.command_reach f1 ?_
  intro d0 t1 h2
  extract_lets v3
  clear_value v3
  exact State.ok_reach h2

theorem State.wake_reach {s0} (f0 : Reach r s0) :
    Reach r (State.wake s0) := by
  unfold State.wake
  split
  · rename_i d0 e1
    extract_lets t2 t3
    have h4 : Reach r t2 := State.setTl_reach (State.memPower_reach (State.setFld_reach f0))
    clear_value t2
    have h5 : Reach r t3 := State.powerEvent_reach h4
    clear_value t3
    exact ite_k (Reach r) (State.estopHeldActs_reach (State.alert_reach h5)) h5
  · rename_i d6 e7
    extract_lets t8
    have h9 : Reach r t8 := State.restart_reach f0
    clear_value t8
    exact .upd h9
  · rename_i d10 e11
    exact State.enterPower_reach f0
  · rename_i d12 e13
    exact State.enterPower_reach f0
  · rename_i d14 e15 e16 e17 e18
    exact f0

/-! ## Sideband -/

theorem State.sbAnswer_reach {s0 x1} (f0 : Reach r s0) :
    Reach r (State.sbAnswer s0 x1) := by
  unfold State.sbAnswer
  exact .upd f0

theorem execStatus_reach {s0} (f0 : Reach r s0) :
    OutK (Reach r) (execStatus s0) := by
  unfold execStatus
  refine .next ?_
  refine ite_k (Reach r) f0 ?_
  extract_lets t0 v1
  have h2 : Reach r t0 := State.sbAnswer_reach f0
  clear_value t0 v1
  exact .upd h2

theorem execTelemetry_reach {s0} (f0 : Reach r s0) :
    OutK (Reach r) (execTelemetry s0) := by
  unfold execTelemetry
  exact .next (ite_k (Reach r) f0 (State.sbAnswer_reach f0))

theorem execHealth_reach {s0} (f0 : Reach r s0) :
    OutK (Reach r) (execHealth s0) := by
  unfold execHealth
  extract_lets v0
  clear_value v0
  exact .next (ite_k (Reach r) f0 (State.sbAnswer_reach f0))

theorem execBoot_reach {s0} (f0 : Reach r s0) :
    OutK (Reach r) (execBoot s0) := by
  unfold execBoot
  exact .next (ite_k (Reach r) f0 (State.sbAnswer_reach f0))

theorem execMirrorRefresh_reach {s0} (f0 : Reach r s0) :
    OutK (Reach r) (execMirrorRefresh s0) := by
  unfold execMirrorRefresh
  refine .next ?_
  refine ite_k (Reach r) ?_ f0
  extract_lets t0 v1 v2 v3
  have h4 : Reach r t0 := State.oldestView_reach f0
  clear_value t0 v1 v2 v3
  exact .upd h4

theorem State.sbWrite_reach {s0 x1} {k2 : State → State} (f0 : Reach r s0) (f2 : (∀ y00, Reach r y00 → Reach r (k2
    y00))) :
    Reach r (State.sbWrite s0 x1 k2) := by
  unfold State.sbWrite
  exact ite_k (Reach r) f0 (ite_k (Reach r) (.upd f0) (f2 _ f0))

theorem State.sbResult_reach {s0 x1 x2} (f0 : Reach r s0) :
    Reach r (State.sbResult s0 x1 x2) := by
  unfold State.sbResult
  exact .upd f0

theorem State.sbPower_reach {s0 x1 x2} (f0 : Reach r s0) :
    Reach r (State.sbPower s0 x1 x2) := by
  unfold State.sbPower
  extract_lets t0
  have h1 : Reach r t0 := State.wake_reach f0
  clear_value t0
  exact ite_k (Reach r) (State.sbResult_reach h1) (State.powerBegin_reach (State.sbResult_reach h1))

theorem execPowerReq_reach {x0 x1 s2} (f2 : Reach r s2) :
    OutK (Reach r) (execPowerReq x0 x1 s2) := by
  unfold execPowerReq
  extract_lets v0 v1
  clear_value v0 v1
  refine .next ?_
  refine State.sbWrite_reach f2 ?_
  intro t2 h3
  extract_lets v4 v5
  clear_value v4 v5
  refine ite_k (Reach r) (State.sbResult_reach (State.wake_reach h3)) ?_
  refine ite_k (Reach r) (State.sbResult_reach h3) ?_
  exact ite_k (Reach r) (State.powerOvertake_reach (State.sbResult_reach h3)) (ite_k (Reach r)
      (State.sbResult_reach (.upd h3)) (State.sbPower_reach h3))

theorem State.sbNext_reach {s0} (f0 : Reach r s0) :
    Reach r (State.sbNext s0) := by
  unfold State.sbNext
  split
  · rename_i d0 e1
    exact f0
  · rename_i d2 d3 d4 d5 e6
    refine ite_k (Reach r) f0 ?_
    extract_lets v7 t8
    clear_value v7
    have h9 : Reach r t8 := .upd f0
    clear_value t8
    exact ite_k (Reach r) (State.sbResult_reach h9) (State.sbPower_reach h9)

theorem execEstop_reach {x0 x1 s2} (f2 : Reach r s2) :
    OutK (Reach r) (execEstop x0 x1 s2) := by
  unfold execEstop
  refine .next ?_
  refine State.sbWrite_reach f2 ?_
  intro t0 h1
  refine ite_k (Reach r) h1 ?_
  refine ite_k (Reach r) (State.sbResult_reach h1) ?_
  extract_lets v2 t3 t4 v5
  clear_value v2
  have h6 : Reach r t3 := .upd h1
  clear_value t3
  have h7 : Reach r t4 := State.sbResult_reach (State.gateView_reach (State.shutGates_reach h6))
  clear_value t4 v5
  refine ite_k (Reach r) (State.sbResult_reach (.upd h7)) ?_
  exact ite_k (Reach r) (State.alert_reach (State.sbResult_reach (.upd h7))) (State.estopAct_reach
      (State.alert_reach h7))

theorem execEstopRelease_reach {x0 x1 s2} (f2 : Reach r s2) :
    OutK (Reach r) (execEstopRelease x0 x1 s2) := by
  unfold execEstopRelease
  refine .next ?_
  refine State.sbWrite_reach f2 ?_
  intro t0 h1
  exact ite_k (Reach r) h1 (State.gateView_reach (State.sbResult_reach (.upd h1)))

theorem execResetReq_reach {x0 x1 s2} (f2 : Reach r s2) :
    OutK (Reach r) (execResetReq x0 x1 s2) := by
  unfold execResetReq
  refine .next ?_
  refine State.sbWrite_reach f2 ?_
  intro t0 h1
  refine ite_k (Reach r) h1 ?_
  exact ite_k (Reach r) (State.computeTrigger_reach (State.sbResult_reach h1)) (State.sbResult_reach h1)

theorem State.tapLoad_reach {s0 x1 x2} (f0 : Reach r s0) :
    Reach r (State.tapLoad s0 x1 x2) := by
  unfold State.tapLoad
  exact ite_k (Reach r) (.upd f0) f0

theorem execBypass_reach {s0} (f0 : Reach r s0) :
    OutK (Reach r) (execBypass s0) := by
  unfold execBypass
  exact .next (State.tapLoad_reach f0)

theorem execIdcode_reach {s0} (f0 : Reach r s0) :
    OutK (Reach r) (execIdcode s0) := by
  unfold execIdcode
  exact .next (State.tapLoad_reach f0)

theorem State.scan_reach {s0 x1 x2} (f0 : Reach r s0) :
    Reach r (State.scan s0 x1 x2) := by
  unfold State.scan
  refine ite_k (Reach r) ?_ (State.tapLoad_reach f0)
  extract_lets t0 v1 t2
  have h3 : PairK AnyK (Reach r) t0 := State.draw_reach f0
  clear_value t0 v1
  have h4 : Reach r t2 := snd_k AnyK h3
  clear_value t2
  exact State.tapLoad_reach h4

theorem execSamplePreload_reach {s0} (f0 : Reach r s0) :
    OutK (Reach r) (execSamplePreload s0) := by
  unfold execSamplePreload
  exact .next (State.scan_reach f0)

theorem execExtest_reach {s0} (f0 : Reach r s0) :
    OutK (Reach r) (execExtest s0) := by
  unfold execExtest
  exact .next (State.scan_reach f0)

theorem execClamp_reach {s0} (f0 : Reach r s0) :
    OutK (Reach r) (execClamp s0) := by
  unfold execClamp
  exact .next (State.tapLoad_reach f0)

theorem execHighz_reach {s0} (f0 : Reach r s0) :
    OutK (Reach r) (execHighz s0) := by
  unfold execHighz
  exact .next (State.tapLoad_reach f0)

theorem execDebug_reach {x0 s1} (f1 : Reach r s1) :
    OutK (Reach r) (execDebug x0 s1) := by
  unfold execDebug
  refine ite_k (OutK (Reach r)) (.next (State.tapLoad_reach f1)) ?_
  split
  · rename_i d0
    exact .refused
  · rename_i d1 d2
    refine ite_k (OutK (Reach r)) (.next (State.tapLoad_reach f1)) ?_
    refine ite_k (OutK (Reach r)) (.next (State.tapLoad_reach f1)) ?_
    extract_lets t3 v4 t5
    have h6 : PairK AnyK (Reach r) t3 := State.draw_reach f1
    clear_value t3 v4
    have h7 : Reach r t5 := snd_k AnyK h6
    clear_value t5
    exact .next (State.tapLoad_reach h7)
  · rename_i d8 d9 d10
    refine ite_k (OutK (Reach r)) (.next (State.tapLoad_reach f1)) ?_
    refine ite_k (OutK (Reach r)) (.next (State.tapLoad_reach (State.regWrite_reach f1))) ?_
    extract_lets t11 v12 t13
    have h14 : PairK AnyK (Reach r) t11 := State.draw_reach f1
    clear_value t11 v12
    have h15 : Reach r t13 := snd_k AnyK h14
    clear_value t13
    exact .next (State.tapLoad_reach h15)

theorem execTapReset_reach {s0} (f0 : Reach r s0) :
    OutK (Reach r) (execTapReset s0) := by
  unfold execTapReset
  exact .next (State.tapLoad_reach f0)

/-! ## Tick -/

theorem State.calTick_reach {s0} (f0 : Reach r s0) :
    Reach r (State.calTick s0) := by
  unfold State.calTick
  extract_lets v0
  clear_value v0
  exact ite_k (Reach r) (State.setFld_reach f0) (State.setFld_reach (State.setFld_reach f0))

theorem State.tbTick_reach {s0} (f0 : Reach r s0) :
    Reach r (State.tbTick s0) := by
  unfold State.tbTick
  exact ite_k (Reach r) (State.addMod_reach f0) f0

theorem State.wdtTick_reach {s0} (f0 : Reach r s0) :
    Reach r (State.wdtTick s0) := by
  unfold State.wdtTick
  exact ite_k (Reach r) (State.setFld_reach f0) f0

theorem State.tick_reach {s0} (f0 : Reach r s0) :
    Reach r (State.tick s0) := by
  unfold State.tick
  refine State.sbNext_reach ?_
  exact State.powerGo_reach (State.wdtTick_reach (State.tbTick_reach (State.calTick_reach f0)))

end Sys2Proof.Machine
end

