-- ==== Sys2Proof/Laws/ReachExec.lean ====
section
/-! SUPPORT. Laws/ReachExec.lean: what a command and a step can do to the queue, the variant, the register file, memory and the
free values. -/
namespace Sys2Proof.Machine

variable {r : State}

/-- A command's meaning stays within `Reach`. -/
theorem exec_reach {s : State} (h : Reach r s) (c : Instr) : OutK (Reach r) (exec c s) := by
  cases c with
  | identify _ => exact exec_identify ▸ execIdentify_reach h
  | deviceStatus _ => exact exec_deviceStatus ▸ execDeviceStatus_reach h
  | deviceConfig _ _ _ _ _ => exact exec_deviceConfig ▸ execDeviceConfig_reach h
  | deviceResetCompute _ => exact exec_deviceResetCompute ▸ execDeviceResetCompute_reach h
  | deviceResetModule _ => exact exec_deviceResetModule ▸ execDeviceResetModule_reach h
  | ctxCreate _ _ _ _ _ => exact exec_ctxCreate ▸ execCtxCreate_reach h
  | ctxDestroy _ => exact exec_ctxDestroy ▸ execCtxDestroy_reach h
  | ctxTiming _ _ _ _ => exact exec_ctxTiming ▸ execCtxTiming_reach h
  | ctxStart _ _ => exact exec_ctxStart ▸ execCtxStart_reach h
  | ctxStop _ => exact exec_ctxStop ▸ execCtxStop_reach h
  | ctxQuery _ => exact exec_ctxQuery ▸ execCtxQuery_reach h
  | plateLoad _ _ _ => exact exec_plateLoad ▸ execPlateLoad_reach h
  | plateUnload _ => exact exec_plateUnload ▸ execPlateUnload_reach h
  | plateReconfigure _ _ _ => exact exec_plateReconfigure ▸ execPlateReconfigure_reach h
  | classSet _ _ _ _ _ => exact exec_classSet ▸ execClassSet_reach h
  | streamConfig _ _ => exact exec_streamConfig ▸ execStreamConfig_reach h
  | streamOpen _ _ _ => exact exec_streamOpen ▸ execStreamOpen_reach h
  | streamClose _ _ => exact exec_streamClose ▸ execStreamClose_reach h
  | streamQuery _ _ => exact exec_streamQuery ▸ execStreamQuery_reach h
  | memAlloc _ _ _ _ => exact exec_memAlloc ▸ execMemAlloc_reach h
  | memFree _ _ => exact exec_memFree ▸ execMemFree_reach h
  | xeAssign _ _ _ _ _ _ => exact exec_xeAssign ▸ execXeAssign_reach h
  | xeStop _ _ => exact exec_xeStop ▸ execXeStop_reach h
  | xeResume _ _ => exact exec_xeResume ▸ execXeResume_reach h
  | memQuery _ => exact exec_memQuery ▸ execMemQuery_reach h
  | healthRead _ _ => exact exec_healthRead ▸ execHealthRead_reach h
  | loupeRequest _ _ _ _ _ _ => exact exec_loupeRequest ▸ execLoupeRequest_reach h
  | loupeStop _ => exact exec_loupeStop ▸ execLoupeStop_reach h
  | rotationPause _ => exact exec_rotationPause ▸ execRotationPause_reach h
  | rotationResume _ => exact exec_rotationResume ▸ execRotationResume_reach h
  | tileFence _ _ => exact exec_tileFence ▸ execTileFence_reach h
  | tileRetest _ _ => exact exec_tileRetest ▸ execTileRetest_reach h
  | healthConfig _ _ _ _ => exact exec_healthConfig ▸ execHealthConfig_reach h
  | proofConfig _ _ _ _ _ => exact exec_proofConfig ▸ execProofConfig_reach h
  | proofRound _ => exact exec_proofRound ▸ execProofRound_reach h
  | proofRead _ => exact exec_proofRead ▸ execProofRead_reach h
  | proofRegions _ _ => exact exec_proofRegions ▸ execProofRegions_reach h
  | attest _ _ _ => exact exec_attest ▸ execAttest_reach h
  | keyImport _ _ _ _ => exact exec_keyImport ▸ execKeyImport_reach h
  | keyEnroll _ _ _ => exact exec_keyEnroll ▸ execKeyEnroll_reach h
  | secStatus _ => exact exec_secStatus ▸ execSecStatus_reach h
  | diagOpen _ _ _ => exact exec_diagOpen ▸ execDiagOpen_reach h
  | diagClose _ _ _ => exact exec_diagClose ▸ execDiagClose_reach h
  | sheetRead _ _ _ _ => exact exec_sheetRead ▸ execSheetRead_reach h
  | countersRead _ _ _ => exact exec_countersRead ▸ execCountersRead_reach h
  | tbRead _ => exact exec_tbRead ▸ execTbRead_reach h
  | tbAlign _ _ => exact exec_tbAlign ▸ execTbAlign_reach h
  | calSet _ _ _ => exact exec_calSet ▸ execCalSet_reach h
  | calDiscipline _ _ _ => exact exec_calDiscipline ▸ execCalDiscipline_reach h
  | lnEnable _ _ _ => exact exec_lnEnable ▸ execLnEnable_reach h
  | lnDisable _ _ => exact exec_lnDisable ▸ execLnDisable_reach h
  | lnStatus _ _ => exact exec_lnStatus ▸ execLnStatus_reach h
  | lnJoin _ _ _ _ => exact exec_lnJoin ▸ execLnJoin_reach h
  | pwrState _ _ _ => exact exec_pwrState ▸ execPwrState_reach h
  | pwrLimit _ _ => exact exec_pwrLimit ▸ execPwrLimit_reach h
  | pwrStatus _ => exact exec_pwrStatus ▸ execPwrStatus_reach h
  | submissionWatch => exact exec_submissionWatch ▸ execSubmissionWatch_reach h
  | watchPoll => exact exec_watchPoll ▸ execWatchPoll_reach h
  | read _ _ _ => exact exec_read ▸ execRead_reach h
  | write _ _ _ _ _ => exact exec_write ▸ execWrite_reach h
  | writeMasked _ _ _ _ _ => exact exec_writeMasked ▸ execWriteMasked_reach h
  | atomic _ _ _ _ => exact exec_atomic ▸ execAtomic_reach h
  | share _ _ => exact exec_share ▸ execShare_reach h
  | own _ _ => exact exec_own ▸ execOwn_reach h
  | returnLine _ _ _ _ _ => exact exec_returnLine ▸ execReturnLine_reach h
  | snoopRsp _ _ _ _ => exact exec_snoopRsp ▸ execSnoopRsp_reach h
  | cpl _ _ _ _ => exact exec_cpl ▸ execCpl_reach h
  | snoopTimeout _ => exact exec_snoopTimeout ▸ execSnoopTimeout_reach h
  | cplTimeout _ => exact exec_cplTimeout ▸ execCplTimeout_reach h
  | tlReplay _ _ => exact exec_tlReplay ▸ execTlReplay_reach h
  | tlRecovery _ _ => exact exec_tlRecovery ▸ execTlRecovery_reach h
  | tlTraining _ => exact exec_tlTraining ▸ execTlTraining_reach h
  | tlDown => exact exec_tlDown ▸ execTlDown_reach h
  | tlDownRetry => exact exec_tlDownRetry ▸ execTlDownRetry_reach h
  | retrain => exact exec_retrain ▸ execRetrain_reach h
  | fullTrain => exact exec_fullTrain ▸ execFullTrain_reach h
  | messageSend _ _ => exact exec_messageSend ▸ execMessageSend_reach h
  | routeLookup _ => exact exec_routeLookup ▸ execRouteLookup_reach h
  | linkRetry _ _ _ => exact exec_linkRetry ▸ execLinkRetry_reach h
  | hopDeclaredFailed _ _ _ => exact exec_hopDeclaredFailed ▸ execHopDeclaredFailed_reach h
  | data _ => exact exec_data ▸ execData_reach h
  | token _ => exact exec_token ▸ execToken_reach h
  | counterAdd _ => exact exec_counterAdd ▸ execCounterAdd_reach h
  | ack _ => exact exec_ack ▸ execAck_reach h
  | nack _ => exact exec_nack ▸ execNack_reach h
  | retryRound _ _ => exact exec_retryRound ▸ execRetryRound_reach h
  | ackTimeout _ _ _ => exact exec_ackTimeout ▸ execAckTimeout_reach h
  | remoteWrite _ => exact exec_remoteWrite ▸ execRemoteWrite_reach h
  | remoteRead _ => exact exec_remoteRead ▸ execRemoteRead_reach h
  | readResp _ => exact exec_readResp ▸ execReadResp_reach h
  | combine _ => exact exec_combine ▸ execCombine_reach h
  | combineEmit _ _ _ => exact exec_combineEmit ▸ execCombineEmit_reach h
  | vcmConfig _ _ _ _ => exact exec_vcmConfig ▸ execVcmConfig_reach h
  | vcmHeal _ _ _ _ _ => exact exec_vcmHeal ▸ execVcmHeal_reach h
  | vcmMgmt _ _ _ => exact exec_vcmMgmt ▸ execVcmMgmt_reach h
  | progressSample => exact exec_progressSample ▸ execProgressSample_reach h
  | overflowReturn _ _ => exact exec_overflowReturn ▸ execOverflowReturn_reach h
  | selectOp _ _ => exact exec_selectOp ▸ execSelectOp_reach h
  | switchOp _ _ => exact exec_switchOp ▸ execSwitchOp_reach h
  | gateOp _ _ => exact exec_gateOp ▸ execGateOp_reach h
  | repeatOp _ _ => exact exec_repeatOp ▸ execRepeatOp_reach h
  | mergeArrival _ _ => exact exec_mergeArrival ▸ execMergeArrival_reach h
  | endOp _ _ => exact exec_endOp ▸ execEndOp_reach h
  | mePass _ _ _ _ => exact exec_mePass ▸ execMePass_reach h
  | weightBlockLoad _ _ => exact exec_weightBlockLoad ▸ execWeightBlockLoad_reach h
  | sliceSetEmit _ => exact exec_sliceSetEmit ▸ execSliceSetEmit_reach h
  | vspVector _ => exact exec_vspVector ▸ execVspVector_reach h
  | agAccess _ _ _ => exact exec_agAccess ▸ execAgAccess_reach h
  | queuePush _ _ _ => exact exec_queuePush ▸ execQueuePush_reach h
  | queuePop _ _ => exact exec_queuePop ▸ execQueuePop_reach h
  | recordRelease _ _ _ => exact exec_recordRelease ▸ execRecordRelease_reach h
  | waitMet _ _ => exact exec_waitMet ▸ execWaitMet_reach h
  | foldQuotaExpiry _ => exact exec_foldQuotaExpiry ▸ execFoldQuotaExpiry_reach h
  | foldSwitch _ => exact exec_foldSwitch ▸ execFoldSwitch_reach h
  | scrubRead _ _ _ _ => exact exec_scrubRead ▸ execScrubRead_reach h
  | rowceRelease _ => exact exec_rowceRelease ▸ execRowceRelease_reach h
  | remapLoad _ _ _ _ _ => exact exec_remapLoad ▸ execRemapLoad_reach h
  | remap _ _ _ _ _ => exact exec_remap ▸ execRemap_reach h
  | remapComplete _ => exact exec_remapComplete ▸ execRemapComplete_reach h
  | fillTile _ => exact exec_fillTile ▸ execFillTile_reach h
  | fillRange _ _ _ => exact exec_fillRange ▸ execFillRange_reach h
  | fillDone _ => exact exec_fillDone ▸ execFillDone_reach h
  | proofHashGo _ _ => exact exec_proofHashGo ▸ execProofHashGo_reach h
  | proofHashAbandon _ => exact exec_proofHashAbandon ▸ execProofHashAbandon_reach h
  | proofHashDone _ => exact exec_proofHashDone ▸ execProofHashDone_reach h
  | meHaltReq _ _ => exact exec_meHaltReq ▸ execMeHaltReq_reach h
  | meResume _ => exact exec_meResume ▸ execMeResume_reach h
  | injectCheck _ => exact exec_injectCheck ▸ execInjectCheck_reach h
  | injectCombine _ => exact exec_injectCombine ▸ execInjectCombine_reach h
  | vspHaltReq _ _ => exact exec_vspHaltReq ▸ execVspHaltReq_reach h
  | vspResume _ => exact exec_vspResume ▸ execVspResume_reach h
  | suHaltReq _ _ => exact exec_suHaltReq ▸ execSuHaltReq_reach h
  | suResume _ => exact exec_suResume ▸ execSuResume_reach h
  | agHaltReq _ _ _ => exact exec_agHaltReq ▸ execAgHaltReq_reach h
  | agResume _ _ => exact exec_agResume ▸ execAgResume_reach h
  | agRestart _ _ => exact exec_agRestart ▸ execAgRestart_reach h
  | unitHaltComplete _ _ => exact exec_unitHaltComplete ▸ execUnitHaltComplete_reach h
  | unitDrainTimeout _ _ => exact exec_unitDrainTimeout ▸ execUnitDrainTimeout_reach h
  | vspLaneDisable _ _ => exact exec_vspLaneDisable ▸ execVspLaneDisable_reach h
  | agHashM _ _ _ _ => exact exec_agHashM ▸ execAgHashM_reach h
  | rgnWrite _ _ _ _ => exact exec_rgnWrite ▸ execRgnWrite_reach h
  | rtFenceReq _ _ _ => exact exec_rtFenceReq ▸ execRtFenceReq_reach h
  | rtUnfence _ _ => exact exec_rtUnfence ▸ execRtUnfence_reach h
  | rtEntry _ _ _ => exact exec_rtEntry ▸ execRtEntry_reach h
  | chEpHaltReq _ _ _ => exact exec_chEpHaltReq ▸ execChEpHaltReq_reach h
  | chEpResume _ _ => exact exec_chEpResume ▸ execChEpResume_reach h
  | overflowOn _ _ => exact exec_overflowOn ▸ execOverflowOn_reach h
  | markAcked _ _ => exact exec_markAcked ▸ execMarkAcked_reach h
  | endpointHaltComplete _ _ => exact exec_endpointHaltComplete ▸ execEndpointHaltComplete_reach h
  | endpointDrainTimeout _ _ => exact exec_endpointDrainTimeout ▸ execEndpointDrainTimeout_reach h
  | chConfigWrite _ _ _ => exact exec_chConfigWrite ▸ execChConfigWrite_reach h
  | syncSetCmd _ _ => exact exec_syncSetCmd ▸ execSyncSetCmd_reach h
  | syncAdd _ _ _ => exact exec_syncAdd ▸ execSyncAdd_reach h
  | forceSwitch _ => exact exec_forceSwitch ▸ execForceSwitch_reach h
  | tileEpochWrite _ _ => exact exec_tileEpochWrite ▸ execTileEpochWrite_reach h
  | cfgCrcClear _ => exact exec_cfgCrcClear ▸ execCfgCrcClear_reach h
  | tileFenceReq _ _ => exact exec_tileFenceReq ▸ execTileFenceReq_reach h
  | tileReset _ => exact exec_tileReset ▸ execTileReset_reach h
  | tileUnfence _ => exact exec_tileUnfence ▸ execTileUnfence_reach h
  | testStart _ _ _ => exact exec_testStart ▸ execTestStart_reach h
  | testAbandon _ => exact exec_testAbandon ▸ execTestAbandon_reach h
  | tileTestDone _ _ => exact exec_tileTestDone ▸ execTileTestDone_reach h
  | xeHaltReq _ _ _ => exact exec_xeHaltReq ▸ execXeHaltReq_reach h
  | xeEngResume _ _ => exact exec_xeEngResume ▸ execXeEngResume_reach h
  | xeDrainTimeout _ _ => exact exec_xeDrainTimeout ▸ execXeDrainTimeout_reach h
  | xeDescriptorStart _ _ => exact exec_xeDescriptorStart ▸ execXeDescriptorStart_reach h
  | xeDescriptorComplete _ _ _ => exact exec_xeDescriptorComplete ▸ execXeDescriptorComplete_reach h
  | lnPortEnable _ _ => exact exec_lnPortEnable ▸ execLnPortEnable_reach h
  | lnDisableReq _ _ => exact exec_lnDisableReq ▸ execLnDisableReq_reach h
  | samplerStart => exact exec_samplerStart ▸ execSamplerStart_reach h
  | samplerStop => exact exec_samplerStop ▸ execSamplerStop_reach h
  | secPurge _ => exact exec_secPurge ▸ execSecPurge_reach h
  | belfryCount => exact exec_belfryCount ▸ execBelfryCount_reach h
  | registerWrite _ _ _ => exact exec_registerWrite ▸ execRegisterWrite_reach h
  | inputRingRead _ _ => exact exec_inputRingRead ▸ execInputRingRead_reach h
  | gather _ => exact exec_gather ▸ execGather_reach h
  | shadowCopy _ _ => exact exec_shadowCopy ▸ execShadowCopy_reach h
  | completion => exact exec_completion ▸ execCompletion_reach h
  | deadlineTimer => exact exec_deadlineTimer ▸ execDeadlineTimer_reach h
  | overflowRecord _ => exact exec_overflowRecord ▸ execOverflowRecord_reach h
  | streamEnd _ _ => exact exec_streamEnd ▸ execStreamEnd_reach h
  | endTimeout _ _ => exact exec_endTimeout ▸ execEndTimeout_reach h
  | contextDrainComplete _ => exact exec_contextDrainComplete ▸ execContextDrainComplete_reach h
  | contextDrainTimeout _ => exact exec_contextDrainTimeout ▸ execContextDrainTimeout_reach h
  | drainFailed _ => exact exec_drainFailed ▸ execDrainFailed_reach h
  | loadReady _ => exact exec_loadReady ▸ execLoadReady_reach h
  | zeroiseComplete _ => exact exec_zeroiseComplete ▸ execZeroiseComplete_reach h
  | faultSignal => exact exec_faultSignal ▸ execFaultSignal_reach h
  | unitHang _ _ => exact exec_unitHang ▸ execUnitHang_reach h
  | heal _ _ => exact exec_heal ▸ execHeal_reach h
  | healComplete _ => exact exec_healComplete ▸ execHealComplete_reach h
  | rotationSchedule => exact exec_rotationSchedule ▸ execRotationSchedule_reach h
  | loupeStart => exact exec_loupeStart ▸ execLoupeStart_reach h
  | testOverdue => exact exec_testOverdue ▸ execTestOverdue_reach h
  | proofRoundEnd _ => exact exec_proofRoundEnd ▸ execProofRoundEnd_reach h
  | computeReset _ _ => exact exec_computeReset ▸ execComputeReset_reach h
  | moduleReset => exact exec_moduleReset ▸ execModuleReset_reach h
  | watchdogFire _ _ => exact exec_watchdogFire ▸ execWatchdogFire_reach h
  | warmRestart => exact exec_warmRestart ▸ execWarmRestart_reach h
  | stubTimeout => exact exec_stubTimeout ▸ execStubTimeout_reach h
  | powerOn _ _ => exact exec_powerOn ▸ execPowerOn_reach h
  | bootSequence _ => exact exec_bootSequence ▸ execBootSequence_reach h
  | imageLoadRequest => exact exec_imageLoadRequest ▸ execImageLoadRequest_reach h
  | fwInit _ _ => exact exec_fwInit ▸ execFwInit_reach h
  | fwInitTimeout => exact exec_fwInitTimeout ▸ execFwInitTimeout_reach h
  | resetN _ => exact exec_resetN ▸ execResetN_reach h
  | pllUnlock => exact exec_pllUnlock ▸ execPllUnlock_reach h
  | inputRange _ _ _ => exact exec_inputRange ▸ execInputRange_reach h
  | inputShutdown => exact exec_inputShutdown ▸ execInputShutdown_reach h
  | vbatLoss => exact exec_vbatLoss ▸ execVbatLoss_reach h
  | gateStepDown _ => exact exec_gateStepDown ▸ execGateStepDown_reach h
  | gateStepUp _ _ => exact exec_gateStepUp ▸ execGateStepUp_reach h
  | overLimit => exact exec_overLimit ▸ execOverLimit_reach h
  | overLimitClear => exact exec_overLimitClear ▸ execOverLimitClear_reach h
  | sensorRead _ => exact exec_sensorRead ▸ execSensorRead_reach h
  | thermalEmergency => exact exec_thermalEmergency ▸ execThermalEmergency_reach h
  | thermalEmergencyEnd => exact exec_thermalEmergencyEnd ▸ execThermalEmergencyEnd_reach h
  | tbSlewStep => exact exec_tbSlewStep ▸ execTbSlewStep_reach h
  | syncInEdge _ => exact exec_syncInEdge ▸ execSyncInEdge_reach h
  | hbmEcsPoll _ _ _ => exact exec_hbmEcsPoll ▸ execHbmEcsPoll_reach h
  | memCeRate _ => exact exec_memCeRate ▸ execMemCeRate_reach h
  | sampleInstant => exact exec_sampleInstant ▸ execSampleInstant_reach h
  | egressSend _ _ => exact exec_egressSend ▸ execEgressSend_reach h
  | ingressFrame _ _ => exact exec_ingressFrame ▸ execIngressFrame_reach h
  | transitFrame _ _ => exact exec_transitFrame ▸ execTransitFrame_reach h
  | proxyCredit _ _ => exact exec_proxyCredit ▸ execProxyCredit_reach h
  | lnReplay _ _ _ => exact exec_lnReplay ▸ execLnReplay_reach h
  | lnRetrain _ _ => exact exec_lnRetrain ▸ execLnRetrain_reach h
  | trainTimeout _ => exact exec_trainTimeout ▸ execTrainTimeout_reach h
  | downRetry _ _ => exact exec_downRetry ▸ execDownRetry_reach h
  | keepaliveSend _ => exact exec_keepaliveSend ▸ execKeepaliveSend_reach h
  | keepaliveTimeout _ => exact exec_keepaliveTimeout ▸ execKeepaliveTimeout_reach h
  | creditTimeout _ => exact exec_creditTimeout ▸ execCreditTimeout_reach h
  | hello _ _ => exact exec_hello ▸ execHello_reach h
  | kem _ _ => exact exec_kem ▸ execKem_reach h
  | sign _ _ => exact exec_sign ▸ execSign_reach h
  | finished _ _ => exact exec_finished ▸ execFinished_reach h
  | handshakeTimeout _ => exact exec_handshakeTimeout ▸ execHandshakeTimeout_reach h
  | rekey _ _ => exact exec_rekey ▸ execRekey_reach h
  | rekeySwitch _ _ => exact exec_rekeySwitch ▸ execRekeySwitch_reach h
  | rekeyTimeout _ => exact exec_rekeyTimeout ▸ execRekeyTimeout_reach h
  | close _ _ => exact exec_close ▸ execClose_reach h
  | lnDrainTimeout _ => exact exec_lnDrainTimeout ▸ execLnDrainTimeout_reach h
  | tbReq _ _ => exact exec_tbReq ▸ execTbReq_reach h
  | tbRsp _ _ => exact exec_tbRsp ▸ execTbRsp_reach h
  | joinReq _ _ => exact exec_joinReq ▸ execJoinReq_reach h
  | joinData _ _ => exact exec_joinData ▸ execJoinData_reach h
  | joinEnd _ _ => exact exec_joinEnd ▸ execJoinEnd_reach h
  | joinStepReached _ => exact exec_joinStepReached ▸ execJoinStepReached_reach h
  | status => exact exec_status ▸ execStatus_reach h
  | telemetry => exact exec_telemetry ▸ execTelemetry_reach h
  | health => exact exec_health ▸ execHealth_reach h
  | boot => exact exec_boot ▸ execBoot_reach h
  | powerReq _ _ => exact exec_powerReq ▸ execPowerReq_reach h
  | estop _ _ => exact exec_estop ▸ execEstop_reach h
  | estopRelease _ _ => exact exec_estopRelease ▸ execEstopRelease_reach h
  | resetReq _ _ => exact exec_resetReq ▸ execResetReq_reach h
  | bypass => exact exec_bypass ▸ execBypass_reach h
  | idcode => exact exec_idcode ▸ execIdcode_reach h
  | samplePreload => exact exec_samplePreload ▸ execSamplePreload_reach h
  | extest => exact exec_extest ▸ execExtest_reach h
  | clamp => exact exec_clamp ▸ execClamp_reach h
  | highz => exact exec_highz ▸ execHighz_reach h
  | debug _ => exact exec_debug ▸ execDebug_reach h
  | tapReset => exact exec_tapReset ▸ execTapReset_reach h
  | controllerPatrolScrub _ _ _ _ _ => exact exec_controllerPatrolScrub ▸ execControllerPatrolScrub_reach h
  | signingQueue _ => exact exec_signingQueue ▸ execSigningQueue_reach h
  | noSync => exact exec_noSync ▸ execNoSync_reach h
  | calSlewStep => exact exec_calSlewStep ▸ execCalSlewStep_reach h
  | keepalive _ _ => exact exec_keepalive ▸ execKeepalive_reach h
  | mirrorRefresh => exact exec_mirrorRefresh ▸ execMirrorRefresh_reach h
  | vbatLow _ => exact exec_vbatLow ▸ execVbatLow_reach h
  | lvcCredit _ _ _ => exact exec_lvcCredit ▸ execLvcCredit_reach h
  | tlCredit _ _ _ => exact exec_tlCredit ▸ execTlCredit_reach h

/-- A step is within `Reach` of the state with the front command taken out; an idle one of the state itself. -/
theorem step_reach (s : State) : OutK (Reach { s with pending := s.pending.tail }) (step s) := by
  unfold step
  split
  · rename_i h
    have e : ({ s with pending := s.pending.tail } : State) = s := by cases s; cases h; rfl
    rw [e]
    exact .next (State.tick_reach .refl)
  · rename_i c rest h
    have e : ({ s with pending := rest } : State) = { s with pending := s.pending.tail } := by rw [h]; rfl
    rw [e]
    exact exec_reach .refl c

/-- A command that answers a next state leaves the queue and the variant alone. -/
theorem Reach.fixed {s : State} (h : Reach r s) : s.pending = r.pending ∧ s.part = r.part := by
  induction h with
  | refl => exact ⟨rfl, rfl⟩
  | core _ h1 _ h3 _ _ _ ih => exact ⟨h1.trans ih.1, h3.trans ih.2⟩
  | setReg _ ih => exact ih
  | resetRegs _ ih => exact ih
  | setBytes _ ih => exact ih
  | zeroRange _ ih => exact ih
  | copyRange _ ih => exact ih
  | loseRange _ ih => exact ih
  | draw _ ih => exact ih
  | memoryOf _ _ ih _ => exact ih

end Sys2Proof.Machine
end

