-- ==== Sys2Proof/Laws/Reads.lean ====
section
/-! SUPPORT. Laws/Reads.lean: what each named read of State gives after a named update of something else. -/
namespace Sys2Proof.Machine

variable {s : State}

@[simp] theorem State.byte_setReg {a v} {i : Nat} : (s.setReg a v).byte i = s.byte i := rfl
@[simp] theorem State.bytes_setReg {a v} {i m : Nat} : (s.setReg a v).bytes i m = s.bytes i m := rfl
@[simp] theorem State.num_setReg {a v} {i m : Nat} : (s.setReg a v).num i m = s.num i m := rfl
@[simp] theorem State.meU_setReg {a v} {i : Nat} : (s.setReg a v).meU i = s.meU i := rfl
@[simp] theorem State.vspU_setReg {a v} {i : Nat} : (s.setReg a v).vspU i = s.vspU i := rfl
@[simp] theorem State.agP_setReg {a v} {i j m : Nat} : (s.setReg a v).agP i j m = s.agP i j m := rfl
@[simp] theorem State.muW_setReg {a v} {i : Nat} : (s.setReg a v).muW i = s.muW i := rfl
@[simp] theorem State.ep_setReg {a v} {i j : Nat} : (s.setReg a v).ep i j = s.ep i j := rfl
@[simp] theorem State.ror_setReg {a v} {i : Nat} : (s.setReg a v).ror i = s.ror i := rfl
@[simp] theorem State.ctx_setReg {a v} {i : Nat} : (s.setReg a v).ctx i = s.ctx i := rfl
@[simp] theorem State.byte_setFld {a f x} {i : Nat} : (s.setFld a f x).byte i = s.byte i := rfl
@[simp] theorem State.bytes_setFld {a f x} {i m : Nat} : (s.setFld a f x).bytes i m = s.bytes i m := rfl
@[simp] theorem State.num_setFld {a f x} {i m : Nat} : (s.setFld a f x).num i m = s.num i m := rfl
@[simp] theorem State.meU_setFld {a f x} {i : Nat} : (s.setFld a f x).meU i = s.meU i := rfl
@[simp] theorem State.vspU_setFld {a f x} {i : Nat} : (s.setFld a f x).vspU i = s.vspU i := rfl
@[simp] theorem State.agP_setFld {a f x} {i j m : Nat} : (s.setFld a f x).agP i j m = s.agP i j m := rfl
@[simp] theorem State.muW_setFld {a f x} {i : Nat} : (s.setFld a f x).muW i = s.muW i := rfl
@[simp] theorem State.ep_setFld {a f x} {i j : Nat} : (s.setFld a f x).ep i j = s.ep i j := rfl
@[simp] theorem State.ror_setFld {a f x} {i : Nat} : (s.setFld a f x).ror i = s.ror i := rfl
@[simp] theorem State.ctx_setFld {a f x} {i : Nat} : (s.setFld a f x).ctx i = s.ctx i := rfl
@[simp] theorem State.byte_setBit {a f b} {i : Nat} : (s.setBit a f b).byte i = s.byte i := rfl
@[simp] theorem State.bytes_setBit {a f b} {i m : Nat} : (s.setBit a f b).bytes i m = s.bytes i m := rfl
@[simp] theorem State.num_setBit {a f b} {i m : Nat} : (s.setBit a f b).num i m = s.num i m := rfl
@[simp] theorem State.meU_setBit {a f b} {i : Nat} : (s.setBit a f b).meU i = s.meU i := rfl
@[simp] theorem State.vspU_setBit {a f b} {i : Nat} : (s.setBit a f b).vspU i = s.vspU i := rfl
@[simp] theorem State.agP_setBit {a f b} {i j m : Nat} : (s.setBit a f b).agP i j m = s.agP i j m := rfl
@[simp] theorem State.muW_setBit {a f b} {i : Nat} : (s.setBit a f b).muW i = s.muW i := rfl
@[simp] theorem State.ep_setBit {a f b} {i j : Nat} : (s.setBit a f b).ep i j = s.ep i j := rfl
@[simp] theorem State.ror_setBit {a f b} {i : Nat} : (s.setBit a f b).ror i = s.ror i := rfl
@[simp] theorem State.ctx_setBit {a f b} {i : Nat} : (s.setBit a f b).ctx i = s.ctx i := rfl
@[simp] theorem State.byte_resetRegs {p : Nat → Bool} {i : Nat} : (s.resetRegs p).byte i = s.byte i := rfl
@[simp] theorem State.bytes_resetRegs {p : Nat → Bool} {i m : Nat} : (s.resetRegs p).bytes i m = s.bytes i m := rfl
@[simp] theorem State.num_resetRegs {p : Nat → Bool} {i m : Nat} : (s.resetRegs p).num i m = s.num i m := rfl
@[simp] theorem State.meU_resetRegs {p : Nat → Bool} {i : Nat} : (s.resetRegs p).meU i = s.meU i := rfl
@[simp] theorem State.vspU_resetRegs {p : Nat → Bool} {i : Nat} : (s.resetRegs p).vspU i = s.vspU i := rfl
@[simp] theorem State.agP_resetRegs {p : Nat → Bool} {i j m : Nat} : (s.resetRegs p).agP i j m = s.agP i j m := rfl
@[simp] theorem State.muW_resetRegs {p : Nat → Bool} {i : Nat} : (s.resetRegs p).muW i = s.muW i := rfl
@[simp] theorem State.ep_resetRegs {p : Nat → Bool} {i j : Nat} : (s.resetRegs p).ep i j = s.ep i j := rfl
@[simp] theorem State.ror_resetRegs {p : Nat → Bool} {i : Nat} : (s.resetRegs p).ror i = s.ror i := rfl
@[simp] theorem State.ctx_resetRegs {p : Nat → Bool} {i : Nat} : (s.resetRegs p).ctx i = s.ctx i := rfl
@[simp] theorem State.reg_wordsWritten {a n} {i : Nat} : (s.wordsWritten a n).reg i = s.reg i := rfl
@[simp] theorem State.fld_wordsWritten {a n} {i : Nat} {g : Field} : (s.wordsWritten a n).fld i g = s.fld i g := rfl
@[simp] theorem State.bit_wordsWritten {a n} {i : Nat} {g : Field} : (s.wordsWritten a n).bit i g = s.bit i g := rfl
@[simp] theorem State.byte_wordsWritten {a n} {i : Nat} : (s.wordsWritten a n).byte i = s.byte i := rfl
@[simp] theorem State.bytes_wordsWritten {a n} {i m : Nat} : (s.wordsWritten a n).bytes i m = s.bytes i m := rfl
@[simp] theorem State.num_wordsWritten {a n} {i m : Nat} : (s.wordsWritten a n).num i m = s.num i m := rfl
@[simp] theorem State.meU_wordsWritten {a n} {i : Nat} : (s.wordsWritten a n).meU i = s.meU i := rfl
@[simp] theorem State.vspU_wordsWritten {a n} {i : Nat} : (s.wordsWritten a n).vspU i = s.vspU i := rfl
@[simp] theorem State.agP_wordsWritten {a n} {i j m : Nat} : (s.wordsWritten a n).agP i j m = s.agP i j m := rfl
@[simp] theorem State.muW_wordsWritten {a n} {i : Nat} : (s.wordsWritten a n).muW i = s.muW i := rfl
@[simp] theorem State.ep_wordsWritten {a n} {i j : Nat} : (s.wordsWritten a n).ep i j = s.ep i j := rfl
@[simp] theorem State.ror_wordsWritten {a n} {i : Nat} : (s.wordsWritten a n).ror i = s.ror i := rfl
@[simp] theorem State.ctx_wordsWritten {a n} {i : Nat} : (s.wordsWritten a n).ctx i = s.ctx i := rfl
@[simp] theorem State.tb_wordsWritten {a n} : (s.wordsWritten a n).tb = s.tb := rfl
@[simp] theorem State.slot_wordsWritten {a n} {i : Nat} : (s.wordsWritten a n).slot i = s.slot i := rfl
@[simp] theorem State.reg_setBytes {a l} {i : Nat} : (s.setBytes a l).reg i = s.reg i := rfl
@[simp] theorem State.fld_setBytes {a l} {i : Nat} {g : Field} : (s.setBytes a l).fld i g = s.fld i g := rfl
@[simp] theorem State.bit_setBytes {a l} {i : Nat} {g : Field} : (s.setBytes a l).bit i g = s.bit i g := rfl
@[simp] theorem State.meU_setBytes {a l} {i : Nat} : (s.setBytes a l).meU i = s.meU i := rfl
@[simp] theorem State.vspU_setBytes {a l} {i : Nat} : (s.setBytes a l).vspU i = s.vspU i := rfl
@[simp] theorem State.agP_setBytes {a l} {i j m : Nat} : (s.setBytes a l).agP i j m = s.agP i j m := rfl
@[simp] theorem State.muW_setBytes {a l} {i : Nat} : (s.setBytes a l).muW i = s.muW i := rfl
@[simp] theorem State.ep_setBytes {a l} {i j : Nat} : (s.setBytes a l).ep i j = s.ep i j := rfl
@[simp] theorem State.ror_setBytes {a l} {i : Nat} : (s.setBytes a l).ror i = s.ror i := rfl
@[simp] theorem State.ctx_setBytes {a l} {i : Nat} : (s.setBytes a l).ctx i = s.ctx i := rfl
@[simp] theorem State.tb_setBytes {a l} : (s.setBytes a l).tb = s.tb := rfl
@[simp] theorem State.slot_setBytes {a l} {i : Nat} : (s.setBytes a l).slot i = s.slot i := rfl
@[simp] theorem State.reg_setNum {a n v} {i : Nat} : (s.setNum a n v).reg i = s.reg i := rfl
@[simp] theorem State.fld_setNum {a n v} {i : Nat} {g : Field} : (s.setNum a n v).fld i g = s.fld i g := rfl
@[simp] theorem State.bit_setNum {a n v} {i : Nat} {g : Field} : (s.setNum a n v).bit i g = s.bit i g := rfl
@[simp] theorem State.meU_setNum {a n v} {i : Nat} : (s.setNum a n v).meU i = s.meU i := rfl
@[simp] theorem State.vspU_setNum {a n v} {i : Nat} : (s.setNum a n v).vspU i = s.vspU i := rfl
@[simp] theorem State.agP_setNum {a n v} {i j m : Nat} : (s.setNum a n v).agP i j m = s.agP i j m := rfl
@[simp] theorem State.muW_setNum {a n v} {i : Nat} : (s.setNum a n v).muW i = s.muW i := rfl
@[simp] theorem State.ep_setNum {a n v} {i j : Nat} : (s.setNum a n v).ep i j = s.ep i j := rfl
@[simp] theorem State.ror_setNum {a n v} {i : Nat} : (s.setNum a n v).ror i = s.ror i := rfl
@[simp] theorem State.ctx_setNum {a n v} {i : Nat} : (s.setNum a n v).ctx i = s.ctx i := rfl
@[simp] theorem State.tb_setNum {a n v} : (s.setNum a n v).tb = s.tb := rfl
@[simp] theorem State.slot_setNum {a n v} {i : Nat} : (s.setNum a n v).slot i = s.slot i := rfl
@[simp] theorem State.reg_zeroRange {a n} {i : Nat} : (s.zeroRange a n).reg i = s.reg i := rfl
@[simp] theorem State.fld_zeroRange {a n} {i : Nat} {g : Field} : (s.zeroRange a n).fld i g = s.fld i g := rfl
@[simp] theorem State.bit_zeroRange {a n} {i : Nat} {g : Field} : (s.zeroRange a n).bit i g = s.bit i g := rfl
@[simp] theorem State.meU_zeroRange {a n} {i : Nat} : (s.zeroRange a n).meU i = s.meU i := rfl
@[simp] theorem State.vspU_zeroRange {a n} {i : Nat} : (s.zeroRange a n).vspU i = s.vspU i := rfl
@[simp] theorem State.agP_zeroRange {a n} {i j m : Nat} : (s.zeroRange a n).agP i j m = s.agP i j m := rfl
@[simp] theorem State.muW_zeroRange {a n} {i : Nat} : (s.zeroRange a n).muW i = s.muW i := rfl
@[simp] theorem State.ep_zeroRange {a n} {i j : Nat} : (s.zeroRange a n).ep i j = s.ep i j := rfl
@[simp] theorem State.ror_zeroRange {a n} {i : Nat} : (s.zeroRange a n).ror i = s.ror i := rfl
@[simp] theorem State.ctx_zeroRange {a n} {i : Nat} : (s.zeroRange a n).ctx i = s.ctx i := rfl
@[simp] theorem State.tb_zeroRange {a n} : (s.zeroRange a n).tb = s.tb := rfl
@[simp] theorem State.slot_zeroRange {a n} {i : Nat} : (s.zeroRange a n).slot i = s.slot i := rfl
@[simp] theorem State.reg_copyRange {a b n} {i : Nat} : (s.copyRange a b n).reg i = s.reg i := rfl
@[simp] theorem State.fld_copyRange {a b n} {i : Nat} {g : Field} : (s.copyRange a b n).fld i g = s.fld i g := rfl
@[simp] theorem State.bit_copyRange {a b n} {i : Nat} {g : Field} : (s.copyRange a b n).bit i g = s.bit i g := rfl
@[simp] theorem State.meU_copyRange {a b n} {i : Nat} : (s.copyRange a b n).meU i = s.meU i := rfl
@[simp] theorem State.vspU_copyRange {a b n} {i : Nat} : (s.copyRange a b n).vspU i = s.vspU i := rfl
@[simp] theorem State.agP_copyRange {a b n} {i j m : Nat} : (s.copyRange a b n).agP i j m = s.agP i j m := rfl
@[simp] theorem State.muW_copyRange {a b n} {i : Nat} : (s.copyRange a b n).muW i = s.muW i := rfl
@[simp] theorem State.ep_copyRange {a b n} {i j : Nat} : (s.copyRange a b n).ep i j = s.ep i j := rfl
@[simp] theorem State.ror_copyRange {a b n} {i : Nat} : (s.copyRange a b n).ror i = s.ror i := rfl
@[simp] theorem State.ctx_copyRange {a b n} {i : Nat} : (s.copyRange a b n).ctx i = s.ctx i := rfl
@[simp] theorem State.tb_copyRange {a b n} : (s.copyRange a b n).tb = s.tb := rfl
@[simp] theorem State.slot_copyRange {a b n} {i : Nat} : (s.copyRange a b n).slot i = s.slot i := rfl
@[simp] theorem State.reg_loseRange {a n} {i : Nat} : (s.loseRange a n).reg i = s.reg i := rfl
@[simp] theorem State.fld_loseRange {a n} {i : Nat} {g : Field} : (s.loseRange a n).fld i g = s.fld i g := rfl
@[simp] theorem State.bit_loseRange {a n} {i : Nat} {g : Field} : (s.loseRange a n).bit i g = s.bit i g := rfl
@[simp] theorem State.meU_loseRange {a n} {i : Nat} : (s.loseRange a n).meU i = s.meU i := rfl
@[simp] theorem State.vspU_loseRange {a n} {i : Nat} : (s.loseRange a n).vspU i = s.vspU i := rfl
@[simp] theorem State.agP_loseRange {a n} {i j m : Nat} : (s.loseRange a n).agP i j m = s.agP i j m := rfl
@[simp] theorem State.muW_loseRange {a n} {i : Nat} : (s.loseRange a n).muW i = s.muW i := rfl
@[simp] theorem State.ep_loseRange {a n} {i j : Nat} : (s.loseRange a n).ep i j = s.ep i j := rfl
@[simp] theorem State.ror_loseRange {a n} {i : Nat} : (s.loseRange a n).ror i = s.ror i := rfl
@[simp] theorem State.ctx_loseRange {a n} {i : Nat} : (s.loseRange a n).ctx i = s.ctx i := rfl
@[simp] theorem State.tb_loseRange {a n} : (s.loseRange a n).tb = s.tb := rfl
@[simp] theorem State.slot_loseRange {a n} {i : Nat} : (s.loseRange a n).slot i = s.slot i := rfl
@[simp] theorem State.reg_draw {w} {i : Nat} : ((s.draw w).2).reg i = s.reg i := rfl
@[simp] theorem State.fld_draw {w} {i : Nat} {g : Field} : ((s.draw w).2).fld i g = s.fld i g := rfl
@[simp] theorem State.bit_draw {w} {i : Nat} {g : Field} : ((s.draw w).2).bit i g = s.bit i g := rfl
@[simp] theorem State.byte_draw {w} {i : Nat} : ((s.draw w).2).byte i = s.byte i := rfl
@[simp] theorem State.bytes_draw {w} {i m : Nat} : ((s.draw w).2).bytes i m = s.bytes i m := rfl
@[simp] theorem State.num_draw {w} {i m : Nat} : ((s.draw w).2).num i m = s.num i m := rfl
@[simp] theorem State.meU_draw {w} {i : Nat} : ((s.draw w).2).meU i = s.meU i := rfl
@[simp] theorem State.vspU_draw {w} {i : Nat} : ((s.draw w).2).vspU i = s.vspU i := rfl
@[simp] theorem State.agP_draw {w} {i j m : Nat} : ((s.draw w).2).agP i j m = s.agP i j m := rfl
@[simp] theorem State.muW_draw {w} {i : Nat} : ((s.draw w).2).muW i = s.muW i := rfl
@[simp] theorem State.ep_draw {w} {i j : Nat} : ((s.draw w).2).ep i j = s.ep i j := rfl
@[simp] theorem State.ror_draw {w} {i : Nat} : ((s.draw w).2).ror i = s.ror i := rfl
@[simp] theorem State.ctx_draw {w} {i : Nat} : ((s.draw w).2).ctx i = s.ctx i := rfl
@[simp] theorem State.tb_draw {w} : ((s.draw w).2).tb = s.tb := rfl
@[simp] theorem State.slot_draw {w} {i : Nat} : ((s.draw w).2).slot i = s.slot i := rfl
@[simp] theorem State.reg_withMemoryOf {u : State} {i : Nat} : (s.withMemoryOf u).reg i = s.reg i := rfl
@[simp] theorem State.fld_withMemoryOf {u : State} {i : Nat} {g : Field} : (s.withMemoryOf u).fld i g =
    s.fld i g := rfl
@[simp] theorem State.bit_withMemoryOf {u : State} {i : Nat} {g : Field} : (s.withMemoryOf u).bit i g =
    s.bit i g := rfl
@[simp] theorem State.meU_withMemoryOf {u : State} {i : Nat} : (s.withMemoryOf u).meU i = s.meU i := rfl
@[simp] theorem State.vspU_withMemoryOf {u : State} {i : Nat} : (s.withMemoryOf u).vspU i = s.vspU i := rfl
@[simp] theorem State.agP_withMemoryOf {u : State} {i j m : Nat} : (s.withMemoryOf u).agP i j m = s.agP i j m := rfl
@[simp] theorem State.muW_withMemoryOf {u : State} {i : Nat} : (s.withMemoryOf u).muW i = s.muW i := rfl
@[simp] theorem State.ep_withMemoryOf {u : State} {i j : Nat} : (s.withMemoryOf u).ep i j = s.ep i j := rfl
@[simp] theorem State.ror_withMemoryOf {u : State} {i : Nat} : (s.withMemoryOf u).ror i = s.ror i := rfl
@[simp] theorem State.ctx_withMemoryOf {u : State} {i : Nat} : (s.withMemoryOf u).ctx i = s.ctx i := rfl
@[simp] theorem State.tb_withMemoryOf {u : State} : (s.withMemoryOf u).tb = s.tb := rfl
@[simp] theorem State.slot_withMemoryOf {u : State} {i : Nat} : (s.withMemoryOf u).slot i = s.slot i := rfl
@[simp] theorem State.reg_setMe {p u} {i : Nat} : (s.setMe p u).reg i = s.reg i := rfl
@[simp] theorem State.fld_setMe {p u} {i : Nat} {g : Field} : (s.setMe p u).fld i g = s.fld i g := rfl
@[simp] theorem State.bit_setMe {p u} {i : Nat} {g : Field} : (s.setMe p u).bit i g = s.bit i g := rfl
@[simp] theorem State.byte_setMe {p u} {i : Nat} : (s.setMe p u).byte i = s.byte i := rfl
@[simp] theorem State.bytes_setMe {p u} {i m : Nat} : (s.setMe p u).bytes i m = s.bytes i m := rfl
@[simp] theorem State.num_setMe {p u} {i m : Nat} : (s.setMe p u).num i m = s.num i m := rfl
@[simp] theorem State.vspU_setMe {p u} {i : Nat} : (s.setMe p u).vspU i = s.vspU i := rfl
@[simp] theorem State.agP_setMe {p u} {i j m : Nat} : (s.setMe p u).agP i j m = s.agP i j m := rfl
@[simp] theorem State.muW_setMe {p u} {i : Nat} : (s.setMe p u).muW i = s.muW i := rfl
@[simp] theorem State.ep_setMe {p u} {i j : Nat} : (s.setMe p u).ep i j = s.ep i j := rfl
@[simp] theorem State.ror_setMe {p u} {i : Nat} : (s.setMe p u).ror i = s.ror i := rfl
@[simp] theorem State.ctx_setMe {p u} {i : Nat} : (s.setMe p u).ctx i = s.ctx i := rfl
@[simp] theorem State.tb_setMe {p u} : (s.setMe p u).tb = s.tb := rfl
@[simp] theorem State.slot_setMe {p u} {i : Nat} : (s.setMe p u).slot i = s.slot i := rfl
@[simp] theorem State.reg_setVsp {p u} {i : Nat} : (s.setVsp p u).reg i = s.reg i := rfl
@[simp] theorem State.fld_setVsp {p u} {i : Nat} {g : Field} : (s.setVsp p u).fld i g = s.fld i g := rfl
@[simp] theorem State.bit_setVsp {p u} {i : Nat} {g : Field} : (s.setVsp p u).bit i g = s.bit i g := rfl
@[simp] theorem State.byte_setVsp {p u} {i : Nat} : (s.setVsp p u).byte i = s.byte i := rfl
@[simp] theorem State.bytes_setVsp {p u} {i m : Nat} : (s.setVsp p u).bytes i m = s.bytes i m := rfl
@[simp] theorem State.num_setVsp {p u} {i m : Nat} : (s.setVsp p u).num i m = s.num i m := rfl
@[simp] theorem State.meU_setVsp {p u} {i : Nat} : (s.setVsp p u).meU i = s.meU i := rfl
@[simp] theorem State.agP_setVsp {p u} {i j m : Nat} : (s.setVsp p u).agP i j m = s.agP i j m := rfl
@[simp] theorem State.muW_setVsp {p u} {i : Nat} : (s.setVsp p u).muW i = s.muW i := rfl
@[simp] theorem State.ep_setVsp {p u} {i j : Nat} : (s.setVsp p u).ep i j = s.ep i j := rfl
@[simp] theorem State.ror_setVsp {p u} {i : Nat} : (s.setVsp p u).ror i = s.ror i := rfl
@[simp] theorem State.ctx_setVsp {p u} {i : Nat} : (s.setVsp p u).ctx i = s.ctx i := rfl
@[simp] theorem State.tb_setVsp {p u} : (s.setVsp p u).tb = s.tb := rfl
@[simp] theorem State.slot_setVsp {p u} {i : Nat} : (s.setVsp p u).slot i = s.slot i := rfl
@[simp] theorem State.reg_setAg {p n k u} {i : Nat} : (s.setAg p n k u).reg i = s.reg i := rfl
@[simp] theorem State.fld_setAg {p n k u} {i : Nat} {g : Field} : (s.setAg p n k u).fld i g = s.fld i g := rfl
@[simp] theorem State.bit_setAg {p n k u} {i : Nat} {g : Field} : (s.setAg p n k u).bit i g = s.bit i g := rfl
@[simp] theorem State.byte_setAg {p n k u} {i : Nat} : (s.setAg p n k u).byte i = s.byte i := rfl
@[simp] theorem State.bytes_setAg {p n k u} {i m : Nat} : (s.setAg p n k u).bytes i m = s.bytes i m := rfl
@[simp] theorem State.num_setAg {p n k u} {i m : Nat} : (s.setAg p n k u).num i m = s.num i m := rfl
@[simp] theorem State.meU_setAg {p n k u} {i : Nat} : (s.setAg p n k u).meU i = s.meU i := rfl
@[simp] theorem State.vspU_setAg {p n k u} {i : Nat} : (s.setAg p n k u).vspU i = s.vspU i := rfl
@[simp] theorem State.muW_setAg {p n k u} {i : Nat} : (s.setAg p n k u).muW i = s.muW i := rfl
@[simp] theorem State.ep_setAg {p n k u} {i j : Nat} : (s.setAg p n k u).ep i j = s.ep i j := rfl
@[simp] theorem State.ror_setAg {p n k u} {i : Nat} : (s.setAg p n k u).ror i = s.ror i := rfl
@[simp] theorem State.ctx_setAg {p n k u} {i : Nat} : (s.setAg p n k u).ctx i = s.ctx i := rfl
@[simp] theorem State.tb_setAg {p n k u} : (s.setAg p n k u).tb = s.tb := rfl
@[simp] theorem State.slot_setAg {p n k u} {i : Nat} : (s.setAg p n k u).slot i = s.slot i := rfl
@[simp] theorem State.reg_setFifo {p n l} {i : Nat} : (s.setFifo p n l).reg i = s.reg i := rfl
@[simp] theorem State.fld_setFifo {p n l} {i : Nat} {g : Field} : (s.setFifo p n l).fld i g = s.fld i g := rfl
@[simp] theorem State.bit_setFifo {p n l} {i : Nat} {g : Field} : (s.setFifo p n l).bit i g = s.bit i g := rfl
@[simp] theorem State.byte_setFifo {p n l} {i : Nat} : (s.setFifo p n l).byte i = s.byte i := rfl
@[simp] theorem State.bytes_setFifo {p n l} {i m : Nat} : (s.setFifo p n l).bytes i m = s.bytes i m := rfl
@[simp] theorem State.num_setFifo {p n l} {i m : Nat} : (s.setFifo p n l).num i m = s.num i m := rfl
@[simp] theorem State.meU_setFifo {p n l} {i : Nat} : (s.setFifo p n l).meU i = s.meU i := rfl
@[simp] theorem State.vspU_setFifo {p n l} {i : Nat} : (s.setFifo p n l).vspU i = s.vspU i := rfl
@[simp] theorem State.agP_setFifo {p n l} {i j m : Nat} : (s.setFifo p n l).agP i j m = s.agP i j m := rfl
@[simp] theorem State.muW_setFifo {p n l} {i : Nat} : (s.setFifo p n l).muW i = s.muW i := rfl
@[simp] theorem State.ep_setFifo {p n l} {i j : Nat} : (s.setFifo p n l).ep i j = s.ep i j := rfl
@[simp] theorem State.ror_setFifo {p n l} {i : Nat} : (s.setFifo p n l).ror i = s.ror i := rfl
@[simp] theorem State.ctx_setFifo {p n l} {i : Nat} : (s.setFifo p n l).ctx i = s.ctx i := rfl
@[simp] theorem State.tb_setFifo {p n l} : (s.setFifo p n l).tb = s.tb := rfl
@[simp] theorem State.slot_setFifo {p n l} {i : Nat} : (s.setFifo p n l).slot i = s.slot i := rfl
@[simp] theorem State.reg_setMu {p u} {i : Nat} : (s.setMu p u).reg i = s.reg i := rfl
@[simp] theorem State.fld_setMu {p u} {i : Nat} {g : Field} : (s.setMu p u).fld i g = s.fld i g := rfl
@[simp] theorem State.bit_setMu {p u} {i : Nat} {g : Field} : (s.setMu p u).bit i g = s.bit i g := rfl
@[simp] theorem State.byte_setMu {p u} {i : Nat} : (s.setMu p u).byte i = s.byte i := rfl
@[simp] theorem State.bytes_setMu {p u} {i m : Nat} : (s.setMu p u).bytes i m = s.bytes i m := rfl
@[simp] theorem State.num_setMu {p u} {i m : Nat} : (s.setMu p u).num i m = s.num i m := rfl
@[simp] theorem State.meU_setMu {p u} {i : Nat} : (s.setMu p u).meU i = s.meU i := rfl
@[simp] theorem State.vspU_setMu {p u} {i : Nat} : (s.setMu p u).vspU i = s.vspU i := rfl
@[simp] theorem State.agP_setMu {p u} {i j m : Nat} : (s.setMu p u).agP i j m = s.agP i j m := rfl
@[simp] theorem State.ep_setMu {p u} {i j : Nat} : (s.setMu p u).ep i j = s.ep i j := rfl
@[simp] theorem State.ror_setMu {p u} {i : Nat} : (s.setMu p u).ror i = s.ror i := rfl
@[simp] theorem State.ctx_setMu {p u} {i : Nat} : (s.setMu p u).ctx i = s.ctx i := rfl
@[simp] theorem State.tb_setMu {p u} : (s.setMu p u).tb = s.tb := rfl
@[simp] theorem State.slot_setMu {p u} {i : Nat} : (s.setMu p u).slot i = s.slot i := rfl
@[simp] theorem State.reg_setEp {p e u} {i : Nat} : (s.setEp p e u).reg i = s.reg i := rfl
@[simp] theorem State.fld_setEp {p e u} {i : Nat} {g : Field} : (s.setEp p e u).fld i g = s.fld i g := rfl
@[simp] theorem State.bit_setEp {p e u} {i : Nat} {g : Field} : (s.setEp p e u).bit i g = s.bit i g := rfl
@[simp] theorem State.byte_setEp {p e u} {i : Nat} : (s.setEp p e u).byte i = s.byte i := rfl
@[simp] theorem State.bytes_setEp {p e u} {i m : Nat} : (s.setEp p e u).bytes i m = s.bytes i m := rfl
@[simp] theorem State.num_setEp {p e u} {i m : Nat} : (s.setEp p e u).num i m = s.num i m := rfl
@[simp] theorem State.meU_setEp {p e u} {i : Nat} : (s.setEp p e u).meU i = s.meU i := rfl
@[simp] theorem State.vspU_setEp {p e u} {i : Nat} : (s.setEp p e u).vspU i = s.vspU i := rfl
@[simp] theorem State.agP_setEp {p e u} {i j m : Nat} : (s.setEp p e u).agP i j m = s.agP i j m := rfl
@[simp] theorem State.muW_setEp {p e u} {i : Nat} : (s.setEp p e u).muW i = s.muW i := rfl
@[simp] theorem State.ror_setEp {p e u} {i : Nat} : (s.setEp p e u).ror i = s.ror i := rfl
@[simp] theorem State.ctx_setEp {p e u} {i : Nat} : (s.setEp p e u).ctx i = s.ctx i := rfl
@[simp] theorem State.tb_setEp {p e u} : (s.setEp p e u).tb = s.tb := rfl
@[simp] theorem State.slot_setEp {p e u} {i : Nat} : (s.setEp p e u).slot i = s.slot i := rfl
@[simp] theorem State.reg_setRor {p l} {i : Nat} : (s.setRor p l).reg i = s.reg i := rfl
@[simp] theorem State.fld_setRor {p l} {i : Nat} {g : Field} : (s.setRor p l).fld i g = s.fld i g := rfl
@[simp] theorem State.bit_setRor {p l} {i : Nat} {g : Field} : (s.setRor p l).bit i g = s.bit i g := rfl
@[simp] theorem State.byte_setRor {p l} {i : Nat} : (s.setRor p l).byte i = s.byte i := rfl
@[simp] theorem State.bytes_setRor {p l} {i m : Nat} : (s.setRor p l).bytes i m = s.bytes i m := rfl
@[simp] theorem State.num_setRor {p l} {i m : Nat} : (s.setRor p l).num i m = s.num i m := rfl
@[simp] theorem State.meU_setRor {p l} {i : Nat} : (s.setRor p l).meU i = s.meU i := rfl
@[simp] theorem State.vspU_setRor {p l} {i : Nat} : (s.setRor p l).vspU i = s.vspU i := rfl
@[simp] theorem State.agP_setRor {p l} {i j m : Nat} : (s.setRor p l).agP i j m = s.agP i j m := rfl
@[simp] theorem State.muW_setRor {p l} {i : Nat} : (s.setRor p l).muW i = s.muW i := rfl
@[simp] theorem State.ep_setRor {p l} {i j : Nat} : (s.setRor p l).ep i j = s.ep i j := rfl
@[simp] theorem State.ctx_setRor {p l} {i : Nat} : (s.setRor p l).ctx i = s.ctx i := rfl
@[simp] theorem State.tb_setRor {p l} : (s.setRor p l).tb = s.tb := rfl
@[simp] theorem State.slot_setRor {p l} {i : Nat} : (s.setRor p l).slot i = s.slot i := rfl
@[simp] theorem State.reg_setCtx {c x} {i : Nat} : (s.setCtx c x).reg i = s.reg i := rfl
@[simp] theorem State.fld_setCtx {c x} {i : Nat} {g : Field} : (s.setCtx c x).fld i g = s.fld i g := rfl
@[simp] theorem State.bit_setCtx {c x} {i : Nat} {g : Field} : (s.setCtx c x).bit i g = s.bit i g := rfl
@[simp] theorem State.byte_setCtx {c x} {i : Nat} : (s.setCtx c x).byte i = s.byte i := rfl
@[simp] theorem State.bytes_setCtx {c x} {i m : Nat} : (s.setCtx c x).bytes i m = s.bytes i m := rfl
@[simp] theorem State.num_setCtx {c x} {i m : Nat} : (s.setCtx c x).num i m = s.num i m := rfl
@[simp] theorem State.meU_setCtx {c x} {i : Nat} : (s.setCtx c x).meU i = s.meU i := rfl
@[simp] theorem State.vspU_setCtx {c x} {i : Nat} : (s.setCtx c x).vspU i = s.vspU i := rfl
@[simp] theorem State.agP_setCtx {c x} {i j m : Nat} : (s.setCtx c x).agP i j m = s.agP i j m := rfl
@[simp] theorem State.muW_setCtx {c x} {i : Nat} : (s.setCtx c x).muW i = s.muW i := rfl
@[simp] theorem State.ep_setCtx {c x} {i j : Nat} : (s.setCtx c x).ep i j = s.ep i j := rfl
@[simp] theorem State.ror_setCtx {c x} {i : Nat} : (s.setCtx c x).ror i = s.ror i := rfl
@[simp] theorem State.tb_setCtx {c x} : (s.setCtx c x).tb = s.tb := rfl
@[simp] theorem State.slot_setCtx {c x} {i : Nat} : (s.setCtx c x).slot i = s.slot i := rfl
@[simp] theorem State.reg_signal {x} {i : Nat} : (s.signal x).reg i = s.reg i := rfl
@[simp] theorem State.fld_signal {x} {i : Nat} {g : Field} : (s.signal x).fld i g = s.fld i g := rfl
@[simp] theorem State.bit_signal {x} {i : Nat} {g : Field} : (s.signal x).bit i g = s.bit i g := rfl
@[simp] theorem State.byte_signal {x} {i : Nat} : (s.signal x).byte i = s.byte i := rfl
@[simp] theorem State.bytes_signal {x} {i m : Nat} : (s.signal x).bytes i m = s.bytes i m := rfl
@[simp] theorem State.num_signal {x} {i m : Nat} : (s.signal x).num i m = s.num i m := rfl
@[simp] theorem State.meU_signal {x} {i : Nat} : (s.signal x).meU i = s.meU i := rfl
@[simp] theorem State.vspU_signal {x} {i : Nat} : (s.signal x).vspU i = s.vspU i := rfl
@[simp] theorem State.agP_signal {x} {i j m : Nat} : (s.signal x).agP i j m = s.agP i j m := rfl
@[simp] theorem State.muW_signal {x} {i : Nat} : (s.signal x).muW i = s.muW i := rfl
@[simp] theorem State.ep_signal {x} {i j : Nat} : (s.signal x).ep i j = s.ep i j := rfl
@[simp] theorem State.ror_signal {x} {i : Nat} : (s.signal x).ror i = s.ror i := rfl
@[simp] theorem State.ctx_signal {x} {i : Nat} : (s.signal x).ctx i = s.ctx i := rfl
@[simp] theorem State.tb_signal {x} : (s.signal x).tb = s.tb := rfl
@[simp] theorem State.slot_signal {x} {i : Nat} : (s.signal x).slot i = s.slot i := rfl

end Sys2Proof.Machine
end

