-- ==== Sys2Proof/Laws/Regs.lean ====
section
/-! SUPPORT. Laws/Regs.lean: a register, and a field of one, read after a write. -/
namespace Sys2Proof

/-- A bit of a word after a field of it is written. -/
theorem Field.bit_set (f : Field) (x : Nat) (v : Word) (j : Nat) (hj : j < 64) :
    (f.set x v).getLsbD j = if f.lo ≤ j ∧ j < f.lo + f.width then x.testBit (j - f.lo) else v.getLsbD j := by
  rw [Field.set, Field.ones, BitVec.getLsbD_or, BitVec.getLsbD_and, BitVec.getLsbD_not, BitVec.getLsbD_shiftLeft,
    BitVec.getLsbD_shiftLeft, BitVec.getLsbD_ofNat, BitVec.getLsbD_ofNat, Nat.testBit_two_pow_sub_one,
    Nat.testBit_mod_two_pow]
  by_cases h1 : f.lo ≤ j
  · have h4 : ¬ j < f.lo := by omega
    have h5 : j - f.lo < 64 := by omega
    by_cases h2 : j < f.lo + f.width
    · have h3 : j - f.lo < f.width := by omega
      simp only [h1, h2, h3, h4, h5, hj, decide_true, decide_false, Bool.true_and, Bool.not_false, Bool.not_true,
        Bool.and_false, Bool.false_or, and_self, if_true]
    · have h3 : ¬ j - f.lo < f.width := by omega
      simp only [h1, h2, h3, h4, h5, hj, decide_true, decide_false, Bool.true_and, Bool.false_and, Bool.not_false,
        Bool.and_true, Bool.and_false, Bool.or_false, and_false, if_false]
  · have h4 : j < f.lo := by omega
    simp only [h1, h4, hj, decide_true, Bool.true_and, Bool.not_true, Bool.false_and, Bool.not_false, Bool.and_true,
      Bool.or_false, false_and, if_false]

theorem Field.testBit_get (f : Field) (v : Word) (i : Nat) :
    (f.get v).testBit i = (decide (i < f.width) && v.getLsbD (f.lo + i)) := by
  rw [Field.get, Nat.testBit_mod_two_pow, Nat.testBit_shiftRight, BitVec.testBit_toNat]

/-- A field reads what was written to it, cut to its width. -/
theorem Field.get_set (f : Field) (x : Nat) (v : Word) (h : f.lo + f.width ≤ 64) : f.get (f.set x v) = x % 2 ^ f.width := by
  apply Nat.eq_of_testBit_eq
  intro i
  rw [Field.testBit_get, Nat.testBit_mod_two_pow]
  by_cases hi : i < f.width
  · have h1 : f.lo + i < 64 := by omega
    simp [hi, Field.bit_set f x v (f.lo + i) h1]
  · simp [hi]

/-- A field beside the one that is written keeps its value. -/
theorem Field.get_set_ne (f g : Field) (x : Nat) (v : Word) (h : f.lo + f.width ≤ 64) (hg : g.lo + g.width ≤ 64)
    (d : g.lo + g.width ≤ f.lo ∨ f.lo + f.width ≤ g.lo) : g.get (f.set x v) = g.get v := by
  apply Nat.eq_of_testBit_eq
  intro i
  rw [Field.testBit_get, Field.testBit_get]
  by_cases hi : i < g.width
  · have h1 : g.lo + i < 64 := by omega
    have h2 : ¬ (f.lo ≤ g.lo + i ∧ g.lo + i < f.lo + f.width) := by omega
    simp [hi, Field.bit_set f x v (g.lo + i) h1, h2]
  · simp [hi]

namespace Machine

variable {s : State}

/-! ## Registers -/

theorem State.reg_setReg {a b : Nat} {v : Word} : (s.setReg a v).reg b = if b = a then v else s.reg b :=
  Sparse.get_set

@[simp] theorem State.reg_setReg_self {a : Nat} {v : Word} : (s.setReg a v).reg a = v := Sparse.get_set_self

theorem State.reg_setReg_ne {a b : Nat} {v : Word} (h : b ≠ a) : (s.setReg a v).reg b = s.reg b := Sparse.get_set_ne h

theorem State.reg_setFld {a b x : Nat} {f : Field} :
    (s.setFld a f x).reg b = if b = a then f.set x (s.reg a) else s.reg b := State.reg_setReg

theorem State.reg_setFld_ne {a b x : Nat} {f : Field} (h : b ≠ a) : (s.setFld a f x).reg b = s.reg b :=
  State.reg_setReg_ne h

theorem State.reg_setBit_ne {a b : Nat} {f : Field} {x : Bool} (h : b ≠ a) : (s.setBit a f x).reg b = s.reg b :=
  State.reg_setReg_ne h

theorem State.reg_resetRegs {p : Nat → Bool} {a : Nat} :
    (s.resetRegs p).reg a = if p a then resetOf a else s.reg a := Sparse.get_clear

/-! ## Fields -/

theorem State.fld_setReg_ne {a b : Nat} {v : Word} {g : Field} (h : b ≠ a) : (s.setReg a v).fld b g = s.fld b g := by
  rw [State.fld, State.reg_setReg_ne h, State.fld]

@[simp] theorem State.fld_setReg_self {a : Nat} {v : Word} {g : Field} : (s.setReg a v).fld a g = g.get v := by
  rw [State.fld, State.reg_setReg_self]

theorem State.fld_setFld_self {a x : Nat} {f : Field} (h : f.lo + f.width ≤ 64) :
    (s.setFld a f x).fld a f = x % 2 ^ f.width := by
  rw [State.fld, State.setFld, State.reg_setReg_self, Field.get_set f x _ h]

/-- A field holds a value of its width that is written to it. -/
theorem State.fld_setFld_lt {a x : Nat} {f : Field} (h : f.lo + f.width ≤ 64) (hx : x < 2 ^ f.width) :
    (s.setFld a f x).fld a f = x := by
  rw [State.fld_setFld_self h, Nat.mod_eq_of_lt hx]

theorem State.fld_setFld_ne {a b x : Nat} {f g : Field} (h : b ≠ a) : (s.setFld a f x).fld b g = s.fld b g :=
  State.fld_setReg_ne h

theorem State.fld_setFld_beside {a x : Nat} {f g : Field} (h : f.lo + f.width ≤ 64) (hg : g.lo + g.width ≤ 64)
    (d : g.lo + g.width ≤ f.lo ∨ f.lo + f.width ≤ g.lo) : (s.setFld a f x).fld a g = s.fld a g := by
  rw [State.fld, State.setFld, State.reg_setReg_self, Field.get_set_ne f g x _ h hg d, State.fld]

theorem State.bit_setBit_self {a : Nat} {f : Field} {b : Bool} (h : f.lo + f.width ≤ 64) (w : f.width = 1) :
    (s.setBit a f b).bit a f = b := by
  rw [State.bit, State.setBit, State.fld_setFld_self h, w]
  cases b <;> rfl

theorem State.bit_setBit_ne {a b : Nat} {f g : Field} {x : Bool} (h : b ≠ a) : (s.setBit a f x).bit b g = s.bit b g := by
  rw [State.bit, State.setBit, State.fld_setFld_ne h, State.bit]

theorem State.bit_setBit_beside {a : Nat} {f g : Field} {x : Bool} (h : f.lo + f.width ≤ 64) (hg : g.lo + g.width ≤ 64)
    (d : g.lo + g.width ≤ f.lo ∨ f.lo + f.width ≤ g.lo) : (s.setBit a f x).bit a g = s.bit a g := by
  rw [State.bit, State.setBit, State.fld_setFld_beside h hg d, State.bit]

theorem State.fld_setBit_ne {a b : Nat} {f g : Field} {x : Bool} (h : b ≠ a) : (s.setBit a f x).fld b g = s.fld b g :=
  State.fld_setFld_ne h

theorem State.fld_setBit_beside {a : Nat} {f g : Field} {x : Bool} (h : f.lo + f.width ≤ 64) (hg : g.lo + g.width ≤ 64)
    (d : g.lo + g.width ≤ f.lo ∨ f.lo + f.width ≤ g.lo) : (s.setBit a f x).fld a g = s.fld a g :=
  State.fld_setFld_beside h hg d

end Machine
end Sys2Proof
end

