-- ==== Sys2Proof/WellFormed.lean ====
section
/-! DEFINITION. WellFormed.lean: which terms of `Instr` are commands that can occur. The operands' types say most of it; what they
leave is checked here. No meaning rests on these checks: a command that fails one has a next state like any other. -/
namespace Sys2Proof

/-- An uncorrectable error names a codeword of its word (R130, R131). -/
def EccEvent.wf : EccEvent → Bool
  | .none => true
  | .ce => true
  | .ue mask => mask != 0

/-- A Lanel frame is a header of 64 bytes, a payload of at most 8,192 and a tag of 16 (R369). -/
def frameWf (f : LnFrame) : Bool := decide (80 ≤ f.length) && decide (f.length ≤ 8272)

/-- A VCM route (R161): a unicast has bits 62 and 63 clear; a multicast has bit 63 set. -/
def vcmRouteWf (route : BitVec 64) : Bool := route.getLsbD 63 || !route.getLsbD 62

/-- A command that can occur. -/
def Instr.wf (c : Instr) : Bool :=
  match c with
  | .identify .. => true
  | .deviceStatus .. => true
  | .deviceConfig .. => true
  | .deviceResetCompute .. => true
  | .deviceResetModule .. => true
  | .ctxCreate .. => true
  | .ctxDestroy .. => true
  | .ctxTiming .. => true
  | .ctxStart .. => true
  | .ctxStop .. => true
  | .ctxQuery .. => true
  | .plateLoad .. => true
  | .plateUnload .. => true
  | .plateReconfigure .. => true
  | .classSet .. => true
  | .streamConfig .. => true
  | .streamOpen .. => true
  | .streamClose .. => true
  | .streamQuery .. => true
  | .memAlloc .. => true
  | .memFree .. => true
  | .xeAssign .. => true
  | .xeStop .. => true
  | .xeResume .. => true
  | .memQuery .. => true
  | .healthRead .. => true
  | .loupeRequest .. => true
  | .loupeStop .. => true
  | .rotationPause .. => true
  | .rotationResume .. => true
  | .tileFence .. => true
  | .tileRetest .. => true
  | .healthConfig .. => true
  | .proofConfig .. => true
  | .proofRound .. => true
  | .proofRead .. => true
  | .proofRegions .. => true
  | .attest .. => true
  | .keyImport .. => true
  | .keyEnroll .. => true
  | .secStatus .. => true
  | .diagOpen .. => true
  | .diagClose .. => true
  | .sheetRead .. => true
  | .countersRead .. => true
  | .tbRead .. => true
  | .tbAlign .. => true
  | .calSet .. => true
  | .calDiscipline .. => true
  | .lnEnable .. => true
  | .lnDisable .. => true
  | .lnStatus .. => true
  | .lnJoin .. => true
  | .pwrState .. => true
  | .pwrLimit .. => true
  | .pwrStatus .. => true
  | .submissionWatch => true
  | .watchPoll => true
  | .read .. => true
  | .write .. => true
  | .writeMasked .. => true
  | .atomic .. => true
  | .share .. => true
  | .own .. => true
  | .returnLine .. => true
  | .snoopRsp .. => true
  | .cpl .. => true
  | .snoopTimeout .. => true
  | .cplTimeout .. => true
  | .tlReplay .. => true
  | .tlRecovery .. => true
  | .tlTraining .. => true
  | .tlDown => true
  | .tlDownRetry => true
  | .retrain => true
  | .fullTrain => true
  | .messageSend .. => true
  | .routeLookup .. => true
  | .linkRetry .. => true
  | .hopDeclaredFailed .. => true
  | .data .. => true
  | .token .. => true
  | .counterAdd .. => true
  | .ack .. => true
  | .nack .. => true
  | .retryRound .. => true
  | .ackTimeout .. => true
  | .remoteWrite .. => true
  | .remoteRead .. => true
  | .readResp .. => true
  | .combine .. => true
  | .combineEmit .. => true
  | .vcmConfig _ route _ _ => vcmRouteWf route
  | .vcmHeal _ route _ _ _ => vcmRouteWf route
  | .vcmMgmt _ route _ => vcmRouteWf route
  | .progressSample => true
  | .overflowReturn .. => true
  | .selectOp .. => true
  | .switchOp .. => true
  | .gateOp .. => true
  | .repeatOp .. => true
  | .mergeArrival .. => true
  | .endOp .. => true
  | .mePass .. => true
  | .weightBlockLoad .. => true
  | .sliceSetEmit .. => true
  | .vspVector .. => true
  | .agAccess _ _ ecc => ecc.wf
  | .queuePush .. => true
  | .queuePop .. => true
  | .recordRelease .. => true
  | .waitMet .. => true
  | .foldQuotaExpiry .. => true
  | .foldSwitch .. => true
  | .scrubRead _ _ _ ecc => ecc.wf
  | .rowceRelease .. => true
  | .remapLoad .. => true
  | .remap .. => true
  | .remapComplete .. => true
  | .fillTile .. => true
  | .fillRange .. => true
  | .fillDone .. => true
  | .proofHashGo .. => true
  | .proofHashAbandon .. => true
  | .proofHashDone .. => true
  | .meHaltReq .. => true
  | .meResume .. => true
  | .injectCheck .. => true
  | .injectCombine .. => true
  | .vspHaltReq .. => true
  | .vspResume .. => true
  | .suHaltReq .. => true
  | .suResume .. => true
  | .agHaltReq .. => true
  | .agResume .. => true
  | .agRestart .. => true
  | .unitHaltComplete .. => true
  | .unitDrainTimeout .. => true
  | .vspLaneDisable .. => true
  | .agHashM .. => true
  | .rgnWrite .. => true
  | .rtFenceReq .. => true
  | .rtUnfence .. => true
  | .rtEntry .. => true
  | .chEpHaltReq .. => true
  | .chEpResume .. => true
  | .overflowOn .. => true
  | .markAcked .. => true
  | .endpointHaltComplete .. => true
  | .endpointDrainTimeout .. => true
  | .chConfigWrite .. => true
  | .syncSetCmd .. => true
  | .syncAdd .. => true
  | .forceSwitch .. => true
  | .tileEpochWrite .. => true
  | .cfgCrcClear .. => true
  | .tileFenceReq .. => true
  | .tileReset .. => true
  | .tileUnfence .. => true
  | .testStart .. => true
  | .testAbandon .. => true
  | .tileTestDone .. => true
  | .xeHaltReq .. => true
  | .xeEngResume .. => true
  | .xeDrainTimeout .. => true
  | .xeDescriptorStart .. => true
  | .xeDescriptorComplete .. => true
  | .lnPortEnable .. => true
  | .lnDisableReq .. => true
  | .samplerStart => true
  | .samplerStop => true
  | .secPurge .. => true
  | .belfryCount => true
  | .registerWrite .. => true
  | .inputRingRead .. => true
  | .gather .. => true
  | .shadowCopy .. => true
  | .completion => true
  | .deadlineTimer => true
  | .overflowRecord .. => true
  | .streamEnd .. => true
  | .endTimeout .. => true
  | .contextDrainComplete .. => true
  | .contextDrainTimeout .. => true
  | .drainFailed .. => true
  | .loadReady .. => true
  | .zeroiseComplete .. => true
  | .faultSignal => true
  | .unitHang .. => true
  | .heal .. => true
  | .healComplete .. => true
  | .rotationSchedule => true
  | .loupeStart => true
  | .testOverdue => true
  | .proofRoundEnd .. => true
  | .computeReset .. => true
  | .moduleReset => true
  | .watchdogFire .. => true
  | .warmRestart => true
  | .stubTimeout => true
  | .powerOn .. => true
  | .bootSequence .. => true
  | .imageLoadRequest => true
  | .fwInit .. => true
  | .fwInitTimeout => true
  | .resetN .. => true
  | .pllUnlock => true
  | .inputRange .. => true
  | .inputShutdown => true
  | .vbatLoss => true
  | .gateStepDown .. => true
  | .gateStepUp .. => true
  | .overLimit => true
  | .overLimitClear => true
  | .sensorRead .. => true
  | .thermalEmergency => true
  | .thermalEmergencyEnd => true
  | .tbSlewStep => true
  | .syncInEdge .. => true
  | .hbmEcsPoll .. => true
  | .memCeRate .. => true
  | .sampleInstant => true
  | .egressSend .. => true
  | .ingressFrame _ frame => frameWf frame
  | .transitFrame _ frame => frameWf frame
  | .proxyCredit _ frame => frameWf frame
  | .lnReplay .. => true
  | .lnRetrain .. => true
  | .trainTimeout .. => true
  | .downRetry .. => true
  | .keepaliveSend .. => true
  | .keepaliveTimeout .. => true
  | .creditTimeout .. => true
  | .hello _ frame => frameWf frame
  | .kem _ frame => frameWf frame
  | .sign _ frame => frameWf frame
  | .finished _ frame => frameWf frame
  | .handshakeTimeout .. => true
  | .rekey _ frame => frame.all frameWf
  | .rekeySwitch _ frame => frameWf frame
  | .rekeyTimeout .. => true
  | .close _ frame => frameWf frame
  | .lnDrainTimeout .. => true
  | .tbReq _ frame => frameWf frame
  | .tbRsp _ frame => frameWf frame
  | .joinReq _ frame => frameWf frame
  | .joinData _ frame => frameWf frame
  | .joinEnd _ frame => frameWf frame
  | .joinStepReached .. => true
  | .status => true
  | .telemetry => true
  | .health => true
  | .boot => true
  | .powerReq .. => true
  | .estop .. => true
  | .estopRelease .. => true
  | .resetReq .. => true
  | .bypass => true
  | .idcode => true
  | .samplePreload => true
  | .extest => true
  | .clamp => true
  | .highz => true
  | .debug .. => true
  | .tapReset => true
  | .controllerPatrolScrub _ _ _ _ ecc => ecc.wf
  | .signingQueue .. => true
  | .noSync => true
  | .calSlewStep => true
  | .keepalive _ frame => frameWf frame
  | .mirrorRefresh => true
  | .vbatLow .. => true
  | .lvcCredit .. => true
  | .tlCredit .. => true

end Sys2Proof
end

