-- ==== Sys2Proof/Tests/Slice0.lean ====
section
/-! SUPPORT. Tests/Slice0.lean: the author's tests. `witness_<Name>` shows, for the statement `Obligations.<Name>`, concrete states and
operands that meet the hypotheses of each of its clauses; the other theorems check one step each against the rule that they name. -/
namespace Sys2Proof.Tests
open Sys2Proof.Machine

set_option Elab.async false

/-- The state after reset with fields of registers set. -/
def st (l : List (Nat × Field × Nat)) : State := l.foldl (fun s e => s.setFld e.1 e.2.1 e.2.2) State.reset

/-- The state after one command. -/
def nxt (c : Instr) (s : State) : State :=
  match exec c s with
  | .next t => t
  | _ => s

/-! ## Witnesses -/

theorem witness_FrontCommandRuns : ({ pending := [.status] } : State).pending = .status :: [] := rfl

theorem witness_IdleStepTicks : State.reset.pending = [] ∧ State.reset.power.target = none ∧ State.reset.sb.queue = [] ∧
    State.reset.fld CAL_NS CAL_NS.ns + 10 < 1000000000 := by decide +kernel

theorem witness_StepKeepsInv : State.reset.Inv ∧ step State.reset = .next State.reset.tick :=
  ⟨⟨rfl, rfl, fun _ h => nomatch h⟩, rfl⟩

theorem witness_CommandsKeepQueue : ∃ t, exec .status State.reset = .next t := ⟨_, rfl⟩

theorem witness_OnlyDebugStops : ∀ x, Instr.status ≠ .debug x := fun _ h => nomatch h

theorem witness_UnitHalts : State.reset.isHalted (haltMe 0) = false ∧ State.reset.isHalted (haltVsp 255) = false ∧
    State.reset.isHalted (haltSu 0) = false ∧ State.reset.isHalted (haltAg 255 3) = false ∧ State.reset.fenced 0 = false ∧
    (st [(TILE_FENCE 255, TILE_FENCE.fenced, 1)]).fenced 255 = true := by decide +kernel

theorem witness_UnitDrainsAndRestarts :
    (let s := nxt (.meHaltReq 0 0) State.reset
     s.isHalting (haltMe 0) = true ∧ (s.meU 0).acc.any (fun e => e.2.done) = false ∧ (s.agP 0 0 (s.slot 0)).awaiting = false) ∧
    (nxt (.vspHaltReq 0 0) State.reset).isHalting (haltVsp 0) = true ∧
    (nxt (.suHaltReq 255 0) State.reset).isHalting (haltSu 255) = true ∧
    (nxt (.agHaltReq 255 3 0) State.reset).isHalting (haltAg 255 3) = true := by decide +kernel

theorem witness_UnitSettings : State.reset.fld (HLTH_TILE 0) HLTH_TILE.state = 0 ∧
    (st [(HLTH_TILE 0, HLTH_TILE.in_test, 1)]).bit (HLTH_TILE 0) HLTH_TILE.in_test = true ∧
    (let s := st [(HLTH_TILE 0, HLTH_TILE.state, 1)]
     s.fld (HLTH_TILE 0) HLTH_TILE.state ≠ 0 ∧ s.bit (HLTH_TILE 0) HLTH_TILE.in_test = false) ∧
    (List.range 8).countP (fun i => bitOf (VSP_LANE_DISABLE.group_disable.get 0x80) i) ≤ 1 ∧
    State.reset.bit (VSP_STATUS 0) VSP_STATUS.busy = false ∧
    ¬ (List.range 8).countP (fun i => bitOf (VSP_LANE_DISABLE.group_disable.get 3) i) ≤ 1 := by decide +kernel

theorem witness_HashMatrixWrites :
    hashOk (((State.reset.agRows 0 0).set 0 (bits 0x8000000040 0 26)).set 1 (bits 0x8000000040 32 26)) = true ∧
    (∀ r < 64, State.reset.rMode 0 r ≠ mOff → State.reset.fld (RGN_CFG 0 r) RGN_CFG.hash_sel ≠ 4) ∧
    hashOk (((State.reset.agRows 255 3).set 4 (bits 1 0 26)).set 5 (bits 1 32 26)) = false ∧
    (let s := st [(RGN_CFG 0 63, RGN_CFG.mode, 2), (RGN_CFG 0 63, RGN_CFG.hash_sel, 7)]
     s.rMode 0 63 ≠ mOff ∧ s.fld (RGN_CFG 0 63) RGN_CFG.hash_sel = 4 + 3) := by decide +kernel

theorem witness_RegionWrites : State.reset.rMode 0 63 = mOff ∧
    (let s := st [(RGN_CFG 0 63, RGN_CFG.size_4k, 1)]
     s.rMode 0 63 = mOff ∧ 0 < s.rSize 0 63) ∧
    (st [(RGN_CFG 0 63, RGN_CFG.mode, 1)]).rMode 0 63 ≠ mOff := by decide +kernel

theorem witness_RouterCommands : State.reset.portHealth 0 0 ≠ 1 ∧
    (let s := st [(HLTH_PORT 0, HLTH_PORT.link_state, 0x100)]
     s.portHealth 0 2 = 1 ∧ 256 ≤ neighbour 0 2) ∧
    (let s := st [(HLTH_PORT 0, HLTH_PORT.link_state, 1), (HLTH_PORT 16, HLTH_PORT.link_state, 0x100)]
     s.portHealth 0 0 = 1 ∧ s.portHealth (neighbour 0 0) (opposite 0) = 1) ∧
    (let s := st [(RT_CTX_DRAINED 0, RT_CTX_DRAINED.drained, 0x8000)]
     s.bit (RT_ENTRY 0 1023) RT_ENTRY.valid = false ∧
     bitOf (s.fld (RT_CTX_DRAINED 0) RT_CTX_DRAINED.drained) (RT_ENTRY.ctx.get (RT_ENTRY.ctx.set 15 0)) = true) ∧
    bitOf ((st [(RT_CTX_DRAINED 0, RT_CTX_DRAINED.drained, 0)]).fld (RT_CTX_DRAINED 0) RT_CTX_DRAINED.drained)
      (RT_ENTRY.ctx.get 0) = false := by decide +kernel

theorem witness_Endpoints : State.reset.epBit 0 63 CH_EP_STATE.halted = false ∧
    (let s := nxt (.chEpHaltReq 0 63 0) State.reset
     s.epBit 0 63 CH_EP_STATE.halting = true ∧ s.epDrained 0 63 = true ∧ ∀ w ∈ (s.ep 0 63).win, w.src = none) ∧
    State.reset.fenced 0 = false ∧ (st [(TILE_FENCE 0, TILE_FENCE.fenced, 1)]).fenced 0 = true ∧
    (let s := nxt (.chEpHaltReq 0 63 1) (st [(CH_EP_CFG 0 63, CH_EP_CFG.role, 2)])
     s.epRole 0 63 = 2 ∧ s.epBit 0 63 CH_EP_STATE.halted = true ∧ s.epBit 0 63 CH_EP_STATE.overflow = false) ∧
    (let s := nxt (.chEpHaltReq 0 63 1) (st [(CH_EP_CFG 0 63, CH_EP_CFG.role, 1)])
     s.epRole 0 63 = 1 ∧ s.epBit 0 63 CH_EP_STATE.halted = true ∧ ∀ w ∈ (s.ep 0 63).win, w.src = none) := by decide +kernel

theorem witness_ChannelWrites :
    (let s := nxt (.chEpHaltReq 0 63 1) State.reset
     s.epBit 0 63 CH_EP_STATE.halted = true ∧ s.bit (CH_SND 0 255) CH_SND.valid = false ∧
     s.epBit 0 (CH_SND.endpoint.get (CH_SND.endpoint.set 63 0)) CH_EP_STATE.halted = true) ∧
    State.reset.epBit 0 63 CH_EP_STATE.halted = false ∧
    State.reset.epBit 0 (CH_SND.endpoint.get 0) CH_EP_STATE.halted = false := by decide +kernel

theorem witness_SyncCounters :
    (let s := st [(SYNC_EN 0, SYNC_EN.enable, 2 ^ 63), (SYNC_CNT 0 63, SYNC_CNT.value, 2 ^ 64 - 1)]
     bitOf (s.fld (SYNC_EN 0) SYNC_EN.enable) 63 = true ∧ 2 ^ 64 ≤ s.fld (SYNC_CNT 0 63) SYNC_CNT.value + 1 ∧
     s.fld (SYNC_CNT 0 63) SYNC_CNT.value + 0 < 2 ^ 64) ∧
    bitOf (State.reset.fld (SYNC_EN 0) SYNC_EN.enable) 63 = false ∧
    (let s := st [(SYNC_STATUS 0, SYNC_STATUS.waiting, 0x80)]
     s.unitWaiting 0 7 = true ∧ s.waitMet 0 (s.slot 0) 7 = true) := by decide +kernel

theorem witness_FoldAndEpoch :
    (let s := st [(TILE_FOLD_CTRL 0, TILE_FOLD_CTRL.slot_enable, 3), (TILE_FOLD_SLOT 0 0, TILE_FOLD_SLOT.quota, 1)]
     2 ≤ s.enabledSlots 0 ∧ s.bit (TILE_FOLD_CTRL 0) TILE_FOLD_CTRL.hold = false ∧
     s.fld (TILE_FOLD_SLOT 0 (s.slot 0)) TILE_FOLD_SLOT.quota ≠ 0) ∧
    (let s := nxt (.forceSwitch 0) (st [(TILE_FOLD_CTRL 0, TILE_FOLD_CTRL.slot_enable, 3)])
     s.bit (TILE_FOLD_STATUS 0) TILE_FOLD_STATUS.switch_pending = true ∧ s.atSwitchPoint 0 = true ∧ s.fenced 0 = false) ∧
    (let s := st [(RT_CTX_DRAINED 0, RT_CTX_DRAINED.drained, 1), (TILE_CTX 0, TILE_CTX.ctx, 0)]
     bitOf (s.fld (RT_CTX_DRAINED 0) RT_CTX_DRAINED.drained) (s.fld (TILE_CTX 0) TILE_CTX.ctx) = true ∧
     ∀ r < 64, s.rMode 0 r ≠ mQueue ∧ s.rMode 0 r ≠ mReceive) ∧
    (let s := st [(RT_CTX_DRAINED 0, RT_CTX_DRAINED.drained, 0)]
     bitOf (s.fld (RT_CTX_DRAINED 0) RT_CTX_DRAINED.drained) (s.fld (TILE_CTX 0) TILE_CTX.ctx) = false) := by decide +kernel

theorem witness_TileFences : State.reset.fenced 0 = false ∧ (st [(TILE_FENCE 255, TILE_FENCE.fenced, 1)]).fenced 255 = true ∧
    State.reset.fld (HLTH_TILE 0) HLTH_TILE.state ≠ 3 := by decide +kernel

theorem witness_TileTests : State.reset.holdsWork 0 = false ∧ State.reset.bit (TILE_TEST_STATUS 0) TILE_TEST_STATUS.busy = false ∧
    (let s := nxt (.testStart 0 0 false) State.reset
     s.bit (TILE_TEST_STATUS 0) TILE_TEST_STATUS.busy = true ∧ s.health.rotation = none ∧ s.health.loupe = []) := by decide +kernel
/-- A state with regions 0 to 4 of tile 0 as queues of 4 KiB, slot 0 enabled, and operator 0 of a kind over them. -/
def su (kind : Nat) : State :=
  st ((TILE_FOLD_CTRL 0, TILE_FOLD_CTRL.slot_enable, 1) :: (SU_OP_CFG 0 0 0, SU_OP_CFG.kind, kind) ::
    (SU_OP_CFG 0 0 0, SU_OP_CFG.ctl, 0) :: (SU_OP_CFG 0 0 0, SU_OP_CFG.in0, 1) :: (SU_OP_CFG 0 0 0, SU_OP_CFG.in1, 2) ::
    (SU_OP_CFG 0 0 0, SU_OP_CFG.out0, 3) :: (SU_OP_CFG 0 0 0, SU_OP_CFG.out1, 4) ::
    (List.range 5).flatMap (fun r => [(RGN_CFG 0 r, RGN_CFG.size_4k, 1), (RGN_CFG 0 r, RGN_CFG.base_4k, r),
      (RGN_CFG 0 r, RGN_CFG.mode, 1)]))

/-- A data token with a value pushed into queue `r`. -/
def tok (r : Fin 64) (v : Nat) (s : State) : State := nxt (.queuePush 0 r (BitVec.ofNat 128 (v * 2 ^ 64))) s

theorem witness_QueuesAndRecords :
    (let s := su 1
     s.rMode 0 0 = mQueue ∧ s.rSound 0 0 = true ∧ 16 ≤ s.rFree 0 0) ∧
    (let s := (((su 1).setReg (RGN_TAIL 0 0) 4096))
     s.rMode 0 0 = mQueue ∧ s.rSound 0 0 = true ∧ s.rFree 0 0 < 16) ∧
    (let s := tok 0 1 (su 1)
     s.rMode 0 0 = mQueue ∧ s.rSound 0 0 = true ∧
     (∀ x ∈ s.rEnts 0 0, s.waitsPop 0 0 x = true → s.stale 0 x.hdr = false) ∧ (s.present 0 0 (s.slot 0)).isSome = true) ∧
    (∀ b ∈ [false, true],
      let s := ((st [(RGN_CFG 0 0, RGN_CFG.size_4k, 1), (RGN_CFG 0 0, RGN_CFG.mode, 2)]).setReg (RGN_TAIL 0 0) 64).setBytes (tsBase 0)
        (List.replicate 16 0 ++ [1, if b then 1 else 0, 0, 0, 64])
      s.rMode 0 0 = mReceive ∧
        ((s.rEnts 0 0).find? (fun x => x.off == 0 && x.kind != 3)).map (fun e => e.released) = some b) := by decide +kernel

theorem witness_ScrubAndRows :
    (let s := st [(MU_CTRL 0, MU_CTRL.scrub_en, 1)]
     s.bit (MU_CTRL 0) MU_CTRL.scrub_en = true ∧ s.ue = []) ∧
    (st [(MU_CTRL 0, MU_CTRL.scrub_en, 0)]).bit (MU_CTRL 0) MU_CTRL.scrub_en = false ∧
    ∀ x ∈ (State.reset.muW 0).rows, x.waiting = false := by decide +kernel

theorem witness_RowRepairsAndRemaps :
    remapInRange true 31 31 1 = true ∧ remapInRange false 63 1023 15 = true ∧
    State.reset.bit (MU_STATUS 0) MU_STATUS.remap_busy = false ∧ State.reset.fld (HLTH_TILE 0) HLTH_TILE.state = 0 ∧
    repairValid (State.reset.repair 0 true 31 1) = false ∧ 1 < spares true ∧
    (let s := nxt (.remap 0 true 31 31 1) State.reset
     s.bit (MU_STATUS 0) MU_STATUS.remap_busy = true ∧ (s.muW 0).remap = some (b2n true, 31, 31, 1) ∧
     s.health.remaps = [] ∧ s.health.rewrites = [] ∧ s.lease 0 = none) := by decide +kernel

theorem witness_FillsAndHashes :
    State.reset.bit (MU_FILL_STATUS 0) MU_FILL_STATUS.busy = false ∧ 16383 + 1 ≤ 16384 ∧ 16384 < 16383 + 2 ∧
    ((nxt (.fillRange 0 16383 1) State.reset).muW 0).fill = some (1, 16383, 1) ∧
    ((nxt (.fillTile 0) State.reset).muW 0).fill = some (0, 0, 0) ∧
    (let s := su 1
     s.bit (MU_PROOF_STATUS 0) MU_PROOF_STATUS.busy = false ∧ s.rMode 0 0 ≠ mOff) ∧
    (let s := nxt (.proofHashGo 0 0) ((su 1).setBit (MU_CTRL 0) MU_CTRL.proof_en true)
     s.bit (MU_CTRL 0) MU_CTRL.proof_en = true ∧ (s.muW 0).hash = some (0, 0) ∧ s.lease 0 = none ∧ s.ue = []) := by decide +kernel

theorem witness_SelectSwitchMergeEnd :
    (∀ v ∈ [0, 1], let s := tok 2 7 (tok 1 6 (tok 0 v (su 1)))
      s.suReady 0 0 1 ∧ (s.suHead 0 0).map (fun c => (c.hdr.isEnd, c.hdr.offVal)) = some (false, v) ∧
        (s.suHead 0 (if v % 2 = 1 then 2 else 1)).isSome = true ∧ s.hasRoom 0 3 = true) ∧
    (∀ v ∈ [0, 1], let s := tok 1 6 (tok 0 v (su 2))
      s.suReady 0 0 2 ∧ (s.suHead 0 0).map (fun c => (c.hdr.isEnd, c.hdr.offVal)) = some (false, v) ∧
        (s.suHead 0 1).isSome = true ∧ s.hasRoom 0 (if v % 2 = 1 then 4 else 3) = true) ∧
    (∀ k ∈ [(0 : Fin 2), 1], let s := tok (Fin.ofNat 64 (k.val + 1)) 6 (su 5)
      s.suReady 0 0 5 ∧ (s.suHead 0 (s.mergeIn 0 0 k)).map (fun a => a.hdr.isEnd) = some false ∧
        s.suHead 0 (s.mergeIn 0 0 (1 - k.val)) = none ∧ s.hasRoom 0 (s.suCfg 0 0 SU_OP_CFG.out0) = true ∧
        (s.setFld (SU_OP_STATE 0 (s.slot 0) 0) SU_OP_STATE.merge_held 0).hasRoom 0 (s.suCfg 0 0 SU_OP_CFG.out0) = true ∧
        (s.setFld (SU_OP_STATE 0 (s.slot 0) 0) SU_OP_STATE.merge_held 0).fld (SU_OP_STATE 0 (s.slot 0) 0) SU_OP_STATE.merge_ref = 0) ∧
    (let s := tok 1 6 (su 6)
     s.suReady 0 0 6 ∧ (s.suHead 0 (s.suCfg 0 0 SU_OP_CFG.in0)).map (fun a => a.hdr.isEnd) = some false ∧
       s.hasRoom 0 (s.suCfg 0 0 SU_OP_CFG.out0) = true) := by
  unfold State.suReady
  refine ⟨?_, ?_, ?_, ?_⟩ <;> decide +kernel

theorem witness_GateAndRepeat :
    (∀ e ∈ [(3, 0), (3, 1), (4, 0), (4, 1), (4, 2)], let s := tok 1 6 (tok 0 e.2 (su e.1))
      s.suReady 0 0 e.1 ∧ (s.suHead 0 0).map (fun c => (c.hdr.isEnd, c.hdr.offVal)) = some (false, e.2) ∧
        (s.suHead 0 1).map (fun d => d.hdr.typ) = some tData ∧ s.hasRoom 0 3 = true ∧
        s.fld (SU_OP_STATE 0 (s.slot 0) 0) SU_OP_STATE.repeat_count = 0) := by
  unfold State.suReady
  decide +kernel

/-- A matrix engine of tile 0 whose slot 0 is enabled with valid settings. -/
def me : State :=
  st [(TILE_FOLD_CTRL 0, TILE_FOLD_CTRL.slot_enable, 1), (ME_SLOT_CFG 0 0, ME_SLOT_CFG.enable, 1), (ME_SLOT_CFG 0 0, ME_SLOT_CFG.run_len, 1),
    (ME_SLOT_CFG 0 0, ME_SLOT_CFG.k_slices, 1), (ME_SLOT_CFG 0 0, ME_SLOT_CFG.tol_exp, 8)]

theorem witness_EnginePasses :
    me.meReady 0 = true ∧ me.meValid 0 (me.slot 0) = true ∧ 0 + fmtBytes (me.meAf 0 (me.slot 0)) 128 ≤ osBytes ∧
    0 + 4 ≤ osBytes ∧ (me.meU 0).active = [] ∧ (tget {} (me.meU 0).acc (me.meU 0).pass).done = false ∧
    ((me.setMe 0 { active := [0] }).meU 0).active ≠ [] ∧
    (let s := me.setFld (ME_SLOT_CFG 0 0) ME_SLOT_CFG.k_slices 0
     s.meReady 0 = true ∧ s.meValid 0 (s.slot 0) = false) := by decide +kernel

theorem witness_WeightsAndSliceSets :
    me.meReady 0 = true ∧ me.meValid 0 (me.slot 0) = true ∧
    0 + (meArrayBytes (meMode (me.meWf 0 (me.slot 0))) + sideBytes) ≤ osBytes ∧ (me.meU 0).shadow = [] ∧ me.ue = [] ∧
    (let s := me.setMe 0 { acc := [(0, { done := true })] }
     s.fenced 0 = false ∧ s.isHalted (haltMe 0) = false ∧
     s.fld (ME_SLOT_CFG 0 (s.slot 0)) ME_SLOT_CFG.emit_target = 0 ∧ (s.meU 0).out = [] ∧
     (s.meU 0).acc.any (fun e => e.2.done) = true) := by decide +kernel

theorem witness_PipelineAndGenerators :
    (let s := st [(TILE_FOLD_CTRL 0, TILE_FOLD_CTRL.slot_enable, 1), (VSP_SLOT_IO 0 0, VSP_SLOT_IO.out_item_vectors, 1)]
     s.mayStart 0 uVsp = true ∧ s.running (haltVsp 0) = true ∧ s.vspValid 0 (s.slot 0) = true) ∧
    (let s := st [(VSP_SLOT_IO 0 0, VSP_SLOT_IO.out_item_vectors, 33)]
     s.mayStart 0 uVsp = true ∧ s.running (haltVsp 0) = true ∧ s.vspValid 0 (s.slot 0) = false) ∧
    (let s := st [(AG_S_CFG 0 3 0, AG_S_CFG.enable, 1)]
     s.mayStart 0 (uAg 3) = true ∧ s.running (haltAg 0 3) = true ∧ s.agCfg 0 3 AG_S_CFG.enable ≠ 0 ∧ s.agValid 0 3 = true ∧
     s.bit (AG_STATUS 0 3) AG_STATUS.stopped = false ∧ (s.agP 0 3 (s.slot 0)).ended = false) ∧
    (st [(AG_S_CFG 0 3 0, AG_S_CFG.enable, 1), (AG_S_CFG 0 3 0, AG_S_CFG.loops, 6)]).agValid 0 3 = false ∧
    (st [(TILE_FENCE 0, TILE_FENCE.fenced, 1)]).fenced 0 = true := by decide +kernel
/-- An endpoint 0 of tile 0 that may send from queue 0, with one token there. -/
def sender : State :=
  tok 0 5 ((su 1).setFld (CH_EP_CFG 0 0) CH_EP_CFG.role 1)

/-- A message in the mesh that has arrived at a place. -/
def arrived (loc : Nat) (m : Msg) (s : State) : State :=
  { s with net := s.net ++ [({ msg := m, loc := loc, arrived := true } : NetMsg)] }

theorem witness_MessagesGoOut :
    (sender.chMaySend 0 0 = true ∧ sender.fld (CH_EP_CFG 0 0) CH_EP_CFG.announce = 0 ∧ (sender.ep 0 0).win.length < 4 ∧
      (sender.ep 0 0).announceDue = false ∧ sender.epQueue 0 0 = 0 ∧
      (∀ y ∈ sender.rEnts 0 0, sender.waitsPop 0 0 y = true → sender.stale 0 y.hdr = false) ∧
      (sender.present 0 0 (sender.slot 0)).isSome = true) ∧
    (let m : Msg := { kind := kAck, vc := 2, destTile := 0 }
     let s : State := { net := [{ msg := m, loc := 0, inPort := 3 }] }
     s.atRouter 0 = [(0, { msg := m, loc := 0, inPort := 3 })] ∧ (match s.route 0 3 m with | .out 4 x => x == m | _ => false) = true) := by decide +kernel

theorem witness_MessagesArrive : 255 < 256 ∧ 256 ≤ 257 ∧ 257 < 258 ∧ 258 ≤ 258 := by decide

theorem witness_AcksAndRounds :
    (let w : WinEntry := { msg := { chanSeq := 9 } }
     let s := (st [(CH_EP_CFG 0 63, CH_EP_CFG.role, 1)]).setEp 0 63 { win := [w] }
     (s.ep 0 63).entry 9 = some w ∧ w.src = none ∧
     ((arrived 0 { kind := kAck, destEp := 63, chanSeq := 9 } s).arrivedAt 0 [kAck]).isSome = true ∧
     ((arrived 0 { kind := kNack, destEp := 63, chanSeq := 9, operand := 1 } s).arrivedAt 0 [kNack]).isSome = true ∧
     retryReason (1 % 256) = true) ∧
    (let s := (st [(CH_EP_CFG 0 63, CH_EP_CFG.role, 1)]).setEp 0 63 { roundNacked := true }
     s.chMayResend 0 63 = true ∧ (s.ep 0 63).roundNacked = true) := by decide +kernel

theorem witness_RemoteAccesses :
    ((arrived 0 { kind := kRemoteWrite, addr := 0 } State.reset).arrivedAt 0 [kRemoteWrite]).isSome = true ∧
    (let s := arrived 0 { kind := kRemoteRead, addr := 0, operand := 64 } State.reset
     (s.arrivedAt 0 [kRemoteRead]).isSome = true ∧ s.homeBusy 0 64 false = []) ∧
    (let m : Msg := { kind := kReadResp, destEp := 3, payload := [7] }
     let s := arrived 0 m (State.reset.setAg 0 3 0 { awaiting := true })
     (s.arrivedAt 0 [kReadResp]).isSome = true ∧ (s.agP 0 (m.destEp % 4) (s.slot 0)).awaiting = true ∧ m.payload ≠ [] ∧
     m.tok.mark = false ∧ (s.agDeliver 0 3 (m.payload.map (fun b => { b := b, mark := false }))).isSome = true) := by decide +kernel

theorem witness_LinkErrors : State.reset.portFenced 0 0 = false ∧ bridgeOf 0 0 = none ∧
    (st [(RT_STATUS 0, RT_STATUS.port_fenced, 8)]).portFenced 0 3 = true ∧
    8 ≤ (st [(RT_LINK_ERR 0 3, RT_LINK_ERR.consec_fail, 8)]).fld (RT_LINK_ERR 0 3) RT_LINK_ERR.consec_fail ∧
    State.reset.fld (RT_LINK_ERR 0 3) RT_LINK_ERR.consec_fail < 8 := by decide +kernel

theorem witness_MeshServices :
    (let s := (st [(CH_EP_CFG 0 0, CH_EP_CFG.role, 3), (CH_EP_CFG 0 0, CH_EP_CFG.combine_region, 0), (CH_EP_CFG 0 0, CH_EP_CFG.queue, 1),
        (RGN_CFG 0 0, RGN_CFG.size_4k, 1), (RGN_CFG 0 0, RGN_CFG.mode, 3),
        (RGN_CFG 0 1, RGN_CFG.base_4k, 1), (RGN_CFG 0 1, RGN_CFG.size_4k, 1), (RGN_CFG 0 1, RGN_CFG.mode, 2)]).setBytes (tsBase 0)
          [0, 0, 0, 2, 1]
     let a := tsBase 0
     let op := s.fld (CH_EP_CFG 0 0) CH_EP_CFG.combine_op
     s.epRole 0 0 = 3 ∧ s.combineAt 0 0 0 = some a ∧ bitOf (s.num (a + 3) 1) 1 = true ∧
     (let st := decodeHdr (s.num (a + 16) 16)
      let h : Hdr := { typ := tData, slot := st.slot, epoch := st.epoch, mark := bitOf (s.num (a + 3) 1) 2, itemTag := st.itemTag }
      s.emitItem 0 (s.epQueue 0 0) h (combineResult op (words32 (s.bytes (a + 64) (accBytes op (s.num (a + 4) 4)))))).isSome = true) ∧
    (State.reset.vcmDeliver 0 0x0B 0 0).1 = [0] ∧ (State.reset.vcmDeliver 0 0x0A 0 1).1 = [16] ∧
    (nxt (.chEpHaltReq 0 0 1) State.reset).epBit 0 0 CH_EP_STATE.overflow = false ∧
    (nxt (.overflowOn 0 0) (nxt (.chEpHaltReq 0 0 1) (st [(CH_EP_CFG 0 0, CH_EP_CFG.role, 2)]))).epBit 0 0 CH_EP_STATE.overflow = true ∧
    (let s := st [(SCU_CTX_STATE 3, SCU_CTX_STATE.state, 4)]
     (∀ d < 3, s.cState d ≠ 4 ∧ s.cState d ≠ 5) ∧ s.cState 3 = 4 ∧
     ∀ d < 16, 3 < d → (s.sampleCtx 3).cState d ≠ 4 ∧ (s.sampleCtx 3).cState d ≠ 5) ∧
    (∀ d < 16, State.reset.cState d ≠ 4 ∧ State.reset.cState d ≠ 5) := by
  refine ⟨?_, ?_, ?_, ?_, ?_, ?_, ?_⟩ <;> decide +kernel

/-- A module in service whose link is ACTIVE with credits, range 0 open to the host over the first LPDDR5X page. -/
def live : State :=
  let s := (st [(SCU_BOOT_STATUS, SCU_BOOT_STATUS.stage, 9), (TL_STATUS, TL_STATUS.state, 4)]).openAs 0 lpFirst 4096 true true true
  { s with tl := { creditPW := 99, creditNP := 99, creditSNP := 99 } }

theorem witness_HostReadsAndGrants :
    live.linkActive = true ∧ live.tl.inq = [] ∧ live.tl.held = [] ∧ lpFirst % 64 = 0 ∧ 0 + 1 ≤ live.maxLines ∧
    live.hostMayRead lpFirst (64 * (0 + 1)) = true ∧ live.tl.snoops = [] ∧ live.badWords lpFirst (64 * (0 + 1)) = [] ∧
    live.tl.hasCredit (.cpl 0 tlOK false false (live.devBytes lpFirst (64 * (0 + 1)))) = true ∧
    live.snooping lpFirst = false ∧ live.coherent lpFirst = true ∧ live.hostMayWrite lpFirst 64 = true ∧
    live.hostMayRead lpFirst 64 = true ∧ live.tl.filter.length < 524288 := by decide +kernel

theorem witness_HostWritesAndReturns :
    (live.linkActive = true ∧ live.tl.inq = [] ∧ inRegs lpFirst = false ∧ live.tl.filter = [] ∧ live.tl.snoops = [] ∧
      lpFirst % 64 = 0 ∧ 0 + 1 ≤ live.maxLines ∧ live.hostMayWrite lpFirst (64 * (0 + 1)) = true ∧
      live.badWords lpFirst 64 = [] ∧ (lpFirst + 8) % 8 = 0 ∧ live.hostMayWrite (lpFirst + 8) 8 = true ∧
      live.badWords (lpFirst + 8) 8 = []) ∧
    (let s := live.setFld TL_FEATURES TL_FEATURES.enabled 8
     s.feature 3 = true ∧ lpFirst % 16 = 0 ∧ s.hostMayWrite lpFirst 16 = true ∧ s.badWords lpFirst 16 = []) ∧
    (let s := nxt (.own 0 (BitVec.ofNat 52 lpFirst)) live
     s.linkActive = true ∧ s.tl.inq = [] ∧ (s.hostCopy lpFirst).isSome = true ∧ s.snooping lpFirst = false) ∧
    live.hostCopy lpFirst = none ∧
    (let s : State := { live with tl := { live.tl with snoops := [{ line := lpFirst }] } }
     s.linkActive = true ∧ s.tl.inq = [] ∧
     (s.tl.snoops.find? (fun y => y.line == lpFirst)).map (fun x => (x.kind, x.waiting.length)) = some (0, 0) ∧
     lpFirst ≠ repProdLine ∧ lpFirst ≠ evtProdLine ∧ s.hostCopy lpFirst = none) := by decide +kernel

theorem witness_LinkRecoveryAndTraining :
    live.linkActive = true ∧ live.tl.failedReplays < 7 ∧ (st [(TL_STATUS, TL_STATUS.state, 5)]).tlState = 5 ∧
    (nxt .retrain live).tl.viaRetrain = true ∧ (nxt .retrain live).tlState = 5 ∧ (st [(TL_STATUS, TL_STATUS.state, 6)]).tlState = 6 ∧
    (let s := st [(SCU_BOOT_STATUS, SCU_BOOT_STATUS.stage, 9), (TL_STATUS, TL_STATUS.state, 3)]
     s.tlState < 4 ∧ s.trainsTreup = true ∧ topVersion (1 &&& s.fld TL_ID TL_ID.versions) = some 0) ∧
    live.tlState = 4 ∧ live.tl.held = [] ∧
    (let s := (st [(TL_STATUS, TL_STATUS.state, 6), (TL_CTRL, TL_CTRL.down_retry_ms, 1), (TB_COUNT, TB_COUNT.count, 100000)])
     s.tl.downAt + s.fld TL_CTRL TL_CTRL.down_retry_ms * 100000 ≤ s.tb) ∧
    (let s := (st [(TL_STATUS, TL_STATUS.state, 6), (TL_CTRL, TL_CTRL.down_retry_ms, 1)])
     s.tb < s.tl.downAt + s.fld TL_CTRL TL_CTRL.down_retry_ms * 100000) := by decide +kernel

theorem witness_SubmissionAndCompletion :
    (live.takesCommands = true ∧ ahead (live.num subLine 8) (live.fld SCU_CMD_TAKEN SCU_CMD_TAKEN.taken) ≤ 1024) ∧
    (let s := live.setBytes subLine (leBytes 8 1025)
     s.takesCommands = true ∧ 1024 < ahead (s.num subLine 8) (s.fld SCU_CMD_TAKEN SCU_CMD_TAKEN.taken)) ∧
    State.reset.takesCommands = false ∧
    (let s : State := { live with tl := { live.tl with filter := [{ line := subLine, m := true }] } }
     s.linkActive = true ∧ s.feature 0 = false ∧ s.fwUp = true ∧ s.polledLines = [subLine] ∧ s.snooping subLine = false) ∧
    (live.setFld TL_FEATURES TL_FEATURES.enabled 1).feature 0 = true ∧
    (let s : State := { live with tl := { live.tl with reads := [{ tag := 4095, lines := 1 }], snoops := [{ line := 64 }] } }
     let late := s.setFld TB_COUNT TB_COUNT.count 100000000
     (s.tl.reads.find? (fun y => y.tag == 4095)).isSome = true ∧ (s.eng 0 0).prog = [] ∧ s.linkActive = true ∧
     s.tb < 0 + s.fld TL_CTRL TL_CTRL.cpl_timeout_us * 100 ∧ 0 + late.fld TL_CTRL TL_CTRL.cpl_timeout_us * 100 ≤ late.tb ∧
     (s.tl.snoops.find? (fun y => y.line == 64)).isSome = true ∧ s.tb < 0 + s.fld TL_CTRL TL_CTRL.snoop_timeout_us * 100 ∧
     0 + late.fld TL_CTRL TL_CTRL.snoop_timeout_us * 100 ≤ late.tb) := by decide +kernel

/-- A host transfer engine with one descriptor of operation 3 at its ring. -/
def eng : State :=
  (((nxt (.xeEngResume 0 8) (st [(XE_ENG_CFG 0 8, XE_ENG_CFG.assigned, 1), (XE_ENG_CFG 0 8, XE_ENG_CFG.device_use, 1)])).setFld
    (XE_ENG_RING 0 8) XE_ENG_RING.base lpFirst).setFld (XE_ENG_CPL 0 8) XE_ENG_CPL.base (lpFirst + 4096)).setBytes lpFirst (leBytes 8 1)
      |>.setBytes (lpFirst + 128) [3]

theorem witness_TransferEngines :
    (let s := nxt (.xeEngResume 1 7) State.reset
     s.bit (XE_ENG_STATUS 1 7) XE_ENG_STATUS.halted = false ∧ s.waiting = [] ∧ (s.eng 1 7).prog = []) ∧
    (let s := State.reset.setEng 1 15 { goal := some 0 }
     (s.eng 1 15).goal.isSome = true ∧
     (s.eng 1 15).drainFrom + (s.setFld TB_COUNT TB_COUNT.count 1000000000).fld (XE_ENG_CFG 1 15) XE_ENG_CFG.drain_timeout_ms * 100000 ≤
       (s.setFld TB_COUNT TB_COUNT.count 1000000000).tb) ∧
    (State.reset.eng 0 0).goal = none ∧
    (let u := ((eng.unfire (eng.fld (XE_ENG_RING 0 8) XE_ENG_RING.base)).cplLook 0 8).engView 0 8
     eng.bit (XE_ENG_CFG 0 8) XE_ENG_CFG.assigned = true ∧ u.xeCanStart 0 8 = true ∧
     u.homeBusy (u.descAt 0 8 (u.eng 0 8).next) 64 false = [] ∧
     (u.takeDesc 0 8).2.xeCheck 0 8 (u.takeDesc 0 8).1 = xeOK) ∧
    (let d : XeDesc := { raw := [3] }
     let s := State.reset.setEng 0 8 { prog := [d] }
     (s.eng 0 8).prog[0]? = some d ∧ s.fencedAt d = none ∧ s.awaitsHost 0 8 d = false ∧ s.hostGate ≠ 0 ∧ s.xeBusy d = ([], []) ∧
     d.op ≠ 1) := by decide +kernel

theorem witness_MemoryControllers :
    (st [(HBM_STATUS 7, HBM_STATUS.state, 1)]).fld (HBM_STATUS 7) HBM_STATUS.state = 1 ∧
    1000 < ((State.reset.setMc 15 { count := 1001 }).mc 15).count ∧ ((State.reset.setMc 15 { count := 1001 }).mc 15).raised = false ∧
    ((State.reset.setMc 0 { raised := true }).mc 0).raised = true ∧
    (st [(LP_STATUS 7, LP_STATUS.state, 1)]).fld (LP_STATUS (15 - 8)) LP_STATUS.state = 1 := by decide +kernel
/-- The header of a command with tag 5 and no flag. -/
def hdr (ctx : BitVec 8) (flags : BitVec 8) : CmdHdr := { tag := 5, minor := 0, major := 1, ctx := ctx, flags := flags, tail := false }

/-- `live` with context 0 in a state. -/
def ctxIn (v : Nat) : State := live.setFld (SCU_CTX_STATE 0) SCU_CTX_STATE.state v

theorem witness_QueriesReply :
    (let s := (ctxIn 1).setCtx 0 { streams := [(0, { gen := 1 })] }
     (∀ r ∈ ([{ op := 0x0001, served := true }, { op := 0x0002, served := true }, { op := 0x0106, need := .exists },
        { op := 0x0305, need := .exists }, { op := 0x0406 }, { op := 0x0704, served := true }, { op := 0x0901, served := true },
        { op := 0x0B03 }, { op := 0x0A03 }] : List Row), s.runs (hdr 0 0) r) ∧
     s.ctxBusy 0 = false ∧ s.power.target = none ∧ 11 < 12 ∧ s.isKnown 0 0x1000 = true ∧ s.tl.filter = [] ∧ s.tl.snoops = [] ∧
     (hdr 0 0).flags = 0) := by
  unfold State.runs
  decide +kernel

theorem witness_RefusedCommands :
    State.reset.takesCommands = false ∧
    (let u := live.takeCmd 5 0x0505
     live.takesCommands = true ∧ live.inReset = false ∧ live.fld PWR_STATUS PWR_STATUS.state = 0 ∧
     2 ≠ u.fld SCU_CMD_VERSION SCU_CMD_VERSION.major ∧ 1 = u.fld SCU_CMD_VERSION SCU_CMD_VERSION.major ∧
     0 ≤ u.fld SCU_CMD_VERSION SCU_CMD_VERSION.minor ∧ live.tagHeld 5 0x0505 = false ∧
     u.bit SCU_CMD_STATUS SCU_CMD_STATUS.out_of_service = false ∧ 4 ≤ (hdr 0 4).flags.toNat ∧ bitOf (hdr 0 1).flags.toNat 0 = true) ∧
    (({ live with waiting := [{ tag := 5 }] } : State).tagHeld 5 0x0505 = true) ∧
    ((live.setBit SCU_CMD_STATUS SCU_CMD_STATUS.out_of_service true).takeCmd 5 0x0505).bit SCU_CMD_STATUS
      SCU_CMD_STATUS.out_of_service = true := by decide +kernel

theorem witness_DeviceCommands :
    (∀ r ∈ ([{ op := 0x0003 }, { op := 0x0004 }, { op := 0x0004, served := true }, { op := 0x0903 }, { op := 0x0904 }, { op := 0x0902 },
        { op := 0x0B02 }, { op := 0x0B01, forms := true }, { op := 0x0801 }, { op := 0x0802 }, { op := 0x0804 },
        { op := 0x0803, served := true }] : List Row), live.runs (hdr 0xFF 0) r) ∧
    ((999999999#32).toNat < 1000000000 ∧ (100000#32).toInt.natAbs ≤ 100000 ∧ (1000000000#64).toInt.natAbs ≤ 1000000000 ∧
      1000000000 < (1000000001#64).toInt.natAbs ∧ live.time.align = none ∧ live.power.target = none) ∧
    (let u := live.takeCmd 5 0x0B02
     u.powerNeed none ≤ (400#16).toNat * 10 ∧ (400#16).toNat ≤ u.part.limitW) ∧
    (live.sb.queue = [] ∧ (live.takeCmd 5 0x0B01).powerOver 3 false = false) ∧
    (let u := live.takeCmd 5 0x0801
     u.confTile 255 = false ∧ u.diagRange (diagWindow 0 255).1 = none ∧ u.diagRange (diagWindow 2 0).1 = none ∧ u.diagCount < 8 ∧
     u.freeRange 0 64 = some 1) ∧
    (let s := live.openAs 1 (diagWindow 2 0).1 (diagWindow 2 0).2 true false false
     (s.takeCmd 5 0x0802).diagRange (diagWindow 2 0).1 = some 1) ∧
    (aligned64 hostFirst = true ∧ inHost hostFirst 0x10000 = true ∧ inHost (2 ^ 52 - 0x10000) 0x10000 = true ∧
      (live.takeCmd 5 0x0804).confTile 0 = false ∧ 0 + 64 ≤ sheetBytes ∧ inHost hostFirst 64 = true ∧
      (live.takeCmd 5 0x0803).sheetState ≠ 2 ∧ (live.takeCmd 5 0x0803).sheetState ≠ 3) := by
  unfold State.runs
  refine ⟨?_, ?_, ?_, ?_, ?_, ?_, ?_⟩ <;> decide +kernel

/-- A running context of one slot with a plate that serves it. -/
def served : State :=
  let sm : StreamMap := { slots := 1, inDepth := 1, inRecord := 64, outRecord := 64 }
  let pl : Plate := { smap := sm, reserveTiles := 1 }
  let x : Ctx := { plate := pl, configured := true, lpBase := lpFirst + 8192, lpBytes := 0x10000, loaded := true }
  let s := (ctxIn 4).setCtx 0 { x with streams := [(0, { gen := 1, phase := 1 })] }
  (s.setBit (SCU_CLASS 3) SCU_CLASS.valid true).setFld (SCU_CLASS 3) SCU_CLASS.bound_us 60000000

theorem witness_ContextCommands :
    (∀ r ∈ ([{ op := 0x0301 }] : List Row), live.runs (hdr 0xFF 0) r) ∧
    (live.runs (hdr 0 0) { op := 0x0101, need := .free } ∧ ((live.takeCmd 5 0x0101).createCtx 0 1 1 1).isSome = true) ∧
    (∀ r ∈ ([{ op := 0x0103, need := .exists }, { op := 0x0102, need := .exists, forms := true }, { op := 0x0201, need := .exists }] :
        List Row), (ctxIn 1).runs (hdr 0 0) r) ∧
    ((ctxIn 1).ctxBusy 0 = false ∧ ((ctxIn 1).takeCmd 5 0x0102).cState 0 = 1 ∧ ((ctxIn 1).takeCmd 5 0x0201).cState 0 = 1 ∧
      aligned64 hostFirst = true ∧ inHost hostFirst 4096 = true) ∧
    (∀ r ∈ ([{ op := 0x0104, need := .exists }, { op := 0x0202, need := .exists }, { op := 0x0302, need := .exists }] : List Row),
      (ctxIn 3).runs (hdr 0 0) r) ∧
    ((ctxIn 3).tb ≤ 1 ∧ ((ctxIn 3).takeCmd 5 0x0104).sb.estop = false ∧ ((ctxIn 3).takeCmd 5 0x0104).cState 0 = 3 ∧
      ((ctxIn 3).takeCmd 5 0x0202).cState 0 = 3) ∧
    (∀ r ∈ ([{ op := 0x0105, need := .exists, forms := true }, { op := 0x0203, need := .exists }, { op := 0x0303, need := .exists },
        { op := 0x0304, need := .exists, forms := true }, { op := 0x0601, need := .exists }, { op := 0x0602, need := .exists },
        { op := 0x0603, need := .exists }, { op := 0x0604, need := .exists }] : List Row), served.runs (hdr 0 0) r) ∧
    ((served.takeCmd 5 0x0105).cState 0 = 4 ∧ (served.takeCmd 5 0x0203).cState 0 = 4 ∧ served.ctxBusy 0 = false) ∧
    ((live.takeCmd 5 0x0301).classUsed 3 = false ∧ 59999000 + 1000 ≤ 60000000) ∧
    (let u := (served.setFld (SCU_CTX_STATE 0) SCU_CTX_STATE.state 3).takeCmd 5 0x0302
     let m := u.smap 0
     let stride := roundUp (128 + m.inDepth * m.inRecord) 4096
     let out := roundUp (128 + 2 ^ 8 * m.outRecord) 4096
     let t := u.closeStreams 0
     u.cState 0 = 3 ∧ out + m.slots * stride ≤ (u.ctx 0).lpBytes ∧ t.freeRange 0 64 = some 1 ∧
       (t.openAs 1 (u.ctx 0).lpBase out true true true).freeRange 0 64 = some 2) ∧
    ((((served.setCtx 0 { served.ctx 0 with streams := [] }).takeCmd 5 0x0303).admission 0 3 false).isRight = true) ∧
    (served.isCurrent 0 0x1000 = true ∧ ((served.takeCmd 5 0x0304).slotOf 0 (0x1000 % 4096)).phase = 1 ∧
      bitOf (hdr 0 0).flags.toNat 0 = false) ∧
    ((served.takeCmd 5 0x0602).cState 0 ∈ [3, 4, 6] ∧ ((served.takeCmd 5 0x0602).ctx 0).loaded = true ∧
      (served.takeCmd 5 0x0602).bit (SCU_PROOF_STATUS 0) SCU_PROOF_STATUS.round_active = false ∧
      ((served.takeCmd 5 0x0603).ctx 0).lastRound = 0 ∧ inHost hostFirst 0 = true ∧
      ((served.takeCmd 5 0x0604).ctx 0).lastRegions = []) := by
  unfold State.runs
  refine ⟨?_, ?_, ?_, ?_, ?_, ?_, ?_, ?_, ?_, ?_, ?_, ?_, ?_⟩ <;> decide +kernel

theorem witness_HealthAndMemoryCommands :
    (∀ r ∈ ([{ op := 0x0501, served := true }, { op := 0x0502 }, { op := 0x0503, forms := true }, { op := 0x0504, forms := true },
        { op := 0x0505 }, { op := 0x0506 }, { op := 0x0507 }, { op := 0x0508 }, { op := 0x0401, need := .orDevice }, { op := 0x0402 },
        { op := 0x0404, forms := true }, { op := 0x0405 }, { op := 0x0403, need := .orDevice }] : List Row),
      live.runs (hdr 0xFF 0) r) ∧
    (inHost hostFirst 23168 = true ∧ hostFirst % 64 = 0 ∧ (live.takeCmd 5 0x0502).health.loupe = [] ∧
      (live.takeCmd 5 0x0504).health.rotation = none ∧ bitOf (hdr 0xFF 0).flags.toNat 0 = false) ∧
    (let u := live.takeCmd 5 0x0506
     u.hState 255 ≠ 3 ∧ ((u.abandonTest 255).testsDone false).workOn 255 = none) ∧
    (let u := (live.setFld (HLTH_TILE 255) HLTH_TILE.state 3).takeCmd 5 0x0507
     u.hState 255 = 3 ∧ u.bit (HLTH_TILE 255) HLTH_TILE.permanent = false ∧ u.inLoupe 255 = false ∧ u.lease 255 = none) ∧
    (∀ p < 256, (live.takeCmd 5 0x0508).hState p ≠ 1) ∧
    (((live.takeCmd 5 0x0401).findSpace 2 (1 * pageBytes)).isSome = true) ∧
    (let s : State := { live with allocs := [{ addr := lpFirst, bytes := pageBytes, owner := 16 }] }
     ((s.takeCmd 5 0x0402).allocs.find? (fun y => y.addr == lpFirst && !y.created)).map (fun x => (x.owner, x.range.isNone)) =
       some (16, true)) ∧
    (((live.setBit (XE_ENG_STATUS 0 8) XE_ENG_STATUS.halted true).takeCmd 5 0x0405).bit (XE_ENG_STATUS 0 8) XE_ENG_STATUS.halted = true ∧ (24#8).toNat < 32 ∧ 8 ≤ (24#8).toNat % 16 ∧
      ((nxt (.xeEngResume 1 8) live).takeCmd 5 0x0404).bit (XE_ENG_STATUS 1 8) XE_ENG_STATUS.halted = false) ∧
    (let s : State := { live.setBit (XE_ENG_STATUS 0 8) XE_ENG_STATUS.halted true with
       allocs := [{ addr := lpFirst + 2 ^ 21, bytes := 2 ^ 24, owner := 16 }] }
     (s.takeCmd 5 0x0403).bit (XE_ENG_STATUS 0 8) XE_ENG_STATUS.halted = true ∧
       (s.takeCmd 5 0x0403).ringOk 16 (lpFirst + 2 ^ 21) (128 + 2 ^ 16 * 64) = true ∧
       (s.takeCmd 5 0x0403).ringOk 16 (lpFirst + 2 ^ 23) (128 + 2 ^ 16 * 32) = true) := by
  unfold State.runs
  refine ⟨?_, ?_, ?_, ?_, ?_, ?_, ?_, ?_, ?_⟩ <;> decide +kernel

theorem witness_LinkAndSecurityCommands :
    (∀ r ∈ ([{ op := 0x0A01 }, { op := 0x0701, need := .orDevice, served := true }, { op := 0x0703 }] : List Row),
      live.runs (hdr 0xFF 0) r) ∧
    ((live.takeCmd 5 0x0A01).lnState 11 = 0 ∧ (live.takeCmd 5 0x0A01).lnWidth 11 ≠ none ∧
      ((live.setFld (LN_STATUS 11) LN_STATUS.state 6).takeCmd 5 0x0A01).lnState 11 = 6) ∧
    (let s := live.setFld (LN_STATUS 11) LN_STATUS.state 3
     s.runs (hdr 0xFF 0) { op := 0x0A02, forms := true } ∧ (s.takeCmd 5 0x0A02).lnState 11 ≠ 0 ∧
       (s.takeCmd 5 0x0A02).lnUp 11 = true) ∧
    (let s := ((ctxIn 3).setFld (LN_STATUS 11) LN_STATUS.state 3).setBit (XE_VMAP 0 0 255) XE_VMAP.valid true
     let v := s.takeCmd 5 0x0A04
     s.runs (hdr 0 0) { op := 0x0A04, need := .exists } ∧ v.cState 0 = 3 ∧
       ((v.ctx 0).plate.remotes.filter (fun r => r.role == 1)).all (fun r => v.lnState (nibble r.nibbles 0) == 3) = true ∧
       (v.joinOf 0).isNone = true ∧ v.sb.estop = false ∧ v.bit (XE_VMAP 0 0 255) XE_VMAP.valid = true ∧ v.lnState 11 = 3) ∧
    ((live.takeCmd 5 0x0701).bit SEC_STATUS SEC_STATUS.exhausted = false ∧ aligned64 hostFirst = true) ∧
    (let s := ((ctxIn 1).setBit (SCU_CTX_STATE 0) SCU_CTX_STATE.confidential true).setBytes hostFirst [0x55, 0x52, 0x4B, 0x4B, 1, 0, 0, 0]
     let v := s.takeCmd 5 0x0702
     let b := v.bytes hostFirst 1692
     s.runs (hdr 0 0) { op := 0x0702, need := .exists } ∧ inHost hostFirst 1692 = true ∧ ofBytes (b.take 4) = 0x4B4B5255 ∧
       ofBytes ((b.drop 4).take 2) = 1 ∧ ofBytes ((b.drop 6).take 2) = 0 ∧ v.isConf 0 = true ∧
       ofBytes ((b.drop 0x30).take 16) = 0 ∧ v.cState 0 = 1) ∧
    (let v := live.takeCmd 5 0x0703
     let key := v.bytes (hostFirst + 4) 60
     inHost hostFirst 64 = true ∧ v.num hostFirst 4 = 0 ∧ v.slotOfKey key = none ∧ v.emptySlot = some 0) ∧
    (let s : State := { live.setBytes hostFirst [1] with enrolled := [List.replicate 60 0] }
     let v := s.takeCmd 5 0x0703
     let key := v.bytes (hostFirst + 4) 60
     v.num hostFirst 4 = 1 ∧ v.slotOfKey key = some 0 ∧ v.keyNamed key = false) := by
  unfold State.runs
  refine ⟨?_, ?_, ?_, ?_, ?_, ?_, ?_, ?_⟩ <;> decide +kernel
theorem witness_ContextEvents :
    (let s := ctxIn 5
     s.cState 0 = 5 ∧ s.fld (SCU_CTX_STATE 0) SCU_CTX_STATE.stop_mode = 0 ∧ s.ctxEmpty 0 = true ∧ (s.ctx 0).after ≠ .reconfigure ∧
       (s.ctx 0).drainAgain = false) ∧
    (((ctxIn 5).setCtx 0 { after := .reconfigure }).ctx 0).after = .reconfigure ∧
    (let s := (ctxIn 5).setFld TB_COUNT TB_COUNT.count 1000000000
     s.drainLimit 0 ≤ s.tb ∧ s.drainLimit 0 + 100000 ≤ s.tb) ∧
    ((ctxIn 5).tb < (ctxIn 5).drainLimit 0) ∧
    (((ctxIn 5).setCtx 0 { drainAgain := true }).ctx 0).drainAgain = true ∧
    (((ctxIn 2).setCtx 0 { plate := { proof := sha256 [] } }).cState 0 = 2 ∧
      (((ctxIn 2).setCtx 0 { plate := { proof := sha256 [] } }).digestBad 0).isNone = true ∧ ((ctxIn 2).digestBad 0).isSome = true) ∧ ((ctxIn 7).cState 0 = 7 ∧ (ctxIn 7).waiting = []) ∧
    (ctxIn 1).cState 0 = 1 ∧
    (let s := st [(SCU_PROOF_STATUS 0, SCU_PROOF_STATUS.round_active, 1)]
     s.bit (SCU_PROOF_STATUS 0) SCU_PROOF_STATUS.round_active = true ∧ (s.ctx 0).pendingHashes = [] ∧
       ((s.finishRound 0).ctx 0).roundQueued = false) ∧
    State.reset.bit (SCU_PROOF_STATUS 0) SCU_PROOF_STATUS.round_active = false := by
  refine ⟨?_, ?_, ?_, ?_, ?_, ?_, ?_, ?_, ?_, ?_⟩ <;> decide +kernel

theorem witness_Resets :
    State.reset.inReset = false ∧ (st [(SCU_RESET_STATUS, SCU_RESET_STATUS.step, 1)]).inReset = true ∧
    State.reset.boot.powered = true ∧ State.reset.clocked = true ∧
    (let s := st [(SCU_WDT_STATUS, SCU_WDT_STATUS.stub_active, 1), (TB_COUNT, TB_COUNT.count, 10000000)]
     s.bit SCU_WDT_STATUS SCU_WDT_STATUS.stub_active = true ∧ s.wdt.firedAt + 10000000 ≤ s.tb ∧ s.sheetState ≠ 1) ∧
    (st [(PWR_STATUS, PWR_STATUS.state, 4)]).clocked = false ∧
    (let s := st [(SCU_WDT_STATUS, SCU_WDT_STATUS.armed, 1), (SCU_BOOT_STATUS, SCU_BOOT_STATUS.stage, 9), (TB_COUNT, TB_COUNT.count, 2000000)]
     s.bit SCU_WDT_STATUS SCU_WDT_STATUS.armed = true ∧ s.fwUp = true ∧ s.clocked = true ∧ s.wdt.lastWrite + 2000000 ≤ s.tb) ∧
    State.reset.tb < State.reset.wdt.lastWrite + 2000000 ∧
    sha256 State.reset.fwCopy ≠ State.reset.digestAt SEC_FW_MEAS ∧
    (let s := State.reset.setDigestRegs SEC_FW_MEAS (sha256 [])
     sha256 s.fwCopy = s.digestAt SEC_FW_MEAS) ∧
    State.reset.bit SCU_WDT_STATUS SCU_WDT_STATUS.stub_active = false ∧ State.reset.fwUp = false := by
  refine ⟨?_, ?_, ?_, ?_, ?_, ?_, ?_, ?_, ?_, ?_, ?_, ?_⟩ <;> decide +kernel

theorem witness_BootAndInput :
    ({ boot := { powered := false } } : State).boot.powered = false ∧ 40000 ≤ min 40000 52000 ∧ min 52000 65535 ≤ 52000 ∧
    min 39999 65535 < 40000 ∧ 52000 < min 52001 65535 ∧ State.reset.boot.powered = true ∧
    (let s := st [(PWR_INPUT, PWR_INPUT.uv_warn, 0)]
     s.bit PWR_INPUT PWR_INPUT.uv_warn = false ∧ s.bit PWR_INPUT PWR_INPUT.ov_warn = false) ∧
    (let s : State := { st [(TB_COUNT, TB_COUNT.count, 5000)] with power := { badSince := some 0 } }
     s.power.badSince = some 0 ∧ 0 + 5000 ≤ s.tb) ∧ State.reset.tb < 0 + 5000 ∧
    (let s := st [(SCU_BOOT_STATUS, SCU_BOOT_STATUS.stage, 1)]
     s.boot.resetHeld = false ∧ s.stage = 1 ∧ s.fld PWR_STATUS PWR_STATUS.state ≠ 4) ∧
    (let s : State := { st [(SCU_BOOT_STATUS, SCU_BOOT_STATUS.stage, 6)] with
       boot := { mailbox := 1 }, tl := { fired := [requestLine] } }
     s.stage = 6 ∧ s.boot.mailbox = 1 ∧ s.tl.fired.contains requestLine = true ∧ (s.unfire requestLine).num requestLine 8 = 0) ∧
    (let s := st [(SCU_BOOT_STATUS, SCU_BOOT_STATUS.stage, 8), (TB_COUNT, TB_COUNT.count, 200000000)]
     s.stage = 8 ∧ s.sb.estopHeld = false ∧ s.boot.fwFrom + 200000000 ≤ s.tb ∧ s.stage ≠ 6) ∧
    (st [(SCU_BOOT_STATUS, SCU_BOOT_STATUS.stage, 9)]).stage ≠ 8 := by
  refine ⟨?_, ?_, ?_, ?_, ?_, ?_, ?_, ?_, ?_, ?_, ?_, ?_, ?_⟩ <;> decide +kernel

theorem witness_PowerEvents :
    (st [(PWR_STATUS, PWR_STATUS.state, 4)]).clocked = false ∧ State.reset.clocked = true ∧
    0 ≤ State.reset.fld PWR_CFG PWR_CFG.limit_w ∧
    (let s := st [(PWR_CFG, PWR_CFG.limit_w, 10), (PWR_GATE, PWR_GATE.host_gate, 64), (PWR_GATE, PWR_GATE.unprot_gate, 64)]
     s.fld PWR_CFG PWR_CFG.limit_w < 11 ∧ s.gatesShut = false ∧ s.fld PWR_GATE PWR_GATE.host_gate ≠ 0) ∧
    (let s := st [(PWR_CFG, PWR_CFG.limit_w, 10), (PWR_GATE, PWR_GATE.host_gate, 0), (PWR_GATE, PWR_GATE.unprot_gate, 1)]
     s.fld PWR_GATE PWR_GATE.host_gate = 0 ∧ s.fld PWR_GATE PWR_GATE.unprot_gate ≠ 0) ∧
    (let s : State := { st [(TB_COUNT, TB_COUNT.count, 100000)] with power := { overSince := some 0, hotSince := some 0 } }
     s.power.overSince = some 0 ∧ s.bit PWR_STATUS PWR_STATUS.over_limit = false ∧ 0 + 100000 ≤ s.tb ∧
       s.power.hotSince = some 0 ∧ s.bit PWR_STATUS PWR_STATUS.emergency = false) ∧
    (let s : State := { st [(TB_COUNT, TB_COUNT.count, 100000000), (PWR_STATUS, PWR_STATUS.over_limit, 1),
         (PWR_STATUS, PWR_STATUS.emergency, 1)] with power := { fullSince := some 0, coolSince := some 0 } }
     s.power.fullSince = some 0 ∧ s.bit PWR_STATUS PWR_STATUS.over_limit = true ∧ s.protFull = true ∧ 0 + 100000000 ≤ s.tb ∧
       s.power.coolSince = some 0 ∧ s.bit PWR_STATUS PWR_STATUS.emergency = true ∧ s.bit PWR_STATUS PWR_STATUS.trip = false) ∧
    State.reset.power.overSince = none ∧ State.reset.power.fullSince = none := by
  refine ⟨?_, ?_, ?_, ?_, ?_, ?_, ?_, ?_, ?_⟩ <;> decide +kernel

theorem witness_TimeEvents :
    State.reset.time.slew = 0 ∧
    (∀ x ∈ [(10 : Int), -10], let s : State := { st [(TB_COUNT, TB_COUNT.count, 10000)] with time := { slew := x, calSlew := 10 } }
      s.time.slewAt + 10000 ≤ s.tb ∧ (10 ≤ s.time.slew ∨ s.time.slew ≤ -10) ∧ s.time.calAt + 2000 ≤ s.tb ∧ 10 ≤ s.time.calSlew ∧
        s.fld CAL_NS CAL_NS.ns + 10 < 1000000000) ∧
    State.reset.time.calSlew = 0 ∧ State.reset.bit TB_SYNC_CFG TB_SYNC_CFG.enable = false ∧
    ((st [(TB_SYNC_CFG, TB_SYNC_CFG.enable, 1)]).bit TB_SYNC_CFG TB_SYNC_CFG.enable = true ∧ State.reset.time.align.isNone = true) ∧
    (let s : State := { st [(TB_COUNT, TB_COUNT.count, 200000000)] with time := { align := some { source := 16 } } }
     s.time.align.map (fun a => (a.source, decide (a.tb + 200000000 ≤ s.tb))) = some (16, true)) := by
  refine ⟨?_, ?_, ?_, ?_, ?_, ?_⟩ <;> decide +kernel

theorem witness_SamplerAndRegisterWrites :
    ((st [(SMP_STATUS, SMP_STATUS.running, 1)]).bit SMP_STATUS SMP_STATUS.running = true ∧ State.reset.restricted = false ∧
      State.reset.bit SMP_STATUS SMP_STATUS.running = false) ∧
    (let s := (st [(SMP_STATUS, SMP_STATUS.running, 1), (SMP_RING, SMP_RING.base, lpFirst), (SMP_CFG, SMP_CFG.mode, 0)])
     let b := s.fld SMP_RING SMP_RING.base
     let used := min (2 ^ s.fld SMP_RING SMP_RING.log2_depth) (unread (s.modNum b 8) (seenIndex (s.num (b + 64) 8) (s.modNum b 8) s.smp.seen))
     s.smp.t0 + s.smp.k * s.fld SMP_CFG SMP_CFG.interval ≤ s.tb ∧
       used + s.smpSels.length ≤ 2 ^ s.fld SMP_RING SMP_RING.log2_depth) ∧
    (let s := (st [(SMP_STATUS, SMP_STATUS.running, 1), (SMP_RING, SMP_RING.base, lpFirst), (SMP_CFG, SMP_CFG.mode, 0),
         (SMP_RING, SMP_RING.log2_depth, 0), (SMP_SEL 0, SMP_SEL.valid, 1), (SMP_SEL 1, SMP_SEL.valid, 1)])
     let b := s.fld SMP_RING SMP_RING.base
     let used := min (2 ^ s.fld SMP_RING SMP_RING.log2_depth) (unread (s.modNum b 8) (seenIndex (s.num (b + 64) 8) (s.modNum b 8) s.smp.seen))
     2 ^ s.fld SMP_RING SMP_RING.log2_depth < used + s.smpSels.length ∧ s.bit SMP_CFG SMP_CFG.mode = false) ∧
    ((1#52).toNat % 8 ≠ 0 ∧ descOf 0 = none ∧ (8#52).toNat % 8 = 0 ∧ State.reset.sec.queue.length = 0) ∧
    (let s : State := { sec := { queue := [{}] } }
     s.sec.queue.length = 1 ∧ s.bit SEC_STATUS SEC_STATUS.exhausted = false ∧ s.maySign = true ∧
       s.fld SEC_LEAVES_RESV SEC_LEAVES_RESV.reserved_end ≤ s.fld SEC_LEAVES_USED SEC_LEAVES_USED.used ∧
       (s.sec.queue.map (fun r => r.handshake)) = [false]) ∧
    (let s : State := { sec := { queue := [{}], signTimes := List.replicate 100 0 } }
     s.maySign = false) ∧
    State.reset.takesCommands = false ∧ live.takesCommands = true := by
  refine ⟨?_, ?_, ?_, ?_, ?_, ?_, ?_, ?_⟩ <;> decide +kernel

/-- A port with a state of its own. -/
def port (n v : Nat) (p : Port) : State := (st [(LN_STATUS n, LN_STATUS.state, v), (TB_COUNT, TB_COUNT.count, 100000000000)]).setPort n p

theorem witness_LinkFrames :
    ((port 11 3 {}).lnUp 11 = true ∧ fWhole [0x30] = false ∧ fWhole [] = false ∧
      fKind [BitVec.ofNat 8 fKEEPALIVE] = fKEEPALIVE ∧ fWhole [BitVec.ofNat 8 fKEEPALIVE] = false ∧
      ((port 11 3 {}).port 11).authTimes.length = 0 ∧
      (port 11 3 {}).fld (LN_AUTH 11) LN_AUTH.auth_failures + 1 < 2 ^ LN_AUTH.auth_failures.width) ∧
    (fKind [BitVec.ofNat 8 fTBRSP] = fTBRSP ∧ (port 11 4 {}).time.align.isNone = true ∧ fKind [BitVec.ofNat 8 fJOINDATA] = fJOINDATA ∧
      (port 11 4 {}).joins.length = 0 ∧ fKind [0] ≠ fKEEPALIVE) ∧
    State.reset.lnUp 0 = false := by
  refine ⟨?_, ?_, ?_⟩ <;> decide +kernel

theorem witness_LinkEvents :
    (let s := port 11 1 {}
     s.lnState 11 = 1 ∧ (s.port 11).since + s.fld (LN_TIMERS 11) LN_TIMERS.train_timeout_ms * 100000 ≤ s.tb ∧ s.lnState 11 ≠ 0) ∧
    (let s := port 11 4 { stalled := [none, none, none, some 0] }
     s.lnUp 11 = true ∧ (s.port 11).lastAuth + s.fld (LN_TIMERS 11) LN_TIMERS.keepalive_timeout_us * 100 ≤ s.tb ∧
       some 0 ∈ (s.port 11).stalled ∧ 0 + s.fld (LN_TIMERS 11) LN_TIMERS.credit_timeout_ms * 100000 ≤ s.tb ∧ s.lnState 11 = 4 ∧
       (s.port 11).hs.tb + 20000000 ≤ s.tb) ∧
    State.reset.lnState 0 = 0 ∧
    (∀ k ∈ [1, 2], let s := port 0 2 { hsFails := k }
      s.lnState 0 = 2 ∧ (s.port 0).hs.tb + 20000000 ≤ s.tb ∧ (s.port 0).hsFails = k) ∧
    (let s := port 0 5 {}
     s.lnState 0 = 5 ∧ (s.port 0).since + 100000000 ≤ s.tb ∧ (s.port 0).draining = false) ∧
    (let s := port 0 3 {}
     s.lnUp 0 = true ∧ (s.port 0).lastSent + 1000 ≤ s.tb ∧ (s.port 0).failedReplays < 8 ∧
       (∀ b ∈ (s.port 0).retrains, b + 100000000 ≤ s.tb) ∧ (s.port 0).queue.length = 0 ∧ (s.port 0).draining = false ∧
       (s.port 0).credits.length = 4 ∧ s.lnState 0 = 3) ∧
    (let s := port 0 3 { lastSent := 100000000000, retrains := [100000000000, 100000000000] }
     s.tb < (s.port 0).lastSent + 1000 ∧ (s.port 0).retrains = [100000000000, 100000000000] ∧
       s.tb < 100000000000 + 100000000) ∧
    (let s := port 0 3 { draining := true }
     (s.port 0).draining = true ∧ (s.port 0).drainFrom + max 1 (s.fld (LN_CTRL 0) LN_CTRL.drain_timeout_ms) * 100000 ≤ s.tb) ∧
    ((st [(LN_TX_CTR 0, LN_TX_CTR.counter, 2 ^ 40)]).rekeyDue 0 = true ∧ (port 0 3 { keyFrom := 100000000000 }).rekeyDue 0 = false) := by
  refine ⟨?_, ?_, ?_, ?_, ?_, ?_, ?_, ?_, ?_⟩ <;> decide +kernel

/-- A frame of a kind with no payload, its tag of zeros, in part 0 of 1. -/
def frame (kind : Nat) : LnFrame := ({ kind := kind, parts := 1 } : LnHdr).frame (List.replicate 16 0) |>.set 22 0

theorem witness_LinkHandshakesAndProxies :
    (let s := port 0 2 { hs := { active := true } }
     s.lnState 0 = 2 ∧ (s.port 0).hs.active = true ∧ fWhole (frame fHELLO) = true ∧ fKind (frame fHELLO) = fHELLO ∧
       (s.port 0).hs.haveHello = false ∧ fNum (frame fHELLO) 45 1 = 0 ∧ fNum (frame fHELLO) 46 1 = 1 ∧ (s.port 0).hs.parts.length = 0) ∧
    (let s := port 0 2 { hs := { active := true, haveHello := true, digest := [1] } }
     (s.port 0).hs.haveHello = true ∧ fKind (frame fKEM) = fKEM ∧ fWhole (frame fKEM) = true ∧ fKind (frame fSIGN) = fSIGN ∧
       fWhole (frame fSIGN) = true ∧ fKind (frame fFINISHED) = fFINISHED ∧ (s.port 0).hs.digest ≠ []) ∧
    ((port 0 2 {}).port 0).hs.digest.length = 0 ∧ State.reset.lnState 0 ≠ 2 ∧
    ((port 0 3 {}).lnUp 0 = true ∧ fRouted [1, 0, 1, 2] = true ∧ fFinal [1, 0, 1, 2] = false ∧ fRouted [1, 0, 1, 1] = true ∧
      fKind [1, 0, 1, 1] ≠ fCREDIT ∧ fFinal [1, 0, 1, 1] = true ∧ fKind [BitVec.ofNat 8 fCREDIT, 0, 1, 1] = fCREDIT ∧
      fFinal [BitVec.ofNat 8 fCREDIT, 0, 1, 1] = true) ∧
    ((State.reset.eg 127).buf.length = 0) ∧
    (let s := (port 0 3 {}).setEg 0 { buf := [({}, 0)] }
     (s.eg 0).buf.length = 1 ∧ s.fld (LN_EGRESS_W3 0 0) LN_EGRESS_W3.credits < ({} : Msg).units ∧ s.egPort 0 0 = 0) ∧
    (let s := ((port 0 3 {}).setEg 0 { buf := [({}, 0)] }).setFld (LN_EGRESS_W3 0 0) LN_EGRESS_W3.credits 200
     s.lnUp (s.egPort 0 0) = true ∧ (s.port (s.egPort 0 0)).draining = false ∧
       ({} : Msg).units ≤ s.fld (LN_EGRESS_W3 0 0) LN_EGRESS_W3.credits) ∧
    (State.reset.joinOf 15).isNone = true ∧
    (let s : State := { joins := [(15, { imported := false })] }
     (s.joinOf 15).map (fun x => x.imported) = some false) ∧
    (let s : State := { joins := [(15, { imported := true })] }
     (s.joinOf 15).map (fun x => (x.imported, s.joinReached 15 x)) = some (true, true) ∧ s.health.heals.length = 0 ∧
       s.waiting.length = 0) := by
  refine ⟨?_, ?_, ?_, ?_, ?_, ?_, ?_, ?_, ?_, ?_, ?_⟩ <;> decide +kernel

theorem witness_SidebandReads : State.reset.boot.powered = true ∧ ({ boot := { powered := false } } : State).boot.powered = false :=
  ⟨rfl, rfl⟩

theorem witness_SidebandWrites :
    (State.reset.boot.powered = true ∧ (0 : BitVec 8) ≠ 0xE5 ∧ (0 : BitVec 8) ≠ 0x5E ∧ (1 : BitVec 8) ≠ 0 ∧
      State.reset.sb.estop = false ∧ State.reset.takesCommands = false) ∧
    (live.boot.powered = true ∧ live.sb.estop = false ∧ live.takesCommands = true ∧ live.inReset = false ∧ live.stage = 9 ∧
      live.bit SCU_CMD_STATUS SCU_CMD_STATUS.out_of_service = false) ∧
    State.reset.stage ≠ 9 ∧
    (bits (8#8).toNat 0 3 = 0 ∧ (st [(PWR_STATUS, PWR_STATUS.state, 3)]).fld PWR_STATUS PWR_STATUS.state = 3) ∧
    (bits (5#8).toNat 0 3 ≠ 0 ∧ live.sbRefused (bits (5#8).toNat 0 3) = true) ∧
    (bits (1#8).toNat 0 3 ≠ 0 ∧ live.sbRefused (bits (1#8).toNat 0 3) = false ∧ live.power.target = none) ∧
    (let s : State := { live with power := { target := some (1, 0) } }
     s.sbRefused 1 = false ∧ s.power.target = some (1, 0) ∧ bits (1#8).toNat 3 1 = 0) := by
  refine ⟨?_, ?_, ?_, ?_, ?_, ?_, ?_⟩ <;> decide +kernel

theorem witness_TapInstructions :
    State.reset.boot.powered = true ∧ (st [(SEC_AON, SEC_AON.dirty, 1)]).tapRestricted = true ∧ State.reset.mayDrive = false ∧
    State.reset.tapRestricted = false ∧ ({ boot := { resetHeld := true } } : State).boot.resetHeld = true ∧
    (State.reset.inReset = false ∧ State.reset.boot.resetHeld = false ∧ State.reset.clocked = true ∧
      State.reset.debugReaches (BitVec.ofNat 52 PWR_CFG).toNat = true) ∧
    ({ boot := { powered := false } } : State).boot.powered = false := by
  refine ⟨?_, ?_, ?_, ?_, ?_, ?_, ?_⟩ <;> decide +kernel
/-- `served` with virtual tile 0 placed on tile 0, its region 0 the ingest region. -/
def gathers : State :=
  let s := (served.setBit (SCU_CTX_PLACE 0 0) SCU_CTX_PLACE.valid true).setFld (RGN_CFG 0 0) RGN_CFG.mode 2
  s.setFld (RGN_CFG 0 0) RGN_CFG.size_4k 1

theorem witness_StreamEvents :
    (let s := served.setCtx 0 { streams := [(4095, { gen := 1, phase := 1, shadow := true })] }
     s.cState 0 = 4 ∧ (s.currentId 0 4095).isSome = true ∧ (s.slotOf 0 4095).shadow = true) ∧
    (ctxIn 1).cState 0 ≠ 4 ∧
    (gathers.gatherDue 0 = some 0 ∧ gathers.fenced 0 = false ∧ (gathers.gatherAll 0 0).isSome = true) ∧
    (ctxIn 1).gatherDue 0 = none ∧
    ((arrived 256 { kind := kData, destTile := 256 } served).arrivedFor 256 [kData, kToken]
      (fun m => served.isOutput m)).map (fun e => e.2.msg.kind) = some kData ∧
    (∀ b ∈ [false, true], let s := live.setCtx 0 { streams := [(0, { phase := 2, eosBack := b })] }
      (s.slotOf 0 0).phase = 2 ∧ s.slotClosed 0 0 = true ∧ (s.slotOf 0 0).eosBack = b ∧ s.tb < s.endLimit 0 0) ∧
    (let s := (live.setCtx 0 { streams := [(0, { phase := 3 })] }).setFld TB_COUNT TB_COUNT.count 1000000000
     (s.slotOf 0 0).phase = 3 ∧ s.slotClosed 0 0 = true ∧ (s.slotOf 0 0).eosBack = false ∧ s.endLimit 0 0 ≤ s.tb) := by
  refine ⟨?_, ?_, ?_, ?_, ?_, ?_, ?_⟩ <;> decide +kernel

/-- A running context 0 whose virtual tile 0 stood on tile 5, and tile 9 GOOD. -/
def failing : State :=
  let s := ((ctxIn 4).setFld (HLTH_TILE 9) HLTH_TILE.state 1).setBit HLTH_CFG HLTH_CFG.rotation_en true
  { s with health := { heals := [{ ctx := 0, vtile := 0, tile := 5 }] } }

theorem witness_HealthEvents :
    ({ signals := [{}] } : State).signals.length = 1 ∧ State.reset.signals.length = 0 ∧
    (let s := st [(TILE_WD_CFG 255, TILE_WD_CFG.wd_en, 1)]
     s.bit (TILE_WD_CFG 255) TILE_WD_CFG.wd_en = true ∧ s.fenced 255 = false ∧ s.unitWaiting 255 7 = false) ∧
    ((failing.health.heals.find? (fun h => h.ctx == 0 && h.vtile == 0 && h.target.isNone)).isSome = true ∧
      failing.healTarget 0 0 false = some 9 ∧ ((failing.endLost 0 0).moveWork 0 0 5 9 false false).isRight = true) ∧
    (let s : State := { live with health := { heals := [{ target := some 9 }] } }
     s.health.heals.map (fun h => (h.ctx, h.target.isSome)) = [(0, true)]) ∧
    (let s : State := { failing with health := {} }
     s.fwUp = true ∧ s.bit HLTH_CFG HLTH_CFG.rotation_en = true ∧ s.bit HLTH_CFG HLTH_CFG.paused = false ∧
       s.health.loupe.length = 0 ∧ s.health.rotation.isNone = true ∧ s.health.loupe.countP (fun x => x.running) < 4) ∧
    (let s : State := { live with health := { overdue := List.range 256 } }
     ∀ q < 256, s.hState q = 3 ∨ s.health.overdue.contains q = true) ∧
    (let s := st [(TILE_FENCE 255, TILE_FENCE.fenced, 1), (TILE_CTX 255, TILE_CTX.leased, 1), (SCU_CTX_STATE 0, SCU_CTX_STATE.confidential, 1)]
     s.fenced 255 = true ∧ s.lease 255 = some 0 ∧ s.isConf 0 = true) ∧
    State.reset.fenced 255 = false := by
  refine ⟨?_, ?_, ?_, ?_, ?_, ?_, ?_, ?_, ?_⟩ <;> decide +kernel

/-! ## Well-formed commands: an ill-formed term for each check -/

theorem test_wf_ecc : (Instr.agAccess 0 0 (.ue 0)).wf = false ∧ (Instr.agAccess 0 0 (.ue 1)).wf = true := by decide

theorem test_wf_frame : (Instr.hello 0 []).wf = false ∧ (Instr.hello 0 (List.replicate 79 0)).wf = false ∧
    (Instr.hello 0 (List.replicate 80 0)).wf = true := by decide +kernel

theorem test_wf_frame_long : frameWf (List.replicate 8273 0) = false := by decide +kernel

theorem test_wf_rekey : (Instr.rekey 0 (some [])).wf = false ∧ (Instr.rekey 0 none).wf = true := by decide

theorem test_wf_route : (Instr.vcmMgmt 0 0x4000000000000000 0).wf = false ∧ (Instr.vcmMgmt 0 0x8000000000000003 0).wf = true := by
  decide

/-! ## Worked examples of the spec -/

/-- The addresses of tile 217 (01_architecture.md, worked example). -/
theorem test_tile_217 : tsBase 217 = 0x0203_6400_0000 ∧ osBase 217 = 0x0210_06C8_0000 ∧ ME_ID 217 = 0x0280_00D9_1000 := by decide

/-- One MXFP4 block (02_matrix_engine.md, worked example): the block sum is 97 units of 2^-2. -/
theorem test_block_sum :
    let w : List Int := [3, -1, 12, 0, 4, -6, 1, 8]
    let x : List Int := [4, 2, -1, 6, 3, 1, -12, 2, 1, 1, 2, -2, 8, 0, 4, -1, -3, 12, 1, 4, -4, -2, 6, 12, 2, -6, 0, 1, -3, 4, 2, -4]
    blockSums ((w ++ w ++ w ++ w).map (fun v => [ofIntVal v (-1)])) (x.map (fun v => ofIntVal v (-1))) 1 0 =
      [ofIntVal 97 (-2)] := by decide +kernel

/-- The pass of that example: 16,777,265.25 rounds to 0x4B80_0019. -/
theorem test_pass_rounds : rnFP32 false 67109061 (-2) = 0x4B800019 := by decide +kernel

/-- One block packed to MXFP4 (03_vector_and_steering.md, worked example). -/
theorem test_pack_mxfp4 :
    let v := ([(false, 130), (true, 46), (false, 25), (false, 7), (true, 2), (false, 90), (false, 50), (false, 5)].map
      (fun (x : Bool × Nat) => toFP32 (.fin x.1 (x.2 * 13107) (-17))) ++ List.replicate 24 0).map fp32
    (mxBlock 0 (List.replicate 32 .rne) v).1 = 128 ∧
      (mxBlock 0 (List.replicate 32 .rne) v).2.1.take 8 = [7, 12, 2, 1, 8, 6, 4, 0] := by decide +kernel

/-- One combine in two orders (06_channels_and_sync.md, worked example). -/
theorem test_combine_orders : fpAdd (fpAdd (fpAdd 0x4B800000 0x3F800000) 0xCB800000) 0x3F800000 = 0x3F800000 ∧
    fpAdd (fpAdd (fpAdd 0x4B800000 0xCB800000) 0x3F800000) 0x3F800000 = 0x40000000 := by decide +kernel

/-- A 64 KiB stride under preset 1 (04_tile_memory.md, worked example). -/
theorem test_preset_1 : State.reset.bankUnder 0 1 0x400000 = 16 ∧ State.reset.bankUnder 0 1 0x410000 = 0 ∧
    State.reset.bankUnder 0 0 0x410000 = 0 := by decide +kernel

/-- One address in both modes (11_external_memory.md, worked example). -/
theorem test_hbm_modes : State.reset.hbmAddr 7 0x2468AC890 = 0x1234567890 ∧
    (st [(HBM_ILV, HBM_ILV.mode, 1)]).hbmAddr 0 0x1234567890 = 0x1234567890 := by decide +kernel

/-- A 16 KiB RECEIVE ring with head 4,096 and tail 14,336 (04_tile_memory.md, worked example). -/
def ring : State := st [(RGN_CFG 0 0, RGN_CFG.size_4k, 4), (RGN_CFG 0 0, RGN_CFG.mode, 2), (RGN_CFG 0 0, RGN_CFG.max_msg_64, 64),
  (RGN_HEAD 0 0, RGN_HEAD.pointer, 4096), (RGN_READ 0 0, RGN_READ.pointer, 4096), (RGN_TAIL 0 0, RGN_TAIL.pointer, 14336),
  (RGN_OFFS 0 0, RGN_OFFS.head_off, 4096), (RGN_OFFS 0 0, RGN_OFFS.tail_off, 14336), (RGN_STATUS 0 0, RGN_STATUS.read_off, 4096)]

theorem test_skip_record :
    (match ring.place 0 0 0 0 {} (List.replicate 3000 0) with
     | .ok t off => off == 0 && t.rTailOff 0 0 == 3072 &&
        (match t.place 0 0 0 0 {} (List.replicate 1500 0) with | .noRoom _ => true | _ => false)
     | _ => false) = true := by decide +kernel

/-! ## Known answers of the hashes -/

theorem test_sha256 : ofBytes ((sha256 [0x61, 0x62, 0x63]).take 4) = 0xBF1678BA := by decide +kernel

theorem test_crc32c : crc32c [0x31, 0x32, 0x33, 0x34, 0x35, 0x36, 0x37, 0x38, 0x39] = 0xE3069283 := by decide +kernel

/-! ## Single steps -/

/-- R189: an add wraps mod 2^64 and sets the wrapped bit. -/
theorem test_add_wraps :
    let s := st [(SYNC_EN 3, SYNC_EN.enable, 4), (SYNC_CNT 3 2, SYNC_CNT.value, 2 ^ 64 - 2)]
    (nxt (.syncAdd 3 2 5) s).fld (SYNC_CNT 3 2) SYNC_CNT.value = 3 := by decide +kernel

/-- R119: a written pointer sets its offset mod the size. -/
theorem test_rgn_head : (nxt (.rgnWrite 1 2 1 4100) (st [(RGN_CFG 1 2, RGN_CFG.size_4k, 1)])).fld (RGN_OFFS 1 2) RGN_OFFS.head_off = 4 := by
  decide +kernel

/-- R262: a fenced tile keeps its first cause. -/
theorem test_fence_keeps : (nxt (.tileFenceReq 9 4) (nxt (.tileFenceReq 9 2) State.reset)).fld (TILE_FENCE 9) TILE_FENCE.cause = 2 := by
  decide +kernel

/-- R66: ABORT halts an engine at once. -/
theorem test_abort : (nxt (.meHaltReq 8 1) State.reset).isHalted (haltMe 8) = true ∧
    (nxt (.meHaltReq 8 1) State.reset).isHalted (haltMe 9) = false := by decide +kernel

/-- R120: a pushed header stands at tail, and pops in order. -/
theorem test_push :
    let s := nxt (.queuePush 5 6 0x12340000000000000001) (st [(RGN_CFG 5 6, RGN_CFG.mode, 1), (RGN_CFG 5 6, RGN_CFG.size_4k, 1)])
    s.fld (RGN_OFFS 5 6) RGN_OFFS.tail_off = 16 ∧ s.byte (tsBase 5 + 8) = 0x34 ∧ s.byte (tsBase 5 + 9) = 0x12 := by decide +kernel

/-- R452, R455 (log 1): one cycle on an empty queue. -/
theorem test_tick : State.reset.tick.fld TB_COUNT TB_COUNT.count = 1 ∧ State.reset.tick.fld CAL_NS CAL_NS.ns = 10 := by decide +kernel

/-- R7: a write of a read-only register has no effect. -/
theorem test_register_write : (nxt (.registerWrite 0x28000001000 true 5) State.reset).reg 0x28000001000 = State.reset.reg 0x28000001000 := by
  decide +kernel

/-- Log 3: a table word spells no command. -/
theorem test_table_word : decodeTableWord 16 0 = none := rfl

end Sys2Proof.Tests
end

section
/-! Proofs of 04_tile_memory.md: the programmable hash matrices (R107, R109). -/
namespace Sys2Proof.Machine

/-! ## Frames of one register write -/

theorem State.onlyRegs_setReg (s : State) (a : Nat) (v : Word) : s.onlyRegs (s.setReg a v) [a] :=
  ⟨rfl, fun _ hb => State.reg_setReg_ne (by simpa using hb)⟩

theorem State.onlyRegs_setBit (s : State) (a : Nat) (f : Field) (b : Bool) : s.onlyRegs (s.setBit a f b) [a] :=
  State.onlyRegs_setReg s a _

/-! ## The two ways of a write of AG_HASH_M -/

variable {s : State}

/-- The matrix of generator `n` as it would stand after the word `v` is written to register M`i`. -/
def State.agRowsWritten (s : State) (p : Tile) (n : Fin 4) (i : Fin 3) (v : BitVec 64) : List Nat :=
  ((s.agRows p n).set (2 * i.val) (bits v.toNat 0 26)).set (2 * i.val + 1) (bits v.toNat 32 26)

/-- A region of the tile that is in use has its addresses hashed by the matrix of generator `n`. -/
def State.matrixInUse (s : State) (p : Tile) (n : Fin 4) : Prop :=
  ∃ r < 64, s.rMode p r ≠ mOff ∧ s.fld (RGN_CFG p r) RGN_CFG.hash_sel = 4 + n.val

/-- The register M`i` of a generator, under the name the map of registers gives it. -/
theorem agHashReg_eq {p : Tile} {n : Fin 4} {i : Fin 3} {a : Nat}
    (ha : (i, a) ∈ [(0, AG_HASH_M0 p n), (1, AG_HASH_M1 p n), (2, AG_HASH_M2 p n)]) :
    (if i.val = 0 then AG_HASH_M0 p n else if i.val = 1 then AG_HASH_M1 p n else AG_HASH_M2 p n) = a := by
  simp only [List.mem_cons, Prod.mk.injEq, List.not_mem_nil, or_false] at ha
  obtain ⟨rfl, rfl⟩ | ⟨rfl, rfl⟩ | ⟨rfl, rfl⟩ := ha <;> rfl

/-- The model's scan of the 64 regions finds one exactly where a region in use names the matrix. -/
theorem State.any_names_matrix_iff {p : Tile} {n : Fin 4} :
    (List.range 64).any (fun r => s.rMode p r != mOff && s.fld (RGN_CFG p r) RGN_CFG.hash_sel == 4 + n.val) = true ↔
      s.matrixInUse p n := by
  simp [State.matrixInUse]

theorem execAgHashM_taken {p : Tile} {n : Fin 4} {i : Fin 3} {v : BitVec 64} {a : Nat}
    (ha : (i, a) ∈ [(0, AG_HASH_M0 p n), (1, AG_HASH_M1 p n), (2, AG_HASH_M2 p n)])
    (hok : hashOk (s.agRowsWritten p n i v) = true) (hfree : ¬ s.matrixInUse p n) :
    execAgHashM p n i v s =
      .next (s.setReg a (BitVec.ofNat 64 (bits v.toNat 0 26 + bits v.toNat 32 26 * 2 ^ 32))) := by
  have hnamed := Bool.eq_false_iff.mpr (mt State.any_names_matrix_iff.mp hfree)
  rw [State.agRowsWritten] at hok
  simp only [execAgHashM, agHashReg_eq ha, hok, hnamed, Bool.not_false, Bool.and_self, if_true]

theorem execAgHashM_discarded {p : Tile} {n : Fin 4} {i : Fin 3} {v : BitVec 64}
    (h : hashOk (s.agRowsWritten p n i v) = false ∨ s.matrixInUse p n) :
    execAgHashM p n i v s = .next (s.setBit (AG_FAULT p n) AG_FAULT.hash_fault true) := by
  obtain hbad | hused := h
  · rw [State.agRowsWritten] at hbad
    simp only [execAgHashM, hbad, Bool.false_and, Bool.false_eq_true, if_false]
  · have hnamed := State.any_names_matrix_iff.mpr hused
    simp only [execAgHashM, hnamed, Bool.not_true, Bool.and_false, Bool.false_eq_true, if_false]

/-- Both reasons of R109 to discard a write end alike, so the two discarding clauses share this one fact. -/
theorem exec_agHashM_discarded {p : Tile} {n : Fin 4} {i : Fin 3} {v : BitVec 64}
    (h : hashOk (s.agRowsWritten p n i v) = false ∨ s.matrixInUse p n) :
    ∃ t, exec (.agHashM p n i v) s = .next t ∧ t.bit (AG_FAULT p n) AG_FAULT.hash_fault = true ∧
      s.onlyRegs t [AG_FAULT p n] :=
  ⟨_, exec_agHashM.trans (execAgHashM_discarded h), State.bit_setBit_self (by decide) rfl,
    State.onlyRegs_setBit s _ _ _⟩

/-- Settles O10 (R109): the write of M`i` is taken where the new matrix obeys R107 and no region in use names it, and each of
the two conditions alone, when it fails, has the write discarded. -/
theorem hashMatrixWrites : Obligations.HashMatrixWrites := by
  intro s p n i v a ha
  refine ⟨fun hok hfree => ?taken, fun hbad => exec_agHashM_discarded (.inl hbad),
    fun r hr hmode hsel => exec_agHashM_discarded (.inr ⟨r, hr, hmode, hsel⟩)⟩
  case taken =>
    have hunused : ¬ s.matrixInUse p n := fun ⟨r, hr, hmode, hsel⟩ => hfree r hr hmode hsel
    exact ⟨_, exec_agHashM.trans (execAgHashM_taken ha hok hunused), State.reg_setReg_self,
      State.onlyRegs_setReg s a _⟩

end Sys2Proof.Machine
end

section
/-! Proofs of 06_channels_and_sync.md: writes of the registers of the channel block (R186). -/
namespace Sys2Proof.Machine

variable {s : State} {p : Tile} {v : BitVec 64} {w : ChReg}

/-- The endpoints that a write of a channel register concerns are halted (R186). A write of an entry of the sender table
concerns the endpoint that the entry names, if it is valid, and the endpoint that the new value names. -/
def State.chWritable (s : State) (p : Tile) (v : BitVec 64) : ChReg → Prop
  | .cfg e | .dest e | .nextSeq e => s.epBit p e CH_EP_STATE.halted = true
  | .sender i =>
    (s.bit (CH_SND p i) CH_SND.valid = false ∨
      s.epBit p (s.fld (CH_SND p i) CH_SND.endpoint) CH_EP_STATE.halted = true) ∧
    s.epBit p (CH_SND.endpoint.get v) CH_EP_STATE.halted = true

/-- The register that a write names. -/
def chRegAddr (p : Tile) : ChReg → Nat
  | .cfg e => CH_EP_CFG p e
  | .dest e => CH_EP_DEST p e
  | .nextSeq e => CH_EP_STATE p e
  | .sender i => CH_SND p i

/-- What the named register holds once the value `v` is written: its reserved bits stay 0, and a write of `next_seq` keeps the
other fields of CH_EP_STATE. -/
def State.chWritten (s : State) (p : Tile) (v : BitVec 64) : ChReg → Word
  | .cfg _ | .sender _ => v &&& ~~~ (1#64 <<< 31)
  | .dest _ => BitVec.ofNat 64 (v.toNat % 2 ^ 30)
  | .nextSeq e => CH_EP_STATE.next_seq.set v.toNat (s.reg (CH_EP_STATE p e))

theorem State.chConfig_of_writable (h : s.chWritable p v w) :
    s.chConfig p w v = s.setReg (chRegAddr p w) (s.chWritten p v w) := by
  cases w with
  | cfg e | dest e | nextSeq e => exact if_pos h
  | sender i =>
    obtain ⟨hold, hnew⟩ := h
    exact if_pos (by simpa [hnew] using hold)

theorem State.chConfig_of_not_writable (h : ¬ s.chWritable p v w) :
    s.chConfig p w v = s.setBit (CH_FAULT p) CH_FAULT.config_fault true := by
  cases w with
  | cfg e | dest e | nextSeq e => exact if_neg h
  | sender i => exact if_neg (by simpa [State.chWritable] using h)

/-- A write that R186 admits puts its value into the named register and leaves the rest of the state alone. -/
theorem exec_chConfigWrite_taken (h : s.chWritable p v w) :
    ∃ t, exec (.chConfigWrite p w v) s = .next t ∧ t.reg (chRegAddr p w) = s.chWritten p v w ∧ s.onlyRegs t [chRegAddr p w] :=
  ⟨_, exec_chConfigWrite.trans (congrArg Host.Outcome.next (State.chConfig_of_writable h)), State.reg_setReg_self,
    State.onlyRegs_setReg s _ _⟩

/-- Any other write leaves no trace but config_fault. -/
theorem exec_chConfigWrite_discarded (h : ¬ s.chWritable p v w) :
    ∃ t, exec (.chConfigWrite p w v) s = .next t ∧ t.bit (CH_FAULT p) CH_FAULT.config_fault = true ∧
      s.onlyRegs t [CH_FAULT p] :=
  ⟨_, exec_chConfigWrite.trans (congrArg Host.Outcome.next (State.chConfig_of_not_writable h)),
    State.bit_setBit_self (by decide) rfl, State.onlyRegs_setBit s _ _ _⟩

theorem State.get_chWritten_nextSeq {e : Fin 64} :
    CH_EP_STATE.next_seq.get (s.chWritten p v (.nextSeq e)) = v.toNat % 2 ^ CH_EP_STATE.next_seq.width :=
  Field.get_set _ _ _ (by decide)

/-- A write of the sender table is inadmissible where the endpoint of the valid old entry or that of the new value runs. -/
theorem State.not_chWritable_sender {i : Fin 256}
    (h : (s.bit (CH_SND p i) CH_SND.valid = true ∧
        s.epBit p (s.fld (CH_SND p i) CH_SND.endpoint) CH_EP_STATE.halted = false) ∨
      s.epBit p (CH_SND.endpoint.get v) CH_EP_STATE.halted = false) : ¬ s.chWritable p v (.sender i) := by
  rintro ⟨hold, hnew⟩
  obtain ⟨hvalid, hruns⟩ | hruns := h
  · simp [hvalid, hruns] at hold
  · simp [hruns] at hnew

/-- Settles O14 (R186): each write is taken or discarded as its endpoints are halted or not, and a taken write of `next_seq` is
read back through its field. -/
theorem channelWrites : Obligations.ChannelWrites := by
  intro s p e i v
  refine ⟨fun hhalted => ⟨?cfg, ?dest, ?nextSeq⟩, ?running, exec_chConfigWrite_taken (w := .sender i),
    fun h => exec_chConfigWrite_discarded (State.not_chWritable_sender h)⟩
  case cfg => exact exec_chConfigWrite_taken (w := .cfg e) hhalted
  case dest => exact exec_chConfigWrite_taken (w := .dest e) hhalted
  case nextSeq =>
    obtain ⟨t, hexec, hreg, hframe⟩ := exec_chConfigWrite_taken (v := v) (w := .nextSeq e) hhalted
    exact ⟨t, hexec, (congrArg _ hreg).trans State.get_chWritten_nextSeq, hframe⟩
  case running =>
    intro hruns w hw
    have hno : ¬ s.epBit p e CH_EP_STATE.halted = true := by simp [hruns]
    simp only [List.mem_cons, List.not_mem_nil, or_false] at hw
    obtain rfl | rfl | rfl := hw <;> exact exec_chConfigWrite_discarded hno

end Sys2Proof.Machine
end

section
/-! The frames of Safety.lean as a calculus: what each named write adds to a frame, and what a frame says of a field. -/
namespace Sys2Proof.Machine

variable {s t u : State} {l k : List Nat}

/-! ## onlyRegs -/

@[simp] theorem State.onlyRegs_refl (s : State) (l : List Nat) : s.onlyRegs s l := ⟨rfl, fun _ _ => rfl⟩

theorem State.onlyRegs.trans (h : s.onlyRegs t l) (h' : t.onlyRegs u l) : s.onlyRegs u l :=
  ⟨by rw [h'.1, h.1], fun a ha => (h'.2 a ha).trans (h.2 a ha)⟩

theorem State.onlyRegs.mono (h : s.onlyRegs t l) (hlk : l ⊆ k) : s.onlyRegs t k :=
  ⟨h.1, fun a ha => h.2 a (fun hl => ha (hlk hl))⟩

/-- A write of a register that the frame lists stays within it. -/
theorem State.onlyRegs.setReg (h : s.onlyRegs t l) {a : Nat} (ha : a ∈ l) (v : Word) : s.onlyRegs (t.setReg a v) l :=
  h.trans ((State.onlyRegs_setReg t a v).mono (by simpa using ha))

theorem State.onlyRegs.setFld (h : s.onlyRegs t l) {a : Nat} (ha : a ∈ l) (f : Field) (x : Nat) :
    s.onlyRegs (t.setFld a f x) l := h.setReg ha _

theorem State.onlyRegs.setBit (h : s.onlyRegs t l) {a : Nat} (ha : a ∈ l) (f : Field) (b : Bool) :
    s.onlyRegs (t.setBit a f b) l := h.setReg ha _

theorem State.onlyRegs.addSat (h : s.onlyRegs t l) {a : Nat} (ha : a ∈ l) (f : Field) (n : Nat) :
    s.onlyRegs (t.addSat a f n) l := h.setReg ha _

theorem State.onlyRegs.addMod (h : s.onlyRegs t l) {a : Nat} (ha : a ∈ l) (f : Field) (n : Nat) :
    s.onlyRegs (t.addMod a f n) l := h.setReg ha _

theorem State.onlyRegs.regsBut (h : s.onlyRegs t l) : s.regsBut t l := h.2

theorem State.onlyRegs.sameMem (h : s.onlyRegs t l) : s.sameMem t := by
  obtain ⟨heq, _⟩ := h
  intro a
  rw [heq]
  rfl

/-! ## regsBut -/

@[simp] theorem State.regsBut_refl (s : State) (l : List Nat) : s.regsBut s l := fun _ _ => rfl

theorem State.regsBut.trans (h : s.regsBut t l) (h' : t.regsBut u l) : s.regsBut u l :=
  fun a ha => (h' a ha).trans (h a ha)

theorem State.regsBut.mono (h : s.regsBut t l) (hlk : l ⊆ k) : s.regsBut t k :=
  fun a ha => h a (fun hl => ha (hlk hl))

/-- A change of anything but the register file. -/
theorem State.regsBut.of_regs_eq (h : s.regsBut t l) (hregs : u.regs = t.regs) : s.regsBut u l := by
  intro a ha
  rw [← h a ha, State.reg, hregs, State.reg]

/-! The operations that write no register. -/

theorem State.regsBut.setMe (h : s.regsBut t l) (p : Nat) (x : MeUnit) : s.regsBut (t.setMe p x) l := h.of_regs_eq rfl
theorem State.regsBut.setVsp (h : s.regsBut t l) (p : Nat) (x : VspUnit) : s.regsBut (t.setVsp p x) l := h.of_regs_eq rfl
theorem State.regsBut.setAg (h : s.regsBut t l) (p n i : Nat) (x : AgProg) : s.regsBut (t.setAg p n i x) l := h.of_regs_eq rfl
theorem State.regsBut.setMu (h : s.regsBut t l) (p : Nat) (x : MuWork) : s.regsBut (t.setMu p x) l := h.of_regs_eq rfl
theorem State.regsBut.setEp (h : s.regsBut t l) (p e : Nat) (x : EpUnit) : s.regsBut (t.setEp p e x) l := h.of_regs_eq rfl
theorem State.regsBut.setCtx (h : s.regsBut t l) (c : Nat) (x : Ctx) : s.regsBut (t.setCtx c x) l := h.of_regs_eq rfl
theorem State.regsBut.signal (h : s.regsBut t l) (x : Signal) : s.regsBut (t.signal x) l := h.of_regs_eq rfl
theorem State.regsBut.setBytes (h : s.regsBut t l) (a : Nat) (b : List Byte) : s.regsBut (t.setBytes a b) l := h.of_regs_eq rfl

theorem State.regsBut.setReg (h : s.regsBut t l) {a : Nat} (ha : a ∈ l) (v : Word) : s.regsBut (t.setReg a v) l :=
  h.trans ((State.onlyRegs_refl t l).setReg ha v).2

theorem State.regsBut.setFld (h : s.regsBut t l) {a : Nat} (ha : a ∈ l) (f : Field) (x : Nat) :
    s.regsBut (t.setFld a f x) l := h.setReg ha _

theorem State.regsBut.setBit (h : s.regsBut t l) {a : Nat} (ha : a ∈ l) (f : Field) (b : Bool) :
    s.regsBut (t.setBit a f b) l := h.setReg ha _

theorem State.regsBut.addSat (h : s.regsBut t l) {a : Nat} (ha : a ∈ l) (f : Field) (n : Nat) :
    s.regsBut (t.addSat a f n) l := h.setReg ha _

theorem State.regsBut.addMod (h : s.regsBut t l) {a : Nat} (ha : a ∈ l) (f : Field) (n : Nat) :
    s.regsBut (t.addMod a f n) l := h.setReg ha _

theorem State.regsBut.addWrap (h : s.regsBut t l) {a : Nat} (ha : a ∈ l) (n : Nat) : s.regsBut (t.addWrap a n) l := by
  unfold State.addWrap
  dsimp only
  split
  · exact h.setFld ha _ _
  · exact (h.setFld ha _ _).setFld ha _ _

/-! ## tileOnly -/

/-- Address `a` lies in the register window of tile `p` (R25). -/
def inTile (p a : Nat) : Prop := tileRegs + 0x10000 * p ≤ a ∧ a < tileRegs + 0x10000 * (p + 1)

@[simp] theorem State.tileOnly_refl (s : State) (p : Nat) : s.tileOnly s p := fun _ _ => rfl

theorem State.tileOnly.trans {p : Nat} (h : s.tileOnly t p) (h' : t.tileOnly u p) : s.tileOnly u p :=
  fun a ha => (h' a ha).trans (h a ha)

/-- A frame of registers of one tile's window. -/
theorem State.regsBut.tileOnly {p : Nat} (h : s.regsBut t l) (hl : ∀ a ∈ l, inTile p a) : s.tileOnly t p := by
  intro a ha
  refine h a fun hmem => ?_
  obtain ⟨hlo, hhi⟩ := hl a hmem
  omega

@[simp] theorem State.tileOnly_upd {p : Nat} {pending freeCtr part mem lost ue me vsp ag agFifo mu popped foldEob net eps
    reorder signals ctxs entries tl taken waiting allocs enrolled weightKeys engines mctl health store sec ports egress
    ingress joins time power sb boot wdt smp tap} : s.tileOnly { t with
      pending := pending, freeCtr := freeCtr, part := part, mem := mem, lost := lost, ue := ue, me := me, vsp := vsp,
      ag := ag, agFifo := agFifo, mu := mu, popped := popped, foldEob := foldEob, net := net, eps := eps, reorder := reorder,
      signals := signals, ctxs := ctxs, entries := entries, tl := tl, taken := taken, waiting := waiting, allocs := allocs,
      enrolled := enrolled, weightKeys := weightKeys, engines := engines, mctl := mctl, health := health, store := store,
      sec := sec, ports := ports, egress := egress, ingress := ingress, joins := joins, time := time, power := power,
      sb := sb, boot := boot, wdt := wdt, smp := smp, tap := tap } p ↔ s.tileOnly t p
    := Iff.rfl

theorem State.tileOnly.setReg {p a : Nat} (h : s.tileOnly t p) (ha : inTile p a) (v : Word) : s.tileOnly (t.setReg a v) p :=
  h.trans (((State.regsBut_refl t [a]).setReg (List.mem_singleton_self a) v).tileOnly (by simpa using ha))

theorem State.tileOnly.setFld {p a : Nat} (h : s.tileOnly t p) (ha : inTile p a) (f : Field) (x : Nat) :
    s.tileOnly (t.setFld a f x) p := h.setReg ha _

theorem State.tileOnly.setBit {p a : Nat} (h : s.tileOnly t p) (ha : inTile p a) (f : Field) (b : Bool) :
    s.tileOnly (t.setBit a f b) p := h.setReg ha _

theorem State.tileOnly.addMod {p a : Nat} (h : s.tileOnly t p) (ha : inTile p a) (f : Field) (n : Nat) :
    s.tileOnly (t.addMod a f n) p := h.setReg ha _

theorem State.regsBut.cycles (h : s.regsBut t l) {a : Nat} (ha : a ∈ l) : s.regsBut (t.cycles a) l := by
  have hdraw : s.regsBut (t.draw 16).2 l := h.of_regs_eq rfl
  exact hdraw.addWrap ha _

/-! ## What a frame says of a field -/

/-- A register outside a frame keeps each of its fields. -/
theorem State.regsBut.fld_eq (h : s.regsBut t l) {a : Nat} (ha : a ∉ l) (f : Field) : t.fld a f = s.fld a f :=
  congrArg f.get (h a ha)

theorem State.regsBut.bit_eq (h : s.regsBut t l) {a : Nat} (ha : a ∉ l) (f : Field) : t.bit a f = s.bit a f := by
  rw [State.bit, h.fld_eq ha, State.bit]

theorem State.onlyRegs.fld_eq (h : s.onlyRegs t l) {a : Nat} (ha : a ∉ l) (f : Field) : t.fld a f = s.fld a f :=
  h.2.fld_eq ha f

theorem State.onlyRegs.bit_eq (h : s.onlyRegs t l) {a : Nat} (ha : a ∉ l) (f : Field) : t.bit a f = s.bit a f :=
  h.2.bit_eq ha f

/-! ## sameMem -/

@[simp] theorem State.sameMem_refl (s : State) : s.sameMem s := fun _ => rfl

theorem State.sameMem.trans (h : s.sameMem t) (h' : t.sameMem u) : s.sameMem u := fun a => (h' a).trans (h a)

/-! Writes of registers and of the other parts of the state leave memory as it is. -/

@[simp] theorem State.sameMem_setReg {a : Nat} {v : Word} : s.sameMem (t.setReg a v) ↔ s.sameMem t := Iff.rfl
@[simp] theorem State.sameMem_setFld {a : Nat} {f : Field} {v : Nat} : s.sameMem (t.setFld a f v) ↔ s.sameMem t := Iff.rfl
@[simp] theorem State.sameMem_setBit {a : Nat} {f : Field} {b : Bool} : s.sameMem (t.setBit a f b) ↔ s.sameMem t := Iff.rfl
@[simp] theorem State.sameMem_addSat {a : Nat} {f : Field} {n : Nat} : s.sameMem (t.addSat a f n) ↔ s.sameMem t := Iff.rfl
@[simp] theorem State.sameMem_addMod {a : Nat} {f : Field} {n : Nat} : s.sameMem (t.addMod a f n) ↔ s.sameMem t := Iff.rfl
@[simp] theorem State.sameMem_resetRegs {q : Nat → Bool} : s.sameMem (t.resetRegs q) ↔ s.sameMem t := Iff.rfl
@[simp] theorem State.sameMem_setMe {p : Nat} {x : MeUnit} : s.sameMem (t.setMe p x) ↔ s.sameMem t := Iff.rfl
@[simp] theorem State.sameMem_setVsp {p : Nat} {x : VspUnit} : s.sameMem (t.setVsp p x) ↔ s.sameMem t := Iff.rfl
@[simp] theorem State.sameMem_setAg {p n i : Nat} {x : AgProg} : s.sameMem (t.setAg p n i x) ↔ s.sameMem t := Iff.rfl
@[simp] theorem State.sameMem_setFifo {p n : Nat} {x : List PortByte} : s.sameMem (t.setFifo p n x) ↔ s.sameMem t := Iff.rfl
@[simp] theorem State.sameMem_setMu {p : Nat} {x : MuWork} : s.sameMem (t.setMu p x) ↔ s.sameMem t := Iff.rfl
@[simp] theorem State.sameMem_setEp {p e : Nat} {x : EpUnit} : s.sameMem (t.setEp p e x) ↔ s.sameMem t := Iff.rfl
@[simp] theorem State.sameMem_setRor {p : Nat} {x : List Reorder} : s.sameMem (t.setRor p x) ↔ s.sameMem t := Iff.rfl
@[simp] theorem State.sameMem_setCtx {c : Nat} {x : Ctx} : s.sameMem (t.setCtx c x) ↔ s.sameMem t := Iff.rfl
@[simp] theorem State.sameMem_signal {x : Signal} : s.sameMem (t.signal x) ↔ s.sameMem t := Iff.rfl
@[simp] theorem State.sameMem_draw {w : Nat} : s.sameMem (t.draw w).2 ↔ s.sameMem t := Iff.rfl

@[simp] theorem State.sameMem_addWrap {a n : Nat} : s.sameMem (t.addWrap a n) ↔ s.sameMem t := by
  unfold State.addWrap
  dsimp only
  split <;> simp

@[simp] theorem State.sameMem_cycles {a : Nat} : s.sameMem (t.cycles a) ↔ s.sameMem t := by
  simp [State.cycles]

/-! ## Updates of other parts of the state

A record update that keeps the register file reads as before in every register; one that keeps memory, in every byte. -/

@[simp] theorem State.reg_upd {a : Nat} {pending freeCtr part mem lost ue me vsp ag agFifo mu popped foldEob net eps reorder
    signals ctxs entries tl taken waiting allocs enrolled weightKeys engines mctl health store sec ports egress ingress joins
    time power sb boot wdt smp tap} : ({ t with
      pending := pending, freeCtr := freeCtr, part := part, mem := mem, lost := lost, ue := ue, me := me, vsp := vsp,
      ag := ag, agFifo := agFifo, mu := mu, popped := popped, foldEob := foldEob, net := net, eps := eps, reorder := reorder,
      signals := signals, ctxs := ctxs, entries := entries, tl := tl, taken := taken, waiting := waiting, allocs := allocs,
      enrolled := enrolled, weightKeys := weightKeys, engines := engines, mctl := mctl, health := health, store := store,
      sec := sec, ports := ports, egress := egress, ingress := ingress, joins := joins, time := time, power := power,
      sb := sb, boot := boot, wdt := wdt, smp := smp, tap := tap } : State).reg a = t.reg a := rfl

@[simp] theorem State.fld_upd {a : Nat} {f : Field} {pending freeCtr part mem lost ue me vsp ag agFifo mu popped foldEob net
    eps reorder signals ctxs entries tl taken waiting allocs enrolled weightKeys engines mctl health store sec ports egress
    ingress joins time power sb boot wdt smp tap} : ({ t with
      pending := pending, freeCtr := freeCtr, part := part, mem := mem, lost := lost, ue := ue, me := me, vsp := vsp,
      ag := ag, agFifo := agFifo, mu := mu, popped := popped, foldEob := foldEob, net := net, eps := eps, reorder := reorder,
      signals := signals, ctxs := ctxs, entries := entries, tl := tl, taken := taken, waiting := waiting, allocs := allocs,
      enrolled := enrolled, weightKeys := weightKeys, engines := engines, mctl := mctl, health := health, store := store,
      sec := sec, ports := ports, egress := egress, ingress := ingress, joins := joins, time := time, power := power,
      sb := sb, boot := boot, wdt := wdt, smp := smp, tap := tap } : State).fld a f =
    t.fld a f := rfl

@[simp] theorem State.bit_upd {a : Nat} {f : Field} {pending freeCtr part mem lost ue me vsp ag agFifo mu popped foldEob net
    eps reorder signals ctxs entries tl taken waiting allocs enrolled weightKeys engines mctl health store sec ports egress
    ingress joins time power sb boot wdt smp tap} : ({ t with
      pending := pending, freeCtr := freeCtr, part := part, mem := mem, lost := lost, ue := ue, me := me, vsp := vsp,
      ag := ag, agFifo := agFifo, mu := mu, popped := popped, foldEob := foldEob, net := net, eps := eps, reorder := reorder,
      signals := signals, ctxs := ctxs, entries := entries, tl := tl, taken := taken, waiting := waiting, allocs := allocs,
      enrolled := enrolled, weightKeys := weightKeys, engines := engines, mctl := mctl, health := health, store := store,
      sec := sec, ports := ports, egress := egress, ingress := ingress, joins := joins, time := time, power := power,
      sb := sb, boot := boot, wdt := wdt, smp := smp, tap := tap } : State).bit a f =
    t.bit a f := rfl

@[simp] theorem State.regsBut_upd {pending freeCtr part mem lost ue me vsp ag agFifo mu popped foldEob net eps reorder
    signals ctxs entries tl taken waiting allocs enrolled weightKeys engines mctl health store sec ports egress ingress joins
    time power sb boot wdt smp tap} : s.regsBut { t with
      pending := pending, freeCtr := freeCtr, part := part, mem := mem, lost := lost, ue := ue, me := me, vsp := vsp,
      ag := ag, agFifo := agFifo, mu := mu, popped := popped, foldEob := foldEob, net := net, eps := eps, reorder := reorder,
      signals := signals, ctxs := ctxs, entries := entries, tl := tl, taken := taken, waiting := waiting, allocs := allocs,
      enrolled := enrolled, weightKeys := weightKeys, engines := engines, mctl := mctl, health := health, store := store,
      sec := sec, ports := ports, egress := egress, ingress := ingress, joins := joins, time := time, power := power,
      sb := sb, boot := boot, wdt := wdt, smp := smp, tap := tap } l ↔ s.regsBut t l := Iff.rfl

@[simp] theorem State.sameMem_upd {pending freeCtr part regs ue me vsp ag agFifo mu popped foldEob net eps reorder signals
    ctxs entries tl taken waiting allocs enrolled weightKeys engines mctl health store sec ports egress ingress joins time
    power sb boot wdt smp tap} : s.sameMem { t with
      pending := pending, freeCtr := freeCtr, part := part, regs := regs, ue := ue, me := me, vsp := vsp, ag := ag,
      agFifo := agFifo, mu := mu, popped := popped, foldEob := foldEob, net := net, eps := eps, reorder := reorder,
      signals := signals, ctxs := ctxs, entries := entries, tl := tl, taken := taken, waiting := waiting, allocs := allocs,
      enrolled := enrolled, weightKeys := weightKeys, engines := engines, mctl := mctl, health := health, store := store,
      sec := sec, ports := ports, egress := egress, ingress := ingress, joins := joins, time := time, power := power,
      sb := sb, boot := boot, wdt := wdt, smp := smp, tap := tap } ↔ s.sameMem t := Iff.rfl

/-! ## Bits beside a written field -/

theorem State.bit_setFld_ne {a b x : Nat} {f g : Field} (h : b ≠ a) : (s.setFld a f x).bit b g = s.bit b g := by
  rw [State.bit, State.fld_setFld_ne h, State.bit]

theorem State.bit_setFld_beside {a x : Nat} {f g : Field} (h : f.lo + f.width ≤ 64) (hg : g.lo + g.width ≤ 64)
    (d : g.lo + g.width ≤ f.lo ∨ f.lo + f.width ≤ g.lo) : (s.setFld a f x).bit a g = s.bit a g := by
  rw [State.bit, State.fld_setFld_beside h hg d, State.bit]

/-! ## Tables -/

@[simp] theorem tget_tset_self {α : Type} [DecidableEq α] {d v : α} {m : Tab α} {i : Nat} : tget d (tset d m i v) i = v :=
  Sparse.get_set_self

@[simp] theorem State.meU_setMe_self {p : Nat} {x : MeUnit} : (s.setMe p x).meU p = x := tget_tset_self
@[simp] theorem State.vspU_setVsp_self {p : Nat} {x : VspUnit} : (s.setVsp p x).vspU p = x := tget_tset_self
@[simp] theorem State.agP_setAg_self {p n i : Nat} {x : AgProg} : (s.setAg p n i x).agP p n i = x := tget_tset_self
@[simp] theorem State.muW_setMu_self {p : Nat} {x : MuWork} : (s.setMu p x).muW p = x := tget_tset_self
@[simp] theorem State.ep_setEp_self {p e : Nat} {x : EpUnit} : (s.setEp p e x).ep p e = x := tget_tset_self
@[simp] theorem State.ctx_setCtx_self {c : Nat} {x : Ctx} : (s.setCtx c x).ctx c = x := tget_tset_self

end Sys2Proof.Machine
end

section
/-! Memory under the named writes: what a store leaves, and frames of memory by range. -/
namespace Sys2Proof.Machine

variable {s t u : State}

/-! ## Bytes written -/

@[simp] theorem length_leBytes (n v : Nat) : (leBytes n v).length = n := by
  induction n generalizing v with
  | zero => rfl
  | succ n ih => rw [leBytes, List.length_cons, ih]

theorem ofBytes_lt (l : List Byte) : ofBytes l < 256 ^ l.length := by
  induction l with
  | nil => decide
  | cons b l ih =>
    have hb : b.toNat < 256 := b.isLt
    rw [ofBytes, List.length_cons, Nat.pow_succ]
    omega

theorem ofBytes_leBytes (n v : Nat) : ofBytes (leBytes n v) = v % 256 ^ n := by
  induction n generalizing v with
  | zero => simp [leBytes, ofBytes, Nat.mod_one]
  | succ n ih =>
    rw [leBytes, ofBytes, ih, BitVec.toNat_ofNat, pow_succ' 256 n, Nat.mod_mul]

@[simp] theorem State.length_bytes (s : State) (a n : Nat) : (s.bytes a n).length = n := by simp [State.bytes]

theorem State.num_lt (s : State) (a n : Nat) : s.num a n < 256 ^ n :=
  lt_of_lt_of_eq (ofBytes_lt (s.bytes a n)) (congrArg (256 ^ ·) (s.length_bytes a n))

theorem State.bytes_setBytes_self (s : State) (a : Nat) {n : Nat} {l : List Byte} (hl : l.length = n) :
    (s.setBytes a l).bytes a n = l := by
  subst hl
  refine List.ext_getElem (by simp [State.bytes]) fun i _ hi => ?_
  simp only [State.bytes, List.getElem_map, List.getElem_range, State.byte_setBytes_in hi]

theorem State.num_setNum_self (s : State) (a : Nat) {n v : Nat} (hv : v < 256 ^ n) : (s.setNum a n v).num a n = v := by
  rw [State.num, State.setNum, State.bytes_setBytes_self s a (length_leBytes n v), ofBytes_leBytes, Nat.mod_eq_of_lt hv]

/-! ## Frames by range -/

theorem State.sameMem.memBut (h : s.sameMem t) (a n : Nat) : s.memBut t a n := fun b _ => h b

theorem State.memBut.trans {a n : Nat} (h : s.memBut t a n) (h' : t.memBut u a n) : s.memBut u a n :=
  fun b hb => (h' b hb).trans (h b hb)

theorem State.memBut.of_sameMem {a n : Nat} (h : s.memBut t a n) (h' : t.sameMem u) : s.memBut u a n :=
  fun b hb => (h' b).trans (h b hb)

theorem State.memBut_setBytes (s : State) {a n : Nat} {l : List Byte} (hl : l.length = n) :
    s.memBut (s.setBytes a l) a n := fun _ hb => State.byte_setBytes_out (by rw [hl]; exact hb)

theorem State.sameMem.bytes_eq (h : s.sameMem t) (a n : Nat) : t.bytes a n = s.bytes a n :=
  List.map_congr_left fun i _ => h (a + i)

theorem State.sameMem.num_eq (h : s.sameMem t) (a n : Nat) : t.num a n = s.num a n := by
  rw [State.num, State.num, h.bytes_eq]

/-! ## Saturating counts -/

theorem State.fld_addSat_self {a n : Nat} {f : Field} (h : f.lo + f.width ≤ 64) :
    (s.addSat a f n).fld a f = min (s.fld a f + n) (2 ^ f.width - 1) := by
  have hpos : 0 < 2 ^ f.width := Nat.two_pow_pos _
  exact State.fld_setFld_lt h (by omega)

theorem State.fld_addSat_ne {a b n : Nat} {f g : Field} (h : b ≠ a) : (s.addSat a f n).fld b g = s.fld b g :=
  State.fld_setFld_ne h

/-! ## Logs that keep their first entry -/

@[simp] theorem State.sameMem_logOnce {a b v : Nat} {f : Field} : s.sameMem (t.logOnce a b f v) ↔ s.sameMem t := by
  unfold State.logOnce
  split <;> simp

theorem State.regsBut.logOnce {l : List Nat} (h : s.regsBut t l) {a b : Nat} (ha : a ∈ l) (hb : b ∈ l) (f : Field) (v : Nat) :
    s.regsBut (t.logOnce a b f v) l := ite_k (s.regsBut · l) h (((h.setReg ha _).setBit ha _ _).setReg hb _)

@[simp] theorem State.tl_logOnce {a b v : Nat} {f : Field} : (s.logOnce a b f v).tl = s.tl :=
  ite_k (fun (t : State) => t.tl = s.tl) rfl rfl

@[simp] theorem State.engines_logOnce {a b v : Nat} {f : Field} : (s.logOnce a b f v).engines = s.engines :=
  ite_k (fun (t : State) => t.engines = s.engines) rfl rfl

@[simp] theorem State.sameMem_tlLog {k st tag a : Nat} : s.sameMem (t.tlLog k st tag a) ↔ s.sameMem t := by
  rw [State.tlLog, State.sameMem_logOnce]

@[simp] theorem State.tl_tlLog {k st tag a : Nat} : (s.tlLog k st tag a).tl = s.tl := by
  rw [State.tlLog, State.tl_logOnce]

@[simp] theorem State.engines_tlLog {k st tag a : Nat} : (s.tlLog k st tag a).engines = s.engines := by
  rw [State.tlLog, State.engines_logOnce]

theorem State.regsBut.tlLog {l : List Nat} (h : s.regsBut t l) (hlog : TL_ERR_LOG ∈ l) (htime : TL_ERR_TIME ∈ l)
    (k st tag a : Nat) : s.regsBut (t.tlLog k st tag a) l := by
  rw [State.tlLog]
  exact h.logOnce hlog htime _ _

/-! ## Free values are drawn from no register and no memory -/

@[simp] theorem State.sameMem_drawList {n w : Nat} : s.sameMem (t.drawList n w).2 ↔ s.sameMem t := Iff.rfl

theorem State.regsBut.drawList {l : List Nat} (h : s.regsBut t l) (n w : Nat) : s.regsBut (t.drawList n w).2 l :=
  h.of_regs_eq rfl

@[simp] theorem State.net_notePeak {k v : Nat} : (s.notePeak k v).net = s.net := by
  unfold State.notePeak
  split <;> rfl

end Sys2Proof.Machine
end

section
/-! Proofs about every step: the invariant of memory and registers, the queue and the part, what a step executes (O1 to O6). -/
namespace Sys2Proof.Machine

variable {r s t : State}

/-! ## What the named writes keep -/

/-- No command and no cycle leaves the canonical forms: each named write keeps them. -/
theorem Reach.inv (h : Reach r s) (hr : r.Inv) : s.Inv := by
  induction h with
  | refl => exact hr
  | core _ _ _ _ hregs hmem hlost ih =>
    simpa only [State.Inv, State.memWf, State.regsWf, State.lostApart, hregs, hmem, hlost] using ih
  | setReg _ ih => obtain ⟨hmem, hregs, hapart⟩ := ih; exact ⟨hmem, Sparse.wf_set hregs, hapart⟩
  | resetRegs _ ih => obtain ⟨hmem, hregs, hapart⟩ := ih; exact ⟨hmem, Sparse.wf_clear hregs, hapart⟩
  | setBytes _ ih =>
    obtain ⟨hmem, hregs, hapart⟩ := ih; exact ⟨State.memWf_setBytes hmem, hregs, State.apart_setBytes hapart⟩
  | zeroRange _ ih =>
    obtain ⟨hmem, hregs, hapart⟩ := ih; exact ⟨State.memWf_zeroRange hmem, hregs, State.apart_zeroRange hapart⟩
  | copyRange _ ih =>
    obtain ⟨hmem, hregs, hapart⟩ := ih; exact ⟨State.memWf_copyRange hmem, hregs, State.apart_copyRange hapart⟩
  | loseRange _ ih =>
    obtain ⟨hmem, hregs, hapart⟩ := ih; exact ⟨State.memWf_loseRange hmem, hregs, State.apart_loseRange hapart⟩
  | draw _ ih => exact ih
  | memoryOf _ _ ih ihu =>
    obtain ⟨_, hregs, _⟩ := ih; obtain ⟨hmem, _, hapart⟩ := ihu; exact ⟨hmem, hregs, hapart⟩

/-- Settles O3: a step is a sequence of named writes, and each of them keeps the invariant. -/
theorem stepKeepsInv : Obligations.StepKeepsInv := by
  intro s t hs hstep
  have hreach := step_reach s
  rw [hstep] at hreach
  exact (next_out hreach).inv hs

/-- Settles O5: a command is a sequence of named writes, none of which touches the queue or the part. -/
theorem commandsKeepQueue : Obligations.CommandsKeepQueue := by
  intro c s t hexec
  have hreach := exec_reach (.refl : Reach s s) c
  rw [hexec] at hreach
  exact (next_out hreach).fixed

/-! ## The state after reset -/

theorem State.reset_inv : State.reset.Inv := ⟨rfl, rfl, fun _ h => absurd h List.not_mem_nil⟩

/-- Settles O4: nothing is listed after reset, so every read gives the default. -/
theorem resetHasInv : Obligations.ResetHasInv :=
  ⟨State.reset_inv, rfl, rfl, rfl, rfl, fun _ => rfl, fun _ => rfl⟩

/-! ## What a step executes -/

/-- Settles O1: the step reads the front of the queue. -/
theorem frontCommandRuns : Obligations.FrontCommandRuns := by
  intro s c rest hpending
  simp only [step, hpending]

theorem step_of_pending_nil (h : s.pending = []) : step s = .next s.tick := by
  simp only [step, h]

theorem State.powerGo_of_no_target (h : s.power.target = none) : s.powerGo = s := by
  simp only [State.powerGo, h]

theorem State.sbNext_of_empty (h : s.sb.queue = []) : s.sbNext = s := by
  simp only [State.sbNext, h]

/-! ### The three parts of a tick -/

theorem State.onlyRegs_calTick (s : State) : s.onlyRegs s.calTick [CAL_NS, CAL_SECONDS] := by
  unfold State.calTick
  dsimp only
  split
  · exact (State.onlyRegs_refl s _).setFld (by simp) _ _
  · exact ((State.onlyRegs_refl s _).setFld (by simp) _ _).setFld (by simp) _ _

theorem State.onlyRegs_tbTick (s : State) : s.onlyRegs s.tbTick [TB_COUNT] := by
  unfold State.tbTick
  split
  · exact (State.onlyRegs_refl s _).setFld (by simp) _ _
  · exact State.onlyRegs_refl s _

theorem State.onlyRegs_wdtTick (s : State) : s.onlyRegs s.wdtTick [SCU_WDT_STATUS] := by
  unfold State.wdtTick
  split
  · exact (State.onlyRegs_refl s _).setFld (by simp) _ _
  · exact State.onlyRegs_refl s _

theorem State.onlyRegs_ticks (s : State) :
    s.onlyRegs s.calTick.tbTick.wdtTick [CAL_NS, CAL_SECONDS, TB_COUNT, SCU_WDT_STATUS] :=
  (((State.onlyRegs_calTick s).mono (by simp)).trans ((State.onlyRegs_tbTick _).mono (by simp))).trans
    ((State.onlyRegs_wdtTick _).mono (by simp))

theorem State.onlyRegs.clocked_eq {l : List Nat} (h : s.onlyRegs t l) (ha : PWR_STATUS ∉ l) : t.clocked = s.clocked := by
  rw [State.clocked, h.fld_eq ha, h.1, State.clocked]

theorem State.fld_tbTick (s : State) :
    s.tbTick.fld TB_COUNT TB_COUNT.count =
      if s.clocked then (s.fld TB_COUNT TB_COUNT.count + 1) % 2 ^ 64 else s.fld TB_COUNT TB_COUNT.count := by
  unfold State.tbTick
  split
  · exact State.fld_setFld_self (by decide)
  · rfl

theorem State.fld_calTick {s : State} (h : s.fld CAL_NS CAL_NS.ns + 10 < 1000000000) :
    s.calTick.fld CAL_NS CAL_NS.ns = s.fld CAL_NS CAL_NS.ns + 10 := by
  unfold State.calTick
  rw [if_pos h]
  exact State.fld_setFld_lt (by decide) (Nat.lt_trans h (by decide))

theorem State.fld_ticks_tb (s : State) :
    s.calTick.tbTick.wdtTick.fld TB_COUNT TB_COUNT.count =
      if s.clocked then (s.fld TB_COUNT TB_COUNT.count + 1) % 2 ^ 64 else s.fld TB_COUNT TB_COUNT.count := by
  rw [(State.onlyRegs_wdtTick _).fld_eq (by decide), State.fld_tbTick, (State.onlyRegs_calTick s).fld_eq (by decide),
    (State.onlyRegs_calTick s).clocked_eq (by decide)]

theorem State.fld_ticks_cal (h : s.fld CAL_NS CAL_NS.ns + 10 < 1000000000) :
    s.calTick.tbTick.wdtTick.fld CAL_NS CAL_NS.ns = s.fld CAL_NS CAL_NS.ns + 10 := by
  rw [(State.onlyRegs_wdtTick _).fld_eq (by decide), (State.onlyRegs_tbTick _).fld_eq (by decide), State.fld_calTick h]

theorem State.tick_of_quiet (hpower : s.power.target = none) (hsb : s.sb.queue = []) :
    s.tick = s.calTick.tbTick.wdtTick := by
  have hframe := State.onlyRegs_ticks s
  have hgo : s.calTick.tbTick.wdtTick.powerGo = s.calTick.tbTick.wdtTick :=
    State.powerGo_of_no_target (by rw [hframe.1]; exact hpower)
  rw [State.tick, hgo]
  exact State.sbNext_of_empty (by rw [hframe.1]; exact hsb)

/-- Settles O2 (log 1, log 3): an idle step is the three counters' tick where nothing of the power manager or the sideband is due. -/
theorem idleStepTicks : Obligations.IdleStepTicks := by
  refine ⟨fun s => step_of_pending_nil, ?quiet, fun nbits w => ⟨rfl, fun s => rfl⟩⟩
  case quiet =>
    intro s hpending hpower hsb
    refine ⟨s.calTick.tbTick.wdtTick, ?_, State.fld_ticks_tb s, State.fld_ticks_cal, State.onlyRegs_ticks s⟩
    rw [step_of_pending_nil hpending, State.tick_of_quiet hpower hsb]

/-! ## Every command answers a next state but DEBUG at the SCU's debug unit -/

/-- Each meaning but DEBUG's is a next state as it is written. -/
theorem exec_eq_next (c : Instr) (s : State) (h : ∀ x, c ≠ .debug x) : ∃ t, exec c s = .next t := by
  cases c with
  | debug x => exact absurd rfl (h x)
  | _ => exact ⟨_, rfl⟩

theorem execDebug_of_closed {x : DebugAccess} (h : (s.tapRestricted || !s.boot.powered) = true) :
    execDebug x s = .next (s.tapLoad 0x20 0) := by
  unfold execDebug
  exact if_pos h

theorem execDebug_scu (h : (s.tapRestricted || !s.boot.powered) = false) : execDebug .scu s = .refused .scuDebugUnit := by
  simp [execDebug, h]

/-- A register access through the port answers a next state, whether or not it reaches its register. -/
theorem execDebug_eq_next {x : DebugAccess} (hx : x ≠ .scu) : ∃ t, execDebug x s = .next t := by
  cases x with
  | scu => exact absurd rfl hx
  | read a => simp only [execDebug]; split_ifs <;> exact ⟨_, rfl⟩
  | write a v => simp only [execDebug]; split_ifs <;> exact ⟨_, rfl⟩

/-- Settles O6 (R484, R485): DEBUG alone can stop, at the unit that the spec does not describe and through an open port. -/
theorem onlyDebugStops : Obligations.OnlyDebugStops := by
  refine ⟨exec_eq_next, fun x s => ?_⟩
  rw [exec_debug]
  by_cases hx : x = .scu
  · subst hx
    cases hclosed : s.tapRestricted || !s.boot.powered with
    | true => exact .inl ⟨_, execDebug_of_closed hclosed⟩
    | false =>
      simp only [Bool.or_eq_false_iff, Bool.not_eq_false'] at hclosed
      exact .inr ⟨execDebug_scu (by simp [hclosed]), rfl, hclosed⟩
  · exact .inl (execDebug_eq_next hx)

end Sys2Proof.Machine
end

section
/-! Proofs of the halts of a tile's units: 02_matrix_engine.md, 03_vector_and_steering.md, 04_tile_memory.md (O7, O8). -/
namespace Sys2Proof.Machine

variable {s t x : State} {h : HaltRegs} {p : Tile} {n : Fin 4}

/-! ## The two bits of a halt -/

/-- The fields of a unit's halt are one bit each, `halted` lies below `halting`, and the fault register is another. -/
structure HaltRegs.Sound (h : HaltRegs) : Prop where
  halted_width : h.halted.width = 1
  halting_width : h.halting.width = 1
  apart : h.halted.lo + h.halted.width ≤ h.halting.lo
  halting_fits : h.halting.lo + h.halting.width ≤ 64
  fallback_width : h.fallback.width = 1
  fallback_fits : h.fallback.lo + h.fallback.width ≤ 64
  fault_ne : h.fault ≠ h.status

theorem HaltRegs.Sound.halted_fits (hs : h.Sound) : h.halted.lo + h.halted.width ≤ 64 := by
  have h1 := hs.apart
  have h2 := hs.halting_fits
  omega

theorem haltMe_sound (p : Nat) : (haltMe p).Sound :=
  ⟨rfl, rfl, by simp [haltMe, ME_STATUS.halted, ME_STATUS.halting], by simp [haltMe, ME_STATUS.halting], rfl,
    by simp [haltMe, ME_FAULT.drain_fallback], by simp [haltMe, ME_FAULT, ME_STATUS]⟩

theorem haltVsp_sound (p : Nat) : (haltVsp p).Sound :=
  ⟨rfl, rfl, by simp [haltVsp, VSP_STATUS.halted, VSP_STATUS.halting], by simp [haltVsp, VSP_STATUS.halting], rfl,
    by simp [haltVsp, VSP_FAULT.drain_fallback], by simp [haltVsp, VSP_FAULT, VSP_STATUS]⟩

theorem haltSu_sound (p : Nat) : (haltSu p).Sound :=
  ⟨rfl, rfl, by simp [haltSu, SU_STATUS.halted, SU_STATUS.halting], by simp [haltSu, SU_STATUS.halting], rfl,
    by simp [haltSu, SU_FAULT.drain_fallback], by simp [haltSu, SU_FAULT, SU_STATUS]⟩

theorem haltAg_sound (p n : Nat) : (haltAg p n).Sound :=
  ⟨rfl, rfl, by simp [haltAg, AG_STATUS.halted, AG_STATUS.halting], by simp [haltAg, AG_STATUS.halting], rfl,
    by simp [haltAg, AG_FAULT.drain_fallback], by simp [haltAg, AG_FAULT, AG_STATUS]⟩

theorem State.isHalted_halt (hs : h.Sound) : (s.halt h).isHalted h = true :=
  State.bit_setBit_self hs.halted_fits hs.halted_width

theorem State.isHalting_halt (hs : h.Sound) : (s.halt h).isHalting h = false :=
  (State.bit_setBit_beside hs.halted_fits hs.halting_fits (.inr hs.apart)).trans
    (State.bit_setBit_self hs.halting_fits hs.halting_width)

theorem State.isHalting_startDrain (hs : h.Sound) : (s.startDrain h).isHalting h = true :=
  State.bit_setBit_self hs.halting_fits hs.halting_width

theorem State.isHalted_startDrain (hs : h.Sound) : (s.startDrain h).isHalted h = s.isHalted h :=
  State.bit_setBit_beside hs.halting_fits hs.halted_fits (.inl hs.apart)

theorem State.isHalted_resume (hs : h.Sound) : (s.resume h).isHalted h = false :=
  State.bit_setBit_self hs.halted_fits hs.halted_width

/-! ## Units that halt at once -/

/-- `t` is `s` with the unit halted: its two bits say so, and of registers and memory only its status register has changed. -/
structure State.HaltsTo (s t : State) (h : HaltRegs) : Prop where
  halted : t.isHalted h = true
  halting : t.isHalting h = false
  mem : s.sameMem t
  regs : s.regsBut t [h.status]

theorem State.haltsTo_halt (hs : h.Sound) (hmem : s.sameMem x) (hregs : s.regsBut x [h.status]) : s.HaltsTo (x.halt h) h :=
  ⟨State.isHalted_halt hs, State.isHalting_halt hs, hmem,
    (hregs.setBit (List.mem_singleton_self _) _ _).setBit (List.mem_singleton_self _) _ _⟩

theorem State.haltsTo_abortMe (s : State) (p : Nat) : s.HaltsTo (s.abortMe p) (haltMe p) :=
  State.haltsTo_halt (haltMe_sound p) (by simp)
    (((State.regsBut_refl s _).setMe p _).setFld (List.mem_singleton_self _) _ _ |>.setBit
      (List.mem_singleton_self _) _ _)

theorem State.haltsTo_abortVsp (s : State) (p : Nat) : s.HaltsTo (s.abortVsp p) (haltVsp p) :=
  State.haltsTo_halt (haltVsp_sound p) (by simp)
    (((State.regsBut_refl s _).setVsp p _).setBit (List.mem_singleton_self _) _ _)

theorem State.haltsTo_abortSu (s : State) (p : Nat) : s.HaltsTo (s.abortSu p) (haltSu p) :=
  State.haltsTo_halt (haltSu_sound p) (by simp) (State.regsBut_refl s _)

theorem State.haltsTo_abortAg (s : State) (p n : Nat) : s.HaltsTo (s.abortAg p n) (haltAg p n) :=
  State.haltsTo_halt (haltAg_sound p n) (by simp)
    ((State.regsBut_refl s _).setBit (List.mem_singleton_self _) _ _)

/-! ## Halt requests and resumes -/

/-- What a halt request does once its mode stands in the control register: the form that the four units share. -/
def State.haltReq (s : State) (mode : BitVec 2) (h : HaltRegs) (abort : State → State) : State :=
  if s.isHalted h then s
  else if mode = 0 then s.startDrain h
  else if mode = 1 then abort s
  else s

/-- `c` is the halt request of the unit `h`, whose control register is `ctl`. -/
def IsHaltReq (c : BitVec 2 → Instr) (ctl : Nat) (h : HaltRegs) : Prop :=
  h.Sound ∧ ctl ≠ h.status ∧ ∃ (f : Field) (abort : State → State), (∀ s : State, s.HaltsTo (abort s) h) ∧
    ∀ (s : State) (mode : BitVec 2), exec (c mode) s = .next ((s.setFld ctl f mode.toNat).haltReq mode h abort)

theorem isHaltReq_of_mem {c : BitVec 2 → Instr} {ctl : Nat}
    (hmem : (c, ctl, h) ∈ ([(Instr.meHaltReq p, ME_CTRL p, haltMe p), (Instr.vspHaltReq p, VSP_CTRL p, haltVsp p),
      (Instr.suHaltReq p, SU_CTRL p, haltSu p), (Instr.agHaltReq p n, AG_CTRL p n, haltAg p n)] :
        List ((BitVec 2 → Instr) × Nat × HaltRegs))) : IsHaltReq c ctl h := by
  simp only [List.mem_cons, Prod.mk.injEq, List.not_mem_nil, or_false] at hmem
  obtain ⟨rfl, rfl, rfl⟩ | ⟨rfl, rfl, rfl⟩ | ⟨rfl, rfl, rfl⟩ | ⟨rfl, rfl, rfl⟩ := hmem
  · exact ⟨haltMe_sound p, by simp [haltMe, ME_CTRL, ME_STATUS], _, fun s => s.abortMe p, fun s => s.haltsTo_abortMe p,
      fun _ _ => rfl⟩
  · exact ⟨haltVsp_sound p, by simp [haltVsp, VSP_CTRL, VSP_STATUS], _, fun s => s.abortVsp p, fun s => s.haltsTo_abortVsp p,
      fun _ _ => rfl⟩
  · exact ⟨haltSu_sound p, by simp [haltSu, SU_CTRL, SU_STATUS], _, fun s => s.abortSu p, fun s => s.haltsTo_abortSu p,
      fun _ _ => rfl⟩
  · exact ⟨haltAg_sound p n, by simp [haltAg, AG_CTRL, AG_STATUS], _, fun s => s.abortAg p n, fun s => s.haltsTo_abortAg p n,
      fun _ _ => rfl⟩

theorem State.isHalted_setFld_ctl {ctl : Nat} (hne : ctl ≠ h.status) {f : Field} {v : Nat} :
    (s.setFld ctl f v).isHalted h = s.isHalted h := by
  rw [State.isHalted, State.bit, State.fld_setFld_ne hne.symm, State.isHalted, State.bit]

theorem exec_halt_drain {c : BitVec 2 → Instr} {ctl : Nat} (hc : IsHaltReq c ctl h) (hrun : s.isHalted h = false) :
    ∃ t, exec (c 0) s = .next t ∧ t.isHalting h = true ∧ t.isHalted h = false ∧ s.onlyRegs t [ctl, h.status] := by
  obtain ⟨hs, hne, f, abort, _, hexec⟩ := hc
  have hrun' : (s.setFld ctl f 0).isHalted h = false := by rw [State.isHalted_setFld_ctl hne, hrun]
  refine ⟨(s.setFld ctl f 0).startDrain h, ?_, State.isHalting_startDrain hs, ?_, ?_⟩
  · rw [hexec]
    simp [State.haltReq, hrun']
  · rw [State.isHalted_startDrain hs, hrun']
  · exact ((State.onlyRegs_refl s _).setFld (by simp) _ _).setBit (by simp) _ _

theorem exec_halt_abort {c : BitVec 2 → Instr} {ctl : Nat} (hc : IsHaltReq c ctl h) (hrun : s.isHalted h = false) :
    ∃ t, exec (c 1) s = .next t ∧ t.isHalting h = false ∧ t.isHalted h = true ∧ s.sameMem t ∧ s.regsBut t [ctl, h.status] := by
  obtain ⟨_, hne, f, abort, habort, hexec⟩ := hc
  have hrun' : (s.setFld ctl f 1).isHalted h = false := by rw [State.isHalted_setFld_ctl hne, hrun]
  obtain ⟨hhalted, hhalting, hmem, hregs⟩ := habort (s.setFld ctl f 1)
  refine ⟨abort (s.setFld ctl f 1), ?_, hhalting, hhalted, hmem, ?_⟩
  · rw [hexec]
    simp [State.haltReq, hrun']
  · exact ((State.regsBut_refl s _).setFld (by simp) f 1).trans (hregs.mono (by simp))

/-- A resume reads the fence of the tile and clears one bit. -/
theorem exec_resume_of_mem {c : Instr}
    (hmem : (c, h) ∈ [(Instr.meResume p, haltMe p), (Instr.vspResume p, haltVsp p), (Instr.suResume p, haltSu p),
      (Instr.agResume p n, haltAg p n)]) :
    h.Sound ∧ exec c s = .next (if s.fenced p then s else s.resume h) := by
  simp only [List.mem_cons, Prod.mk.injEq, List.not_mem_nil, or_false] at hmem
  obtain ⟨rfl, rfl⟩ | ⟨rfl, rfl⟩ | ⟨rfl, rfl⟩ | ⟨rfl, rfl⟩ := hmem
  · exact ⟨haltMe_sound p, rfl⟩
  · exact ⟨haltVsp_sound p, rfl⟩
  · exact ⟨haltSu_sound p, rfl⟩
  · exact ⟨haltAg_sound p n, rfl⟩

/-- Settles O7 (R66, R95, R103, R115): the four units halt and resume in one way, over their own registers. -/
theorem unitHalts : Obligations.UnitHalts := by
  refine ⟨fun s p n c ctl h hmem hrun => ?halt, fun s p n c h hmem => ?resume⟩
  case halt =>
    have hc := isHaltReq_of_mem hmem
    exact ⟨exec_halt_drain hc hrun, exec_halt_abort hc hrun⟩
  case resume =>
    obtain ⟨hs, hexec⟩ := exec_resume_of_mem (s := s) hmem
    refine ⟨fun hopen => ⟨s.resume h, ?_, State.isHalted_resume hs, State.onlyRegs_setBit s _ _ _⟩, fun hfenced => ?_⟩
    · rw [hexec, hopen]
      rfl
    · rw [hexec, hfenced]
      rfl

/-! ## The end of a drain -/

@[simp] theorem State.sameMem_meStatus {p : Nat} : s.sameMem (t.meStatus p) ↔ s.sameMem t := by simp [State.meStatus]

@[simp] theorem State.sameMem_vspStatus {p : Nat} : s.sameMem (t.vspStatus p) ↔ s.sameMem t := by simp [State.vspStatus]

theorem State.regsBut_meStatus (s : State) (p : Nat) : s.regsBut (s.meStatus p) [ME_STATUS p] := by
  have hin : ME_STATUS p ∈ [ME_STATUS p] := List.mem_singleton_self _
  exact (((((((State.regsBut_refl s _).setBit hin _ _).setFld hin _ _).setBit hin _ _).setBit hin _ _).setFld hin _ _).setFld
    hin _ _).setFld hin _ _

theorem State.regsBut_vspStatus (s : State) (p : Nat) : s.regsBut (s.vspStatus p) [VSP_STATUS p] :=
  ((State.regsBut_refl s _).setBit (List.mem_singleton_self _) _ _).setFld (List.mem_singleton_self _) _ _

/-- With no complete entry there is nothing to emit. -/
theorem State.meEmit_of_none_done {p : Nat} (hnone : (s.meU p).acc.any (fun e => e.2.done) = false) : s.meEmit p = s := by
  have hready : (s.meU p).acc.filter (fun e => e.2.done) = [] := by simpa using hnone
  simp [State.meEmit, hready]

theorem State.haltsTo_meDrained {p : Nat} (hnone : (s.meU p).acc.any (fun e => e.2.done) = false) :
    s.HaltsTo (s.meDrained p) (haltMe p) := by
  have hin : ME_STATUS p ∈ [ME_STATUS p] := List.mem_singleton_self _
  simp only [State.meDrained, State.meEmit_of_none_done hnone, hnone, Bool.false_eq_true, if_false]
  exact State.haltsTo_halt (haltMe_sound p) (by simp)
    ((((State.regsBut_refl s _).setMe p _).trans (State.regsBut_meStatus _ p)).setFld hin _ _)

theorem State.haltsTo_vspDrained (s : State) (p : Nat) : s.HaltsTo (s.vspDrained p) (haltVsp p) :=
  State.haltsTo_halt (haltVsp_sound p) (by simp)
    (((State.regsBut_refl s _).setVsp p _).trans (State.regsBut_vspStatus _ p))

/-- The drain of a unit with the halt `h` ends in a halt, whether it completes or is cut off. -/
theorem unitDrains_of_mem {u : UnitId}
    (hmem : (u, h) ∈ [(UnitId.me, haltMe p), (UnitId.vsp, haltVsp p), (UnitId.su, haltSu p), (UnitId.ag n, haltAg p n)])
    (hdrain : s.isHalting h = true) :
    h.Sound ∧
    ((s.meU p).acc.any (fun e => e.2.done) = false → (s.agP p n (s.slot p)).awaiting = false →
      ∃ t, exec (.unitHaltComplete p u) s = .next t ∧ s.HaltsTo t h) ∧
    ∃ abort : State, s.HaltsTo abort h ∧ exec (.unitDrainTimeout p u) s = .next (abort.setBit h.fault h.fallback true) := by
  simp only [List.mem_cons, Prod.mk.injEq, List.not_mem_nil, or_false] at hmem
  obtain ⟨rfl, rfl⟩ | ⟨rfl, rfl⟩ | ⟨rfl, rfl⟩ | ⟨rfl, rfl⟩ := hmem
  · refine ⟨haltMe_sound p, fun hnone _ => ⟨_, ?_, State.haltsTo_meDrained hnone⟩, _, s.haltsTo_abortMe p, ?_⟩
    · simp [execUnitHaltComplete, hdrain]
    · simp [execUnitDrainTimeout, hdrain]
  · refine ⟨haltVsp_sound p, fun _ _ => ⟨_, ?_, s.haltsTo_vspDrained p⟩, _, s.haltsTo_abortVsp p, ?_⟩
    · simp [execUnitHaltComplete, hdrain]
    · simp [execUnitDrainTimeout, hdrain]
  · refine ⟨haltSu_sound p, fun _ _ => ⟨_, ?_, s.haltsTo_abortSu p⟩, _, s.haltsTo_abortSu p, ?_⟩
    · simp [execUnitHaltComplete, hdrain, State.abortSu]
    · simp [execUnitDrainTimeout, hdrain]
  · refine ⟨haltAg_sound p n, fun _ hidle => ⟨_, ?_, s.haltsTo_abortAg p n⟩, _, s.haltsTo_abortAg p n, ?_⟩
    · simp [execUnitHaltComplete, hdrain, hidle, State.abortAg]
    · simp [execUnitDrainTimeout, hdrain]

/-- AG_RESTART in one place: the program's new position and its two status bits (R114). -/
theorem exec_agRestart_effect (s : State) (p : Tile) (n : Fin 4) :
    ∃ t, exec (.agRestart p n) s = .next t ∧
      t.bit (AG_STATUS p n) AG_STATUS.done = false ∧ t.bit (AG_STATUS p n) AG_STATUS.stopped = false ∧
      (t.agP p n (s.slot p)).pos = [0, 0, 0, 0, 0, 0] ∧ (t.agP p n (s.slot p)).ended = false ∧ s.sameMem t ∧
      s.regsBut t [AG_STATUS p n] := by
  have hin : AG_STATUS p n ∈ [AG_STATUS p n] := List.mem_singleton_self _
  refine ⟨s.agRestart p n, rfl, ?_, ?_, ?_, ?_, ?_, ?_⟩
  · exact (State.bit_setBit_beside (by decide) (by decide) (by decide)).trans (State.bit_setBit_self (by decide) rfl)
  · exact State.bit_setBit_self (by decide) rfl
  · simp [State.agRestart]
  · simp [State.agRestart]
  · simp [State.agRestart]
  · exact (((State.regsBut_refl s _).setAg p n _ _).setBit hin _ _).setBit hin _ _

/-- Settles O8 (R66, R95, R103, R114, R115): a drain ends in a halt whether it completes or is cut off, and AG_RESTART resets the program. -/
theorem unitDrainsAndRestarts : Obligations.UnitDrainsAndRestarts := by
  refine ⟨fun s p n u h hmem hdrain => ?drain, exec_agRestart_effect⟩
  case drain =>
    obtain ⟨hs, hcomplete, abort, ⟨hhalted, hhalting, hmem', hregs⟩, hexec⟩ := unitDrains_of_mem hmem hdrain
    refine ⟨fun hnone hidle => ?_, ⟨abort.setBit h.fault h.fallback true, hexec, ?_, ?_, ?_, ?_, ?_⟩⟩
    · obtain ⟨t, hexec, hhalted, hhalting, hmem', hregs⟩ := hcomplete hnone hidle
      exact ⟨t, hexec, hhalting, hhalted, hmem', hregs⟩
    · exact (State.bit_setBit_ne hs.fault_ne.symm).trans hhalting
    · exact (State.bit_setBit_ne hs.fault_ne.symm).trans hhalted
    · exact State.bit_setBit_self hs.fallback_fits hs.fallback_width
    · simpa using hmem'
    · exact (hregs.mono (by simp)).setBit (by simp) _ _

end Sys2Proof.Machine
end

section
/-! Proofs of 06_channels_and_sync.md: endpoints and synchronisation counters (O13, O15). -/
namespace Sys2Proof.Machine

variable {s t : State} {p : Tile} {e : Fin 64}

/-! ## The register and the window of an endpoint -/

/-- Distinct one-bit fields of CH_EP_STATE do not disturb each other. -/
theorem State.epBit_setBit_self {p e : Nat} {f : Field} {b : Bool} (hfits : f.lo + f.width ≤ 64) (hwidth : f.width = 1) :
    (s.setBit (CH_EP_STATE p e) f b).epBit p e f = b := State.bit_setBit_self hfits hwidth

theorem CH_EP_CTRL_ne_CH_EP_STATE (p e : Nat) : CH_EP_CTRL p e ≠ CH_EP_STATE p e := by simp [CH_EP_CTRL, CH_EP_STATE]

theorem CH_EP_STATE_ne_CH_FAULT (p e : Nat) : CH_EP_STATE p e ≠ CH_FAULT p := by
  simp only [CH_EP_STATE, CH_FAULT]
  omega

/-- The last two writes of a halt: halting is cleared and halted is set. -/
def State.epHalted (s : State) (p e : Nat) : State :=
  (s.setBit (CH_EP_STATE p e) CH_EP_STATE.halting false).setBit (CH_EP_STATE p e) CH_EP_STATE.halted true

theorem State.epBit_epHalted_halted {p e : Nat} : (s.epHalted p e).epBit p e CH_EP_STATE.halted = true :=
  State.epBit_setBit_self (by decide) rfl

theorem State.epBit_epHalted_halting {p e : Nat} : (s.epHalted p e).epBit p e CH_EP_STATE.halting = false :=
  (State.bit_setBit_beside (by decide) (by decide) (by decide)).trans (State.bit_setBit_self (by decide) rfl)

@[simp] theorem State.ep_epHalted {p e i j : Nat} : (s.epHalted p e).ep i j = s.ep i j := rfl

theorem State.onlyRegs_epHalted (s : State) (p e : Nat) : s.onlyRegs (s.epHalted p e) [CH_EP_STATE p e] :=
  ((State.onlyRegs_refl s _).setBit (List.mem_singleton_self _) _ _).setBit (List.mem_singleton_self _) _ _

/-- A peak of the sampler is no register and no memory. -/
@[simp] theorem State.sameMem_notePeak {k v : Nat} : s.sameMem (t.notePeak k v) ↔ s.sameMem t := by
  unfold State.notePeak
  split <;> rfl

theorem State.regsBut.notePeak {l : List Nat} (h : s.regsBut t l) (k v : Nat) : s.regsBut (t.notePeak k v) l := by
  unfold State.notePeak
  split
  · exact h.of_regs_eq rfl
  · exact h

@[simp] theorem State.ep_notePeak {k v i j : Nat} : (s.notePeak k v).ep i j = s.ep i j := by
  unfold State.notePeak
  split <;> rfl

@[simp] theorem State.sameMem_setEpWin {p e : Nat} {u : EpUnit} : s.sameMem (t.setEpWin p e u) ↔ s.sameMem t := by
  simp [State.setEpWin]

theorem State.regsBut.setEpWin {l : List Nat} (h : s.regsBut t l) {p e : Nat} (hin : CH_EP_STATE p e ∈ l) (u : EpUnit) :
    s.regsBut (t.setEpWin p e u) l := (((h.setEp p e u).setFld hin _ _).setFld hin _ _).notePeak _ _

@[simp] theorem State.ep_setEpWin_self {p e : Nat} {u : EpUnit} : (s.setEpWin p e u).ep p e = u := by
  simp [State.setEpWin]

/-- A window none of whose entries retains a record releases nothing. -/
theorem State.foldl_releaseSrc_none {p : Nat} {l : List WinEntry} (h : ∀ w ∈ l, w.src = none) :
    l.foldl (fun s w => s.releaseSrc p w.src) s = s := by
  induction l with
  | nil => rfl
  | cons w l ih =>
    have hw : w.src = none := h w (List.mem_cons_self ..)
    rw [List.foldl_cons, hw]
    exact ih fun x hx => h x (List.mem_cons_of_mem _ hx)

/-! ## Halts -/

/-- The state before the last two writes of an ABORT: the window is empty and what it retained is released. -/
def State.epEmptied (s : State) (p e : Nat) : State :=
  ((s.ep p e).win.foldl (fun s w => s.releaseSrc p w.src) s).setEpWin p e
    { s.ep p e with win := [], roundNacked := false, announceDue := false, aborted := true,
                    discarded := (s.ep p e).discarded + (s.ep p e).win.length }

theorem State.epAbort_eq {p e : Nat} : s.epAbort p e = (s.epEmptied p e).epHalted p e := rfl

theorem State.win_epAbort {p e : Nat} : ((s.epAbort p e).ep p e).win = [] := by
  simp [State.epAbort_eq, State.epEmptied]

theorem State.frame_epAbort {p e : Nat} (h : ∀ w ∈ (s.ep p e).win, w.src = none) :
    s.sameMem (s.epAbort p e) ∧ s.regsBut (s.epAbort p e) [CH_EP_STATE p e] := by
  have hin : CH_EP_STATE p e ∈ [CH_EP_STATE p e] := List.mem_singleton_self _
  rw [State.epAbort_eq, State.epEmptied, State.foldl_releaseSrc_none h]
  exact ⟨by simp [State.epHalted], ((State.regsBut_refl s _).setEpWin hin _).trans (State.onlyRegs_epHalted _ p e).2⟩

theorem State.epBit_setFld_ctrl {p e : Nat} {f g : Field} {v : Nat} :
    (s.setFld (CH_EP_CTRL p e) f v).epBit p e g = s.epBit p e g := by
  rw [State.epBit, State.bit, State.fld_setFld_ne (CH_EP_CTRL_ne_CH_EP_STATE p e).symm, State.epBit, State.bit]

theorem exec_chEpHaltReq_drain (hrun : s.epBit p e CH_EP_STATE.halted = false) :
    ∃ t, exec (.chEpHaltReq p e 0) s = .next t ∧ t.epBit p e CH_EP_STATE.halting = true ∧
      t.epBit p e CH_EP_STATE.halted = false ∧ s.onlyRegs t [CH_EP_CTRL p e, CH_EP_STATE p e] := by
  refine ⟨(s.setFld (CH_EP_CTRL p e) CH_EP_CTRL.halt_mode 0).setBit (CH_EP_STATE p e) CH_EP_STATE.halting true, ?_,
    State.epBit_setBit_self (by decide) rfl, ?_, ?_⟩
  · simp [execChEpHaltReq, State.epHalt, State.epBit_setFld_ctrl, hrun]
  · exact (State.bit_setBit_beside (by decide) (by decide) (by decide)).trans (State.epBit_setFld_ctrl.trans hrun)
  · exact ((State.onlyRegs_refl s _).setFld (by simp) _ _).setBit (by simp) _ _

theorem exec_chEpHaltReq_abort (hrun : s.epBit p e CH_EP_STATE.halted = false) :
    ∃ t, exec (.chEpHaltReq p e 1) s = .next t ∧ t.epBit p e CH_EP_STATE.halted = true ∧
      t.epBit p e CH_EP_STATE.halting = false ∧ (t.ep p e).win = [] ∧
      ((∀ w ∈ (s.ep p e).win, w.src = none) → s.sameMem t ∧ s.regsBut t [CH_EP_CTRL p e, CH_EP_STATE p e]) := by
  refine ⟨(s.setFld (CH_EP_CTRL p e) CH_EP_CTRL.halt_mode 1).epAbort p e, ?_, State.epBit_epHalted_halted,
    State.epBit_epHalted_halting, State.win_epAbort, fun hnone => ?_⟩
  · simp [execChEpHaltReq, State.epHalt, State.epBit_setFld_ctrl, hrun]
  · obtain ⟨hmem, hregs⟩ := State.frame_epAbort (s := s.setFld (CH_EP_CTRL p e) CH_EP_CTRL.halt_mode 1) hnone
    exact ⟨hmem, ((State.regsBut_refl s _).setFld (by simp) _ _).trans (hregs.mono (by simp))⟩

theorem exec_endpointHaltComplete_drained (hhalting : s.epBit p e CH_EP_STATE.halting = true) (hdrained : s.epDrained p e = true) :
    exec (.endpointHaltComplete p e) s = .next (s.epHalted p e) := by
  simp [execEndpointHaltComplete, hhalting, hdrained, State.epHalted]

theorem exec_endpointDrainTimeout_halting (hhalting : s.epBit p e CH_EP_STATE.halting = true) :
    ∃ t, exec (.endpointDrainTimeout p e) s = .next t ∧ t.epBit p e CH_EP_STATE.halted = true ∧
      t.epBit p e CH_EP_STATE.halting = false ∧ (t.ep p e).win = [] ∧ t.bit (CH_FAULT p) CH_FAULT.drain_fallback = true ∧
      ((∀ w ∈ (s.ep p e).win, w.src = none) → s.sameMem t ∧ s.regsBut t [CH_FAULT p, CH_EP_STATE p e]) := by
  have hne := CH_EP_STATE_ne_CH_FAULT p e
  refine ⟨(s.epAbort p e).setBit (CH_FAULT p) CH_FAULT.drain_fallback true, ?_, ?_, ?_, State.win_epAbort,
    State.bit_setBit_self (by decide) rfl, fun hnone => ?_⟩
  · simp [execEndpointDrainTimeout, hhalting]
  · exact (State.bit_setBit_ne hne).trans State.epBit_epHalted_halted
  · exact (State.bit_setBit_ne hne).trans State.epBit_epHalted_halting
  · obtain ⟨hmem, hregs⟩ := State.frame_epAbort hnone
    exact ⟨hmem, (hregs.mono (by simp)).setBit (by simp) _ _⟩

theorem exec_chEpResume_open (hopen : s.fenced p = false) :
    ∃ t, exec (.chEpResume p e) s = .next t ∧ t.epBit p e CH_EP_STATE.halted = false ∧
      (t.ep p e).win = (s.ep p e).win ∧ s.sameMem t ∧ s.regsBut t [CH_EP_STATE p e] := by
  refine ⟨s.epResume p e, by simp [execChEpResume, hopen], State.epBit_setBit_self (by decide) rfl, ?_, ?_, ?_⟩
  · simp [State.epResume]
  · simp [State.epResume]
  · exact ((State.regsBut_refl s _).setEp _ _ _).setBit (List.mem_singleton_self _) _ _

/-! ## Overflow and acknowledgement -/

theorem exec_overflowOn_halted (hrole : s.epRole p e = 2) (hhalted : s.epBit p e CH_EP_STATE.halted = true)
    (hoff : s.epBit p e CH_EP_STATE.overflow = false) :
    ∃ t, exec (.overflowOn p e) s = .next t ∧ t.epBit p e CH_EP_STATE.overflow = true ∧ (t.ep p e).ovf = [] ∧
      s.sameMem t ∧ s.regsBut t [CH_EP_STATE p e] := by
  refine ⟨(s.setEp p e { s.ep p e with ovfRead := 0, ovfWrite := 0, ovf := [] }).setBit (CH_EP_STATE p e)
    CH_EP_STATE.overflow true, ?_, State.epBit_setBit_self (by decide) rfl, by simp, by simp, ?_⟩
  · simp [execOverflowOn, State.overflowOn, hrole, hhalted, hoff]
  · exact ((State.regsBut_refl s _).setEp _ _ _).setBit (List.mem_singleton_self _) _ _

theorem exec_markAcked_halted (hrole : s.epRole p e = 1) (hhalted : s.epBit p e CH_EP_STATE.halted = true) :
    ∃ t, exec (.markAcked p e) s = .next t ∧ (t.ep p e).win = [] ∧
      ((∀ w ∈ (s.ep p e).win, w.src = none) → s.sameMem t ∧ s.regsBut t [CH_EP_STATE p e]) := by
  have hin : CH_EP_STATE p e ∈ [CH_EP_STATE p e] := List.mem_singleton_self _
  refine ⟨s.markAcked p e, rfl, ?_, fun hnone => ?_⟩
  · simp [State.markAcked, hrole, hhalted]
  · simp only [State.markAcked, hrole, hhalted, and_self, if_true, State.foldl_releaseSrc_none hnone]
    exact ⟨by simp, ((State.regsBut_refl s _).setEpWin hin _).setFld hin _ _⟩

/-- Settles O13 (R172, R181, R185): halts, resumes, overflow and acknowledgement of an endpoint. -/
theorem endpoints : Obligations.Endpoints := by
  refine ⟨fun s p e => ⟨fun hrun => ⟨exec_chEpHaltReq_drain hrun, exec_chEpHaltReq_abort hrun⟩, fun hhalting hdrained => ?complete,
    exec_endpointDrainTimeout_halting, exec_chEpResume_open, fun hfenced => ?fenced⟩,
    fun s p e => ⟨exec_overflowOn_halted, exec_markAcked_halted, fun hrun => ?runs⟩⟩
  case complete =>
    exact ⟨_, exec_endpointHaltComplete_drained hhalting hdrained, State.epBit_epHalted_halted, State.epBit_epHalted_halting,
      State.onlyRegs_epHalted s p e⟩
  case fenced => simp [execChEpResume, hfenced]
  case runs =>
    exact ⟨by simp [execOverflowOn, State.overflowOn, hrun], by simp [execMarkAcked, State.markAcked, hrun]⟩

/-! ## Synchronisation counters -/

variable {n : Fin 64} {amount : BitVec 32}

theorem bitOf_eq_testBit (v i : Nat) : bitOf v i = v.testBit i := by
  simp [bitOf, bits, Nat.testBit_eq_decide_div_mod_eq, Nat.shiftRight_eq_div_pow]

/-- A bit of a field is a one-bit field of the register. -/
theorem State.bitOf_fld {a i : Nat} {f : Field} (hi : i < f.width) : bitOf (s.fld a f) i = s.bit a ⟨f.lo + i, 1⟩ := by
  have hone : bitOf (s.fld a ⟨f.lo + i, 1⟩) 0 = s.bit a ⟨f.lo + i, 1⟩ := by
    simp [bitOf, bits, State.bit, State.fld, Field.get]
  rw [← hone, bitOf_eq_testBit, bitOf_eq_testBit, State.fld, State.fld, Field.testBit_get, Field.testBit_get]
  simp [hi]

theorem SYNC_CNT_ne_SYNC_WRAPPED (p : Nat) (n : Fin 64) : SYNC_CNT p n ≠ SYNC_WRAPPED p := by
  simp only [SYNC_CNT, SYNC_WRAPPED]
  omega

theorem exec_syncAdd_enabled (hon : bitOf (s.fld (SYNC_EN p) SYNC_EN.enable) n = true) :
    ∃ t, exec (.syncAdd p n amount) s = .next t ∧
      t.fld (SYNC_CNT p n) SYNC_CNT.value = (s.fld (SYNC_CNT p n) SYNC_CNT.value + amount.toNat) % 2 ^ 64 ∧
      (2 ^ 64 ≤ s.fld (SYNC_CNT p n) SYNC_CNT.value + amount.toNat → t.fld (SYNC_WRAPPED p) ⟨n, 1⟩ = 1) ∧
      (s.fld (SYNC_CNT p n) SYNC_CNT.value + amount.toNat < 2 ^ 64 → s.onlyRegs t [SYNC_CNT p n]) ∧
      s.onlyRegs t [SYNC_CNT p n, SYNC_WRAPPED p] := by
  by_cases hlt : s.fld (SYNC_CNT p n) SYNC_CNT.value + amount.toNat < 2 ^ 64
  · refine ⟨s.setFld (SYNC_CNT p n) SYNC_CNT.value (s.fld (SYNC_CNT p n) SYNC_CNT.value + amount.toNat), ?_,
      State.fld_setFld_self (by decide), fun hge => absurd hlt (Nat.not_lt.2 hge), fun _ => ?_, ?_⟩
    · simp only [exec_syncAdd, execSyncAdd, State.addCounter, hon, if_true, if_pos hlt]
    · exact (State.onlyRegs_refl s _).setFld (by simp) _ _
    · exact (State.onlyRegs_refl s _).setFld (by simp) _ _
  · refine ⟨(s.setFld (SYNC_CNT p n) SYNC_CNT.value (s.fld (SYNC_CNT p n) SYNC_CNT.value + amount.toNat)).setFld
      (SYNC_WRAPPED p) ⟨n, 1⟩ 1, ?_, ?_, fun _ => ?_, fun h => absurd h hlt, ?_⟩
    · simp only [exec_syncAdd, execSyncAdd, State.addCounter, hon, if_true, if_neg hlt]
    · rw [State.fld_setFld_ne (SYNC_CNT_ne_SYNC_WRAPPED p n), State.fld_setFld_self (by decide)]
      rfl
    · rw [State.fld_setFld_self (by simp only; omega)]
      rfl
    · exact ((State.onlyRegs_refl s _).setFld (by simp) _ _).setFld (by simp) _ _

theorem exec_syncSetCmd_enabled (hon : bitOf (s.fld (SYNC_EN p) SYNC_EN.enable) n = true) :
    ∃ t, exec (.syncSetCmd p n) s = .next t ∧ t.bit (SYNC_FAULT p) SYNC_FAULT.set_refused = true ∧
      s.onlyRegs t [SYNC_FAULT p] :=
  ⟨_, congrArg Host.Outcome.next (if_pos hon), State.bit_setBit_self (by decide) rfl, State.onlyRegs_setBit s _ _ _⟩

theorem exec_syncAdd_disabled (hoff : bitOf (s.fld (SYNC_EN p) SYNC_EN.enable) n = false) :
    ∃ t, exec (.syncAdd p n amount) s = .next t ∧ t.bit (SYNC_FAULT p) SYNC_FAULT.counter_off = true ∧
      s.onlyRegs t [SYNC_FAULT p] :=
  ⟨_, congrArg Host.Outcome.next (if_neg (by simp [hoff])), State.bit_setBit_self (by decide) rfl, State.onlyRegs_setBit s _ _ _⟩

theorem exec_syncSetCmd_disabled (hoff : bitOf (s.fld (SYNC_EN p) SYNC_EN.enable) n = false) :
    ∃ t, exec (.syncSetCmd p n) s = .next t ∧
      t.fld (SYNC_CNT p n) SYNC_CNT.value = s.fld (SYNC_SET_VALUE p) SYNC_SET_VALUE.value ∧ s.onlyRegs t [SYNC_CNT p n] :=
  ⟨_, congrArg Host.Outcome.next (if_neg (by simp [hoff])), State.fld_setFld_lt (by decide) (Nat.mod_lt _ (by decide)),
    State.onlyRegs_setReg s _ _⟩

theorem SYNC_WAIT_TGT_ne_SYNC_STATUS (p k u : Nat) : SYNC_WAIT_TGT p k u ≠ SYNC_STATUS p := by
  simp only [SYNC_WAIT_TGT, SYNC_STATUS]
  omega

/-- The wait cycles stand beside the waiting mask of the same register. -/
theorem State.unitWaiting_setWaiting_addMod {p k : Nat} {u : Fin 8} :
    ((s.setWaiting p u false).addMod (SYNC_STATUS p) SYNC_STATUS.wait_cycles k).unitWaiting p u = false := by
  have hfits : (⟨SYNC_STATUS.waiting.lo + u, 1⟩ : Field).lo + 1 ≤ 8 := by
    simp only [SYNC_STATUS.waiting]
    omega
  have hout : (⟨SYNC_STATUS.waiting.lo + u, 1⟩ : Field).lo + 1 ≤ 64 := Nat.le_trans hfits (by decide)
  rw [State.unitWaiting, State.bitOf_fld (show u.val < SYNC_STATUS.waiting.width from u.isLt)]
  exact (congrArg (fun x => decide (x = 1)) (State.fld_setFld_beside (by decide) hout (.inl hfits))).trans
    (State.bit_setBit_self hout rfl)

theorem exec_waitMet_met {u : Fin 8} (hwaits : s.unitWaiting p u = true) (hmet : s.waitMet p (s.slot p) u = true) :
    ∃ t, exec (.waitMet p u) s = .next t ∧ t.unitWaiting p u = false ∧
      t.fld (SYNC_WAIT_TGT p (s.slot p) u) SYNC_WAIT_TGT.target =
        (s.fld (SYNC_WAIT_TGT p (s.slot p) u) SYNC_WAIT_TGT.target +
          s.fld (SYNC_WAIT_CFG p (s.slot p) u) SYNC_WAIT_CFG.step) % 2 ^ SYNC_WAIT_TGT.target.width ∧
      s.sameMem t ∧ s.regsBut t [SYNC_STATUS p, SYNC_WAIT_TGT p (s.slot p) u] := by
  have hne := SYNC_WAIT_TGT_ne_SYNC_STATUS p (s.slot p) u
  refine ⟨_, congrArg Host.Outcome.next (if_pos (by rw [hwaits, hmet]; rfl)),
    State.unitWaiting_setWaiting_addMod (s := s.waitDone p (s.slot p) u), ?_, ?_, ?_⟩
  · exact (State.fld_setFld_ne hne).trans ((State.fld_setFld_ne hne).trans (State.fld_setFld_self (by decide)))
  · simp [State.setWaiting, State.waitDone]
  · have hdone : s.regsBut (s.waitDone p (s.slot p) u) [SYNC_STATUS p, SYNC_WAIT_TGT p (s.slot p) u] :=
      (State.regsBut_refl s _).addMod (by simp) _ _
    have hdraw : s.regsBut (((s.waitDone p (s.slot p) u).setWaiting p u false).draw 16).2
        [SYNC_STATUS p, SYNC_WAIT_TGT p (s.slot p) u] := (hdone.setFld (by simp) _ _).of_regs_eq rfl
    exact hdraw.addMod (by simp) _ _

/-- Settles O15 (R187, R189, R191): adds, sets and waits of the counters. -/
theorem syncCounters : Obligations.SyncCounters :=
  ⟨fun _ _ _ _ => ⟨fun hon => ⟨exec_syncAdd_enabled hon, exec_syncSetCmd_enabled hon⟩,
    fun hoff => ⟨exec_syncAdd_disabled hoff, exec_syncSetCmd_disabled hoff⟩⟩, fun _ _ _ => exec_waitMet_met⟩

end Sys2Proof.Machine
end

section
/-! Proofs of fold switches, epochs and fences of a tile: 07_plates_and_folding.md, 09_self_healing.md (O16, O17). -/
namespace Sys2Proof.Machine

variable {s t : State} {p : Tile}

/-! ## Fold switches (R219) -/

theorem State.slot_lt (s : State) (p : Nat) : s.slot p < 8 := Nat.mod_lt _ (by decide)

theorem State.nextSlot_lt (s : State) (p : Nat) : s.nextSlot p < 8 := by
  unfold State.nextSlot
  dsimp only
  split
  · rename_i k hk
    obtain ⟨i, _, rfl⟩ := List.mem_map.1 (List.mem_of_find?_eq_some hk)
    exact Nat.mod_lt _ (by decide)
  · exact s.slot_lt p

theorem State.switchTarget_lt (s : State) (p : Nat) : s.switchTarget p < 8 := by
  unfold State.switchTarget
  dsimp only
  cases hk : List.find? _ _ with
  | none => exact s.slot_lt p
  | some k =>
    obtain ⟨i, _, rfl⟩ := List.mem_map.1 (List.mem_of_find?_eq_some hk)
    exact Nat.mod_lt _ (by decide)

/-- A request makes the switch pending and names the next slot. -/
theorem State.requestSwitch_requested (hslots : 2 ≤ s.enabledSlots p) (hhold : s.bit (TILE_FOLD_CTRL p) TILE_FOLD_CTRL.hold = false) :
    (s.requestSwitch p).bit (TILE_FOLD_STATUS p) TILE_FOLD_STATUS.switch_pending = true ∧
      (s.requestSwitch p).fld (TILE_FOLD_STATUS p) TILE_FOLD_STATUS.next_slot = s.nextSlot p ∧
      (s.requestSwitch p).slot p = s.slot p ∧ s.onlyRegs (s.requestSwitch p) [TILE_FOLD_STATUS p] := by
  have hin : TILE_FOLD_STATUS p ∈ [TILE_FOLD_STATUS p] := List.mem_singleton_self _
  have hno : ¬ (s.enabledSlots p ≤ 1 ∨ s.bit (TILE_FOLD_CTRL p) TILE_FOLD_CTRL.hold = true) := by
    rw [hhold]
    simp
    omega
  rw [State.requestSwitch, if_neg hno]
  refine ⟨?_, State.fld_setFld_lt (by decide) (s.nextSlot_lt p), ?_, ?_⟩
  · exact (congrArg (fun x => decide (x = 1)) (State.fld_setFld_beside (by decide) (by decide) (by decide))).trans
      (State.bit_setBit_self (by decide) rfl)
  · exact (State.fld_setFld_beside (by decide) (by decide) (by decide)).trans
      (State.fld_setBit_beside (by decide) (by decide) (by decide))
  · exact ((State.onlyRegs_refl s _).setBit hin _ _).setFld hin _ _

theorem exec_switchRequest {c : Instr}
    (hc : c = .forceSwitch p ∨ (c = .foldQuotaExpiry p ∧ s.fld (TILE_FOLD_SLOT p (s.slot p)) TILE_FOLD_SLOT.quota ≠ 0)) :
    exec c s = .next (s.requestSwitch p) := by
  obtain rfl | ⟨rfl, hquota⟩ := hc
  · rfl
  · simp [execFoldQuotaExpiry, hquota]

/-! ### The switch itself -/

/-- What follows the choice of the slot in a switch writes the tile's window alone, and not TILE_FOLD_STATUS. -/
structure State.KeepsFold (s t : State) (p : Nat) : Prop where
  mem : s.sameMem t
  tile : s.tileOnly t p
  fold : t.reg (TILE_FOLD_STATUS p) = s.reg (TILE_FOLD_STATUS p)

theorem State.keepsFold_refl (s : State) (p : Nat) : s.KeepsFold s p := ⟨by simp, by simp, rfl⟩

theorem State.KeepsFold.trans {u : State} {p : Nat} (h : s.KeepsFold t p) (h' : t.KeepsFold u p) : s.KeepsFold u p :=
  ⟨h.mem.trans h'.mem, h.tile.trans h'.tile, h'.fold.trans h.fold⟩

theorem State.keepsFold_of_regsBut {l : List Nat} {p : Nat} (hmem : s.sameMem t) (hregs : s.regsBut t l)
    (hl : ∀ a ∈ l, inTile p a ∧ a ≠ TILE_FOLD_STATUS p) : s.KeepsFold t p :=
  ⟨hmem, hregs.tileOnly fun a ha => (hl a ha).1, hregs _ fun hmem => (hl _ hmem).2 rfl⟩

theorem State.keepsFold_batchStart (s : State) (p : Tile) (u : Fin 8) : s.KeepsFold (s.batchStart p u) p := by
  have hslot := s.slot_lt p
  unfold State.batchStart
  dsimp only
  split_ifs
  · refine State.keepsFold_of_regsBut (l := [SYNC_WAIT_TGT p (s.slot p) u]) (by simp [State.waitDone])
      ((State.regsBut_refl s _).addMod (by simp) _ _) ?_
    simp [inTile, tileRegs, SYNC_WAIT_TGT, TILE_FOLD_STATUS]
    omega
  · refine State.keepsFold_of_regsBut (l := [SYNC_STATUS p]) (by simp [State.setWaiting])
      ((State.regsBut_refl s _).setFld (by simp) _ _) ?_
    simp [inTile, tileRegs, SYNC_STATUS, TILE_FOLD_STATUS]
    omega
  · exact s.keepsFold_refl p

theorem State.keepsFold_batchStarts (s : State) (p : Tile) :
    s.KeepsFold ((List.range 8).foldl (fun s u => s.batchStart p u) s) p := by
  refine List.foldlRecOn (motive := fun t => s.KeepsFold t p) _ _ (s.keepsFold_refl p) fun t ht u hu => ?_
  exact ht.trans (t.keepsFold_batchStart p ⟨u, List.mem_range.1 hu⟩)

/-- The part of a switch that counts it, unless frozen. -/
def State.countSwitch (s : State) (p : Nat) : State :=
  if s.bit (TILE_FOLD_CTRL p) TILE_FOLD_CTRL.perf_freeze then s
  else (s.addWrap (TILE_FOLD_SWITCHES p) 1).cycles (TILE_FOLD_SW_CYCLES p)

/-- The part of a switch in which the units let go of the outgoing slot. -/
def State.unitsSwitched (s : State) (p k : Nat) : State :=
  let s := (s.setMe p { s.meU p with shadow := [], active := [] }).meStatus p
  let s := (s.setVsp p { s.vspU p with loaded := false }).setFld (VSP_STATUS p) VSP_STATUS.active_slot k
  let s := (List.range 4).foldl (fun s n => s.setFld (AG_STATUS p n) AG_STATUS.active_slot k) s
  s.setFld (SYNC_STATUS p) SYNC_STATUS.waiting 0

/-- The part of a switch that settles the slot and nothing else. -/
def State.slotChosen (s : State) (p : Nat) : State :=
  let st := TILE_FOLD_STATUS p
  let s := (s.setBit st TILE_FOLD_STATUS.switch_pending false).setFld st TILE_FOLD_STATUS.next_slot 0
  { s with foldEob := tset 0 s.foldEob p 0 }

theorem State.switchTo_eq {k : Nat} : s.switchTo p k =
    if k = (s.slotChosen p).slot p then s.slotChosen p
    else (List.range 8).foldl (fun s u => s.batchStart p u)
      ((((s.slotChosen p).setFld (TILE_FOLD_STATUS p) TILE_FOLD_STATUS.active_slot k).countSwitch p).unitsSwitched p k) := rfl

theorem State.keepsFold_countSwitch (s : State) (p : Tile) : s.KeepsFold (s.countSwitch p) p := by
  unfold State.countSwitch
  split
  · exact s.keepsFold_refl p
  · refine State.keepsFold_of_regsBut (l := [TILE_FOLD_SWITCHES p, TILE_FOLD_SW_CYCLES p]) (by simp)
      (((State.regsBut_refl s _).addWrap (by simp) 1).cycles (by simp)) ?_
    simp [inTile, tileRegs, TILE_FOLD_SWITCHES, TILE_FOLD_SW_CYCLES, TILE_FOLD_STATUS]
    omega

theorem State.keepsFold_unitsSwitched (s : State) (p : Tile) (k : Nat) : s.KeepsFold (s.unitsSwitched p k) p := by
  refine State.keepsFold_of_regsBut (l := [ME_STATUS p, VSP_STATUS p, AG_STATUS p 0, AG_STATUS p 1, AG_STATUS p 2, AG_STATUS p 3,
    SYNC_STATUS p]) (by simp [State.unitsSwitched, List.range_succ]) ?_ ?_
  · have hme : s.regsBut ((s.setMe p { s.meU p with shadow := [], active := [] }).meStatus p) [ME_STATUS p, VSP_STATUS p,
        AG_STATUS p 0, AG_STATUS p 1, AG_STATUS p 2, AG_STATUS p 3, SYNC_STATUS p] :=
      ((State.regsBut_refl s _).setMe p _).trans ((State.regsBut_meStatus _ p).mono (by simp))
    exact ((((((hme.setVsp p _).setFld (by simp) _ _).setFld (by simp) _ _).setFld (by simp) _ _).setFld (by simp) _ _).setFld
      (by simp) _ _).setFld (by simp) _ _
  · simp [inTile, tileRegs, ME_STATUS, VSP_STATUS, AG_STATUS, SYNC_STATUS, TILE_FOLD_STATUS]
    omega

theorem State.slotChosen_effect (s : State) (p : Tile) :
    (s.slotChosen p).bit (TILE_FOLD_STATUS p) TILE_FOLD_STATUS.switch_pending = false ∧
      (s.slotChosen p).slot p = s.slot p ∧ s.sameMem (s.slotChosen p) ∧ s.tileOnly (s.slotChosen p) p := by
  have hin : inTile p (TILE_FOLD_STATUS p) := by
    simp only [inTile, tileRegs, TILE_FOLD_STATUS]
    omega
  simp only [State.slotChosen, State.bit_upd, State.slot, State.fld_upd, State.sameMem_upd, State.tileOnly_upd]
  refine ⟨?_, ?_, by simp, ((State.tileOnly_refl s p).setBit hin _ _).setFld hin _ _⟩
  · exact (congrArg (fun x => decide (x = 1)) (State.fld_setFld_beside (by decide) (by decide) (by decide))).trans
      (State.bit_setBit_self (by decide) rfl)
  · exact (State.fld_setFld_beside (by decide) (by decide) (by decide)).trans
      (State.fld_setBit_beside (by decide) (by decide) (by decide))

/-- A switch to a slot of the tile activates it and ends the request. -/
theorem State.switchTo_effect {k : Nat} (hk : k < 8) :
    (s.switchTo p k).slot p = k ∧ (s.switchTo p k).bit (TILE_FOLD_STATUS p) TILE_FOLD_STATUS.switch_pending = false ∧
      s.sameMem (s.switchTo p k) ∧ s.tileOnly (s.switchTo p k) p := by
  obtain ⟨hpending, hslot, hmem, htile⟩ := s.slotChosen_effect p
  have hin : inTile p (TILE_FOLD_STATUS p) := by
    simp only [inTile, tileRegs, TILE_FOLD_STATUS]
    omega
  rw [State.switchTo_eq]
  split_ifs with hsame
  · exact ⟨hsame.symm, hpending, hmem, htile⟩
  · obtain ⟨hmem', htile', hfold⟩ := ((State.keepsFold_countSwitch ((s.slotChosen p).setFld (TILE_FOLD_STATUS p)
      TILE_FOLD_STATUS.active_slot k) p).trans (State.keepsFold_unitsSwitched _ p k)).trans (State.keepsFold_batchStarts _ p)
    refine ⟨?_, ?_, hmem.trans hmem', ?_⟩
    · rw [State.slot, State.fld, hfold]
      exact State.fld_setFld_lt (by decide) hk
    · rw [State.bit, State.fld, hfold]
      exact (congrArg (fun x => decide (x = 1)) (State.fld_setFld_beside (by decide) (by decide) (by decide))).trans hpending
    · exact (htile.setFld hin _ _).trans htile'

/-! ## Epochs (R210, R218) -/

theorem State.setEpoch_of_no_queue {v : Nat} (h : ∀ r < 64, s.rMode p r ≠ mQueue ∧ s.rMode p r ≠ mReceive) :
    s.setEpoch p v = s.setFld (TILE_EPOCH p) TILE_EPOCH.epoch v := by
  have hmode : ∀ r, (s.setFld (TILE_EPOCH p) TILE_EPOCH.epoch v).rMode p r = s.rMode p r := fun r =>
    State.fld_setFld_ne (by simp only [RGN_CFG, TILE_EPOCH]; omega)
  have hnone : (List.range 64).filter (fun r => (s.setFld (TILE_EPOCH p) TILE_EPOCH.epoch v).rMode p r == mQueue ||
      (s.setFld (TILE_EPOCH p) TILE_EPOCH.epoch v).rMode p r == mReceive) = [] := by
    simp only [List.filter_eq_nil_iff, List.mem_range, hmode]
    intro r hr
    simp [h r hr]
  rw [State.setEpoch]
  simp only [hnone, List.foldl_nil]

theorem exec_tileEpochWrite_taken {v : BitVec 4}
    (hdrained : bitOf (s.fld (RT_CTX_DRAINED p) RT_CTX_DRAINED.drained) (s.fld (TILE_CTX p) TILE_CTX.ctx) = true)
    (hnone : ∀ r < 64, s.rMode p r ≠ mQueue ∧ s.rMode p r ≠ mReceive) :
    exec (.tileEpochWrite p v) s = .next (s.setFld (TILE_EPOCH p) TILE_EPOCH.epoch v.toNat) := by
  simp only [exec_tileEpochWrite, execTileEpochWrite, hdrained, if_true, State.setEpoch_of_no_queue hnone]

/-- Settles O16 (R210, R217 to R219): requests and switches of the fold, the epoch and the configuration checksum. -/
theorem foldAndEpoch : Obligations.FoldAndEpoch := by
  refine ⟨fun s p => ⟨fun hslots hhold c hc => ?request, fun hpending hpoint hopen => ?switch⟩,
    fun s p v => ⟨fun hdrained hnone => ?taken, fun hbusy => ?refused, ?crc⟩⟩
  case request => exact ⟨_, exec_switchRequest hc, State.requestSwitch_requested hslots hhold⟩
  case switch =>
    refine ⟨_, ?_, State.switchTo_effect (s.switchTarget_lt p)⟩
    simp [execFoldSwitch, hpending, hpoint, hopen]
  case taken =>
    exact ⟨_, exec_tileEpochWrite_taken hdrained hnone, State.fld_setFld_lt (by decide) v.isLt, State.onlyRegs_setReg s _ _⟩
  case refused =>
    exact ⟨_, congrArg Host.Outcome.next (if_neg (by simp [hbusy])), State.bit_setBit_self (by decide) rfl,
      State.onlyRegs_setBit s _ _ _⟩
  case crc => exact ⟨_, rfl, State.fld_setFld_lt (by decide) (by decide), State.onlyRegs_setReg s _ _⟩

/-! ## Fences (R262, R263) -/

/-- The units of `us` halt one after the other, between `s` and `t`. -/
inductive State.HaltChain : State → List HaltRegs → State → Prop
  | nil (s : State) : State.HaltChain s [] s
  | cons {s t u : State} {h : HaltRegs} {us : List HaltRegs} (halts : s.HaltsTo t h) (rest : State.HaltChain t us u) :
      State.HaltChain s (h :: us) u

/-- Units with their own status registers are all halted in the end, whatever the order. -/
theorem State.HaltChain.effect {us : List HaltRegs} (h : s.HaltChain us t) (hne : (us.map HaltRegs.status).Nodup) :
    (∀ u ∈ us, t.isHalted u = true) ∧ s.sameMem t ∧ s.regsBut t (us.map HaltRegs.status) := by
  induction h with
  | nil s => simp
  | @cons s t v u us halts rest ih =>
    rw [List.map_cons, List.nodup_cons] at hne
    obtain ⟨hnotin, hne⟩ := hne
    obtain ⟨hhalted, hmem, hregs⟩ := ih hne
    refine ⟨List.forall_mem_cons.2 ⟨?_, hhalted⟩, halts.mem.trans hmem, ?_⟩
    · exact (hregs.bit_eq hnotin _).trans halts.halted
    · exact (halts.regs.mono (by simp)).trans (hregs.mono (by simp))

/-- The units of a tile but its endpoints. -/
def tileUnits (p : Nat) : List HaltRegs :=
  [haltMe p, haltVsp p, haltSu p, haltAg p 0, haltAg p 1, haltAg p 2, haltAg p 3]

theorem State.abortUnits_chain (s : State) (p : Nat) : s.HaltChain (tileUnits p) (s.abortUnits p) :=
  .cons (s.haltsTo_abortMe p) <| .cons (State.haltsTo_abortVsp _ p) <| .cons (State.haltsTo_abortSu _ p) <|
    .cons (State.haltsTo_abortAg _ p 0) <| .cons (State.haltsTo_abortAg _ p 1) <| .cons (State.haltsTo_abortAg _ p 2) <|
      .cons (State.haltsTo_abortAg _ p 3) <| .nil _

theorem tileUnits_nodup (p : Nat) : ((tileUnits p).map HaltRegs.status).Nodup := by
  simp [tileUnits, haltMe, haltVsp, haltSu, haltAg, ME_STATUS, VSP_STATUS, SU_STATUS, AG_STATUS]
  omega

theorem State.abortUnits_effect (s : State) (p : Nat) :
    (∀ u ∈ tileUnits p, (s.abortUnits p).isHalted u = true) ∧ s.sameMem (s.abortUnits p) ∧
      s.regsBut (s.abortUnits p) ((tileUnits p).map HaltRegs.status) :=
  (s.abortUnits_chain p).effect (tileUnits_nodup p)

/-- The first part of a fence: the mark and its cause. -/
def State.fenceMarked (s : State) (p cause : Nat) : State :=
  (s.setBit (TILE_FENCE p) TILE_FENCE.fenced true).setFld (TILE_FENCE p) TILE_FENCE.cause cause

/-- The part of a fence that halts the endpoints in use. -/
def State.endpointsAborted (s : State) (p : Nat) : State :=
  ((List.range 64).filter (fun e => s.epRole p e != 0)).foldl (fun s e =>
    ((s.setEp p e { s.ep p e with aborted := true }).setBit (CH_EP_STATE p e) CH_EP_STATE.halting false).setBit
      (CH_EP_STATE p e) CH_EP_STATE.halted true) s

/-- The last part of a fence: the Local port closes and the memory unit drops its remap. -/
def State.portClosed (s : State) (p : Nat) : State :=
  let s := s.setBit (RT_STATUS p) RT_STATUS.local_closed true
  let s := s.setMu p { s.muW p with remap := none }
  (s.setBit (MU_STATUS p) MU_STATUS.remap_busy false).setFld (MU_STATUS p) ⟨MU_STATUS.agents_active.lo, 1⟩ 0

theorem State.fenceTile_eq {p cause : Nat} : s.fenceTile p cause =
    if s.fenced p then s else (((s.fenceMarked p cause).abortUnits p).endpointsAborted p).portClosed p := rfl

/-- The registers that a fence writes after its mark and its units. -/
def fenceTail (p : Nat) : List Nat := RT_STATUS p :: MU_STATUS p :: (List.range 64).map (CH_EP_STATE p)

theorem mem_fenceTail {p a : Nat} :
    a ∈ fenceTail p ↔ a = RT_STATUS p ∨ a = MU_STATUS p ∨ ∃ e, e < 64 ∧ CH_EP_STATE p e = a := by
  simp [fenceTail]

theorem mem_status_tileUnits {p a : Nat} (h : a ∈ (tileUnits p).map HaltRegs.status) :
    a = ME_STATUS p ∨ a = VSP_STATUS p ∨ a = SU_STATUS p ∨ ∃ n, n < 4 ∧ AG_STATUS p n = a := by
  simp only [tileUnits, haltMe, haltVsp, haltSu, haltAg, List.map_cons, List.map_nil, List.mem_cons, List.not_mem_nil,
    or_false] at h
  obtain h | h | h | h | h | h | h := h
  · exact .inl h
  · exact .inr (.inl h)
  · exact .inr (.inr (.inl h))
  all_goals exact .inr (.inr (.inr ⟨_, by decide, h.symm⟩))

theorem fenceTail_inTile {p a : Nat} (h : a ∈ fenceTail p) : inTile p a := by
  obtain rfl | rfl | ⟨e, he, rfl⟩ := mem_fenceTail.1 h <;>
    simp only [inTile, tileRegs, RT_STATUS, MU_STATUS, CH_EP_STATE] <;> omega

theorem status_tileUnits_inTile {p a : Nat} (h : a ∈ (tileUnits p).map HaltRegs.status) : inTile p a := by
  obtain rfl | rfl | rfl | ⟨n, hn, rfl⟩ := mem_status_tileUnits h <;>
    simp only [inTile, tileRegs, ME_STATUS, VSP_STATUS, SU_STATUS, AG_STATUS] <;> omega

theorem status_tileUnits_not_mem_fenceTail {p a : Nat} (h : a ∈ (tileUnits p).map HaltRegs.status) :
    a ∉ fenceTail p := by
  rw [mem_fenceTail]
  rintro (rfl | rfl | ⟨e, he, rfl⟩) <;> obtain h | h | h | ⟨n, hn, h⟩ := mem_status_tileUnits h <;>
    simp only [ME_STATUS, VSP_STATUS, SU_STATUS, AG_STATUS, RT_STATUS, MU_STATUS, CH_EP_STATE] at h <;> omega

theorem TILE_FENCE_not_mem_fenceTail (p : Nat) : TILE_FENCE p ∉ fenceTail p := by
  rw [mem_fenceTail]
  rintro (h | h | ⟨e, he, h⟩) <;> simp only [TILE_FENCE, RT_STATUS, MU_STATUS, CH_EP_STATE] at h <;> omega

theorem TILE_FENCE_not_mem_status (p : Nat) : TILE_FENCE p ∉ (tileUnits p).map HaltRegs.status := by
  intro h
  obtain h | h | h | ⟨n, hn, h⟩ := mem_status_tileUnits h <;>
    simp only [TILE_FENCE, ME_STATUS, VSP_STATUS, SU_STATUS, AG_STATUS] at h <;> omega

theorem State.endpointsAborted_frame (s : State) (p : Nat) :
    s.sameMem (s.endpointsAborted p) ∧ s.regsBut (s.endpointsAborted p) (fenceTail p) := by
  refine List.foldlRecOn (motive := fun t => s.sameMem t ∧ s.regsBut t (fenceTail p)) _ _ ⟨by simp, by simp⟩ ?_
  intro t ⟨hmem, hregs⟩ e he
  have hin : CH_EP_STATE p e ∈ fenceTail p := by
    have hlt : e < 64 := by simpa using (List.mem_filter.1 he).1
    simpa [fenceTail] using .inr (.inr ⟨e, hlt, rfl⟩)
  exact ⟨by simpa using hmem, ((hregs.setEp p e _).setBit hin _ _).setBit hin _ _⟩

theorem State.portClosed_frame (s : State) (p : Nat) :
    s.sameMem (s.portClosed p) ∧ s.regsBut (s.portClosed p) (fenceTail p) :=
  ⟨by simp [State.portClosed], ((((State.regsBut_refl s _).setBit (by simp [fenceTail]) _ _).setMu p _).setBit
    (by simp [fenceTail]) _ _).setFld (by simp [fenceTail]) _ _⟩

theorem RT_STATUS_ne_MU_STATUS (p : Nat) : RT_STATUS p ≠ MU_STATUS p := by simp [RT_STATUS, MU_STATUS]

theorem State.local_closed_portClosed (s : State) (p : Nat) :
    (s.portClosed p).bit (RT_STATUS p) RT_STATUS.local_closed = true := by
  have hne := RT_STATUS_ne_MU_STATUS p
  rw [State.portClosed, State.bit_setFld_ne hne, State.bit_setBit_ne hne, State.bit_setMu,
    State.bit_setBit_self (by decide) rfl]

/-- The whole effect of a fence of a tile that has none. -/
theorem State.fenceTile_effect (s : State) (p : Tile) (cause : Fin 16) (hopen : s.fenced p = false) :
    (s.fenceTile p cause).fenced p = true ∧ (s.fenceTile p cause).fld (TILE_FENCE p) TILE_FENCE.cause = cause ∧
      (s.fenceTile p cause).bit (RT_STATUS p) RT_STATUS.local_closed = true ∧
      (∀ u ∈ tileUnits p, (s.fenceTile p cause).isHalted u = true) ∧ s.sameMem (s.fenceTile p cause) ∧
      s.tileOnly (s.fenceTile p cause) p := by
  rw [State.fenceTile_eq, if_neg (by simp [hopen])]
  obtain ⟨hunits, hmemU, hregsU⟩ := State.abortUnits_effect (s.fenceMarked p cause) p
  obtain ⟨hmemE, hregsE⟩ := State.endpointsAborted_frame ((s.fenceMarked p cause).abortUnits p) p
  obtain ⟨hmemL, hregsL⟩ := State.portClosed_frame (((s.fenceMarked p cause).abortUnits p).endpointsAborted p) p
  have hregsT := hregsE.trans hregsL
  have hmark : ∀ f, State.fld _ (TILE_FENCE p) f = (s.fenceMarked p cause).fld (TILE_FENCE p) f := fun f =>
    (hregsT.fld_eq (TILE_FENCE_not_mem_fenceTail p) f).trans (hregsU.fld_eq (TILE_FENCE_not_mem_status p) f)
  refine ⟨?_, ?_, State.local_closed_portClosed _ p, ?_, ?_, ?_⟩
  · rw [State.fenced, State.bit, hmark]
    exact (congrArg (fun x => decide (x = 1)) (State.fld_setFld_beside (by decide) (by decide) (by decide))).trans
      (State.bit_setBit_self (by decide) rfl)
  · rw [hmark]
    exact State.fld_setFld_lt (by decide) (Nat.lt_trans cause.isLt (by decide))
  · intro u hu
    have hnotin := status_tileUnits_not_mem_fenceTail (List.mem_map_of_mem (f := HaltRegs.status) hu)
    exact (hregsT.bit_eq hnotin _).trans (hunits u hu)
  · have hmemM : s.sameMem (s.fenceMarked p cause) := by simp [State.fenceMarked]
    exact ((hmemM.trans hmemU).trans hmemE).trans hmemL
  · have hin : inTile p (TILE_FENCE p) := by
      simp only [inTile, tileRegs, TILE_FENCE]
      omega
    have htileM : s.tileOnly (s.fenceMarked p cause) p := ((State.tileOnly_refl s p).setBit hin _ _).setFld hin _ _
    exact (htileM.trans (hregsU.tileOnly fun _ => status_tileUnits_inTile)).trans
      (hregsT.tileOnly fun _ => fenceTail_inTile)

theorem State.resetTile_effect (s : State) (p : Nat) :
    (∀ a, tileResets p a = true → (s.resetTile p).reg a = resetOf a) ∧
      (∀ a, tileResets p a = false → (s.resetTile p).reg a = s.reg a) ∧ s.sameMem (s.resetTile p) := by
  refine ⟨fun a ha => ?_, fun a ha => ?_, fun _ => rfl⟩
  · exact State.reg_resetRegs.trans (if_pos ha)
  · exact State.reg_resetRegs.trans (if_neg (by simp [ha]))

theorem State.unfenceTile_effect (s : State) (p : Nat) :
    (s.unfenceTile p).fenced p = false ∧ (s.unfenceTile p).bit (RT_STATUS p) RT_STATUS.local_closed = false ∧
      s.onlyRegs (s.unfenceTile p) [TILE_FENCE p, RT_STATUS p] := by
  refine ⟨?_, State.bit_setBit_self (by decide) rfl, ((State.onlyRegs_refl s _).setReg (by simp) _).setBit (by simp) _ _⟩
  have hne : TILE_FENCE p ≠ RT_STATUS p := by
    simp only [TILE_FENCE, RT_STATUS]
    omega
  rw [State.fenced, State.unfenceTile, State.bit_setBit_ne hne, State.bit, State.fld_setReg_self]
  decide

/-- Settles O17 (R262, R263): fences with their cause, resets of fenced tiles, and unfences. -/
theorem tileFences : Obligations.TileFences := by
  refine fun s p cause => ⟨fun hopen => ?fence, fun hfenced => ⟨?first, ?reset⟩, fun hopen => ?none, fun hstate => ?unfence⟩
  case fence =>
    obtain ⟨hfenced, hcause, hlocal, hunits, hmem, htile⟩ := s.fenceTile_effect p cause hopen
    refine ⟨_, rfl, hfenced, hcause, hlocal, hunits _ (by simp [tileUnits]), hunits _ (by simp [tileUnits]),
      hunits _ (by simp [tileUnits]), fun n => hunits _ ?_, hmem, htile⟩
    fin_cases n <;> simp [tileUnits]
  case first => simp [execTileFenceReq, State.fenceTile, hfenced]
  case reset => exact ⟨_, congrArg Host.Outcome.next (if_pos hfenced), s.resetTile_effect p⟩
  case none => simp [execTileReset, hopen]
  case unfence => exact ⟨_, congrArg Host.Outcome.next (if_neg hstate), s.unfenceTile_effect p⟩

end Sys2Proof.Machine
end

section
/-! Queues and records of tile memory, its scrub, and its row repairs. -/
namespace Sys2Proof.Machine

variable {s t : State}

/-! ## What the pops of a QUEUE region pass (R120, R217) -/

@[simp] theorem State.poppedOf_setPopped {p r : Nat} {l : List Nat} : (s.setPopped p r l).poppedOf p r = l :=
  tget_tset_self

@[simp] theorem State.sameMem_setPopped {p r : Nat} {l : List Nat} : s.sameMem (t.setPopped p r l) ↔ s.sameMem t := Iff.rfl

theorem State.regsBut.setPopped {l : List Nat} (h : s.regsBut t l) (p r : Nat) (x : List Nat) :
    s.regsBut (t.setPopped p r x) l := h.of_regs_eq rfl

@[simp] theorem State.sameMem_advHead {p r n : Nat} : s.sameMem (t.advHead p r n) ↔ s.sameMem t := by
  simp [State.advHead]

@[simp] theorem State.sameMem_advTail {p r n : Nat} : s.sameMem (t.advTail p r n) ↔ s.sameMem t := by
  simp [State.advTail]

/-- The registers that an advance of head writes. -/
def headRegs (p r : Nat) : List Nat := [RGN_HEAD p r, RGN_OFFS p r]

theorem State.regsBut.advHead {p r : Nat} {l : List Nat} (h : s.regsBut t l) (hl : headRegs p r ⊆ l) (n : Nat) :
    s.regsBut (t.advHead p r n) l :=
  (h.setFld (hl (by simp [headRegs])) _ _).setFld (hl (by simp [headRegs])) _ _

theorem RGN_CFG_not_mem_headRegs (p r : Nat) : RGN_CFG p r ∉ headRegs p r := by
  simp [headRegs, RGN_CFG, RGN_HEAD, RGN_OFFS]

theorem State.rHead_lt (s : State) (p r : Nat) : s.rHead p r < 2 ^ 64 := Nat.mod_lt _ (by decide)

theorem State.rHead_advHead (s : State) (p r n : Nat) : (s.advHead p r n).rHead p r = (s.rHead p r + n) % 2 ^ 64 := by
  have hne : RGN_HEAD p r ≠ RGN_OFFS p r := by
    simp only [RGN_HEAD, RGN_OFFS]
    omega
  exact (State.fld_setFld_ne hne).trans (State.fld_setFld_self (by decide))

/-- `t` is `s` after head passed `k` headers: only positions that head passed left the list of the popped ones. -/
structure State.SweptTo (s t : State) (p r k : Nat) : Prop where
  head : t.rHead p r = (s.rHead p r + 16 * k) % 2 ^ 64
  mem : s.sameMem t
  regs : s.regsBut t (headRegs p r)
  kept : ∀ x ∈ s.poppedOf p r, x ∈ t.poppedOf p r ∨ ∃ i < k, x = (s.rHead p r + 16 * i) % 2 ^ 64

theorem State.sweptTo_refl (s : State) (p r : Nat) : s.SweptTo s p r 0 :=
  ⟨(Nat.mod_eq_of_lt (s.rHead_lt p r)).symm, by simp, by simp, fun _ hx => .inl hx⟩

/-- The state after head passes one popped header. -/
def State.passHead (s : State) (p r : Nat) : State :=
  (s.setPopped p r ((s.poppedOf p r).filter (fun x => x != s.rHead p r))).advHead p r 16

theorem State.sweptTo_passHead (s : State) (p r : Nat) : s.SweptTo (s.passHead p r) p r 1 := by
  refine ⟨State.rHead_advHead _ p r 16, by simp [State.passHead],
    ((State.regsBut_refl s _).setPopped p r _).advHead (List.Subset.refl _) 16, fun x hx => ?_⟩
  by_cases hhead : x = s.rHead p r
  · exact .inr ⟨0, Nat.zero_lt_one, hhead.trans (Nat.mod_eq_of_lt (s.rHead_lt p r)).symm⟩
  · have hpopped : (s.passHead p r).poppedOf p r = (s.poppedOf p r).filter (fun x => x != s.rHead p r) :=
      State.poppedOf_setPopped
    exact .inl (by simp [hpopped, hx, hhead])

theorem State.SweptTo.trans {u : State} {p r j k : Nat} (h : s.SweptTo t p r j) (h' : t.SweptTo u p r k) :
    s.SweptTo u p r (j + k) := by
  refine ⟨by rw [h'.head, h.head]; omega, h.mem.trans h'.mem, h.regs.trans h'.regs, fun x hx => ?_⟩
  obtain hx | ⟨i, hi, rfl⟩ := h.kept x hx
  · obtain hx | ⟨i, hi, rfl⟩ := h'.kept x hx
    · exact .inl hx
    · exact .inr ⟨j + i, by omega, by rw [h.head]; omega⟩
  · exact .inr ⟨i, by omega, rfl⟩

theorem State.sweepQueue_sweptTo (s : State) (p r n : Nat) : ∃ k ≤ n, s.SweptTo (s.sweepQueue p r n) p r k := by
  induction n generalizing s with
  | zero => exact ⟨0, Nat.le_refl 0, s.sweptTo_refl p r⟩
  | succ n ih =>
    rw [State.sweepQueue]
    split_ifs with hempty hpopped
    · exact ⟨0, by omega, s.sweptTo_refl p r⟩
    · obtain ⟨k, hk, h⟩ := ih (s.passHead p r)
      exact ⟨1 + k, by omega, (s.sweptTo_passHead p r).trans h⟩
    · exact ⟨0, by omega, s.sweptTo_refl p r⟩

/-- The entries of a QUEUE lie 16 bytes apart. -/
theorem State.pos_of_mem_walk {p r n pos off : Nat} {e : Ent} (hmode : s.rMode p r = mQueue) (hpos : pos < 2 ^ 64)
    (he : e ∈ s.walk p r n pos off) : ∃ j < n, e.pos = (pos + 16 * j) % 2 ^ 64 := by
  induction n generalizing pos off with
  | zero => cases he
  | succ n ih =>
    have hent : s.entAt p r pos off =
        { pos := pos, off := off, len := 16, hdr := decodeHdr (s.num (tsBase p + s.rBase p r + off) 16) } := by
      rw [State.entAt, if_pos hmode]
    rw [State.walk, hent] at he
    split_ifs at he with htail
    · cases he
    · obtain rfl | he := List.mem_cons.1 he
      · exact ⟨0, by omega, (Nat.mod_eq_of_lt hpos).symm⟩
      · obtain ⟨j, hj, heq⟩ := ih (Nat.mod_lt _ (by decide)) he
        exact ⟨j + 1, by omega, heq.trans (by dsimp only; omega)⟩

/-- A popped header is presented no more, whatever head passed. -/
theorem State.present_sweepQueue_ne {p r sl : Nat} {e : Ent} (hmode : s.rMode p r = mQueue)
    (hpopped : e.pos ∈ s.poppedOf p r) : (s.sweepQueue p r 64).present p r sl ≠ some e := by
  intro hpresent
  obtain ⟨k, hk, hswept⟩ := s.sweepQueue_sweptTo p r 64
  have hmode' : (s.sweepQueue p r 64).rMode p r = mQueue :=
    (hswept.regs.fld_eq (RGN_CFG_not_mem_headRegs p r) _).trans hmode
  obtain ⟨j, hj, hpos⟩ := State.pos_of_mem_walk hmode' (State.rHead_lt _ p r) (List.mem_of_find?_eq_some hpresent)
  have hwaits := List.find?_some hpresent
  obtain hin | ⟨i, hi, heq⟩ := hswept.kept _ hpopped
  · simp [State.waitsPop, hin] at hwaits
  · rw [hswept.head] at hpos
    omega

theorem State.purge_of_none_stale {p r : Nat}
    (h : ∀ x ∈ s.rEnts p r, s.waitsPop p r x = true → s.stale p x.hdr = false) : s.purge p r = s := by
  have hnone : (s.rEnts p r).filter (fun e => s.waitsPop p r e && s.stale p e.hdr) = [] := by
    rw [List.filter_eq_nil_iff]
    intro x hx hboth
    obtain ⟨hwaits, hstale⟩ := Bool.and_eq_true_iff.1 hboth
    simp [h x hx hwaits] at hstale
  rw [State.purge, hnone]
  rfl

theorem State.pop_queue_effect {p r sl : Nat} (s : State) (e : Ent) (hmode : s.rMode p r = mQueue) :
    (s.pop p r e).present p r sl ≠ some e ∧ s.sameMem (s.pop p r e) ∧ s.regsBut (s.pop p r e) (headRegs p r) := by
  have heq : s.pop p r e = (s.setPopped p r (s.poppedOf p r ++ [e.pos])).sweepQueue p r 64 := if_pos hmode
  obtain ⟨k, -, hswept⟩ := (s.setPopped p r (s.poppedOf p r ++ [e.pos])).sweepQueue_sweptTo p r 64
  rw [heq]
  refine ⟨State.present_sweepQueue_ne hmode (by simp), ?_, ((State.regsBut_refl s _).setPopped p r _).trans hswept.regs⟩
  exact (State.sameMem_setPopped.2 (State.sameMem_refl s)).trans hswept.mem

/-! ## What a push writes (R120) -/

@[simp] theorem State.fld_notePeak {k v a : Nat} {f : Field} : (s.notePeak k v).fld a f = s.fld a f := by
  unfold State.notePeak
  split <;> rfl

/-- The state after a header is pushed. -/
def State.pushed (s : State) (p r : Nat) (h : Hdr) : State :=
  ((s.setBytes (tsBase p + s.rBase p r + s.rTailOff p r) (leBytes 16 (encodeHdr h))).advTail p r 16).setBit
    (RGN_STATUS p r) RGN_STATUS.full false

theorem State.pushQ_eq (p r : Nat) (h : Hdr) (hmode : s.rMode p r = mQueue) (hsound : s.rSound p r = true) :
    s.pushQ p r h = if 16 ≤ s.rFree p r then some (s.pushed p r h) else none := by
  simp only [State.pushQ, hmode, hsound, true_and]
  rfl

theorem State.rTail_advTail (s : State) (p r n : Nat) : (s.advTail p r n).rTail p r = (s.rTail p r + n) % 2 ^ 64 := by
  have hne : RGN_TAIL p r ≠ RGN_OFFS p r := by
    simp only [RGN_TAIL, RGN_OFFS]
    omega
  exact State.fld_notePeak.trans ((State.fld_setFld_ne hne).trans (State.fld_setFld_self (by decide)))

theorem State.rTail_setBytes {a p r : Nat} {l : List Byte} : (s.setBytes a l).rTail p r = s.rTail p r := rfl

theorem State.pushed_effect (s : State) (p r : Nat) (h : Hdr) :
    (s.pushed p r h).bytes (tsBase p + s.rBase p r + s.rTailOff p r) 16 = leBytes 16 (encodeHdr h) ∧
      s.memBut (s.pushed p r h) (tsBase p + s.rBase p r + s.rTailOff p r) 16 ∧
      (s.pushed p r h).fld (RGN_TAIL p r) RGN_TAIL.pointer = (s.rTail p r + 16) % 2 ^ 64 ∧
      (s.pushed p r h).bit (RGN_STATUS p r) RGN_STATUS.full = false ∧
      s.regsBut (s.pushed p r h) [RGN_TAIL p r, RGN_OFFS p r, RGN_STATUS p r] := by
  have hmem : (s.setBytes (tsBase p + s.rBase p r + s.rTailOff p r) (leBytes 16 (encodeHdr h))).sameMem (s.pushed p r h) := by
    simp [State.pushed]
  have hne : RGN_TAIL p r ≠ RGN_STATUS p r := by
    simp only [RGN_TAIL, RGN_STATUS]
    omega
  refine ⟨?_, (State.memBut_setBytes s (length_leBytes _ _)).of_sameMem hmem, ?_, State.bit_setBit_self (by decide) rfl, ?_⟩
  · rw [hmem.bytes_eq]
    exact State.bytes_setBytes_self s _ (length_leBytes _ _)
  · exact ((State.fld_setBit_ne hne).trans (State.rTail_advTail _ p r 16)).trans (by rw [State.rTail_setBytes])
  · exact (((((State.regsBut_refl s _).setBytes _ _).setFld (by simp) _ _).setFld (by simp) _ _).notePeak _ _).setBit
      (by simp) _ _

/-! ## What a release writes (R124) -/

theorem State.sweepHead_frame (s : State) (p r n : Nat) :
    s.sameMem (s.sweepHead p r n) ∧ s.regsBut (s.sweepHead p r n) (headRegs p r) := by
  induction n generalizing s with
  | zero => exact ⟨State.sameMem_refl s, State.regsBut_refl s _⟩
  | succ n ih =>
    have hstep : ∀ k, s.sameMem ((s.advHead p r k).sweepHead p r n) ∧
        s.regsBut ((s.advHead p r k).sweepHead p r n) (headRegs p r) := fun k =>
      ⟨(State.sameMem_advHead.2 (State.sameMem_refl s)).trans (ih _).1,
        ((State.regsBut_refl s _).advHead (List.Subset.refl _) k).trans (ih _).2⟩
    simp only [State.sweepHead]
    split_ifs
    · exact ⟨State.sameMem_refl s, State.regsBut_refl s _⟩
    · exact hstep _
    · exact ⟨State.sameMem_refl s, State.regsBut_refl s _⟩

/-- The state when the released bit of the record at `off` is set, before head passes what it can. -/
def State.releaseBit (s : State) (p r off : Nat) : State :=
  let a := tsBase p + s.rBase p r + off + 17
  let s := s.setBytes a [BitVec.ofNat 8 (s.num a 1 ||| 1)]
  if s.fedByChannel p r then s.addMod (CH_PROGRESS p) CH_PROGRESS.consumed 1 else s

theorem State.release_eq {p r off : Nat} {e : Ent}
    (hfind : (s.rEnts p r).find? (fun x => x.off == off && x.kind != 3) = some e) :
    s.release p r off = if e.released then s else ((s.releaseBit p r off).sweepHead p r 64).countUnreleased p r := by
  rw [State.release, hfind]
  rfl

/-- The registers that a release writes. -/
def releaseRegs (p r : Nat) : List Nat := [RGN_HEAD p r, RGN_OFFS p r, RGN_STATUS p r, CH_PROGRESS p]

theorem State.releaseBit_effect (s : State) (p r off : Nat) :
    (s.setBytes (tsBase p + s.rBase p r + off + 17)
        [BitVec.ofNat 8 (s.num (tsBase p + s.rBase p r + off + 17) 1 ||| 1)]).sameMem (s.releaseBit p r off) ∧
      s.regsBut (s.releaseBit p r off) (releaseRegs p r) := by
  simp only [State.releaseBit]
  split
  · exact ⟨by simp, ((State.regsBut_refl s _).setBytes _ _).addMod (by simp [releaseRegs]) _ _⟩
  · exact ⟨by simp, (State.regsBut_refl s _).setBytes _ _⟩

theorem State.released_effect (s : State) (p r off : Nat) {a : Nat} (ha : a = tsBase p + s.rBase p r + off + 17) :
    (((s.releaseBit p r off).sweepHead p r 64).countUnreleased p r).bytes a 1 = [BitVec.ofNat 8 (s.num a 1 ||| 1)] ∧
      s.memBut (((s.releaseBit p r off).sweepHead p r 64).countUnreleased p r) a 1 ∧
      s.regsBut (((s.releaseBit p r off).sweepHead p r 64).countUnreleased p r) (releaseRegs p r) := by
  subst ha
  obtain ⟨hmem, hregs⟩ := s.releaseBit_effect p r off
  obtain ⟨hmemS, hregsS⟩ := (s.releaseBit p r off).sweepHead_frame p r 64
  have hsub : headRegs p r ⊆ releaseRegs p r := by simp [headRegs, releaseRegs]
  have hmemC : ((s.releaseBit p r off).sweepHead p r 64).sameMem
      (((s.releaseBit p r off).sweepHead p r 64).countUnreleased p r) := by
    simp [State.countUnreleased]
  have hall := (hmem.trans hmemS).trans hmemC
  refine ⟨?_, (State.memBut_setBytes s rfl).of_sameMem hall, ?_⟩
  · rw [hall.bytes_eq]
    exact State.bytes_setBytes_self s _ rfl
  · exact (hregs.trans (hregsS.mono hsub)).setFld (by simp [releaseRegs]) _ _

/-- Settles O19 (R118, R120, R124): pushes and pops of a QUEUE region, and releases of records. -/
theorem queuesAndRecords : Obligations.QueuesAndRecords := by
  refine ⟨fun s p r hdr e hmode hsound => ⟨fun hroom => ?push, fun hfull => ?full, fun hfresh hpresent => ?pop⟩,
    fun s p r off e hmode hfind => ⟨fun hheld => ?release, fun hdone => ?again⟩⟩
  case push =>
    have hpush : s.pushQ p r (decodeHdr hdr.toNat) = some (s.pushed p r (decodeHdr hdr.toNat)) := by
      rw [State.pushQ_eq p r _ hmode hsound, if_pos hroom]
    exact ⟨_, by simp [execQueuePush, hmode, hsound, hpush], s.pushed_effect p r _⟩
  case full =>
    have hpush : s.pushQ p r (decodeHdr hdr.toNat) = none := by
      rw [State.pushQ_eq p r _ hmode hsound, if_neg (by omega)]
    exact ⟨_, by simp [execQueuePush, hmode, hsound, hpush], State.bit_setBit_self (by decide) rfl,
      State.onlyRegs_setBit s _ _ _⟩
  case pop =>
    have hpurge := State.purge_of_none_stale hfresh
    exact ⟨s.pop p r e, by simp [execQueuePop, hpurge, hmode, hpresent], s.pop_queue_effect e hmode⟩
  case release =>
    have hrel : s.release p r off = _ := (State.release_eq hfind).trans (if_neg (by simp [hheld]))
    exact ⟨_, by simp [execRecordRelease, hmode, hrel], s.released_effect p r off rfl⟩
  case again =>
    have hrel : s.release p r off = s := (State.release_eq hfind).trans (if_pos hdone)
    simp [execRecordRelease, hmode, hrel]

/-! ## The scrub (R132, R133) -/

/-- The state after the scrub position moves on and no error is met. -/
def State.scrubbed (s : State) (p : Nat) : State :=
  let pos := s.fld (MU_SCRUB_STATUS p) MU_SCRUB_STATUS.position + 1
  let s := s.setFld (MU_SCRUB_STATUS p) MU_SCRUB_STATUS.position pos
  if pos < 2 ^ 20 then s else s.addSat (MU_SCRUB_STATUS p) MU_SCRUB_STATUS.passes 1

theorem State.scrubbed_effect (s : State) (p : Nat) :
    (s.scrubbed p).fld (MU_SCRUB_STATUS p) MU_SCRUB_STATUS.position =
        (s.fld (MU_SCRUB_STATUS p) MU_SCRUB_STATUS.position + 1) % 2 ^ MU_SCRUB_STATUS.position.width ∧
      s.onlyRegs (s.scrubbed p) [MU_SCRUB_STATUS p] ∧ (s.scrubbed p).ue = s.ue := by
  simp only [State.scrubbed]
  split
  · exact ⟨State.fld_setFld_self (by decide), (State.onlyRegs_refl s _).setFld (by simp) _ _, rfl⟩
  · exact ⟨(State.fld_setFld_beside (by decide) (by decide) (by decide)).trans (State.fld_setFld_self (by decide)),
      ((State.onlyRegs_refl s _).setFld (by simp) _ _).addSat (by simp) _ _, rfl⟩

theorem State.readUe_of_no_ue {p a n source : Nat} (h : s.ue = []) : (s.readUe p a n source).2 = s := by
  simp only [State.readUe, h, List.filter_nil, List.foldl_nil]

theorem exec_scrubRead_clean {p : Tile} {sc : Bool} {word : Fin 0x100000}
    (hen : s.bit (MU_CTRL p) MU_CTRL.scrub_en = true) (hue : s.ue = []) :
    exec (.scrubRead p sc word .none) s = .next (s.scrubbed p) := by
  have hclean : (s.scrubbed p).ue = [] := (s.scrubbed_effect p).2.2.trans hue
  rw [exec_scrubRead, execScrubRead, hen]
  exact congrArg Host.Outcome.next (State.readUe_of_no_ue hclean)

theorem State.rowCeNext_of_none_waits {p : Nat} (h : ∀ x ∈ (s.muW p).rows, x.waiting = false) : s.rowCeNext p = s := by
  have hnone : (s.muW p).rows.findIdx? (fun x => x.waiting) = none := List.findIdx?_eq_none_iff.2 h
  rw [State.rowCeNext, hnone]

/-- Settles O20 (R132, R133): scrub reads without an error, and the clearing of the row request. -/
theorem scrubAndRows : Obligations.ScrubAndRows := by
  refine fun s p sc word => ⟨fun hen hue => ?read, fun hoff ecc => ?off, fun hrows => ?clear⟩
  case read =>
    obtain ⟨hpos, honly, -⟩ := s.scrubbed_effect p
    exact ⟨_, exec_scrubRead_clean hen hue, hpos, honly⟩
  case off => simp [execScrubRead, hoff]
  case clear =>
    exact ⟨_, congrArg Host.Outcome.next (State.rowCeNext_of_none_waits hrows), State.bit_setBit_self (by decide) rfl,
      State.onlyRegs_setBit s _ _ _⟩

/-! ## Row repairs (R134 to R136) -/

theorem repairField_ne_MU_REMAP_STATUS (p : Nat) (sc : Bool) (bank i : Nat) :
    (repairField p sc bank i).1 ≠ MU_REMAP_STATUS p := by
  cases sc <;> simp only [repairField, MU_OS_REPAIR, MU_REPAIR, MU_REMAP_STATUS] <;> simp <;> omega

theorem repairField_fits {p : Nat} {sc : Bool} {bank row i : Nat} (h : remapInRange sc bank row i = true) :
    (repairField p sc bank i).2.lo + (repairField p sc bank i).2.width ≤ 64 := by
  cases sc
  · simp [repairField]
    omega
  · simp [remapInRange] at h
    simp [repairField]
    omega

/-- The end of a remap command with OK writes its status register alone. -/
theorem State.remapResult_ok (s : State) (p : Nat) :
    (s.remapResult p 0).fld (MU_REMAP_STATUS p) MU_REMAP_STATUS.result = 0 ∧
      (s.remapResult p 0).bit (MU_REMAP_STATUS p) MU_REMAP_STATUS.done = true ∧
      s.onlyRegs (s.remapResult p 0) [MU_REMAP_STATUS p] := by
  have heq : s.remapResult p 0 = ((s.setFld (MU_REMAP_STATUS p) MU_REMAP_STATUS.result 0).setBit (MU_REMAP_STATUS p)
      MU_REMAP_STATUS.done true).addSat (MU_REMAP_STATUS p) MU_REMAP_STATUS.remaps 1 := rfl
  rw [heq, State.addSat]
  refine ⟨?_, ?_, (((State.onlyRegs_refl s _).setFld (by simp) _ _).setBit (by simp) _ _).setFld (by simp) _ _⟩
  · rw [State.fld_setFld_beside (by decide) (by decide) (by decide), State.fld_setBit_beside (by decide) (by decide)
      (by decide), State.fld_setFld_lt (by decide) (by decide)]
  · rw [State.bit_setFld_beside (by decide) (by decide) (by decide), State.bit_setBit_self (by decide) rfl]

theorem State.remapLoad_effect {p bank row spare : Nat} {sc : Bool} (s : State)
    (hrange : remapInRange sc bank row spare = true) :
    ((s.setRepair p sc bank spare row).remapResult p 0).repair p sc bank spare =
        (row + 2 ^ 14 + 2 ^ 15) % 2 ^ (repairField p sc bank spare).2.width ∧
      s.onlyRegs ((s.setRepair p sc bank spare row).remapResult p 0) [(repairField p sc bank spare).1, MU_REMAP_STATUS p] := by
  obtain ⟨-, -, honly⟩ := (s.setRepair p sc bank spare row).remapResult_ok p
  refine ⟨?_, ((State.onlyRegs_refl s _).setFld (by simp) _ _).trans (honly.mono (by simp))⟩
  rw [State.repair, State.fld, honly.2 _ (by simpa using repairField_ne_MU_REMAP_STATUS p sc bank spare)]
  exact State.fld_setFld_self (repairField_fits hrange)

/-- The state when a live remap starts. -/
def State.remapStarted (s : State) (p : Nat) (sc : Bool) (bank row spare : Nat) : State :=
  ((s.setMu p { s.muW p with remap := some (b2n sc, bank, row, spare) }).setBit (MU_STATUS p) MU_STATUS.remap_busy
    true).setFld (MU_STATUS p) ⟨MU_STATUS.agents_active.lo, 1⟩ 1

theorem State.remapStart_free {p bank row spare : Nat} {sc : Bool}
    (hidle : s.bit (MU_STATUS p) MU_STATUS.remap_busy = false) (hrange : remapInRange sc bank row spare = true)
    (hfree : repairValid (s.repair p sc bank spare) = false) (hspare : spare < spares sc) :
    s.remapStart p sc bank row spare = s.remapStarted p sc bank row spare := by
  have hall : ¬ (List.range (spares sc)).all (fun i => repairValid (s.repair p sc bank i)) = true := fun hall =>
    absurd (List.all_eq_true.1 hall spare (List.mem_range.2 hspare)) (by simp [hfree])
  rw [State.remapStart, if_neg (by simp [hidle]), if_neg (by simp [hrange]), if_neg hall, if_neg (by simp [hfree])]
  rfl

theorem State.remapStarted_effect (s : State) (p : Nat) (sc : Bool) (bank row spare : Nat) :
    (s.remapStarted p sc bank row spare).bit (MU_STATUS p) MU_STATUS.remap_busy = true ∧
      ((s.remapStarted p sc bank row spare).muW p).remap = some (b2n sc, bank, row, spare) ∧
      s.sameMem (s.remapStarted p sc bank row spare) ∧ s.regsBut (s.remapStarted p sc bank row spare) [MU_STATUS p] := by
  refine ⟨?_, ?_, by simp [State.remapStarted],
    (((State.regsBut_refl s _).setMu p _).setBit (by simp) _ _).setFld (by simp) _ _⟩
  · rw [State.remapStarted, State.bit_setFld_beside (by decide) (by decide) (by decide),
      State.bit_setBit_self (by decide) rfl]
  · exact congrArg MuWork.remap (State.muW_setMu_self (x := { s.muW p with remap := some (b2n sc, bank, row, spare) }))

/-! ## The end of a live remap (R135, R136, R257) -/

/-- `t` has the health manager's work, the stores and tile `p`'s lease of `s`. -/
structure State.KeepsLease (s t : State) (p : Nat) : Prop where
  health : t.health = s.health
  store : t.store = s.store
  ctx : t.reg (TILE_CTX p) = s.reg (TILE_CTX p)

theorem State.keepsLease_refl (s : State) (p : Nat) : s.KeepsLease s p := ⟨rfl, rfl, rfl⟩

theorem State.KeepsLease.setReg {p a : Nat} (h : s.KeepsLease t p) (ha : TILE_CTX p ≠ a) (v : Word) :
    s.KeepsLease (t.setReg a v) p := ⟨h.health, h.store, (State.reg_setReg_ne ha).trans h.ctx⟩

theorem State.KeepsLease.setFld {p a : Nat} (h : s.KeepsLease t p) (ha : TILE_CTX p ≠ a) (f : Field) (x : Nat) :
    s.KeepsLease (t.setFld a f x) p := h.setReg ha _

theorem State.KeepsLease.setBit {p a : Nat} (h : s.KeepsLease t p) (ha : TILE_CTX p ≠ a) (f : Field) (x : Bool) :
    s.KeepsLease (t.setBit a f x) p := h.setReg ha _

theorem State.KeepsLease.addSat {p a : Nat} (h : s.KeepsLease t p) (ha : TILE_CTX p ≠ a) (f : Field) (x : Nat) :
    s.KeepsLease (t.addSat a f x) p := h.setReg ha _

theorem State.KeepsLease.setMu {p q : Nat} (h : s.KeepsLease t p) (u : MuWork) : s.KeepsLease (t.setMu q u) p :=
  ⟨h.health, h.store, h.ctx⟩

theorem State.KeepsLease.signal {p : Nat} (h : s.KeepsLease t p) (x : Signal) : s.KeepsLease (t.signal x) p :=
  ⟨h.health, h.store, h.ctx⟩

theorem State.KeepsLease.lease {p : Nat} (h : s.KeepsLease t p) : t.lease p = s.lease p := by
  rw [State.lease, State.bit, State.fld, State.fld, h.ctx]
  rfl

theorem State.KeepsLease.ueMet {p w m n : Nat} (h : s.KeepsLease t p) : s.KeepsLease (t.ueMet p w m n) p := by
  have hne : TILE_CTX p ≠ MU_ECC_UE p ∧ TILE_CTX p ≠ MU_ECC_LOG p ∧ TILE_CTX p ≠ MU_ECC_TIME p ∧ TILE_CTX p ≠ MU_FAULT p := by
    simp [TILE_CTX, MU_ECC_UE, MU_ECC_LOG, MU_ECC_TIME, MU_FAULT]
  obtain ⟨hue, hlog, htime, hfault⟩ := hne
  simp only [State.ueMet]
  exact (ite_k (s.KeepsLease · p) (h.addSat hue _ _)
    ((((h.addSat hue _ _).setReg hlog _).setReg htime _).setBit hfault _ _)).signal _

theorem State.KeepsLease.remapReads {p bank row : Nat} {sc : Bool} (h : s.KeepsLease t p) :
    s.KeepsLease (t.remapReads p sc bank row) p :=
  List.foldlRecOn (motive := fun t => s.KeepsLease t p) _ _ h fun _ ht _ _ => ht.ueMet

theorem State.KeepsLease.setRepair {p bank i row : Nat} {sc : Bool} (h : s.KeepsLease t p) :
    s.KeepsLease (t.setRepair p sc bank i row) p := by
  refine h.setFld ?_ _ _
  cases sc <;> simp [repairField, TILE_CTX, MU_OS_REPAIR, MU_REPAIR] <;> omega

theorem State.KeepsLease.remapResult {p : Nat} (h : s.KeepsLease t p) : s.KeepsLease (t.remapResult p 0) p := by
  have hne : TILE_CTX p ≠ MU_REMAP_STATUS p := by simp [TILE_CTX, MU_REMAP_STATUS]
  exact ((h.setFld hne _ _).setBit hne _ _).addSat hne _ _

theorem State.KeepsLease.remapDone {p : Nat} (h : s.KeepsLease t p) : s.KeepsLease (t.remapDone p) p := by
  have hne : TILE_CTX p ≠ MU_STATUS p := by simp [TILE_CTX, MU_STATUS]
  simp only [State.remapDone]
  split
  · exact h
  · refine ((((State.KeepsLease.setRepair ?_).setMu _).setBit hne _ _).setFld hne _ _).remapResult
    split
    · exact h.remapReads.setRepair
    · exact h.remapReads

theorem State.KeepsLease.remapView {p : Tile} {bank : Nat} (h : s.KeepsLease t p) :
    s.KeepsLease (t.remapView p bank) p := by
  refine State.KeepsLease.setFld (h.setFld ?_ _ _) ?_ _ _ <;> simp only [TILE_CTX, HLTH_REMAP, HLTH_TILE] <;> omega

theorem State.KeepsLease.degrade {p : Tile} (h : s.KeepsLease t p) (hnone : s.lease p = none) :
    s.KeepsLease (t.degrade p) p := by
  have hne : TILE_CTX p ≠ HLTH_TILE p := by
    simp only [TILE_CTX, HLTH_TILE]
    omega
  have hwhy := h.setFld hne HLTH_TILE.degraded_why (Nat.lor (t.fld (HLTH_TILE p) HLTH_TILE.degraded_why) (t.whyNow p))
  have hstate := hwhy.setFld hne HLTH_TILE.state 2
  have hlease := hstate.lease.trans hnone
  simp only [State.degrade, State.setHealth]
  split
  · rw [hlease]
    exact hstate
  · exact hwhy

/-- The state when the copy has ended and the repair stands in the health store. -/
def State.repairStored (s : State) (p : Nat) (sc : Bool) (bank row spare : Nat) : State :=
  let old := s.store.repairs.filter (fun x => !(x.1 == p && x.2.1 == sc && x.2.2.1 == bank && x.2.2.2.2 == spare))
  { s.remapDone p with store := { s.store with repairs := old ++ [(p, sc, bank, row, spare)] } }

/-- What firmware does once the views of a repair are up to date: the rewrite of resident words, the tile's next repair, its
context's work and the new map. -/
def State.repairFollowUps (s : State) (p : Nat) (sc : Bool) (bank row : Nat) : State :=
  let s := if !sc && s.health.rewrites.contains (p, bank, row) then
      let s := s.rewriteRow p bank row
      { s with health := { s.health with rewrites := s.health.rewrites.erase (p, bank, row) } }
    else s
  let s := match s.health.remaps.find? (fun x => x.1 == p) with
    | some x => ({ s with health := { s.health with remaps := s.health.remaps.erase x } } : State).repairRow p x.2.1 x.2.2.1 x.2.2.2
    | none => s
  let s := match s.lease p with
    | some c => s.pump c
    | none => s
  s.publish

/-- The end of a copy: the entry, the health store, the views of a tile-store repair, and what follows. -/
theorem exec_remapComplete_copied {p : Tile} {sc : Bool} {bank row spare : Nat}
    (hremap : (s.muW p).remap = some (b2n sc, bank, row, spare)) :
    exec (.remapComplete p) s = .next ((if sc then s.repairStored p sc bank row spare
      else ((s.repairStored p sc bank row spare).remapView p bank).degrade p).repairFollowUps p sc bank row) := by
  have hstore : (s.remapDone p).store = s.store := (s.keepsLease_refl p).remapDone.store
  rw [exec_remapComplete, execRemapComplete, hremap, State.repairStored, ← hstore]
  cases sc <;> rfl

theorem State.repairFollowUps_alone {p bank row : Nat} {sc : Bool} (hremaps : s.health.remaps = [])
    (hrewrites : s.health.rewrites = []) (hlease : s.lease p = none) :
    s.repairFollowUps p sc bank row = s.publish := by
  simp [State.repairFollowUps, hremaps, hrewrites, hlease]

/-- With no other repair of the tile waiting and the tile in no lease, the end of the copy is followed by the health views
and the published map alone. -/
theorem exec_remapComplete_alone {p : Tile} {sc : Bool} {bank row spare : Nat}
    (hremap : (s.muW p).remap = some (b2n sc, bank, row, spare)) (hremaps : s.health.remaps = [])
    (hrewrites : s.health.rewrites = []) (hlease : s.lease p = none) :
    exec (.remapComplete p) s = .next (if sc then (s.repairStored p sc bank row spare).publish
      else (((s.repairStored p sc bank row spare).remapView p bank).degrade p).publish) := by
  have hdone := (s.keepsLease_refl p).remapDone
  have hhealth : (s.repairStored p sc bank row spare).health = s.health := hdone.health
  have hstored : (s.repairStored p sc bank row spare).lease p = none := hdone.lease.trans hlease
  have hview := (State.keepsLease_refl _ p).remapView (bank := bank) |>.degrade hstored
  rw [exec_remapComplete_copied hremap]
  have hremaps' := congrArg Health.remaps hhealth |>.trans hremaps
  have hrewrites' := congrArg Health.rewrites hhealth |>.trans hrewrites
  cases sc
  · exact congrArg Host.Outcome.next (State.repairFollowUps_alone ((congrArg Health.remaps hview.health).trans hremaps')
      ((congrArg Health.rewrites hview.health).trans hrewrites') (hview.lease.trans hstored))
  · exact congrArg Host.Outcome.next (State.repairFollowUps_alone hremaps' hrewrites' hstored)

/-- Settles O21 (R134 to R136, R257): loads and starts of row repairs, their refusal while one runs, and their end. -/
theorem rowRepairsAndRemaps : Obligations.RowRepairsAndRemaps := by
  refine ⟨fun s p sc bank row spare hrange => ⟨fun hidle => ⟨fun huntested => ?load, fun hfree hspare => ?start⟩,
    fun hbusy c hc => ?busy⟩, fun s p sc bank row spare hremap hremaps hrewrites hlease => ?done⟩
  case load =>
    have heq : s.remapLoad p sc bank row spare = (s.setRepair p sc bank spare row).remapResult p 0 := by
      simp [State.remapLoad, hidle, hrange, huntested]
    obtain ⟨hrepair, honly⟩ := s.remapLoad_effect (p := p) hrange
    obtain ⟨hresult, hdone, -⟩ := (s.setRepair p sc bank spare row).remapResult_ok p
    exact ⟨_, congrArg Host.Outcome.next heq, hrepair, hresult, hdone, honly⟩
  case start =>
    exact ⟨_, congrArg Host.Outcome.next (State.remapStart_free hidle hrange hfree hspare),
      s.remapStarted_effect p sc bank row spare⟩
  case busy =>
    refine ⟨s.setBit (MU_FAULT p) MU_FAULT.remap_busy true, ?_, State.bit_setBit_self (by decide) rfl,
      State.onlyRegs_setBit s _ _ _⟩
    obtain rfl | rfl : c = .remapLoad p sc bank row spare ∨ c = .remap p sc bank row spare := by simpa using hc
    · exact congrArg Host.Outcome.next (if_pos hbusy)
    · exact congrArg Host.Outcome.next (if_pos hbusy)
  case done => exact exec_remapComplete_alone hremap hremaps hrewrites hlease

end Sys2Proof.Machine
end

section
/-! Weight blocks, slice sets, acknowledgements and rounds of retransmission. -/
namespace Sys2Proof.Machine

variable {s t : State}

/-! ## Weight loads (R59, R60) -/

@[simp] theorem State.meU_meStatus {p q : Nat} : (s.meStatus p).meU q = s.meU q := by simp [State.meStatus]

theorem State.readUe_clean {p a n source : Nat} (h : s.ue = []) : s.readUe p a n source = (false, s) := by
  simp [State.readUe, h]

theorem State.bytes_ne_nil {a n : Nat} (hn : n ≠ 0) : s.bytes a n ≠ [] := by
  simpa [State.bytes] using hn

theorem MeUnit.swap_of_inactive {u : MeUnit} (ha : u.active = []) (hs : u.shadow ≠ []) :
    u.swap = { u with active := u.shadow, shadow := [] } := if_pos (by simp [ha, hs])

theorem MeUnit.swap_of_active {u : MeUnit} (ha : u.active ≠ []) : u.swap = u := if_neg (by simp [ha])

@[simp] theorem MeUnit.acc_swap (u : MeUnit) : u.swap.acc = u.acc := by
  unfold MeUnit.swap
  split <;> rfl

theorem exec_weightBlockLoad_clean {p : Tile} {addr : ScratchOff} {n : Nat}
    (hn : n = meArrayBytes (meMode (s.meWf p (s.slot p))) + sideBytes) (hready : s.meReady p = true)
    (hvalid : s.meValid p (s.slot p) = true) (hfits : addr.val + n ≤ osBytes) (hempty : (s.meU p).shadow = [])
    (hue : s.ue = []) :
    exec (.weightBlockLoad p addr) s =
      .next ((s.setMe p ({ s.meU p with shadow := s.bytes (osBase p + addr) n }.swap)).meStatus p) := by
  subst hn
  have hroom : ¬ osBytes < addr.val + (meArrayBytes (meMode (s.meWf p (s.slot p))) + sideBytes) := by omega
  simp [execWeightBlockLoad, hready, hvalid, hroom, hempty, State.readUe_clean hue]

theorem weightLoads (s : State) (p : Tile) (addr : ScratchOff) {n : Nat}
    (hn : n = meArrayBytes (meMode (s.meWf p (s.slot p))) + sideBytes) (hready : s.meReady p = true)
    (hvalid : s.meValid p (s.slot p) = true) (hfits : addr.val + n ≤ osBytes) (hempty : (s.meU p).shadow = [])
    (hue : s.ue = []) :
    ∃ t, exec (.weightBlockLoad p addr) s = .next t ∧
      ((s.meU p).active = [] → (t.meU p).active = s.bytes (osBase p + addr) n ∧ (t.meU p).shadow = []) ∧
      ((s.meU p).active ≠ [] → (t.meU p).active = (s.meU p).active ∧ (t.meU p).shadow = s.bytes (osBase p + addr) n) ∧
      (t.meU p).acc = (s.meU p).acc ∧ s.sameMem t ∧ s.regsBut t [ME_STATUS p] := by
  have hbytes : s.bytes (osBase p + addr) n ≠ [] := State.bytes_ne_nil (by simp [hn, sideBytes])
  refine ⟨_, exec_weightBlockLoad_clean hn hready hvalid hfits hempty hue, fun hinactive => ?_, fun hactive => ?_, by simp,
    by simp, ((State.regsBut_refl s _).setMe p _).trans (State.regsBut_meStatus _ p)⟩
  · have hswap := MeUnit.swap_of_inactive (u := { s.meU p with shadow := s.bytes (osBase p + addr) n }) hinactive hbytes
    simp [hswap]
  · have hswap := MeUnit.swap_of_active (u := { s.meU p with shadow := s.bytes (osBase p + addr) n }) hactive
    simp [hswap]

/-! ## Slice sets (R35, R62) -/

@[simp] theorem State.sameMem_portVectors {l : List AccEntry} : s.sameMem (t.portVectors l).2 ↔ s.sameMem t := Iff.rfl

theorem State.regsBut.portVectors {k : List Nat} (h : s.regsBut t k) (l : List AccEntry) :
    s.regsBut (t.portVectors l).2 k := h.of_regs_eq rfl

theorem State.meEmit_to_port {p : Nat} (htarget : s.fld (ME_SLOT_CFG p (s.slot p)) ME_SLOT_CFG.emit_target = 0)
    (hout : (s.meU p).out = []) (hdone : (s.meU p).acc.any (fun e => e.2.done) = true) :
    s.meEmit p = ((s.portVectors (((s.meU p).acc.filter (fun e => e.2.done)).map (fun e => e.2))).2.setMe p
      { s.meU p with out := (s.portVectors (((s.meU p).acc.filter (fun e => e.2.done)).map (fun e => e.2))).1,
                     acc := (s.meU p).acc.filter (fun e => !e.2.done) }).meStatus p := by
  have hready : ((s.meU p).acc.filter (fun e => e.2.done)).isEmpty = false := by
    simpa using hdone
  simp only [State.meEmit, hready, htarget, hout]
  rfl

theorem sliceSets (s : State) (p : Tile) (hopen : s.fenced p = false) (hrun : s.isHalted (haltMe p) = false)
    (htarget : s.fld (ME_SLOT_CFG p (s.slot p)) ME_SLOT_CFG.emit_target = 0) (hout : (s.meU p).out = [])
    (hdone : (s.meU p).acc.any (fun e => e.2.done) = true) :
    ∃ t, exec (.sliceSetEmit p) s = .next t ∧ (t.meU p).acc = (s.meU p).acc.filter (fun e => !e.2.done) ∧
      (t.meU p).out = (s.portVectors (((s.meU p).acc.filter (fun e => e.2.done)).map (fun e => e.2))).1 ∧
      (t.meU p).active = (s.meU p).active ∧ s.sameMem t ∧ s.regsBut t [ME_STATUS p] := by
  have hexec : exec (.sliceSetEmit p) s = .next (s.meEmit p) := congrArg Host.Outcome.next (if_neg (by simp [hopen, hrun]))
  rw [State.meEmit_to_port htarget hout hdone] at hexec
  exact ⟨_, hexec, by simp, by simp, by simp, by simp,
    (((State.regsBut_refl s _).portVectors _).setMe p _).trans (State.regsBut_meStatus _ p)⟩

/-- Settles O26 (R35, R59, R60, R62): loads of weight blocks and emission of slice sets to the output port. -/
theorem weightsAndSliceSets : Obligations.WeightsAndSliceSets :=
  ⟨fun s p addr => weightLoads s p addr rfl, sliceSets⟩

/-! ## Acknowledgements (R170, R173) -/

theorem atPlace_tile {at_ : MeshPlace} {tile edge : Nat → State} (h : at_.val < 256) :
    s.atPlace at_ tile edge = tile at_ := if_pos h

theorem State.win_winOut (s : State) (p e : Nat) (w : WinEntry) (hsrc : w.src = none) :
    s.winOut p e w = s.setEpWin p e { s.ep p e with win := (s.ep p e).win.erase w } := by
  simp [State.winOut, State.releaseSrc, hsrc]

@[simp] theorem State.sameMem_netDrop {i : Nat} : s.sameMem (t.netDrop i) ↔ s.sameMem t := Iff.rfl

theorem State.regsBut.netDrop {l : List Nat} (h : s.regsBut t l) (i : Nat) : s.regsBut (t.netDrop i) l := h.of_regs_eq rfl

@[simp] theorem State.ep_netDrop {i p e : Nat} : (s.netDrop i).ep p e = s.ep p e := rfl
@[simp] theorem State.net_netDrop {i : Nat} : (s.netDrop i).net = s.net.eraseIdx i := rfl

@[simp] theorem State.net_setEpWin {p e : Nat} {u : EpUnit} : (s.setEpWin p e u).net = s.net := by
  simp [State.setEpWin]

theorem State.ackAt_effect {p i : Nat} {e : Fin 64} {x : NetMsg} {w : WinEntry} (hdest : x.msg.destEp = e.val)
    (hentry : (s.ep p e).entry x.msg.chanSeq = some w) (harr : s.arrivedAt p [kAck] = some (i, x)) (hsrc : w.src = none) :
    ((s.ackAt p).ep p e).win = (s.ep p e).win.erase w ∧ (s.ackAt p).fld (CH_EP_STATE p e) CH_EP_STATE.nack_run = 0 ∧
      (s.ackAt p).net = s.net.eraseIdx i ∧ s.sameMem (s.ackAt p) ∧ s.regsBut (s.ackAt p) [CH_EP_STATE p e] := by
  have hlt : e.val % 64 = e := Nat.mod_eq_of_lt e.isLt
  have heq : s.ackAt p = ((s.netDrop i).setEpWin p e { s.ep p e with win := (s.ep p e).win.erase w }).setFld
      (CH_EP_STATE p e) CH_EP_STATE.nack_run 0 := by
    simp [State.ackAt, harr, hdest, hlt, hentry, State.canRelease, hsrc, State.win_winOut]
  rw [heq]
  have hin : CH_EP_STATE p e ∈ [CH_EP_STATE p e] := List.mem_singleton_self _
  exact ⟨by simp, State.fld_setFld_lt (by decide) (by decide), by simp, by simp,
    (((State.regsBut_refl s _).netDrop i).setEpWin hin _).setFld hin _ _⟩

@[simp] theorem State.ep_chCount {p a i j : Nat} {f : Field} : (s.chCount p a f).ep i j = s.ep i j :=
  ite_k (fun (t : State) => t.ep i j = s.ep i j) rfl rfl

@[simp] theorem State.net_chCount {p a : Nat} {f : Field} : (s.chCount p a f).net = s.net :=
  ite_k (fun (t : State) => t.net = s.net) rfl rfl

@[simp] theorem State.sameMem_chCount {p a : Nat} {f : Field} : s.sameMem (t.chCount p a f) ↔ s.sameMem t := by
  unfold State.chCount
  split <;> simp

theorem State.regsBut.chCount {l : List Nat} (h : s.regsBut t l) {p a : Nat} (ha : a ∈ l) (f : Field) :
    s.regsBut (t.chCount p a f) l := ite_k (s.regsBut · l) h (h.addSat ha f 1)

/-- A NACK of a reason that is retried marks its message for the next round. -/
theorem State.chNacked_retry {p e reason : Nat} {w : WinEntry} (hretry : retryReason reason = true) :
    ((s.chNacked p e w reason).ep p e).roundNacked = true ∧
      ((s.chNacked p e w reason).ep p e).win =
        (s.ep p e).win.map (fun y => if y = w then { y with nacked := true } else y) ∧
      (s.chNacked p e w reason).net = s.net ∧ s.sameMem (s.chNacked p e w reason) ∧
      s.regsBut (s.chNacked p e w reason) [CH_EP_STATE p e] := by
  have hin : CH_EP_STATE p e ∈ [CH_EP_STATE p e] := List.mem_singleton_self _
  simp only [State.chNacked, hretry, if_true]
  split
  · exact ⟨by simp, by simp, by simp, by simp, (State.regsBut_refl s _).setEpWin hin _⟩
  · exact ⟨by simp, by simp, by simp, by simp, ((State.regsBut_refl s _).setEpWin hin _).setFld hin _ _⟩

theorem State.nackAt_effect {p i : Nat} {e : Fin 64} {x : NetMsg} {w : WinEntry} (hdest : x.msg.destEp = e.val)
    (hentry : (s.ep p e).entry x.msg.chanSeq = some w) (harr : s.arrivedAt p [kNack] = some (i, x))
    (hretry : retryReason (x.msg.operand % 256) = true) :
    ((s.nackAt p).ep p e).roundNacked = true ∧
      ((s.nackAt p).ep p e).win = (s.ep p e).win.map (fun y => if y = w then { y with nacked := true } else y) ∧
      (s.nackAt p).net = s.net.eraseIdx i ∧ s.sameMem (s.nackAt p) ∧
      s.regsBut (s.nackAt p) [CH_EP_STATE p e, CH_NACKS p] := by
  have heq : s.nackAt p =
      ((s.netDrop i).chCount p (CH_NACKS p) CH_NACKS.received).chNacked p e w (x.msg.operand % 256) := by
    simp [State.nackAt, harr, hdest, hentry]
  obtain ⟨hround, hwin, hnet, hmem, hregs⟩ :=
    ((s.netDrop i).chCount p (CH_NACKS p) CH_NACKS.received).chNacked_retry (p := p) (e := e) (w := w) hretry
  rw [heq]
  refine ⟨hround, by simpa using hwin, by simpa using hnet, State.sameMem.trans (by simp) hmem, ?_⟩
  exact (((State.regsBut_refl s _).netDrop i).chCount (by simp) _).trans (hregs.mono (by simp))

/-! ## Rounds of retransmission (R173) -/

/-- A list of messages sent by an endpoint adds as many to the mesh and changes nothing else. -/
theorem State.foldl_chInject (l : List WinEntry) (s : State) (p e : Nat) :
    l.foldl (fun s w => s.chInject p e w.msg) s = { s with net := (l.foldl (fun s w => s.chInject p e w.msg) s).net } ∧
      (l.foldl (fun s w => s.chInject p e w.msg) s).net.length = s.net.length + l.length := by
  induction l generalizing s with
  | nil => exact ⟨rfl, rfl⟩
  | cons w l ih =>
    obtain ⟨hrest, hlen⟩ := ih (s.chInject p e w.msg)
    have hone : (s.chInject p e w.msg).net.length = s.net.length + 1 := by simp [State.chInject]
    rw [List.foldl_cons]
    exact ⟨hrest, by rw [hlen, hone, List.length_cons]; omega⟩

theorem State.retryRound_effect {p e : Nat} (hmay : s.chMayResend p e = true) (hround : (s.ep p e).roundNacked = true) :
    ((s.retryRound p e).ep p e).roundNacked = false ∧
      ((s.retryRound p e).ep p e).win = (s.ep p e).win.map (fun y => { y with nacked := false }) ∧
      (s.retryRound p e).net.length = s.net.length + (s.ep p e).win.countP (fun y => y.nacked) ∧
      s.sameMem (s.retryRound p e) ∧ s.regsBut (s.retryRound p e) [CH_EP_STATE p e] := by
  have hin : CH_EP_STATE p e ∈ [CH_EP_STATE p e] := List.mem_singleton_self _
  obtain ⟨hrest, hlen⟩ := State.foldl_chInject ((s.ep p e).win.filter (fun w => w.nacked)) (s.setEpWin p e
    { s.ep p e with roundNacked := false, win := (s.ep p e).win.map (fun w => { w with nacked := false }) }) p e
  have heq : s.retryRound p e = _ := if_pos (by simp [hmay, hround])
  rw [heq, List.countP_eq_length_filter]
  refine ⟨?_, ?_, by simpa using hlen, ?_, ?_⟩
  · rw [hrest]
    exact congrArg EpUnit.roundNacked State.ep_setEpWin_self
  · rw [hrest]
    exact congrArg EpUnit.win State.ep_setEpWin_self
  · rw [hrest]
    simp
  · rw [hrest]
    exact ((State.regsBut_refl s _).setEpWin hin _).of_regs_eq rfl

/-- Settles O30 (R170, R173): ACKs, NACKs that are retried, and rounds of retransmission. -/
theorem acksAndRounds : Obligations.AcksAndRounds := by
  refine fun s p e i x w hdest hentry => ⟨fun harr hsrc => ?_, fun harr hretry => ?_, fun hmay hround => ?_⟩
  · exact ⟨_, congrArg Host.Outcome.next (atPlace_tile p.isLt), State.ackAt_effect hdest hentry harr hsrc⟩
  · exact ⟨_, congrArg Host.Outcome.next (atPlace_tile p.isLt), State.nackAt_effect hdest hentry harr hretry⟩
  · exact ⟨_, congrArg Host.Outcome.next (atPlace_tile p.isLt), State.retryRound_effect hmay hround⟩

end Sys2Proof.Machine
end

section
/-! The home of the Treup link: what the host's transactions read, write and take when nothing waits. -/
namespace Sys2Proof.Machine

variable {s t u : State}

/-! ## The queue of the host's transactions -/

/-- The state with no transaction of the host waiting. -/
def State.noneWaits (s : State) : State := { s with tl := { s.tl with inq := [] } }

@[simp] theorem State.sameMem_noneWaits : s.sameMem t.noneWaits ↔ s.sameMem t := Iff.rfl
@[simp] theorem State.bytes_noneWaits {a n : Nat} : s.noneWaits.bytes a n = s.bytes a n := rfl
@[simp] theorem State.num_noneWaits {a n : Nat} : s.noneWaits.num a n = s.num a n := rfl
@[simp] theorem State.hostCopy_noneWaits {a : Nat} : s.noneWaits.hostCopy a = s.hostCopy a := rfl
@[simp] theorem State.snooping_noneWaits {a : Nat} : s.noneWaits.snooping a = s.snooping a := rfl

theorem State.regsBut.noneWaits {l : List Nat} (h : s.regsBut t l) : s.regsBut t.noneWaits l := h.of_regs_eq rfl

theorem State.memBut.noneWaits {a n : Nat} (h : s.memBut t a n) : s.memBut t.noneWaits a n := h

/-- A transaction of the host that finds nothing waiting and need not wait is done at once (R331). -/
theorem State.hostOp_done {o : HostOp} (hlink : s.linkActive = true) (hinq : s.tl.inq = [])
    (hdone : s.tryHost o = (true, t)) : s.hostOp o = t.noneWaits := by
  simp [State.hostOp, hlink, hinq, State.drainIn, hdone, State.noneWaits]

/-! ## Completions, and the parts of the home that they leave -/

/-- The filter, the snoops and the waiting transactions of `t` are those of `s`. -/
structure State.KeepsHome (s t : State) : Prop where
  filter : t.tl.filter = s.tl.filter
  snoops : t.tl.snoops = s.tl.snoops
  inq : t.tl.inq = s.tl.inq

theorem State.keepsHome_refl (s : State) : s.KeepsHome s := ⟨rfl, rfl, rfl⟩

theorem State.KeepsHome.trans (h : s.KeepsHome t) (h' : t.KeepsHome u) : s.KeepsHome u :=
  ⟨h'.filter.trans h.filter, h'.snoops.trans h.snoops, h'.inq.trans h.inq⟩

theorem State.KeepsHome.of_setBytes {a : Nat} {l : List Byte} (h : (s.setBytes a l).KeepsHome t) : s.KeepsHome t :=
  ⟨h.filter, h.snoops, h.inq⟩

theorem State.KeepsHome.hostCopy (h : s.KeepsHome t) (a : Nat) : t.hostCopy a = s.hostCopy a := by
  rw [State.hostCopy, h.filter, State.hostCopy]

theorem Treup.takeCredit_free {x : Treup} {o : TlOut} (ho : (outSlots o).1 = 0) : x.takeCredit o = x := by
  cases o <;> simp [Treup.takeCredit, outSlots] at ho ⊢

/-- A completion or an error report changes what the link has sent or holds, and nothing else. -/
theorem State.sendTl_free {o : TlOut} (ho : (outSlots o).1 = 0) :
    s.sendTl o = { s with tl := (s.sendTl o).tl } ∧ s.KeepsHome (s.sendTl o) := by
  have hdown : s.linkDown = true → s.sendTl o = s := by
    intro hdown
    cases o <;> simp [State.sendTl, hdown, outSlots] at ho ⊢
  by_cases hlink : s.linkDown = true
  · rw [hdown hlink]
    exact ⟨rfl, s.keepsHome_refl⟩
  · unfold State.sendTl
    rw [if_neg hlink, Treup.takeCredit_free ho]
    split
    · exact ⟨rfl, ⟨rfl, rfl, rfl⟩⟩
    · exact ⟨rfl, ⟨rfl, rfl, rfl⟩⟩

theorem State.complTl_frame {tag : Nat} {w bad : Bool} {data : List Byte} :
    s.complTl tag w bad data = { s with tl := (s.complTl tag w bad data).tl } ∧ s.KeepsHome (s.complTl tag w bad data) := by
  unfold State.complTl
  split
  · exact State.sendTl_free rfl
  · exact State.sendTl_free rfl

/-- With nothing held and the link ACTIVE, a transaction with credits is sent. -/
theorem State.sendTl_at_once {o : TlOut} (ho : (outSlots o).1 = 0) (hlink : s.linkActive = true) (hheld : s.tl.held = [])
    (hcredit : s.tl.hasCredit o = true) : (s.sendTl o).tl = { s.tl with sent := s.tl.sent ++ [o] } := by
  have hup : s.linkDown = false := by
    rw [State.linkActive, decide_eq_true_eq] at hlink
    simp [State.linkDown, hlink]
  simp [State.sendTl, hup, hlink, hheld, hcredit, Treup.takeCredit_free ho]

/-! ## Watches (R335, R338) -/

/-- `t` is `s` but for DRDY_N and for what the link's agents have to take. -/
structure State.Fires (s t : State) : Prop where
  mem : s.sameMem t
  regs : s.regsBut t [TL_DRDY]
  home : s.KeepsHome t

theorem State.fires_refl (s : State) : s.Fires s := ⟨State.sameMem_refl s, State.regsBut_refl s _, s.keepsHome_refl⟩

theorem State.Fires.trans (h : s.Fires t) (h' : t.Fires u) : s.Fires u :=
  ⟨h.mem.trans h'.mem, h.regs.trans h'.regs, h.home.trans h'.home⟩

theorem State.fires_drdy (s : State) : s.Fires s.drdy := by
  have hin : TL_DRDY ∈ [TL_DRDY] := List.mem_singleton_self _
  exact ⟨by simp [State.drdy], (((State.regsBut_refl s _).setFld hin _ _).setFld hin _ _).setBit hin _ _, ⟨rfl, rfl, rfl⟩⟩

theorem State.fires_seen {n m : Nat} : s.Fires { s with tl := { s.tl with repSeen := n, evtSeen := m } } :=
  ⟨fun _ => rfl, fun _ _ => rfl, ⟨rfl, rfl, rfl⟩⟩

theorem State.fires_fire (s : State) (line : Nat) : s.Fires (s.fire line) := by
  have hview : ∀ {x : State}, s.Fires x → s.Fires (if x.watched line && !(x.tl.fired.contains line) then
      { x with tl := { x.tl with fired := x.tl.fired ++ [line] } } else x) := by
    intro x h
    split
    · exact ⟨h.mem, h.regs, ⟨h.home.filter, h.home.snoops, h.home.inq⟩⟩
    · exact h
  refine hview ?_
  split_ifs
  · exact State.fires_seen.trans (State.fires_drdy _)
  · exact State.fires_seen.trans (State.fires_drdy _)
  · exact s.fires_refl

theorem State.fires_foldl_fire {α : Type} (l : List α) (f : α → Nat) (s : State) :
    s.Fires (l.foldl (fun s x => s.fire (f x)) s) :=
  List.foldlRecOn (motive := fun t => s.Fires t) _ _ s.fires_refl fun t h _ _ => h.trans (t.fires_fire _)

/-- What the host stores in memory: its bytes, and the watches of their lines. -/
theorem State.hostBytes_fires {a : Nat} {l : List Byte} (hregs : inRegs a = false) :
    (s.setBytes a l).Fires (s.hostBytes a l false) := by
  rw [State.hostBytes, if_neg (by simp [hregs])]
  exact State.fires_foldl_fire _ _ _

theorem State.hostBytes_effect {a n : Nat} {l : List Byte} (hregs : inRegs a = false) (hlen : l.length = n) :
    (s.hostBytes a l false).bytes a n = l ∧ s.memBut (s.hostBytes a l false) a n ∧
      s.regsBut (s.hostBytes a l false) [TL_DRDY] ∧ s.KeepsHome (s.hostBytes a l false) := by
  have hfires := State.hostBytes_fires (s := s) (l := l) hregs
  exact ⟨(hfires.mem.bytes_eq a n).trans (State.bytes_setBytes_self s a hlen),
    (State.memBut_setBytes s hlen).of_sameMem hfires.mem, ((State.regsBut_refl s _).setBytes a l).trans hfires.regs,
    hfires.home.of_setBytes⟩

/-! ## Reads and grants (R328, R331, R333, R334) -/

theorem exec_read_at_once {tag : BitVec 12} {addr : BitVec 52} {lines : Fin 8} (hlink : s.linkActive = true)
    (hinq : s.tl.inq = []) (halign : addr.toNat % 64 = 0) (hmax : lines.val + 1 ≤ s.maxLines)
    (hmay : s.hostMayRead addr.toNat (64 * (lines.val + 1)) = true) (hsnoops : s.tl.snoops = [])
    (hgood : s.badWords addr.toNat (64 * (lines.val + 1)) = []) :
    exec (.read tag addr lines) s = .next (s.sendTl
      (.cpl tag.toNat tlOK false false (s.devBytes addr.toNat (64 * (lines.val + 1))))).noneWaits := by
  refine congrArg Host.Outcome.next (State.hostOp_done hlink hinq ?_)
  have hmax' : ¬ lines.val + 1 > s.maxLines := Nat.not_lt.2 hmax
  simp only [State.tryHost, hsnoops, hmay, hgood, State.complTl, List.any_nil, halign, hmax']
  simp

theorem readCompletes {tag : BitVec 12} {addr : BitVec 52} {lines : Fin 8} (hlink : s.linkActive = true)
    (hinq : s.tl.inq = []) (hheld : s.tl.held = []) (halign : addr.toNat % 64 = 0) (hmax : lines.val + 1 ≤ s.maxLines)
    (hmay : s.hostMayRead addr.toNat (64 * (lines.val + 1)) = true) (hsnoops : s.tl.snoops = [])
    (hgood : s.badWords addr.toNat (64 * (lines.val + 1)) = [])
    (hcredit : s.tl.hasCredit
      (.cpl tag.toNat tlOK false false (s.devBytes addr.toNat (64 * (lines.val + 1)))) = true) :
    ∃ t, exec (.read tag addr lines) s = .next t ∧
      t.tl.sent = s.tl.sent ++ [.cpl tag.toNat tlOK false false (s.devBytes addr.toNat (64 * (lines.val + 1)))] ∧
      t.tl.inq = [] ∧ t = { s with tl := t.tl } := by
  refine ⟨_, exec_read_at_once hlink hinq halign hmax hmay hsnoops hgood, ?_, rfl, ?_⟩
  · rw [State.noneWaits, State.sendTl_at_once rfl hlink hheld hcredit]
  · rw [State.noneWaits, (State.sendTl_free rfl).1]

theorem State.hostCopy_dropCopy_self {a : Nat} : (s.dropCopy a).hostCopy a = none := by
  simp [State.hostCopy, State.dropCopy]

theorem State.hostCopy_dropCopy_ne {a b : Nat} (h : b ≠ a) : (s.dropCopy a).hostCopy b = s.hostCopy b := by
  have hsame : ∀ e : FilterEntry, decide ((e.line != a) = true ∧ (e.line == b) = true) = (e.line == b) := fun e => by
    by_cases hb : e.line = b
    · simp [hb, h]
    · simp [hb]
  simp only [State.hostCopy, State.dropCopy, List.find?_filter, hsame]

/-- The home grants a line: the filter's new entry is writable for OWN and where the copy was. -/
def State.grantedCopy (s : State) (a : Nat) (own : Bool) : FilterEntry :=
  { line := a, m := own || ((s.hostCopy a).map (fun e => e.m)).getD false }

/-- The state with a granted line in the filter. -/
def State.granted (s : State) (a : Nat) (own : Bool) : State :=
  { s.dropCopy a with tl := { (s.dropCopy a).tl with
    filter := (s.dropCopy a).tl.filter ++ [s.grantedCopy a own] } }.filterView

theorem State.hostCopy_granted_self {a : Nat} {own : Bool} : (s.granted a own).hostCopy a = some (s.grantedCopy a own) := by
  have hnone : (s.dropCopy a).hostCopy a = none := State.hostCopy_dropCopy_self
  change ((s.dropCopy a).tl.filter ++ [s.grantedCopy a own]).find? (fun e => e.line == a) = _
  rw [List.find?_append, show (s.dropCopy a).tl.filter.find? (fun e => e.line == a) = none from hnone]
  simp [State.grantedCopy]

theorem State.hostCopy_granted_ne {a b : Nat} {own : Bool} (h : b ≠ a) : (s.granted a own).hostCopy b = s.hostCopy b := by
  rw [← State.hostCopy_dropCopy_ne (s := s) h]
  change ((s.dropCopy a).tl.filter ++ [s.grantedCopy a own]).find? (fun e => e.line == b) = _
  rw [List.find?_append]
  simp [State.grantedCopy, h.symm, State.hostCopy]

theorem State.grantLine_effect (s : State) (tag a : Nat) (own : Bool) :
    (s.grantLine tag a own).hostCopy a = some (s.grantedCopy a own) ∧
      (∀ b, b ≠ a → (s.grantLine tag a own).hostCopy b = s.hostCopy b) ∧ s.sameMem (s.grantLine tag a own) ∧
      s.regsBut (s.grantLine tag a own) [TL_COH] := by
  obtain ⟨hrest, hhome⟩ := State.complTl_frame (s := s.granted a own) (tag := tag)
    (w := own && (s.granted a own).feature 0 && (s.granted a own).watched a)
    (bad := !((s.granted a own).badWords a 64).isEmpty) (data := (s.granted a own).bytes a 64)
  have heq : s.grantLine tag a own = (s.granted a own).complTl tag
    (own && (s.granted a own).feature 0 && (s.granted a own).watched a) (!((s.granted a own).badWords a 64).isEmpty)
    ((s.granted a own).bytes a 64) := rfl
  rw [heq]
  have hregs : s.regsBut (s.granted a own) [TL_COH] := by
    have hdrop : s.regsBut (s.dropCopy a) [TL_COH] := fun _ _ => rfl
    exact (hdrop.of_regs_eq rfl).setFld (List.mem_singleton_self _) _ _
  have hmem : s.sameMem (s.granted a own) := fun _ => rfl
  refine ⟨(hhome.hostCopy a).trans State.hostCopy_granted_self,
    fun b hb => (hhome.hostCopy b).trans (State.hostCopy_granted_ne hb), ?_, ?_⟩
  · rw [hrest]
    exact hmem
  · rw [hrest]
    exact hregs

theorem exec_grant_at_once {tag : BitVec 12} {addr : BitVec 52} {own : Bool} (hlink : s.linkActive = true)
    (hinq : s.tl.inq = []) (halign : addr.toNat % 64 = 0) (hfree : s.snooping addr.toNat = false)
    (hcoh : s.coherent addr.toNat = true)
    (hmay : (if own then s.hostMayWrite addr.toNat 64 else s.hostMayRead addr.toNat 64) = true)
    (hroom : s.tl.filter.length < 524288) :
    exec (if own then .own tag addr else .share tag addr) s = .next (s.grantLine tag.toNat addr.toNat own).noneWaits := by
  have hroom' : ¬ s.tl.filter.length ≥ 524288 := Nat.not_le.2 hroom
  have htry : s.tryHost (.grant tag.toNat addr.toNat own) = (true, s.grantLine tag.toNat addr.toNat own) := by
    cases own <;> simp_all [State.tryHost]
  cases own
  · exact congrArg Host.Outcome.next (State.hostOp_done hlink hinq htry)
  · exact congrArg Host.Outcome.next (State.hostOp_done hlink hinq htry)

/-- Settles O34 (R328, R331, R333, R334): READ, SHARE and OWN of the host where nothing waits. -/
theorem hostReadsAndGrants : Obligations.HostReadsAndGrants := by
  refine fun s tag addr lines own => ?_
  intro a hlink hinq hheld halign
  refine ⟨fun hmax hmay hsnoops hgood hcredit => readCompletes hlink hinq hheld halign hmax hmay hsnoops hgood hcredit,
    fun hfree hcoh hmay hroom => ?_⟩
  obtain ⟨hself, hother, hmem, hregs⟩ := s.grantLine_effect tag.toNat a own
  exact ⟨_, exec_grant_at_once hlink hinq halign hfree hcoh hmay hroom, hself, hother, hmem, hregs.noneWaits⟩

end Sys2Proof.Machine
end

section
/-! The host's writes, and the lines that it gives back. -/
namespace Sys2Proof.Machine

variable {s t u : State}

/-! ## Writes (R328, R331) -/

theorem State.homeBusy_of_none_out {a n : Nat} {wr : Bool} (hfilter : s.tl.filter = []) (hsnoops : s.tl.snoops = []) :
    s.homeBusy a n wr = [] := by
  simp [State.homeBusy, hfilter, hsnoops]

theorem exec_write_at_once {tag : BitVec 12} {addr : BitVec 52} {lines : Fin 8} {data : BitVec 4096}
    (hlink : s.linkActive = true) (hinq : s.tl.inq = []) (hfilter : s.tl.filter = []) (hsnoops : s.tl.snoops = [])
    (halign : addr.toNat % 64 = 0) (hmax : lines.val + 1 ≤ s.maxLines)
    (hmay : s.hostMayWrite addr.toNat (64 * (lines.val + 1)) = true) :
    exec (.write tag addr lines data false) s =
      .next (s.hostBytes addr.toNat (leBytes (64 * (lines.val + 1)) data.toNat) false).noneWaits := by
  refine congrArg Host.Outcome.next (State.hostOp_done hlink hinq ?_)
  have hmax' : ¬ 64 * (lines.val + 1) > 64 * s.maxLines := by omega
  rw [State.tryHost, length_leBytes, if_neg hmax', if_neg (by simp [halign, hmay]),
    if_neg (by simp [State.homeBusy_of_none_out hfilter hsnoops])]

@[simp] theorem length_maskBytes {m : Nat} {old new : List Byte} (ho : old.length = 64) (hn : new.length = 64) :
    (maskBytes m old new).length = 64 := by
  simp [maskBytes, ho, hn]

theorem exec_writeMasked_at_once {tag : BitVec 12} {addr : BitVec 52} {mask : BitVec 64} {data : BitVec 512}
    (hlink : s.linkActive = true) (hinq : s.tl.inq = []) (hregs : inRegs addr.toNat = false) (hfilter : s.tl.filter = [])
    (hsnoops : s.tl.snoops = []) (halign : addr.toNat % 64 = 0) (hmay : s.hostMayWrite addr.toNat 64 = true)
    (hgood : s.badWords addr.toNat 64 = []) :
    exec (.writeMasked tag addr mask data false) s = .next (s.hostBytes addr.toNat
      (maskBytes mask.toNat (s.bytes addr.toNat 64) (leBytes 64 data.toNat)) false).noneWaits := by
  refine congrArg Host.Outcome.next (State.hostOp_done hlink hinq ?_)
  rw [State.tryHost, if_neg (by simp [halign, hmay]), if_neg (by simp [hregs]),
    if_neg (by simp [State.homeBusy_of_none_out hfilter hsnoops])]
  simp [hgood]

/-- Bytes of an atomic's operand. -/
def atomicSize (op : Nat) : Nat := if op = 3 then 16 else 8

theorem ofBytes_take_lt (l : List Byte) (n : Nat) : ofBytes (l.take n) < 256 ^ n :=
  Nat.lt_of_lt_of_le (ofBytes_lt _) (Nat.pow_le_pow_right (by decide) (List.length_take_le n l))

theorem atomicNew_lt {op old : Nat} {l : List Byte} (hop : op < 4) (hold : old < 256 ^ atomicSize op) :
    atomicNew op old l < 256 ^ atomicSize op := by
  match op, hop with
  | 0, _ => exact Nat.mod_lt _ (by decide)
  | 1, _ => exact ofBytes_take_lt l 8
  | 2, _ => exact ite_k (· < 256 ^ 8) (ofBytes_take_lt (l.drop 8) 8) hold
  | 3, _ => exact ite_k (· < 256 ^ 16) (ofBytes_take_lt (l.drop 16) 16) hold

/-- The state when an atomic has stored its result. -/
def State.atomicDone (s : State) (a op : Nat) (l : List Byte) : State :=
  (s.setNum a (atomicSize op) (atomicNew op (s.num a (atomicSize op)) l)).fire (lineOf a)

theorem exec_atomic_at_once {tag : BitVec 12} {addr : BitVec 52} {op : Fin 4} {x : BitVec 256}
    (hlink : s.linkActive = true) (hinq : s.tl.inq = []) (hregs : inRegs addr.toNat = false) (hfilter : s.tl.filter = [])
    (hsnoops : s.tl.snoops = []) (hcas : op.val = 3 → s.feature 3 = true) (halign : addr.toNat % atomicSize op = 0)
    (hmay : s.hostMayWrite addr.toNat (atomicSize op) = true) (hgood : s.badWords addr.toNat (atomicSize op) = []) :
    exec (.atomic tag addr (BitVec.ofNat 8 op) x) s =
      .next ((s.atomicDone addr.toNat op (leBytes 32 x.toNat)).complTl tag.toNat false false
        (s.bytes addr.toNat (atomicSize op))).noneWaits := by
  have hop : (BitVec.ofNat 8 op.val).toNat = op.val := by
    rw [BitVec.toNat_ofNat]
    omega
  refine congrArg Host.Outcome.next (State.hostOp_done hlink hinq ?_)
  rw [hop, State.tryHost]
  simp only [atomicSize] at halign hmay hgood
  rw [if_neg (by simp; exact ⟨by omega, hcas⟩), if_neg (by simp [halign, hmay, hregs]),
    if_neg (by simp [State.homeBusy_of_none_out hfilter hsnoops]), if_neg (by simp [hgood])]
  rfl

theorem State.atomicDone_effect (s : State) (a : Nat) {op : Nat} (l : List Byte) (hop : op < 4) :
    (s.atomicDone a op l).num a (atomicSize op) = atomicNew op (s.num a (atomicSize op)) l ∧
      s.memBut (s.atomicDone a op l) a (atomicSize op) ∧ s.regsBut (s.atomicDone a op l) [TL_DRDY] := by
  have hfires := State.fires_fire (s.setNum a (atomicSize op) (atomicNew op (s.num a (atomicSize op)) l)) (lineOf a)
  have hnew := atomicNew_lt (l := l) hop (s.num_lt a (atomicSize op))
  exact ⟨(hfires.mem.num_eq a _).trans (s.num_setNum_self a hnew),
    (State.memBut_setBytes s (length_leBytes _ _)).of_sameMem hfires.mem,
    ((State.regsBut_refl s _).setBytes _ _).trans hfires.regs⟩

theorem atomicCompletes (s : State) (tag : BitVec 12) (addr : BitVec 52) (op : Fin 4) (x : BitVec 256)
    (hlink : s.linkActive = true) (hinq : s.tl.inq = []) (hregs : inRegs addr.toNat = false) (hfilter : s.tl.filter = [])
    (hsnoops : s.tl.snoops = []) (hcas : op.val = 3 → s.feature 3 = true) (halign : addr.toNat % atomicSize op = 0)
    (hmay : s.hostMayWrite addr.toNat (atomicSize op) = true) (hgood : s.badWords addr.toNat (atomicSize op) = []) :
    ∃ t, exec (.atomic tag addr (BitVec.ofNat 8 op) x) s = .next t ∧
      t.num addr.toNat (atomicSize op) = atomicNew op (s.num addr.toNat (atomicSize op)) (leBytes 32 x.toNat) ∧
      s.memBut t addr.toNat (atomicSize op) ∧ s.regsBut t [TL_DRDY] := by
  obtain ⟨hnum, hmem, hframe⟩ := s.atomicDone_effect addr.toNat (leBytes 32 x.toNat) op.isLt
  obtain ⟨hrest, -⟩ := State.complTl_frame (s := s.atomicDone addr.toNat op (leBytes 32 x.toNat)) (tag := tag.toNat)
    (w := false) (bad := false) (data := s.bytes addr.toNat (atomicSize op))
  have hsame : (s.atomicDone addr.toNat op (leBytes 32 x.toNat)).sameMem
      ((s.atomicDone addr.toNat op (leBytes 32 x.toNat)).complTl tag.toNat false false
        (s.bytes addr.toNat (atomicSize op))).noneWaits := by
    rw [State.sameMem_noneWaits, hrest]
    simp
  refine ⟨_, exec_atomic_at_once hlink hinq hregs hfilter hsnoops hcas halign hmay hgood, ?_, hmem.of_sameMem hsame, ?_⟩
  · exact (hsame.num_eq _ _).trans hnum
  · refine State.regsBut.noneWaits ?_
    rw [hrest]
    exact hframe.of_regs_eq rfl

theorem hostWrites (s : State) (tag : BitVec 12) (addr : BitVec 52) (hlink : s.linkActive = true) (hinq : s.tl.inq = [])
    (hregs : inRegs addr.toNat = false) (hfilter : s.tl.filter = []) (hsnoops : s.tl.snoops = []) :
    (∀ (lines : Fin 8) (data : BitVec 4096), addr.toNat % 64 = 0 → lines.val + 1 ≤ s.maxLines →
      s.hostMayWrite addr.toNat (64 * (lines.val + 1)) = true →
      ∃ t, exec (.write tag addr lines data false) s = .next t ∧
        t.bytes addr.toNat (64 * (lines.val + 1)) = leBytes (64 * (lines.val + 1)) data.toNat ∧
        s.memBut t addr.toNat (64 * (lines.val + 1)) ∧ s.regsBut t [TL_DRDY]) ∧
    (∀ (mask : BitVec 64) (data : BitVec 512), addr.toNat % 64 = 0 → s.hostMayWrite addr.toNat 64 = true →
      s.badWords addr.toNat 64 = [] →
      ∃ t, exec (.writeMasked tag addr mask data false) s = .next t ∧
        t.bytes addr.toNat 64 = maskBytes mask.toNat (s.bytes addr.toNat 64) (leBytes 64 data.toNat) ∧
        s.memBut t addr.toNat 64 ∧ s.regsBut t [TL_DRDY]) := by
  refine ⟨fun lines data halign hmax hmay => ?_, fun mask data halign hmay hgood => ?_⟩
  · obtain ⟨hbytes, hmem, hframe, -⟩ := State.hostBytes_effect (s := s) hregs (length_leBytes (64 * (lines.val + 1)) data.toNat)
    exact ⟨_, exec_write_at_once hlink hinq hfilter hsnoops halign hmax hmay, hbytes, hmem.noneWaits, hframe.noneWaits⟩
  · have hlen := length_maskBytes (m := mask.toNat) (s.length_bytes addr.toNat 64) (length_leBytes 64 data.toNat)
    obtain ⟨hbytes, hmem, hframe, -⟩ := State.hostBytes_effect (s := s) hregs hlen
    exact ⟨_, exec_writeMasked_at_once hlink hinq hregs hfilter hsnoops halign hmay hgood, hbytes, hmem.noneWaits,
      hframe.noneWaits⟩

/-! ## Returned lines and answers to snoops (R334, R335) -/

/-- The state without the host's copy of a line. -/
def State.copyGone (s : State) (a : Nat) : State := (s.dropCopy a).filterView

theorem State.copyGone_frame (s : State) (a : Nat) :
    s.sameMem (s.copyGone a) ∧ s.regsBut (s.copyGone a) [TL_COH] ∧ (s.copyGone a).hostCopy a = none := by
  have hdrop : s.regsBut (s.dropCopy a) [TL_COH] := fun _ _ => rfl
  exact ⟨fun _ => rfl, hdrop.setFld (List.mem_singleton_self _) _ _, State.hostCopy_dropCopy_self⟩

theorem State.takeReturn_eq {a : Nat} {e : FilterEntry} {data : Option (List Byte)} {poison : Bool}
    (he : s.hostCopy a = some e) : s.takeReturn a data poison = match data with
      | some l => if e.m then (s.copyGone a).hostBytes a l poison else s.copyGone a
      | none => s.copyGone a := by
  unfold State.takeReturn
  rw [he]
  rfl

theorem State.takeReturn_effect {a : Nat} {e : FilterEntry} {dirty : Bool} {l : List Byte} (he : s.hostCopy a = some e)
    (hregs : inRegs a = false) (hlen : l.length = 64) :
    (s.takeReturn a (if dirty then some l else none) false).hostCopy a = none ∧
      ((dirty && e.m) = true → (s.takeReturn a (if dirty then some l else none) false).bytes a 64 = l ∧
        s.memBut (s.takeReturn a (if dirty then some l else none) false) a 64) ∧
      ((dirty && e.m) = false → s.sameMem (s.takeReturn a (if dirty then some l else none) false)) ∧
      s.regsBut (s.takeReturn a (if dirty then some l else none) false) [TL_COH, TL_DRDY] := by
  obtain ⟨hmem, hframe, hcopy⟩ := s.copyGone_frame a
  have hcoh : s.regsBut (s.copyGone a) [TL_COH, TL_DRDY] := hframe.mono (by simp)
  by_cases hstores : (dirty && e.m) = true
  · obtain ⟨rfl, hm⟩ := Bool.and_eq_true_iff.1 hstores
    obtain ⟨hbytes, hbut, hdrdy, hhome⟩ := State.hostBytes_effect (s := s.copyGone a) hregs hlen
    have heq : s.takeReturn a (some l) false = (s.copyGone a).hostBytes a l false :=
      (State.takeReturn_eq he).trans (if_pos hm)
    simp only [if_true, heq]
    exact ⟨(hhome.hostCopy a).trans hcopy, fun _ => ⟨hbytes, (hmem.memBut a 64).trans hbut⟩,
      fun h => absurd hstores (by simp [h]), hcoh.trans (hdrdy.mono (by simp))⟩
  · have heq : s.takeReturn a (if dirty then some l else none) false = s.copyGone a := by
      rw [State.takeReturn_eq he]
      cases dirty
      · rfl
      · exact if_neg (by simpa using hstores)
    rw [heq]
    exact ⟨hcopy, fun h => absurd h hstores, fun _ => hmem, hcoh⟩

theorem exec_returnLine_at_once {tag : BitVec 12} {addr : BitVec 52} {dirty : Bool} {data : BitVec 512} {e : FilterEntry}
    (hlink : s.linkActive = true) (hinq : s.tl.inq = []) (he : s.hostCopy addr.toNat = some e)
    (hfree : s.snooping addr.toNat = false) :
    exec (.returnLine tag addr dirty data false) s =
      .next (s.takeReturn addr.toNat (if dirty then some (leBytes 64 data.toNat) else none) false).noneWaits := by
  have hop : s.hostOp (.ret addr.toNat (if dirty then some (leBytes 64 data.toNat) else none) false) = _ :=
    State.hostOp_done hlink hinq rfl
  simp [execReturnLine, hlink, he, hfree, hop]

/-- A return of a line that the host does not hold is reported and logged. -/
theorem State.refusePw_frame (s : State) (tag a status : Nat) :
    s.sameMem (s.refusePw tag a status) ∧ (s.refusePw tag a status).tl.filter = s.tl.filter ∧
      s.regsBut (s.refusePw tag a status) [TL_ERR_LOG, TL_ERR_TIME] := by
  obtain ⟨hrest, hhome⟩ := State.sendTl_free (s := s) (o := .error tag status) rfl
  have hsent : s.regsBut (s.sendTl (.error tag status)) [TL_ERR_LOG, TL_ERR_TIME] := by
    rw [hrest]
    exact fun _ _ => rfl
  have hmem : s.sameMem (s.sendTl (.error tag status)) := by
    rw [hrest]
    simp
  simp only [State.refusePw, State.sameMem_tlLog, State.tl_tlLog]
  exact ⟨hmem, hhome.filter, hsent.tlLog (by simp) (by simp) _ _ _ _⟩

theorem exec_returnLine_not_held {tag : BitVec 12} {addr : BitVec 52} {dirty : Bool} {data : BitVec 512}
    (hlink : s.linkActive = true) (hnone : s.hostCopy addr.toNat = none) :
    exec (.returnLine tag addr dirty data false) s = .next (s.refusePw tag.toNat addr.toNat tlACCESS) := by
  simp [execReturnLine, hlink, hnone]

theorem returnedLines (s : State) (tag : BitVec 12) (addr : BitVec 52) (dirty : Bool) (data : BitVec 512)
    (hlink : s.linkActive = true) (hinq : s.tl.inq = []) (hregs : inRegs addr.toNat = false) :
    (∀ e, s.hostCopy addr.toNat = some e → s.snooping addr.toNat = false →
      ∃ t, exec (.returnLine tag addr dirty data false) s = .next t ∧ t.hostCopy addr.toNat = none ∧
        ((dirty && e.m) = true → t.bytes addr.toNat 64 = leBytes 64 data.toNat ∧ s.memBut t addr.toNat 64) ∧
        ((dirty && e.m) = false → s.sameMem t) ∧ s.regsBut t [TL_COH, TL_DRDY]) ∧
    (s.hostCopy addr.toNat = none → ∃ t, exec (.returnLine tag addr dirty data false) s = .next t ∧ s.sameMem t ∧
      t.hostCopy addr.toNat = none ∧ s.regsBut t [TL_ERR_LOG, TL_ERR_TIME]) := by
  refine ⟨fun e he hfree => ?_, fun hnone => ?_⟩
  · obtain ⟨hgone, hstored, hkept, hframe⟩ :=
      State.takeReturn_effect (dirty := dirty) he hregs (length_leBytes 64 data.toNat)
    exact ⟨_, exec_returnLine_at_once hlink hinq he hfree, hgone, hstored, hkept, hframe.noneWaits⟩
  · obtain ⟨hmem, hfilter, hframe⟩ := s.refusePw_frame tag.toNat addr.toNat tlACCESS
    refine ⟨_, exec_returnLine_not_held hlink hnone, hmem, ?_, hframe⟩
    rw [State.hostCopy, hfilter]
    exact hnone

/-- The state without a line's unanswered snoop. -/
def State.dropSnoop (s : State) (a : Nat) : State :=
  { s with tl := { s.tl with snoops := s.tl.snoops.filter (fun y => y.line != a) } }

/-- The state when the answer to a snoop for which nothing waits is in. -/
def State.snoopOver (s : State) (a : Nat) : State := ((s.copyGone a).dropSnoop a).noneWaits

theorem State.endSnoop_none_waits {x : Snoop} (hwaiting : x.waiting = []) (hrep : x.line ≠ repProdLine)
    (hevt : x.line ≠ evtProdLine) (hinq : s.tl.inq = []) : s.endSnoop x = (s.dropSnoop x.line).noneWaits := by
  have hresume : (s.dropSnoop x.line).resume_ x.line x.waiting = s.dropSnoop x.line := by
    simp [State.resume_, hwaiting, hrep, hevt]
  have hinq' : (s.dropSnoop x.line).tl.inq = [] := hinq
  have heq : s.endSnoop x = ((s.dropSnoop x.line).resume_ x.line x.waiting).drainIn
      ((s.dropSnoop x.line).resume_ x.line x.waiting).tl.inq := rfl
  rw [heq, hresume, hinq', State.drainIn, State.noneWaits]

theorem exec_snoopRsp_answered {addr : BitVec 52} {dirty : Bool} {data : BitVec 512} {x : Snoop}
    (hlink : s.linkActive = true) (hinq : s.tl.inq = []) (hx : s.tl.snoops.find? (fun y => y.line == addr.toNat) = some x)
    (hkind : x.kind = 0) (hwaiting : x.waiting = []) (hrep : addr.toNat ≠ repProdLine) (hevt : addr.toNat ≠ evtProdLine)
    (hnone : s.hostCopy addr.toNat = none) :
    exec (.snoopRsp addr dirty data false) s = .next (s.snoopOver addr.toNat) := by
  have hline : x.line = addr.toNat := by simpa using List.find?_some hx
  have hend : (s.copyGone addr.toNat).endSnoop x = s.snoopOver addr.toNat := by
    rw [State.endSnoop_none_waits (s := s.copyGone addr.toNat) hwaiting (hline ▸ hrep) (hline ▸ hevt) hinq, hline, State.snoopOver]
  simp only [exec_snoopRsp, execSnoopRsp, hlink, hx, hkind, hnone, ← hend]
  cases dirty <;> rfl

theorem State.snoopOver_effect (s : State) (a : Nat) :
    (s.snoopOver a).snooping a = false ∧ (s.snoopOver a).hostCopy a = none ∧ s.sameMem (s.snoopOver a) ∧
      s.regsBut (s.snoopOver a) [TL_COH] := by
  obtain ⟨hmem, hframe, hcopy⟩ := s.copyGone_frame a
  refine ⟨?_, hcopy, hmem, hframe.of_regs_eq rfl⟩
  simp [State.snooping, State.snoopOver, State.noneWaits, State.dropSnoop]

/-- Settles O35 (R328, R331, R334, R335): the host's writes, atomics, returned lines and answers to snoops. -/
theorem hostWritesAndReturns : Obligations.HostWritesAndReturns := by
  refine ⟨fun s tag addr => ?writes, fun s tag addr dirty data => ?returns⟩
  case writes =>
    intro a hlink hinq hregs hfilter hsnoops
    obtain ⟨hwrite, hmasked⟩ := hostWrites s tag addr hlink hinq hregs hfilter hsnoops
    exact ⟨hwrite, hmasked, fun op x => atomicCompletes s tag addr op x hlink hinq hregs hfilter hsnoops⟩
  case returns =>
    intro a hlink hinq hregs
    obtain ⟨hheld, hnone⟩ := returnedLines s tag addr dirty data hlink hinq hregs
    exact ⟨hheld, hnone, fun x hx hkind hwaiting hrep hevt hcopy =>
      ⟨_, exec_snoopRsp_answered hlink hinq hx hkind hwaiting hrep hevt hcopy, s.snoopOver_effect a⟩⟩

end Sys2Proof.Machine
end

section
/-! What the module writes through the home, and its events: no register but those of the events. -/
namespace Sys2Proof.Machine

variable {s t u : State} {l : List Nat}

/-! ## Writes through the home change no register (R334) -/

@[simp] theorem State.regs_sendTl_snoop {line kind : Nat} : (s.sendTl (.snoop line kind)).regs = s.regs := by
  unfold State.sendTl
  split
  · rfl
  · split
    · rfl
    · rfl

@[simp] theorem State.regs_snoop {line kind : Nat} {op : HomeOp} : (s.snoop line kind op).regs = s.regs := by
  unfold State.snoop
  split
  · rfl
  · exact State.regs_sendTl_snoop

@[simp] theorem State.regs_putLine {a : Nat} {b : List Byte} : (s.putLine a b).regs = s.regs :=
  ite_k (fun (t : State) => t.regs = s.regs) State.regs_snoop rfl

@[simp] theorem State.regs_putLines {n a : Nat} {b : List Byte} : (s.putLines n a b).regs = s.regs := by
  induction n generalizing s a b with
  | zero => rfl
  | succ n ih =>
    rw [State.putLines]
    exact ite_k (fun (t : State) => t.regs = s.regs) rfl (ih.trans State.regs_putLine)

@[simp] theorem State.regs_put {a : Nat} {b : List Byte} : (s.put a b).regs = s.regs := State.regs_putLines

theorem State.regsBut.put (h : s.regsBut t l) (a : Nat) (b : List Byte) : s.regsBut (t.put a b) l :=
  h.of_regs_eq State.regs_put

theorem State.regsBut.drdy (h : s.regsBut t l) (hin : TL_DRDY ∈ l) : s.regsBut t.drdy l :=
  ((h.setFld hin _ _).setFld hin _ _).setBit hin _ _

/-! ## Events (R344, R354) -/

/-- The registers that the record of an event writes. -/
def eventRegs : List Nat := [SCU_EVT_LOST, TL_DRDY]

theorem State.regsBut_eventAt (s : State) (typ ctx tb : Nat) (data : List Byte) :
    s.regsBut (s.eventAt typ ctx tb data) eventRegs := by
  have hindex : s.regsBut { s with tl := { s.tl with evtIx := s.tl.evtIx + 1 } } eventRegs := fun _ _ => rfl
  refine State.regsBut.drdy (State.regsBut.put ?_ _ _) (by simp [eventRegs])
  exact ite_k (s.regsBut · eventRegs) ((hindex.put _ _).addMod (by simp [eventRegs]) _ _) (hindex.put _ _)

theorem State.regsBut_event (s : State) (typ ctx : Nat) (data : List Byte) : s.regsBut (s.event typ ctx data) eventRegs :=
  s.regsBut_eventAt typ ctx s.tb data

/-! ## The boot stage (R429 to R432) -/

/-- The boot's stage and its time, before the status line follows. -/
def State.stageMark (s : State) (n : Nat) : State :=
  let s := s.setFld SCU_BOOT_STATUS SCU_BOOT_STATUS.stage n
  { s with boot := { s.boot with tbStage := s.tb } }

/-- The status line follows the stage once LPDDR5X has trained. -/
def State.stageLine (s : State) (n : Nat) : State :=
  if (s.stageMark n).lpUp then (s.stageMark n).put statusLine (s.stageMark n).bootBytes else s.stageMark n

theorem State.setStage_eq {n : Nat} :
    s.setStage n = if n = 0x0F ∨ n = 0x09 ∨ n = 0x0A then (s.stageLine n).alert else s.stageLine n := rfl

theorem State.regsBut_setStage (s : State) (n : Nat) : s.regsBut (s.setStage n) [SCU_BOOT_STATUS] := by
  have hmark : s.regsBut (s.stageMark n) [SCU_BOOT_STATUS] :=
    ((State.regsBut_refl s _).setFld (List.mem_singleton_self _) SCU_BOOT_STATUS.stage n).of_regs_eq rfl
  have hline : s.regsBut (s.stageLine n) [SCU_BOOT_STATUS] := ite_k (s.regsBut · _) (hmark.put _ _) hmark
  rw [State.setStage_eq]
  exact ite_k (s.regsBut · [SCU_BOOT_STATUS]) (hline.of_regs_eq rfl) hline

theorem State.regsBut_mailboxUp (s : State) : s.regsBut s.mailboxUp [SCU_BOOT_STATUS] := by
  unfold State.mailboxUp
  split
  · exact State.regsBut_setStage { s with boot := { s.boot with mailbox := 1 } } 6
  · exact State.regsBut_refl s _

end Sys2Proof.Machine
end

section
/-! Recovery, training, failure and retry of the Treup link. -/
namespace Sys2Proof.Machine

variable {s t u : State}

theorem State.tlState_of_linkActive (h : s.linkActive = true) : s.tlState = 4 := of_decide_eq_true h

theorem State.regsBut.tlState {l : List Nat} (h : s.regsBut t l) (hnot : TL_STATUS ∉ l) : t.tlState = s.tlState :=
  h.fld_eq hnot _

/-! ## Flits (R325, R326) -/

theorem tlReplay_corrected (s : State) (lane : Fin 32) (hlink : s.linkActive = true) :
    ∃ t, exec (.tlReplay lane .corrected) s = .next t ∧ t.fld TL_FLIT_ERR TL_FLIT_ERR.fec_corrected =
        min (s.fld TL_FLIT_ERR TL_FLIT_ERR.fec_corrected + 1) (2 ^ TL_FLIT_ERR.fec_corrected.width - 1) ∧
      s.onlyRegs t [TL_FLIT_ERR, TL_LANE lane] := by
  have hne : TL_FLIT_ERR ≠ TL_LANE lane := by
    simp only [TL_FLIT_ERR, TL_LANE]
    omega
  exact ⟨_, congrArg Host.Outcome.next (if_neg (by simp [hlink])),
    (State.fld_addSat_ne hne).trans (State.fld_addSat_self (by decide)),
    ((State.onlyRegs_refl s _).addSat (by simp) _ _).addSat (by simp) _ _⟩

/-- A replay is counted in the flit errors and in the link's replays. -/
def State.replayCounted (s : State) : State :=
  (s.addSat TL_FLIT_ERR TL_FLIT_ERR.crc_failed 1).addSat TL_RECOVERY TL_RECOVERY.replays 1

theorem State.replayCounted_frame (s : State) :
    s.sameMem s.replayCounted ∧ s.regsBut s.replayCounted [TL_FLIT_ERR, TL_RECOVERY] :=
  ⟨by simp [State.replayCounted], ((State.regsBut_refl s _).addSat (by simp) _ _).addSat (by simp) _ _⟩

theorem replayRegs_keep_TL_STATUS : TL_STATUS ∉ [TL_FLIT_ERR, TL_RECOVERY] := by decide

theorem tlReplay_replayed (s : State) (lane : Fin 32) (hlink : s.linkActive = true) :
    ∃ t, exec (.tlReplay lane .replayed) s = .next t ∧ t.tl.failedReplays = 0 ∧ t.tlState = 4 ∧ s.sameMem t ∧
      s.regsBut t [TL_FLIT_ERR, TL_RECOVERY] := by
  obtain ⟨hmem, hregs⟩ := s.replayCounted_frame
  have hregs' : s.regsBut { s.replayCounted with tl := { s.replayCounted.tl with failedReplays := 0 } } _ :=
    hregs.of_regs_eq rfl
  exact ⟨_, congrArg Host.Outcome.next (if_neg (by simp [hlink])), rfl,
    (hregs'.tlState replayRegs_keep_TL_STATUS).trans (State.tlState_of_linkActive hlink), hmem, hregs'⟩

theorem tlReplay_failed (s : State) (lane : Fin 32) (hlink : s.linkActive = true) (hfew : s.tl.failedReplays < 7) :
    ∃ t, exec (.tlReplay lane .failed) s = .next t ∧ t.tl.failedReplays = s.tl.failedReplays + 1 ∧ t.tlState = 4 ∧
      s.sameMem t ∧ s.regsBut t [TL_FLIT_ERR, TL_RECOVERY] := by
  obtain ⟨hmem, hregs⟩ := s.replayCounted_frame
  have hregs' : s.regsBut { s.replayCounted with tl := { s.replayCounted.tl with
      failedReplays := s.replayCounted.tl.failedReplays + 1 } } _ := hregs.of_regs_eq rfl
  have hfew' : ¬ s.replayCounted.tl.failedReplays + 1 ≥ 8 := Nat.not_le.2 (Nat.succ_lt_succ hfew)
  exact ⟨_, congrArg Host.Outcome.next ((if_neg (by simp [hlink])).trans (if_neg hfew')), rfl,
    (hregs'.tlState replayRegs_keep_TL_STATUS).trans (State.tlState_of_linkActive hlink), hmem, hregs'⟩

/-! ## RECOVERY and DOWN (R323, R326, R339) -/

theorem State.linkActive_of_tlState_ne {n : Nat} (h : s.tlState = n) (hn : n ≠ 4) : s.linkActive = false :=
  decide_eq_false (fun h4 => hn (h.symm.trans h4))

theorem exec_tlRecovery_late {bad : BitVec 32} (h : s.tlState = 5) : exec (.tlRecovery true bad) s = .next (s.tlDown 2) := by
  simp [execTlRecovery, State.linkActive_of_tlState_ne h (by decide), h]

theorem exec_tlRecovery_full (h : s.tlState = 5) (hvia : s.tl.viaRetrain = true) :
    exec (.tlRecovery false 0) s = .next (s.tlActive false false 0) := by
  simp [execTlRecovery, State.linkActive_of_tlState_ne h (by decide), h, hvia, halfLeft]

/-- The link's state is set, and nothing else changes. -/
theorem State.setTl_effect (s : State) {n : Nat} (hn : n < 8) : (s.setTl n).tlState = n ∧ s.onlyRegs (s.setTl n) [TL_STATUS] :=
  ⟨State.fld_setFld_lt (by decide) hn, (State.onlyRegs_refl s _).setFld (List.mem_singleton_self _) _ _⟩

theorem exec_retrain_active (h : s.tlState = 4) :
    exec .retrain s = .next ({ s with tl := { s.tl with viaRetrain := true } } : State).enterRecovery :=
  congrArg Host.Outcome.next (if_pos h)

theorem exec_retrain_down (h : s.tlState = 6) : exec .retrain s = .next (s.setTl 0) := by
  simp [execRetrain, State.retrain, h]

theorem exec_tlDownRetry_due (h : s.tlState = 6)
    (hdue : s.tl.downAt + s.fld TL_CTRL TL_CTRL.down_retry_ms * 100000 ≤ s.tb) :
    exec .tlDownRetry s = .next (s.setTl 0) := congrArg Host.Outcome.next (if_pos ⟨h, hdue⟩)

theorem exec_tlDownRetry_early (hearly : s.tb < s.tl.downAt + s.fld TL_CTRL TL_CTRL.down_retry_ms * 100000) :
    exec .tlDownRetry s = .next s := congrArg Host.Outcome.next (if_neg fun h => absurd h.2 (Nat.not_le.2 hearly))

theorem State.sendHeld_none_held (h : s.tl.held = []) : s.sendHeld = s := by
  have hsame : { s with tl := { s.tl with held := [] } } = s := by rw [← h]
  unfold State.sendHeld
  split
  · rw [h]
    exact hsame
  · rfl

theorem exec_tlCredit_none_held {pw np snp : BitVec 16} (hheld : s.tl.held = []) :
    ∃ t, exec (.tlCredit pw np snp) s = .next t ∧ t.tl.creditPW = s.tl.creditPW + pw.toNat ∧
      t.tl.creditNP = s.tl.creditNP + np.toNat ∧ t.tl.creditSNP = s.tl.creditSNP + snp.toNat ∧ t = { s with tl := t.tl } := by
  exact ⟨_, congrArg Host.Outcome.next (State.sendHeld_none_held hheld), rfl, rfl, rfl, rfl⟩

/-! ## Training (R323, R324, R337) -/

theorem State.regsBut_lanesUse (s : State) (half upper : Bool) (bad : Nat) :
    s.regsBut (s.lanesUse half upper bad) ((List.range 32).map TL_LANE) :=
  List.foldlRecOn (motive := fun t => s.regsBut t _) _ _ (State.regsBut_refl s _)
    fun _ h _ hl => h.setFld (List.mem_map_of_mem hl) _ _

theorem lanes_keep {a : Nat} (h : a < 0x2F000700400) : a ∉ (List.range 32).map TL_LANE := by
  simp only [List.mem_map, not_exists, not_and]
  rintro l - rfl
  simp [TL_LANE] at h

@[simp] theorem State.regs_sendHeld : s.sendHeld.regs = s.regs := ite_k (fun (t : State) => t.regs = s.regs) rfl rfl

/-- The lanes take their use and what was held is sent: what `tlActive` does beside the link's status. -/
def State.lanesRun (s : State) (half upper : Bool) (bad : Nat) : State :=
  ({ s.lanesUse half upper bad with
    tl := { (s.lanesUse half upper bad).tl with viaRetrain := false, failedReplays := 0 } } : State).sendHeld

theorem State.tlActive_eq {half upper : Bool} {bad : Nat} : s.tlActive half upper bad =
    (((s.setTl 4).setBit TL_STATUS TL_STATUS.half_width half).setBit TL_STATUS TL_STATUS.upper_half upper).lanesRun half upper
      bad := rfl

theorem State.fld_lanesRun {half upper : Bool} {bad a : Nat} {f : Field} (ha : a < 0x2F000700400) :
    (s.lanesRun half upper bad).fld a f = s.fld a f := by
  have hregs : s.regsBut (s.lanesRun half upper bad) ((List.range 32).map TL_LANE) :=
    (s.regsBut_lanesUse half upper bad).of_regs_eq State.regs_sendHeld
  exact hregs.fld_eq (lanes_keep ha) f

/-- Fields of the status register beside those that say how the link runs, and other registers below the lanes, keep their
values when it becomes ACTIVE. -/
theorem State.fld_tlActive {half upper : Bool} {bad a : Nat} {f : Field} (ha : a < 0x2F000700400)
    (hf : a ≠ TL_STATUS ∨ (5 ≤ f.lo ∧ f.lo + f.width ≤ 64)) : (s.tlActive half upper bad).fld a f = s.fld a f := by
  rw [State.tlActive_eq, State.fld_lanesRun ha]
  by_cases hstatus : a = TL_STATUS
  · obtain hne | ⟨hlo, hfits⟩ := hf
    · exact absurd hstatus hne
    · subst hstatus
      rw [State.fld_setBit_beside (f := TL_STATUS.upper_half) (by decide) hfits (.inr hlo),
        State.fld_setBit_beside (f := TL_STATUS.half_width) (by decide) hfits (.inr (Nat.le_trans (by decide) hlo))]
      exact State.fld_setFld_beside (by decide) hfits (.inr (Nat.le_trans (by decide) hlo))
  · rw [State.fld_setBit_ne hstatus, State.fld_setBit_ne hstatus]
    exact State.fld_setFld_ne hstatus

theorem State.tlState_tlActive {half upper : Bool} {bad : Nat} : (s.tlActive half upper bad).tlState = 4 := by
  rw [State.tlState, State.tlActive_eq, State.fld_lanesRun (by decide),
    State.fld_setBit_beside (by decide) (by decide) (by decide), State.fld_setBit_beside (by decide) (by decide) (by decide)]
  exact State.fld_setFld_lt (by decide) (by decide)

theorem State.half_width_tlActive {half upper : Bool} {bad : Nat} :
    (s.tlActive half upper bad).bit TL_STATUS TL_STATUS.half_width = half := by
  rw [State.bit, State.tlActive_eq, State.fld_lanesRun (by decide), State.fld_setBit_beside (by decide) (by decide) (by decide)]
  exact State.bit_setBit_self (by decide) rfl

/-- The version, the features and their limits that training negotiates. -/
def State.capsKnown (s : State) (x : TlTrain) (v : Nat) : State :=
  let f := x.features.toNat &&& featuresOf v
  let s := s.setFld TL_STATUS TL_STATUS.version v
  let s := s.setFld TL_FEATURES TL_FEATURES.enabled f
  let s := s.setFld TL_FEATURES TL_FEATURES.max_tags (min 4096 x.maxTags.toNat)
  let s := s.setFld TL_FEATURES TL_FEATURES.max_lines (min 8 x.maxLines.toNat)
  s.setFld TL_STATUS TL_STATUS.down_reason 0

/-- What training negotiates, before the link runs: the version, the features and the credits. -/
def State.negotiated (s : State) (x : TlTrain) (v : Nat) : State :=
  let s := s.capsKnown x v
  { s with tl := { s.tl with creditPW := x.pw.toNat, creditNP := x.np.toNat, creditSNP := x.snp.toNat, wasDown := false } }

theorem State.negotiated_effect (s : State) (x : TlTrain) (v : Nat) :
    (s.negotiated x v).fld TL_STATUS TL_STATUS.version = v % 2 ^ TL_STATUS.version.width ∧
      (s.negotiated x v).fld TL_FEATURES TL_FEATURES.enabled =
        (x.features.toNat &&& featuresOf v) % 2 ^ TL_FEATURES.enabled.width ∧
      (s.negotiated x v).fld TL_STATUS TL_STATUS.down_reason = 0 := by
  have hne : TL_STATUS ≠ TL_FEATURES := by decide
  simp only [State.negotiated, State.fld_upd, State.capsKnown]
  refine ⟨?_, ?_, State.fld_setFld_lt (by decide) (by decide)⟩
  · rw [State.fld_setFld_beside (f := TL_STATUS.down_reason) (by decide) (by decide) (by decide), State.fld_setFld_ne hne,
      State.fld_setFld_ne hne, State.fld_setFld_ne hne, State.fld_setFld_self (by decide)]
  · rw [State.fld_setFld_ne hne.symm, State.fld_setFld_beside (f := TL_FEATURES.max_lines) (by decide) (by decide) (by decide),
      State.fld_setFld_beside (f := TL_FEATURES.max_tags) (by decide) (by decide) (by decide),
      State.fld_setFld_self (by decide)]

/-- What follows when a training has succeeded: an event after a DOWN, or the boot's mailbox. -/
def State.trained (s : State) (was : Bool) (v : Nat) : State :=
  if was && s.fwUp then s.event 0x000C 0xFF (fieldsFrom 0 [(1, 0xFF), (1, v), (4, s.fld TL_COH TL_COH.lost_lines)])
  else s.mailboxUp

theorem State.regsBut_trained (s : State) (was : Bool) (v : Nat) :
    s.regsBut (s.trained was v) (SCU_BOOT_STATUS :: eventRegs) := by
  unfold State.trained
  split
  · exact (s.regsBut_event _ _ _).mono (by simp)
  · exact s.regsBut_mailboxUp.mono (by simp)

/-- The state after the lanes are trained and the partner's versions are known. -/
def State.lanesTrained (s : State) (x : TlTrain) : State :=
  (s.laneTraining x).setFld TL_STATUS TL_STATUS.partner_versions x.versions.toNat

theorem exec_tlTraining_fails {x : TlTrain} (hstate : s.tlState < 4) (htrains : s.trainsTreup = true)
    (hfails : x.fails = true) : exec (.tlTraining x) s = .next (s.tlDown 1) := by
  have hnot : ¬ (s.tlState ≥ 4 ∨ (!s.trainsTreup) = true) := by
    simp [htrains]
    omega
  simp only [exec_tlTraining, execTlTraining, if_neg hnot, if_pos hfails]

theorem State.regsBut_laneTraining (s : State) (x : TlTrain) :
    s.regsBut (s.laneTraining x) (TL_STATUS :: (List.range 32).map TL_LANE) := by
  have hdraw := (((State.regsBut_refl s (TL_STATUS :: (List.range 32).map TL_LANE)).drawList 32 8).setBit
    (List.mem_cons_self ..) TL_STATUS.reversed x.reversed)
  refine List.foldlRecOn (motive := fun t => s.regsBut t _) _ _ hdraw fun t h e he => ?_
  have hin : TL_LANE e.1 ∈ TL_STATUS :: (List.range 32).map TL_LANE :=
    List.mem_cons_of_mem _ (List.mem_map_of_mem (List.of_mem_zip he).1)
  exact ((h.setBit hin _ _).setFld hin _ _).setFld hin _ _

theorem State.versions_lanesTrained {x : TlTrain} : (s.lanesTrained x).fld TL_ID TL_ID.versions = s.fld TL_ID TL_ID.versions := by
  have hnot : TL_ID ∉ TL_STATUS :: (List.range 32).map TL_LANE :=
    fun h => (List.mem_cons.1 h).elim (by decide) (lanes_keep (by decide))
  exact ((s.regsBut_laneTraining x).setFld (List.mem_cons_self ..) _ _).fld_eq hnot _

/-- What follows the training of the lanes: the version and the width, or DOWN. -/
def State.negotiate (s : State) (x : TlTrain) : State :=
  match topVersion (x.versions.toNat &&& s.fld TL_ID TL_ID.versions) with
  | none => s.tlDown 3
  | some v =>
    match halfLeft (bitOf (x.features.toNat &&& featuresOf v) 2) x.badLanes.toNat with
    | none => s.tlDown 4
    | some (h, u) => ((s.negotiated x v).tlActive h u x.badLanes.toNat).trained (s.capsKnown x v).tl.wasDown v

theorem exec_tlTraining_trains {x : TlTrain} (hstate : s.tlState < 4) (htrains : s.trainsTreup = true)
    (hruns : x.fails = false) : exec (.tlTraining x) s = .next ((s.lanesTrained x).negotiate x) := by
  have hnot : ¬ (s.tlState ≥ 4 ∨ (!s.trainsTreup) = true) := by
    simp [htrains]
    omega
  rw [exec_tlTraining, execTlTraining, if_neg hnot, hruns, if_neg Bool.false_ne_true]
  rfl

theorem State.negotiate_whole {x : TlTrain} {v : Nat} (hlanes : x.badLanes = 0)
    (hv : topVersion (x.versions.toNat &&& s.fld TL_ID TL_ID.versions) = some v) :
    s.negotiate x = ((s.negotiated x v).tlActive false false 0).trained (s.capsKnown x v).tl.wasDown v := by
  have hbad : x.badLanes.toNat = 0 := by rw [hlanes]; rfl
  have hhalf : ∀ d, halfLeft d 0 = some (false, false) := fun _ => if_pos rfl
  simp only [State.negotiate, hv, hbad, hhalf]

theorem trainingRuns (s : State) (x : TlTrain) (v : Nat) (hstate : s.tlState < 4) (htrains : s.trainsTreup = true)
    (hruns : x.fails = false) (hlanes : x.badLanes = 0)
    (hv : topVersion (x.versions.toNat &&& s.fld TL_ID TL_ID.versions) = some v) :
    ∃ t, exec (.tlTraining x) s = .next t ∧ t.tlState = 4 ∧ t.bit TL_STATUS TL_STATUS.half_width = false ∧
      t.fld TL_STATUS TL_STATUS.version = v % 2 ^ TL_STATUS.version.width ∧
      t.fld TL_FEATURES TL_FEATURES.enabled = (x.features.toNat &&& featuresOf v) % 2 ^ TL_FEATURES.enabled.width ∧
      t.fld TL_STATUS TL_STATUS.down_reason = 0 := by
  rw [← State.versions_lanesTrained (x := x)] at hv
  obtain ⟨hversion, hfeatures, hreason⟩ := (s.lanesTrained x).negotiated_effect x v
  have hlast := (((s.lanesTrained x).negotiated x v).tlActive false false 0).regsBut_trained
    ((s.lanesTrained x).capsKnown x v).tl.wasDown v
  have hstatus : TL_STATUS ∉ SCU_BOOT_STATUS :: eventRegs := by decide
  have hfeat : TL_FEATURES ∉ SCU_BOOT_STATUS :: eventRegs := by decide
  have hexec := exec_tlTraining_trains hstate htrains hruns
  rw [State.negotiate_whole hlanes hv] at hexec
  refine ⟨_, hexec, (hlast.fld_eq hstatus _).trans State.tlState_tlActive,
    (hlast.bit_eq hstatus _).trans State.half_width_tlActive, ?_, ?_, ?_⟩
  · exact ((hlast.fld_eq hstatus _).trans (State.fld_tlActive (by decide) (.inr (by decide)))).trans hversion
  · exact ((hlast.fld_eq hfeat _).trans (State.fld_tlActive (by decide) (.inl (by decide)))).trans hfeatures
  · exact ((hlast.fld_eq hstatus _).trans (State.fld_tlActive (by decide) (.inr (by decide)))).trans hreason

/-- Settles O36 (R323 to R326, R337, R339): flits, RECOVERY, training, failures and credits of the Treup link. -/
theorem linkRecoveryAndTraining : Obligations.LinkRecoveryAndTraining := by
  refine ⟨fun s lane => ⟨fun hlink => ?flits, fun hrec => ?recovery, fun hdown => ?retrain, ?full⟩, fun s x =>
    ⟨fun hstate htrains => ?training, fun h4 => ?fail4, fun h5 => ?fail5, fun hlow => ?fail1, fun h6 => ?down,
      fun pw np snp => exec_tlCredit_none_held⟩⟩
  case flits =>
    exact ⟨tlReplay_corrected s lane hlink, tlReplay_replayed s lane hlink, tlReplay_failed s lane hlink,
      exec_retrain_active (State.tlState_of_linkActive hlink)⟩
  case recovery => exact ⟨fun _ => exec_tlRecovery_late hrec, exec_tlRecovery_full hrec⟩
  case retrain => exact ⟨_, exec_retrain_down hdown, s.setTl_effect (by decide)⟩
  case full => exact ⟨_, rfl, s.setTl_effect (by decide)⟩
  case training => exact ⟨exec_tlTraining_fails hstate htrains, fun v => trainingRuns s x v hstate htrains⟩
  case fail4 => simp [execTlDown, h4]
  case fail5 => simp [execTlDown, h5]
  case fail1 =>
    have h6 : s.tlState ≠ 6 := by omega
    have h5 : s.tlState ≠ 5 := by omega
    have h4 : s.tlState ≠ 4 := by omega
    simp [execTlDown, h6, h5, h4]
  case down =>
    exact ⟨congrArg Host.Outcome.next (if_pos h6), fun hdue => ⟨_, exec_tlDownRetry_due h6 hdue, s.setTl_effect (by decide)⟩,
      exec_tlDownRetry_early⟩

end Sys2Proof.Machine
end

section
/-! The submission line, line watches, completions of the module's READs, and time-outs of the Treup link. -/
namespace Sys2Proof.Machine

variable {s t u : State}

/-! ## Submission (R336, R342) -/

theorem exec_submissionWatch_takes (htakes : s.takesCommands = true)
    (hnear : ahead (s.num subLine 8) (s.fld SCU_CMD_TAKEN SCU_CMD_TAKEN.taken) ≤ 1024) :
    exec .submissionWatch s = .next (((s.unfire subLine).setBit SCU_CMD_STATUS SCU_CMD_STATUS.ring_fault false).takeUpTo 1024
      (s.num subLine 8)) :=
  congrArg Host.Outcome.next ((if_neg (by simp [htakes])).trans (if_neg (Nat.not_lt.2 hnear)))

theorem exec_submissionWatch_fault (htakes : s.takesCommands = true)
    (hfar : 1024 < ahead (s.num subLine 8) (s.fld SCU_CMD_TAKEN SCU_CMD_TAKEN.taken)) :
    exec .submissionWatch s = .next (((s.unfire subLine).setBit SCU_CMD_STATUS SCU_CMD_STATUS.ring_fault true).event 0x0010
      0xFF (fieldsFrom 0 [(8, s.num subLine 8)])) :=
  congrArg Host.Outcome.next ((if_neg (by simp [htakes])).trans (if_pos hfar))

theorem exec_submissionWatch_idle (hnot : s.takesCommands = false) : exec .submissionWatch s = .next s :=
  congrArg Host.Outcome.next (if_pos (by simp [hnot]))

/-! ## Polls of watched lines (R336) -/

/-- A snoop that is sent changes the link's queues and credits alone, and leaves the unanswered snoops. -/
theorem State.sendTl_snoop_frame (s : State) (line kind : Nat) :
    s.sendTl (.snoop line kind) = { s with tl := (s.sendTl (.snoop line kind)).tl } ∧
      s.KeepsHome (s.sendTl (.snoop line kind)) := by
  unfold State.sendTl
  split
  · exact ⟨rfl, s.keepsHome_refl⟩
  · split
    · exact ⟨rfl, ⟨rfl, rfl, rfl⟩⟩
    · exact ⟨rfl, ⟨rfl, rfl, rfl⟩⟩

/-- The state with a snoop of a line entered, before it is sent. -/
def State.snoopEntered (s : State) (line kind : Nat) (op : HomeOp) : State :=
  { s with tl := { s.tl with
    snoops := s.tl.snoops ++ [({ line := line, kind := kind, tb := s.tb, waiting := [op] } : Snoop)] } }

theorem State.snoop_effect {line kind : Nat} {op : HomeOp} (hfree : s.snooping line = false) :
    (s.snoop line kind op).snooping line = true ∧ s.snoop line kind op = { s with tl := (s.snoop line kind op).tl } := by
  obtain ⟨hrest, hhome⟩ := (s.snoopEntered line kind op).sendTl_snoop_frame line kind
  have heq : s.snoop line kind op = (s.snoopEntered line kind op).sendTl (.snoop line kind) :=
    if_neg (by simp [hfree])
  rw [heq]
  refine ⟨?_, hrest⟩
  rw [State.snooping, hhome.snoops]
  simp [State.snoopEntered]

theorem State.askLines_one {kind line : Nat} (hfree : s.snooping line = false) :
    s.askLines kind [line] = s.snoop line kind .look := by
  simp [State.askLines, hfree]

theorem exec_watchPoll_submission (hlink : s.linkActive = true) (hpoll : s.feature 0 = false) (hup : s.fwUp = true)
    (hlines : s.polledLines = [subLine]) (hfree : s.snooping subLine = false) :
    ∃ t, exec .watchPoll s = .next t ∧ t.snooping subLine = true ∧ s.sameMem t ∧ s.regsBut t [] := by
  have hexec : exec .watchPoll s = .next (({ s with tl := { s.tl with pollAt := 0 } } : State).snoop subLine
      ({ s with tl := { s.tl with pollAt := 0 } } : State).readKind .look) := by
    rw [← State.askLines_one (s := { s with tl := { s.tl with pollAt := 0 } }) hfree]
    simp [execWatchPoll, hlink, hpoll, hup, hlines]
  obtain ⟨hsnoop, hrest⟩ := State.snoop_effect (s := { s with tl := { s.tl with pollAt := 0 } }) (kind :=
    ({ s with tl := { s.tl with pollAt := 0 } } : State).readKind) (op := .look) hfree
  refine ⟨_, hexec, hsnoop, ?_, ?_⟩
  · rw [hrest]
    simp
  · rw [hrest]
    exact fun _ _ => rfl

/-! ## Completions and time-outs (R328, R332) -/

/-- The state without a READ that has ended. -/
def State.readGone (s : State) (tag : Nat) : State :=
  { s with tl := { s.tl with reads := s.tl.reads.filter (fun x => x.tag != tag) } }

theorem State.sameMem.readGone (h : s.sameMem t) (tag : Nat) : s.sameMem (t.readGone tag) := h

theorem State.regsBut.readGone {l : List Nat} (h : s.regsBut t l) (tag : Nat) : s.regsBut (t.readGone tag) l :=
  h.of_regs_eq rfl

/-- The state with a READ's data poisoned and its time-out logged. -/
def State.readTimedOut (s : State) (r : HostRead) : State :=
  (s.poison (hostFirst + r.addr) (64 * r.lines)).tlLog 4 0 r.tag r.addr

theorem State.readTimedOut_frame (s : State) (r : HostRead) :
    (s.readTimedOut r).engines = s.engines ∧ s.sameMem (s.readTimedOut r) ∧
      s.regsBut (s.readTimedOut r) [TL_ERR_LOG, TL_ERR_TIME] := by
  have hpoison : s.regsBut (s.poison (hostFirst + r.addr) (64 * r.lines)) [TL_ERR_LOG, TL_ERR_TIME] := fun _ _ => rfl
  have hmem : s.sameMem (s.poison (hostFirst + r.addr) (64 * r.lines)) := fun _ => rfl
  exact ⟨State.engines_tlLog, State.sameMem_tlLog.2 hmem, hpoison.tlLog (by simp) (by simp) _ _ _ _⟩

theorem State.readOver_no_descriptor {r : HostRead} (hprog : (s.eng (r.engine / 16) (r.engine % 16)).prog = []) :
    s.readOver r = s.readGone r.tag := by
  have heng : ((s.readGone r.tag).eng (r.engine / 16) (r.engine % 16)).prog = [] := hprog
  have heq : s.readOver r = match ((s.readGone r.tag).eng (r.engine / 16) (r.engine % 16)).prog.find?
      (fun d => d.ix == r.ix) with
    | none => s.readGone r.tag
    | some d => (s.readGone r.tag).askHost (r.engine / 16) (r.engine % 16) d := rfl
  rw [heq, heng]
  rfl

theorem State.tag_ne_of_mem_readGone {tag : Nat} {y : HostRead} (hy : y ∈ (s.readGone tag).tl.reads) : y.tag ≠ tag := by
  simpa using (List.mem_filter.1 hy).2

theorem cplStores (s : State) (tag : BitVec 12) (data : BitVec 4096) (r : HostRead)
    (hr : s.tl.reads.find? (fun y => y.tag == tag.toNat) = some r)
    (hprog : (s.eng (r.engine / 16) (r.engine % 16)).prog = []) (hlink : s.linkActive = true) :
    ∃ t, exec (.cpl tag 0 data false) s = .next t ∧
      t.bytes (hostFirst + r.addr) (64 * r.lines) = leBytes (64 * r.lines) data.toNat ∧
      s.memBut t (hostFirst + r.addr) (64 * r.lines) ∧ (∀ y ∈ t.tl.reads, y.tag ≠ r.tag) ∧ s.regsBut t [] := by
  have hover : (s.setBytes (hostFirst + r.addr) (leBytes (64 * r.lines) data.toNat)).readOver r = _ :=
    State.readOver_no_descriptor hprog
  have hexec : exec (.cpl tag 0 data false) s =
      .next ((s.setBytes (hostFirst + r.addr) (leBytes (64 * r.lines) data.toNat)).readGone r.tag) := by
    rw [← hover]
    simp [execCpl, hlink, hr, tlOK]
  have hlen := length_leBytes (64 * r.lines) data.toNat
  exact ⟨_, hexec, State.bytes_setBytes_self s _ hlen, State.memBut_setBytes s hlen,
    fun _ => State.tag_ne_of_mem_readGone, fun _ _ => rfl⟩

theorem cplTimeout_due (s : State) (tag : BitVec 12) (r : HostRead)
    (hr : s.tl.reads.find? (fun y => y.tag == tag.toNat) = some r)
    (hprog : (s.eng (r.engine / 16) (r.engine % 16)).prog = [])
    (hdue : r.tb + s.fld TL_CTRL TL_CTRL.cpl_timeout_us * 100 ≤ s.tb) :
    ∃ t, exec (.cplTimeout tag) s = .next t ∧ (∀ y ∈ t.tl.reads, y.tag ≠ r.tag) ∧ s.sameMem t ∧
      s.regsBut t [TL_ERR_LOG, TL_ERR_TIME] := by
  obtain ⟨heng, hmem, hregs⟩ := s.readTimedOut_frame r
  have hprog' : ((s.readTimedOut r).eng (r.engine / 16) (r.engine % 16)).prog = [] := by
    rw [State.eng, heng]
    exact hprog
  have hexec : exec (.cplTimeout tag) s = .next ((s.readTimedOut r).readGone r.tag) := by
    rw [← State.readOver_no_descriptor hprog', exec_cplTimeout, execCplTimeout, hr]
    exact congrArg Host.Outcome.next (if_neg (Nat.not_lt.2 hdue))
  exact ⟨_, hexec, fun _ => State.tag_ne_of_mem_readGone, hmem.readGone _, hregs.readGone _⟩

theorem exec_cplTimeout_early {tag : BitVec 12} {r : HostRead} (hr : s.tl.reads.find? (fun y => y.tag == tag.toNat) = some r)
    (hearly : s.tb < r.tb + s.fld TL_CTRL TL_CTRL.cpl_timeout_us * 100) : exec (.cplTimeout tag) s = .next s := by
  rw [exec_cplTimeout, execCplTimeout, hr]
  exact congrArg Host.Outcome.next (if_pos hearly)

theorem exec_snoopTimeout_found {addr : BitVec 52} {x : Snoop}
    (hx : s.tl.snoops.find? (fun y => y.line == addr.toNat) = some x) : exec (.snoopTimeout addr) s =
      .next (if s.tb < x.tb + s.fld TL_CTRL TL_CTRL.snoop_timeout_us * 100 then s else
        ((((((s.dropCopy x.line).filterView.addSat TL_COH TL_COH.snoop_timeouts 1).addSat TL_COH TL_COH.lost_lines 1).tlLog 3 0
          0 x.line).linkError 0xFF 3 0 x.line).endSnoop x)) := by
  rw [exec_snoopTimeout, execSnoopTimeout, hx]

/-- Settles O37 (R328, R332, R336, R342): the submission line, line watches, completions and time-outs. -/
theorem submissionAndCompletion : Obligations.SubmissionAndCompletion := by
  refine ⟨fun s => ⟨fun htakes => ⟨exec_submissionWatch_takes htakes, exec_submissionWatch_fault htakes⟩,
    exec_submissionWatch_idle, exec_watchPoll_submission, fun hwatch => ?poll⟩, fun s tag addr data r x =>
    ⟨fun hr hprog => ⟨cplStores s tag data r hr hprog, cplTimeout_due s tag r hr hprog, exec_cplTimeout_early hr⟩,
      fun hx => ⟨fun hearly => ?early, fun hdue => ?due⟩⟩⟩
  case poll => simp [execWatchPoll, hwatch]
  case early => rw [exec_snoopTimeout_found hx, if_pos hearly]
  case due => rw [exec_snoopTimeout_found hx, if_neg (Nat.not_lt.2 hdue)]

end Sys2Proof.Machine
end

section
/-! Transfer engines and memory controllers. -/
namespace Sys2Proof.Machine

variable {s t u : State}

/-! ## Transfer engines (R315 to R319) -/

@[simp] theorem State.eng_setEng_self {g n : Nat} {x : Engine} : (s.setEng g n x).eng g n = x := tget_tset_self

/-- An ABORT of an engine for which no command waits brings the count of commands in progress up to date all the same. -/
theorem State.in_progress_replyEngine {g n : Nat} {aborted : Bool} (h : s.waiting = []) :
    (s.replyEngine g n aborted).fld SCU_CMD_STATUS SCU_CMD_STATUS.in_progress = s.taken.length % 2 ^ 11 := by
  have heq : s.replyEngine g n aborted = ({ s with waiting := [] } : State).cmdView := by
    simp [State.replyEngine, State.complete, h]
  rw [heq]
  exact State.fld_setFld_self (by decide)

theorem State.in_progress_xeAbort_idle {g n : Nat} (hwaiting : s.waiting = []) (hprog : (s.eng g n).prog = []) (hn : n < 8)
    (hgoal : (s.eng g n).goal = none) :
    (s.xeAbort g n).fld SCU_CMD_STATUS SCU_CMD_STATUS.in_progress = s.taken.length % 2 ^ 11 := by
  have hn' : ¬ (n ≥ 8 ∧ s.bit (XE_ENG_CFG g n) XE_ENG_CFG.assigned = true) := by omega
  simp only [State.xeAbort, hprog, hgoal, List.foldl_nil, if_neg hn']
  exact State.in_progress_replyEngine hwaiting

theorem XE_ENG_STATUS_ne_XE_ENG_CTRL (g n : Nat) : XE_ENG_STATUS g n ≠ XE_ENG_CTRL g n := by
  simp [XE_ENG_STATUS, XE_ENG_CTRL]

/-- The state in which an ABORT finds an engine: its mode is held, and its count of cancelled descriptors starts anew. -/
def State.abortAsked (s : State) (g n : Nat) : State :=
  (s.setFld (XE_ENG_CTRL g n) XE_ENG_CTRL.halt_mode 1).setEng g n
    { s.eng g n with cancelled := if (s.eng g n).goal.isSome then (s.eng g n).cancelled else 0 }

theorem exec_xeHaltReq_abort {g : Fin 2} {n : Fin 16} (hrun : s.bit (XE_ENG_STATUS g n) XE_ENG_STATUS.halted = false) :
    exec (.xeHaltReq g n 1) s = .next ((s.abortAsked g n).xeAbort g n) := by
  have hrun' : (s.setFld (XE_ENG_CTRL g n) XE_ENG_CTRL.halt_mode 1).bit (XE_ENG_STATUS g n) XE_ENG_STATUS.halted = false :=
    (State.bit_setFld_ne (XE_ENG_STATUS_ne_XE_ENG_CTRL g n)).trans hrun
  exact congrArg Host.Outcome.next (if_neg (by simp [hrun']))

/-- A state with a command taken that in_progress does not count: engine 0 of group 0 runs, with nothing in progress. -/
def takenUncounted : State :=
  ({ State.reset with taken := [[]] } : State).setBit (XE_ENG_STATUS 0 0) XE_ENG_STATUS.halted false

theorem in_progress_takenUncounted : takenUncounted.fld SCU_CMD_STATUS SCU_CMD_STATUS.in_progress = 0 := by
  have hne : SCU_CMD_STATUS ≠ XE_ENG_STATUS 0 0 := by decide
  exact (State.fld_setBit_ne hne).trans (by decide)

theorem in_progress_abort_takenUncounted :
    ((takenUncounted.abortAsked 0 0).xeAbort 0 0).fld SCU_CMD_STATUS SCU_CMD_STATUS.in_progress = 1 := by
  have hprog : ((takenUncounted.abortAsked 0 0).eng 0 0).prog = [] := congrArg Engine.prog State.eng_setEng_self
  have hgoal : ((takenUncounted.abortAsked 0 0).eng 0 0).goal = none := congrArg Engine.goal State.eng_setEng_self
  exact State.in_progress_xeAbort_idle rfl hprog (by decide) hgoal

/-- Refutes O38: an ABORT of an engine looks for commands that wait for it, and that rewrites in_progress of SCU_CMD_STATUS from
the lists of commands. In a state whose register does not count a command taken, `takenUncounted`, the register changes, and the
statement says that XE_ENG_CTRL and XE_ENG_STATUS alone do. -/
theorem not_transferEngines : ¬ Obligations.TransferEngines := by
  intro h
  have hrun : takenUncounted.bit (XE_ENG_STATUS 0 0) XE_ENG_STATUS.halted = false := State.bit_setBit_self (by decide) rfl
  obtain ⟨t, hexec, -, -, -, hregs⟩ := (h takenUncounted 0 0).1 hrun rfl rfl (by decide)
  have ht : (takenUncounted.abortAsked 0 0).xeAbort 0 0 = t :=
    Host.Outcome.next.inj ((exec_xeHaltReq_abort (g := 0) (n := 0) hrun).symm.trans hexec)
  have hnot : SCU_CMD_STATUS ∉ [XE_ENG_CTRL 0 0, XE_ENG_STATUS 0 0] := by decide
  have hkept := hregs.fld_eq hnot SCU_CMD_STATUS.in_progress
  rw [← ht, in_progress_abort_takenUncounted, in_progress_takenUncounted] at hkept
  exact absurd hkept (by decide)

/-! ## Memory controllers (R303, R304, R321) -/

/-- The hour's count of a controller takes more errors, and nothing else changes. -/
theorem State.countCe_hour (s : State) (k n : Nat) : ∃ x, s.countCe k n =
    (if k < 8 then s.addSat (HBM_ECC k) HBM_ECC.corrected n else s.addSat (LP_ECC (k - 8)) LP_ECC.corrected n).setMc k x := by
  unfold State.countCe
  extract_lets t x
  split
  · exact ⟨_, rfl⟩
  · exact ⟨_, rfl⟩

@[simp] theorem State.sameMem_setMc {k : Nat} {x : MemCtl} : s.sameMem (t.setMc k x) ↔ s.sameMem t := Iff.rfl

@[simp] theorem State.fld_setMc {k a : Nat} {x : MemCtl} {f : Field} : (s.setMc k x).fld a f = s.fld a f := rfl

theorem State.regsBut.setMc {l : List Nat} (h : s.regsBut t l) (k : Nat) (x : MemCtl) : s.regsBut (t.setMc k x) l :=
  h.of_regs_eq rfl

theorem State.addSat_setMc_effect (s : State) {a n k : Nat} {f : Field} {x : MemCtl} (hfits : f.lo + f.width ≤ 64) :
    ((s.addSat a f n).setMc k x).fld a f = min (s.fld a f + n) (2 ^ f.width - 1) ∧
      s.sameMem ((s.addSat a f n).setMc k x) ∧ s.regsBut ((s.addSat a f n).setMc k x) [a] := by
  rw [State.fld_setMc, State.fld_addSat_self hfits]
  exact ⟨rfl, by simp, ((State.regsBut_refl s _).addSat (List.mem_singleton_self _) _ _).setMc k x⟩

theorem hbmCounts (s : State) (i : Fin 8) (count : BitVec 32)
    (hup : s.fld (HBM_STATUS i) HBM_STATUS.state = 1 ∨ s.fld (HBM_STATUS i) HBM_STATUS.state = 2) (hcount : count ≠ 0) :
    ∃ t, exec (.hbmEcsPoll i count none) s = .next t ∧ t.fld (HBM_ECC i) HBM_ECC.corrected =
        min (s.fld (HBM_ECC i) HBM_ECC.corrected + count.toNat) (2 ^ HBM_ECC.corrected.width - 1) ∧ s.sameMem t ∧
      s.regsBut t [HBM_ECC i] := by
  have hup' : ¬ (s.fld (HBM_STATUS i) HBM_STATUS.state ≠ 1 ∧ s.fld (HBM_STATUS i) HBM_STATUS.state ≠ 2) := by omega
  obtain ⟨x, hx⟩ := s.countCe_hour i count.toNat
  rw [if_pos i.isLt] at hx
  exact ⟨_, congrArg Host.Outcome.next (((if_neg hup').trans (if_neg hcount)).trans hx), s.addSat_setMc_effect (by decide)⟩

theorem lpCounts (s : State) (k : Fin 16) (line : Fin 0x80000000) (row : BitVec 32) (spare : Bool) (hk : 8 ≤ k.val)
    (hup : s.fld (LP_STATUS (k.val - 8)) LP_STATUS.state = 1) :
    ∃ t, exec (.controllerPatrolScrub k line row spare .ce) s = .next t ∧ t.fld (LP_ECC (k.val - 8)) LP_ECC.corrected =
        min (s.fld (LP_ECC (k.val - 8)) LP_ECC.corrected + 1) (2 ^ LP_ECC.corrected.width - 1) ∧ s.sameMem t ∧
      s.regsBut t [LP_ECC (k.val - 8)] := by
  have hk' : ¬ k.val < 8 := by omega
  obtain ⟨x, hx⟩ := s.countCe_hour k 1
  rw [if_neg hk'] at hx
  have hexec : exec (.controllerPatrolScrub k line row spare .ce) s = .next (s.countCe k 1) := by
    simp [execControllerPatrolScrub, hk', hup]
  exact ⟨_, hexec.trans (congrArg Host.Outcome.next hx), s.addSat_setMc_effect (by decide)⟩

theorem lpLoses (s : State) (k : Fin 16) (line : Fin 0x80000000) (row : BitVec 32) (spare : Bool) (m : BitVec 8)
    (hk : 8 ≤ k.val) (hup : s.fld (LP_STATUS (k.val - 8)) LP_STATUS.state = 1) (hm : m ≠ 0) :
    exec (.controllerPatrolScrub k line row spare (.ue m)) s = .next
      ((s.loseWords (lpAddr (k.val - 8) (line.val * 64)) m.toNat).memUe k (line.val * 64)
        (lpAddr (k.val - 8) (line.val * 64)) 1) := by
  have hk' : ¬ k.val < 8 := by omega
  simp only [exec_controllerPatrolScrub, execControllerPatrolScrub, hk', hup, if_neg hm]
  simp

/-- Settles O39 (R303, R304, R321): counts of correctable errors, the event of their rate, and words that are lost. -/
theorem memoryControllers : Obligations.MemoryControllers := by
  refine fun s i k => ⟨hbmCounts s i, fun hmany hfirst => ?event, fun hraised => ?raised, fun line row spare hk hup =>
    ⟨lpCounts s k line row spare hk hup, fun m => lpLoses s k line row spare m hk hup⟩⟩
  case event => exact congrArg Host.Outcome.next (if_pos ⟨hmany, by simp [hfirst]⟩)
  case raised => exact congrArg Host.Outcome.next (if_neg (by simp [hraised]))

end Sys2Proof.Machine
end

section
/-! Commands that pass their shared checks (R349), and what a reply writes where the host holds no line. -/
namespace Sys2Proof.Machine

variable {s t u : State}

/-! ## Shared checks (R349) -/

/-- A command that passes its checks is executed on the state in which it is taken. -/
theorem State.command_runs {h : CmdHdr} {r : Row} {params : Bool} (f : Cmd → State → State) (hruns : s.runs h r)
    (hparams : params = true) : s.command h r params f = f (cmdOf h r.op) (s.takeCmd h.tag.toNat r.op) := by
  obtain ⟨htakes, hreset, hpower, htag, hmajor, hminor, hservice, hflags, hform, hctx, htail⟩ := hruns
  have hform' : ¬ (h.flags.toNat ≥ 4 ∨ (b2n (bitOf h.flags.toNat 0) = 1 ∧ (!r.forms) = true)) := by
    rintro (hlarge | ⟨hbit, hnone⟩)
    · exact absurd hflags (Nat.not_lt.2 hlarge)
    · obtain hzero | hforms := hform
      · simp [hzero, b2n] at hbit
      · simp [hforms] at hnone
  have hservice' : ¬ ((s.takeCmd h.tag.toNat r.op).bit SCU_CMD_STATUS SCU_CMD_STATUS.out_of_service && !r.served) = true := by
    obtain hin | hserved := hservice
    · simp [hin]
    · simp [hserved]
  have hversion : ¬ (h.major.toNat ≠ (s.takeCmd h.tag.toNat r.op).fld SCU_CMD_VERSION SCU_CMD_VERSION.major ∨
      h.minor.toNat > (s.takeCmd h.tag.toNat r.op).fld SCU_CMD_VERSION SCU_CMD_VERSION.minor) := by omega
  unfold State.command
  rw [if_neg (by simp [htakes, hreset])]
  have hrun : (if (0 : Nat) = 1 ∨ (0 : Nat) = 2 then s.enterPower 0 else s) = s := if_neg (by decide)
  simp only [hpower, hrun, htag]
  rw [if_neg hversion, if_neg (by decide), if_neg hservice', if_neg hform', if_neg (by simp [hctx]),
    if_neg (by simp [hparams, htail])]
  rfl

/-- The same of a context or plate command whose context has none under way. -/
theorem State.ctxCommand_runs {h : CmdHdr} {r : Row} {past params : Bool} (f : Cmd → State → State)
    (hbusy : s.ctxBusy h.ctx.toNat = false ∨ past = true) (hruns : s.runs h r) (hparams : params = true) :
    s.ctxCommand h r past params f = f (cmdOf h r.op) (s.takeCmd h.tag.toNat r.op) := by
  have hfree : ¬ (s.ctxBusy h.ctx.toNat && !past) = true := by
    obtain hbusy | hpast := hbusy
    · simp [hbusy]
    · simp [hpast]
  rw [State.ctxCommand, if_neg hfree, State.command_runs f hruns hparams]

/-! ## Writes through a home that has no line out (R334) -/

/-- The host holds no line and no snoop is unanswered. -/
structure State.HomeEmpty (s : State) : Prop where
  filter : s.tl.filter = []
  snoops : s.tl.snoops = []

theorem State.putLine_of_empty {a : Nat} {l : List Byte} (h : s.HomeEmpty) : s.putLine a l = s.setBytes a l := by
  refine if_neg ?_
  simp [State.snooping, State.hostCopy, h.filter, h.snoops]

/-- Bytes that lie in one line are written by one store. -/
theorem State.put_of_empty {a : Nat} {l : List Byte} (h : s.HomeEmpty) (hne : l ≠ []) (hline : l.length ≤ 64 - a % 64) :
    s.put a l = s.setBytes a l := by
  have hempty : l.isEmpty = false := by simpa using hne
  rw [State.put, State.putLines, hempty]
  simp [List.take_of_length_le hline, List.drop_of_length_le hline, State.putLine_of_empty h, State.putLines]

theorem State.put_effect_of_empty {a n : Nat} {l : List Byte} (h : s.HomeEmpty) (hlen : l.length = n) (hpos : n ≠ 0)
    (hline : n ≤ 64 - a % 64) :
    (s.put a l).bytes a n = l ∧ s.memBut (s.put a l) a n ∧ (s.put a l).tl = s.tl := by
  have hne : l ≠ [] := by
    rintro rfl
    exact hpos hlen.symm
  rw [State.put_of_empty h hne (hlen ▸ hline)]
  exact ⟨State.bytes_setBytes_self s a hlen, State.memBut_setBytes s hlen, rfl⟩

/-! ## Replies (R343, R346) -/

theorem State.HomeEmpty.of_tl (h : s.HomeEmpty) (htl : t.tl = s.tl) : t.HomeEmpty :=
  ⟨by rw [htl, h.filter], by rw [htl, h.snoops]⟩

/-- The first eight bytes of a reply with OK: its tag, its opcode and its status. -/
theorem take_reply_head (tag op : Nat) (res : List (Nat × Nat)) :
    ((leBytes 2 tag ++ leBytes 2 op ++ leBytes 2 stOK ++ leBytes 1 0 ++ leBytes 1 0 ++ fieldsFrom 8 res ++
      List.replicate 64 0).take 64).take 8 = leBytes 2 tag ++ leBytes 2 op ++ [0, 0, 0, 0] := by
  simp [leBytes, stOK]

/-- The address of a reply's slot. -/
def replySlot (i : Nat) : Nat := repWindow + (i % 1024) * 64

theorem replySlot_mod (i : Nat) : replySlot i % 64 = 0 := by
  have hwindow : repWindow % 64 = 0 := by decide
  simp only [replySlot]
  omega

theorem repProdLine_below_replySlot (i : Nat) : repProdLine + 8 ≤ replySlot i := Nat.le_add_right_of_le (by decide)

/-- The state when a reply with OK stands in its slot. -/
def State.replyStored (s : State) (c : Cmd) (res : List (Nat × Nat)) : State :=
  { s with tl := { s.tl with repIx := s.tl.repIx + 1 } }.put (replySlot s.tl.repIx)
    ((leBytes 2 c.tag ++ leBytes 2 c.op ++ leBytes 2 stOK ++ leBytes 1 0 ++ leBytes 1 0 ++ fieldsFrom 8 res ++
      List.replicate 64 0).take 64)

theorem State.ok_of_no_event {c : Cmd} {res : List (Nat × Nat)} (h : c.event = false) :
    s.ok c res = ((s.replyStored c res).put repProdLine (leBytes 8 (s.tl.repIx + 1))).drdy.cmdView := by
  rw [State.ok, State.replyRaw, h]
  rfl

theorem repProdLine_fits : 8 ≤ 64 - repProdLine % 64 := by
  simp only [repProdLine, lpFirst]
  omega

theorem cmdConsLine_fits : 8 ≤ 64 - cmdConsLine % 64 := by
  simp only [cmdConsLine, lpFirst]
  omega

@[simp] theorem State.sameMem_drdy : s.sameMem t.drdy ↔ s.sameMem t := by simp [State.drdy]

@[simp] theorem State.tl_drdy : s.drdy.tl = s.tl := rfl

@[simp] theorem State.sameMem_cmdView : s.sameMem t.cmdView ↔ s.sameMem t := by simp [State.cmdView]

@[simp] theorem State.tl_cmdView : s.cmdView.tl = s.tl := rfl

theorem State.regsBut.cmdView {l : List Nat} (h : s.regsBut t l) (hin : SCU_CMD_STATUS ∈ l) : s.regsBut t.cmdView l :=
  h.setFld hin _ _

theorem State.bytes_of_memBut {a n b m : Nat} (h : s.memBut t b m) (hout : a + n ≤ b ∨ b + m ≤ a) :
    t.bytes a n = s.bytes a n := by
  refine List.map_congr_left fun i hi => h (a + i) ?_
  have hi' := List.mem_range.1 hi
  omega

theorem State.bytes_prefix {a m n : Nat} (h : m ≤ n) : s.bytes a m = (s.bytes a n).take m := by
  rw [State.bytes, State.bytes, ← List.map_take, List.take_range, Nat.min_eq_left h]

theorem State.replyStored_effect (s : State) (c : Cmd) (res : List (Nat × Nat)) (h : s.HomeEmpty) :
    (s.replyStored c res).bytes (replySlot s.tl.repIx) 8 = leBytes 2 c.tag ++ leBytes 2 c.op ++ [0, 0, 0, 0] ∧
      s.memBut (s.replyStored c res) (replySlot s.tl.repIx) 64 ∧
      (s.replyStored c res).tl = { s.tl with repIx := s.tl.repIx + 1 } := by
  have hempty : ({ s with tl := { s.tl with repIx := s.tl.repIx + 1 } } : State).HomeEmpty := ⟨h.filter, h.snoops⟩
  have hline : 64 ≤ 64 - replySlot s.tl.repIx % 64 := by
    rw [replySlot_mod]
  obtain ⟨hbytes, hmem, htl⟩ := State.put_effect_of_empty (n := 64) (l := (leBytes 2 c.tag ++ leBytes 2 c.op ++
    leBytes 2 stOK ++ leBytes 1 0 ++ leBytes 1 0 ++ fieldsFrom 8 res ++ List.replicate 64 0).take 64) hempty
    (by simp; omega) (by decide) hline
  refine ⟨?_, hmem, htl⟩
  rw [State.bytes_prefix (n := 64) (by decide)]
  exact (congrArg (List.take 8) hbytes).trans (take_reply_head c.tag c.op res)

/-- What a reply with OK writes: its slot, the producer index, and the registers that follow it. -/
theorem State.ok_effect (s : State) (c : Cmd) (res : List (Nat × Nat)) (h : s.HomeEmpty) (hevent : c.event = false) :
    (s.ok c res).bytes (replySlot s.tl.repIx) 8 = leBytes 2 c.tag ++ leBytes 2 c.op ++ [0, 0, 0, 0] ∧
      (s.ok c res).tl.repIx = s.tl.repIx + 1 ∧ s.regsBut (s.ok c res) [SCU_CMD_STATUS, TL_DRDY] ∧
      ∀ a, (a < replySlot s.tl.repIx ∨ replySlot s.tl.repIx + 64 ≤ a) → (a < repProdLine ∨ repProdLine + 8 ≤ a) →
        (s.ok c res).byte a = s.byte a := by
  obtain ⟨hbytes, hmem, htl⟩ := s.replyStored_effect c res h
  have hempty : (s.replyStored c res).HomeEmpty := ⟨by rw [htl]; exact h.filter, by rw [htl]; exact h.snoops⟩
  obtain ⟨-, hmemP, htlP⟩ := State.put_effect_of_empty (a := repProdLine) (n := 8)
    (l := leBytes 8 (s.tl.repIx + 1)) hempty (length_leBytes _ _) (by decide) repProdLine_fits
  have hlast : ((s.replyStored c res).put repProdLine (leBytes 8 (s.tl.repIx + 1))).sameMem (s.ok c res) := by
    rw [State.ok_of_no_event hevent]
    simp
  have hout : replySlot s.tl.repIx + 8 ≤ repProdLine ∨ repProdLine + 8 ≤ replySlot s.tl.repIx :=
    .inr (repProdLine_below_replySlot _)
  refine ⟨?_, ?_, ?_, fun a hslot hprod => ?_⟩
  · rw [hlast.bytes_eq, State.bytes_of_memBut hmemP hout, hbytes]
  · rw [State.ok_of_no_event hevent]
    rw [State.tl_cmdView, State.tl_drdy, htlP, htl]
  · rw [State.ok_of_no_event hevent]
    have hstored : s.regsBut (s.replyStored c res) [SCU_CMD_STATUS, TL_DRDY] :=
      State.regsBut.put (fun _ _ => rfl) _ _
    exact ((hstored.put _ _).drdy (by simp)).cmdView (by simp)
  · exact (hlast a).trans ((hmemP a hprod).trans (hmem a hslot))

/-- What the taking of a command writes: its count and the consumer index. -/
theorem State.takeCmd_effect (s : State) (tag op : Nat) (h : s.HomeEmpty) :
    (s.takeCmd tag op).tl = s.tl ∧ s.regsBut (s.takeCmd tag op) [SCU_CMD_TAKEN, SCU_CMD_STATUS] ∧
      s.memBut (s.takeCmd tag op) cmdConsLine 8 := by
  unfold State.takeCmd
  split
  · exact ⟨rfl, State.regsBut.setFld (fun _ _ => rfl) (by simp) _ _, fun _ _ => rfl⟩
  · have hcounted : s.regsBut (s.setFld SCU_CMD_TAKEN SCU_CMD_TAKEN.taken (s.fld SCU_CMD_TAKEN SCU_CMD_TAKEN.taken + 1))
        [SCU_CMD_TAKEN, SCU_CMD_STATUS] := (State.regsBut_refl s _).setFld (by simp) _ _
    obtain ⟨-, hmem, htl⟩ := State.put_effect_of_empty (s := s.setFld SCU_CMD_TAKEN SCU_CMD_TAKEN.taken
      (s.fld SCU_CMD_TAKEN SCU_CMD_TAKEN.taken + 1)) (a := cmdConsLine) (n := 8)
      (l := leBytes 8 (s.fld SCU_CMD_TAKEN SCU_CMD_TAKEN.taken + 1)) ⟨h.filter, h.snoops⟩ (length_leBytes _ _) (by decide)
      cmdConsLine_fits
    exact ⟨htl, hcounted.put _ _, hmem⟩

/-- A command that is taken and replied to with OK. -/
theorem State.takeCmd_ok_effect (s : State) {c : Cmd} (res : List (Nat × Nat)) (h : s.HomeEmpty) (hevent : c.event = false) :
    ((s.takeCmd c.tag c.op).ok c res).bytes (replySlot s.tl.repIx) 8 =
        leBytes 2 c.tag ++ leBytes 2 c.op ++ [0, 0, 0, 0] ∧
      ((s.takeCmd c.tag c.op).ok c res).tl.repIx = s.tl.repIx + 1 ∧
      s.regsBut ((s.takeCmd c.tag c.op).ok c res) [SCU_CMD_TAKEN, SCU_CMD_STATUS, TL_DRDY] ∧
      ∀ a, (a < replySlot s.tl.repIx ∨ replySlot s.tl.repIx + 64 ≤ a) → (a < repProdLine ∨ repProdLine + 8 ≤ a) →
        (a < cmdConsLine ∨ cmdConsLine + 8 ≤ a) → ((s.takeCmd c.tag c.op).ok c res).byte a = s.byte a := by
  obtain ⟨htl, hregs, hmem⟩ := s.takeCmd_effect c.tag c.op h
  obtain ⟨hbytes, hindex, hregs', hbyte⟩ := (s.takeCmd c.tag c.op).ok_effect c res (h.of_tl htl) hevent
  rw [htl] at hbytes hindex hbyte
  exact ⟨hbytes, hindex, (hregs.mono (by simp)).trans (hregs'.mono (by simp)),
    fun a hslot hprod hcons => (hbyte a hslot hprod).trans (hmem a hcons)⟩

/-- Settles O40 (R346, R348, R349, R353): the commands that ask for values. -/
theorem queriesReply : Obligations.QueriesReply := by
  intro s h c r f port id hc hruns hbusy htarget hport hknown
  have hexec : exec c s = .next ((s.takeCmd h.tag.toNat r.op).ok (cmdOf h r.op) (f (s.takeCmd h.tag.toNat r.op))) := by
    simp only [List.mem_cons, List.not_mem_nil, or_false, Prod.mk.injEq] at hc
    obtain ⟨rfl, rfl, rfl⟩ | ⟨rfl, rfl, rfl⟩ | ⟨rfl, rfl, rfl⟩ | ⟨rfl, rfl, rfl⟩ | ⟨rfl, rfl, rfl⟩ | ⟨rfl, rfl, rfl⟩ |
      ⟨rfl, rfl, rfl⟩ | ⟨rfl, rfl, rfl⟩ | ⟨rfl, rfl, rfl⟩ := hc
    · exact congrArg Host.Outcome.next (State.command_runs _ hruns rfl)
    · exact congrArg Host.Outcome.next (State.command_runs _ hruns rfl)
    · exact congrArg Host.Outcome.next (State.ctxCommand_runs _ (.inl hbusy) hruns rfl)
    · exact congrArg Host.Outcome.next (State.command_runs _ hruns hknown)
    · exact congrArg Host.Outcome.next (State.command_runs _ hruns rfl)
    · exact congrArg Host.Outcome.next (State.command_runs _ hruns rfl)
    · exact congrArg Host.Outcome.next (State.command_runs _ hruns rfl)
    · exact congrArg Host.Outcome.next ((if_neg (by simp [htarget])).trans (State.command_runs _ hruns rfl))
    · exact congrArg Host.Outcome.next (State.command_runs _ hruns (by simpa using hport))
  refine ⟨hexec, fun hfilter hsnoops hflags => ⟨_, hexec, ?_⟩⟩
  have hevent : (cmdOf h r.op).event = false := by
    simp only [cmdOf, hflags]
    decide
  exact s.takeCmd_ok_effect (c := cmdOf h r.op) _ ⟨hfilter, hsnoops⟩ hevent

end Sys2Proof.Machine
end

section
/-! What stays as it is while the module writes registers and memory and posts to the host: everything else of its state. -/
namespace Sys2Proof.Machine

variable {s t u : State} {l : List Nat}

/-- The state beside registers, memory, free values and the host's link: what units, contexts, commands, the health manager and
the boot hold. -/
def State.work (s : State) : State :=
  { s with regs := [], mem := [], lost := [], ue := [], freeCtr := 0, tl := {} }

@[simp] theorem State.work_setReg {a : Nat} {v : Word} : (s.setReg a v).work = s.work := rfl
@[simp] theorem State.work_setFld {a : Nat} {f : Field} {v : Nat} : (s.setFld a f v).work = s.work := rfl
@[simp] theorem State.work_setBit {a : Nat} {f : Field} {b : Bool} : (s.setBit a f b).work = s.work := rfl
@[simp] theorem State.work_addSat {a : Nat} {f : Field} {n : Nat} : (s.addSat a f n).work = s.work := rfl
@[simp] theorem State.work_addMod {a : Nat} {f : Field} {n : Nat} : (s.addMod a f n).work = s.work := rfl
@[simp] theorem State.work_setBytes {a : Nat} {b : List Byte} : (s.setBytes a b).work = s.work := rfl
@[simp] theorem State.work_setNum {a n v : Nat} : (s.setNum a n v).work = s.work := rfl
@[simp] theorem State.work_zeroRange {a n : Nat} : (s.zeroRange a n).work = s.work := rfl
@[simp] theorem State.work_loseRange {a n : Nat} : (s.loseRange a n).work = s.work := rfl
@[simp] theorem State.work_draw {w : Nat} : (s.draw w).2.work = s.work := rfl
@[simp] theorem State.work_drdy : s.drdy.work = s.work := rfl

/-- A command view of the same work, its register apart. -/
@[simp] theorem State.work_cmdView : s.cmdView.work = s.work := rfl

/-! ## Writes through the home, events and replies (R334, R344, R348) -/

@[simp] theorem State.work_sendTl_snoop {line kind : Nat} : (s.sendTl (.snoop line kind)).work = s.work := by
  unfold State.sendTl
  exact ite_k (fun (t : State) => t.work = s.work) rfl (ite_k (fun (t : State) => t.work = s.work) rfl rfl)

@[simp] theorem State.work_snoop {line kind : Nat} {op : HomeOp} : (s.snoop line kind op).work = s.work := by
  unfold State.snoop
  exact ite_k (fun (t : State) => t.work = s.work) rfl State.work_sendTl_snoop

@[simp] theorem State.work_putLine {a : Nat} {b : List Byte} : (s.putLine a b).work = s.work :=
  ite_k (fun (t : State) => t.work = s.work) State.work_snoop rfl

@[simp] theorem State.work_putLines {n a : Nat} {b : List Byte} : (s.putLines n a b).work = s.work := by
  induction n generalizing s a b with
  | zero => rfl
  | succ n ih =>
    rw [State.putLines]
    exact ite_k (fun (t : State) => t.work = s.work) rfl (ih.trans State.work_putLine)

@[simp] theorem State.work_put {a : Nat} {b : List Byte} : (s.put a b).work = s.work := State.work_putLines

@[simp] theorem State.work_eventAt {typ ctx tb : Nat} {data : List Byte} : (s.eventAt typ ctx tb data).work = s.work := by
  unfold State.eventAt
  rw [State.work_drdy, State.work_put]
  exact ite_k (fun (t : State) => t.work = s.work) State.work_put State.work_put

@[simp] theorem State.work_event {typ ctx : Nat} {data : List Byte} : (s.event typ ctx data).work = s.work := State.work_eventAt

/-- The registers that a reply to a command writes. -/
def replyRegs : List Nat := [SCU_CMD_STATUS, SCU_EVT_LOST, TL_DRDY]

/-- A reply in its slot, its producer index advanced. -/
def State.replied (s : State) (b : List Byte) : State :=
  let i := s.tl.repIx
  ((({ s with tl := { s.tl with repIx := i + 1 } } : State).put (repWindow + (i % 1024) * 64) b).put repProdLine
    (leBytes 8 (i + 1))).drdy

theorem State.work_replied {b : List Byte} : (s.replied b).work = s.work := by
  rw [State.replied, State.work_drdy, State.work_put, State.work_put]
  rfl

theorem State.regsBut_replied (s : State) (b : List Byte) : s.regsBut (s.replied b) replyRegs := by
  have hindex : s.regsBut { s with tl := { s.tl with repIx := s.tl.repIx + 1 } } replyRegs := fun _ _ => rfl
  exact ((hindex.put _ _).put _ _).drdy (by simp [replyRegs])

/-- A reply whose packet asks for no event posts none. -/
def State.doneEvent (s : State) (event : Bool) (data : List Byte) : State := if event then s.event 0x000F 0xFF data else s

theorem State.work_doneEvent {event : Bool} {data : List Byte} : (s.doneEvent event data).work = s.work :=
  ite_k (fun (t : State) => t.work = s.work) State.work_event rfl

theorem State.regsBut_doneEvent (s : State) (event : Bool) (data : List Byte) : s.regsBut (s.doneEvent event data) replyRegs :=
  ite_k (s.regsBut · replyRegs) ((s.regsBut_event _ _ _).mono (by simp [eventRegs, replyRegs])) (s.regsBut_refl _)

theorem State.replyRaw_eq {tag op status detail form : Nat} {event : Bool} {res : List (Nat × Nat)} :
    s.replyRaw tag op status detail form event res =
      let t := s.replied (((leBytes 2 tag ++ leBytes 2 op ++ leBytes 2 status ++ leBytes 1 detail ++ leBytes 1 form ++
        fieldsFrom 8 res) ++ List.replicate 64 0).take 64)
      ((if status = stOK then t else t.addSat SCU_CMD_STATUS SCU_CMD_STATUS.refused 1).doneEvent event
        (fieldsFrom 0 [(2, tag), (2, op), (2, status)])).cmdView := rfl

@[simp] theorem State.work_replyRaw {tag op status detail form : Nat} {event : Bool} {res : List (Nat × Nat)} :
    (s.replyRaw tag op status detail form event res).work = s.work := by
  rw [State.replyRaw_eq, State.work_cmdView, State.work_doneEvent]
  split
  · exact State.work_replied
  · exact State.work_addSat.trans State.work_replied

theorem State.regsBut_replyRaw (s : State) (tag op status detail form : Nat) (event : Bool) (res : List (Nat × Nat)) :
    s.regsBut (s.replyRaw tag op status detail form event res) replyRegs := by
  have hstatus : SCU_CMD_STATUS ∈ replyRegs := by simp [replyRegs]
  rw [State.replyRaw_eq]
  exact State.regsBut.setFld (State.regsBut.trans
    (ite_k (s.regsBut · replyRegs) (s.regsBut_replied _) ((s.regsBut_replied _).addSat hstatus _ _))
    (State.regsBut_doneEvent _ _ _)) hstatus _ _

@[simp] theorem State.work_ok {c : Cmd} {res : List (Nat × Nat)} : (s.ok c res).work = s.work := State.work_replyRaw

theorem State.regsBut_ok (s : State) (c : Cmd) (res : List (Nat × Nat)) : s.regsBut (s.ok c res) replyRegs :=
  s.regsBut_replyRaw c.tag c.op stOK 0 0 c.event res

/-! ## Commands that complete (R351) -/

/-- `g` replies to a waiting command and does nothing else. -/
def Replies (g : State → Waiting → State) : Prop := ∀ t w, (g t w).work = t.work ∧ t.regsBut (g t w) replyRegs

theorem replies_ok (res : List (Nat × Nat)) : Replies (fun t w => t.ok w.cmd res) :=
  fun t w => ⟨State.work_ok, t.regsBut_ok w.cmd res⟩

theorem replies_reply (status detail : Nat) : Replies (fun t w => t.reply w.cmd status detail) :=
  fun t w => ⟨State.work_replyRaw, t.regsBut_replyRaw w.cmd.tag w.cmd.op status detail 0 w.cmd.event []⟩

theorem replies_refuse (detail : Nat) : Replies (fun t w => t.refuse w.cmd detail) := replies_reply stREFUSED detail

theorem Replies.foldl {g : State → Waiting → State} (hg : Replies g) (l : List Waiting) (s : State) :
    (l.foldl g s).work = s.work ∧ s.regsBut (l.foldl g s) replyRegs := by
  induction l generalizing s with
  | nil => exact ⟨rfl, s.regsBut_refl _⟩
  | cons w l ih =>
    obtain ⟨hwork, hregs⟩ := ih (g s w)
    exact ⟨hwork.trans (hg s w).1, (hg s w).2.trans hregs⟩

/-- The commands that `f` picks no longer wait. -/
def State.unwait (s : State) (f : Waiting → Bool) : State := { s with waiting := s.waiting.filter (fun w => !f w) }

theorem Replies.complete {g : State → Waiting → State} (hg : Replies g) (f : Waiting → Bool) (s : State) :
    (s.complete f g).work = (s.unwait f).work ∧ s.regsBut (s.complete f g) replyRegs := by
  have hwaiting : s.regsBut (s.unwait f) replyRegs := fun _ _ => rfl
  obtain ⟨hwork, hregs⟩ := hg.foldl ((s.waiting.filter f).filter (fun w => w.form == 1) ++
    (s.waiting.filter f).filter (fun w => w.form != 1)) (s.unwait f)
  exact ⟨hwork, (hwaiting.trans hregs).setFld (by simp [replyRegs]) _ _⟩

theorem State.waiting_eq (h : t.work = s.work) : t.waiting = s.waiting := show t.work.waiting = s.work.waiting from congrArg State.waiting h
theorem State.store_eq (h : t.work = s.work) : t.store = s.store := show t.work.store = s.work.store from congrArg State.store h
theorem State.wdt_eq (h : t.work = s.work) : t.wdt = s.wdt := show t.work.wdt = s.work.wdt from congrArg State.wdt h
theorem State.sb_eq (h : t.work = s.work) : t.sb = s.sb := show t.work.sb = s.work.sb from congrArg State.sb h
theorem State.smp_eq (h : t.work = s.work) : t.smp = s.smp := show t.work.smp = s.work.smp from congrArg State.smp h
theorem State.boot_eq (h : t.work = s.work) : t.boot = s.boot := show t.work.boot = s.work.boot from congrArg State.boot h
theorem State.power_eq (h : t.work = s.work) : t.power = s.power := show t.work.power = s.work.power from congrArg State.power h

end Sys2Proof.Machine
end

section
/-! The contact sheet: writing it changes memory, free values and its status register alone (R420 to R423). -/
namespace Sys2Proof.Machine

variable {s t u : State}

/-- A state that differs in memory and free values alone. -/
def State.memOnly (s t : State) : Prop := t.work = s.work ∧ t.regs = s.regs

theorem State.memOnly_refl (s : State) : s.memOnly s := ⟨rfl, rfl⟩

theorem State.memOnly.trans (h : s.memOnly t) (h' : t.memOnly u) : s.memOnly u :=
  ⟨h'.1.trans h.1, h'.2.trans h.2⟩

theorem State.memOnly_foldl {α : Type} {f : State → α → State} (hf : ∀ t x, State.memOnly t (f t x)) (l : List α) (s : State) :
    s.memOnly (l.foldl f s) := by
  induction l generalizing s with
  | nil => exact s.memOnly_refl
  | cons x l ih => exact (hf s x).trans (ih _)

/-- A fold that carries a value beside the state. -/
theorem State.memOnly_foldl_pair {α β : Type} {f : β × State → α → β × State} (hf : ∀ r x, State.memOnly r.2 (f r x).2) (l : List α)
    (r : β × State) : State.memOnly r.2 (l.foldl f r).2 := by
  induction l generalizing r with
  | nil => exact r.2.memOnly_refl
  | cons x l ih => exact (hf r x).trans (ih _)

theorem State.memOnly_setBytes (s : State) (a : Nat) (b : List Byte) : s.memOnly (s.setBytes a b) := ⟨rfl, rfl⟩
theorem State.memOnly_setNum (s : State) (a n v : Nat) : s.memOnly (s.setNum a n v) := ⟨rfl, rfl⟩
theorem State.memOnly_zeroRange (s : State) (a n : Nat) : s.memOnly (s.zeroRange a n) := ⟨rfl, rfl⟩
theorem State.memOnly_loseRange (s : State) (a n : Nat) : s.memOnly (s.loseRange a n) := ⟨rfl, rfl⟩
theorem State.memOnly_draw (s : State) (w : Nat) : s.memOnly (s.draw w).2 := ⟨rfl, rfl⟩

theorem State.memOnly_sheetVc (s : State) (tile port vc : Nat) : s.memOnly (s.sheetVc tile port vc).2 := s.memOnly_draw 16

theorem State.memOnly_sheetRouter (s : State) (tile : Nat) : s.memOnly (s.sheetRouter tile).2 :=
  State.memOnly_foldl_pair (f := fun (r : (List Byte × Bool) × State) i =>
      ((r.1.1 ++ (r.2.sheetVc tile (i / 5) (i % 5)).1.1, r.1.2 || (r.2.sheetVc tile (i / 5) (i % 5)).1.2),
        (r.2.sheetVc tile (i / 5) (i % 5)).2))
    (fun r i => r.2.memOnly_sheetVc tile (i / 5) (i % 5)) (List.range 25) (([], false), s)

theorem State.memOnly_sheetSection (s : State) (excerpts i : Nat) : s.memOnly (s.sheetSection excerpts i).2 := by
  unfold State.sheetSection
  split <;> dsimp only
  · exact s.memOnly_loseRange _ _
  · exact ((s.memOnly_zeroRange _ _).trans (State.memOnly_setBytes _ _ _)).trans (State.memOnly_loseRange _ _ _)
  · exact State.memOnly_foldl (fun t p => t.memOnly_setBytes _ _) _ s
  · refine State.memOnly_foldl_pair (fun r tile => ?_) _ (false, s)
    dsimp only
    exact (r.2.memOnly_sheetRouter tile).trans (State.memOnly_setBytes _ _ _)
  · exact (s.memOnly_zeroRange _ _).trans (State.memOnly_setBytes _ _ _)
  · exact (s.memOnly_zeroRange _ _).trans (State.memOnly_setBytes _ _ _)
  · exact s.memOnly_setBytes _ _

theorem State.memOnly_sheetSections (s : State) (excerpts i fuel : Nat) : s.memOnly (s.sheetSections excerpts i fuel) := by
  induction fuel generalizing s i with
  | zero => exact s.memOnly_refl
  | succ k ih =>
    rw [State.sheetSections]
    exact ((s.memOnly_sheetSection excerpts i).trans
      ((State.memOnly_setBytes _ _ _).trans (State.memOnly_setNum _ _ _ _))).trans (ih _ _)

/-! ## Writing a sheet -/

/-- A state whose memory, free values and sheet status differ. -/
def State.sheetOnly (s t : State) : Prop := t.work = s.work ∧ s.regsBut t [SCU_SHEET_STATUS]

theorem State.memOnly.sheetOnly (h : s.memOnly t) : s.sheetOnly t := ⟨h.1, (s.regsBut_refl _).of_regs_eq h.2⟩

theorem State.sheetOnly.setFld (h : s.sheetOnly t) (f : Field) (v : Nat) : s.sheetOnly (t.setFld SCU_SHEET_STATUS f v) :=
  ⟨h.1, h.2.setFld (List.mem_singleton_self _) f v⟩

theorem State.sheetOnly.view (h : s.sheetOnly t) : s.sheetOnly t.sheetView := by
  unfold State.sheetView
  exact ((((h.setFld _ _).setFld _ _).setFld _ _).setFld _ _).setFld _ _

theorem State.sheetOnly_writeSheet (s : State) (cause sections excerpts : Nat) :
    s.sheetOnly (s.writeSheet cause sections excerpts) := by
  unfold State.writeSheet
  split
  · refine ite_k s.sheetOnly s.memOnly_refl.sheetOnly ?_
    exact ((s.memOnly_setBytes _ _).trans (State.memOnly_setNum _ _ _ _)).sheetOnly.view
  · have hheader : ∀ (head : List Byte) (crc : Nat) (e : SheetEntry),
        s.memOnly ((((s.draw 32).2.zeroRange sheetBase 0x1000).setBytes sheetBase head).sheetEntry 0 e crc) :=
      fun _ _ _ => ⟨rfl, rfl⟩
    refine State.sheetOnly.view (State.memOnly.sheetOnly (ite_k s.memOnly ?_ ?_))
    · exact ((hheader _ _ _).trans (State.memOnly_sheetSections _ _ _ _)).trans (State.memOnly_setNum _ _ _ _)
    · exact (hheader _ _ _).trans (State.memOnly_sheetSections _ _ _ _)

end Sys2Proof.Machine
end

section
/-! Resets of the module (R408 to R417, R436, R437): what a module reset clears, the end of a compute reset, and the watchdog. -/
namespace Sys2Proof.Machine

variable {s t u : State}

/-! ## Module reset (R415) -/

theorem State.memOnly_ue (s : State) (x : Tab Nat) : s.memOnly { s with ue := x } := ⟨rfl, rfl⟩

/-- Memory that a module reset loses is the memory's affair alone. -/
theorem State.memOnly_loseMemory (s : State) (lp : Bool) : s.memOnly (s.loseMemory lp) := by
  unfold State.loseMemory
  dsimp only
  have hranges : ∀ (l : List (Nat × Nat)), s.memOnly (l.foldl (fun s r => s.loseRange r.1 r.2) s) := fun l =>
    State.memOnly_foldl (fun t r => t.memOnly_loseRange r.1 r.2) l s
  have hlost := fun l => (((hranges l).trans (State.memOnly_loseRange _ 0 hbmEnd)).trans
    (State.memOnly_loseRange _ (tsBase 0) (256 * tsBytes))).trans (State.memOnly_loseRange _ (osBase 0) (256 * osBytes))
  refine ite_k s.memOnly (State.memOnly.trans ?_ (State.memOnly_loseRange _ _ _)) ?_
  · exact (hlost _).trans (State.memOnly_ue _ _)
  · exact (hlost _).trans (State.memOnly_ue _ _)

/-- A module reset's effect: every register outside the always-on domain but those that the boot's supply gives is at its reset
value, nothing waits, and the non-volatile store is as `s` has it. -/
def State.restarted (s t : State) : Prop :=
  (∀ a, alwaysOn a = false → a ∉ [CLK_STATUS, PWR_CFG, TB_COUNT] → t.reg a = resetOf a) ∧ t.waiting = [] ∧ t.entries = [] ∧
    t.net = [] ∧ t.store = s.store

theorem State.restart_reg (s : State) (cause : Option Nat) (lp : Bool) {a : Nat} (h : alwaysOn a = false)
    (hout : a ∉ [CLK_STATUS, PWR_CFG, TB_COUNT]) : (s.restart cause lp).reg a = resetOf a := by
  simp only [List.mem_cons, List.not_mem_nil, or_false, not_or] at hout
  obtain ⟨hclk, hcfg, htb⟩ := hout
  unfold State.restart
  dsimp only
  rw [State.reg_upd, State.reg_setFld_ne htb, State.reg_setFld_ne hcfg, State.reg_setFld_ne hclk]
  exact (State.reg_resetRegs (s := s.loseMemory lp) (p := fun a => !alwaysOn a)).trans (if_pos (by rw [h, Bool.not_false]))

theorem State.restarted_restart (s : State) (cause : Option Nat) (lp : Bool) : s.restarted (s.restart cause lp) :=
  by
  have hstore : (s.restart cause lp).store = (s.loseMemory lp).store := rfl
  exact ⟨fun _ h hout => s.restart_reg cause lp h hout, rfl, rfl, rfl,
    hstore.trans (State.store_eq (s.memOnly_loseMemory lp).1)⟩

theorem State.work_countModule (s : State) (host : Bool) : (s.countModule host).work = s.work := by
  unfold State.countModule
  split
  · exact State.work_addSat
  · dsimp only
    split
    · rw [State.work_setBit, State.work_setFld, State.work_setReg, State.work_addSat]
    · rw [State.work_setFld, State.work_setReg, State.work_addSat]

/-- The sheet that a module reset writes where no stub has. -/
def State.resetSheet (s : State) (cause : Nat) (stub : Bool) : State :=
  if (cause = 5 ∨ cause = 6 ∨ cause = 7) ∧ !stub then s.writeSheet cause 7 allExcerpts else s

theorem State.work_resetSheet (s : State) (cause : Nat) (stub : Bool) : (s.resetSheet cause stub).work = s.work :=
  ite_k (fun (t : State) => t.work = s.work) (s.sheetOnly_writeSheet cause 7 allExcerpts).1 rfl

theorem State.moduleReset_eq (s : State) (cause : Nat) (stub : Bool) :
    s.moduleReset cause stub = ((s.resetSheet cause stub).countModule (cause == 1)).restart (some cause) false := rfl

theorem State.restarted_moduleReset (s : State) (cause : Nat) (stub : Bool) : s.restarted (s.moduleReset cause stub) := by
  rw [State.moduleReset_eq]
  obtain ⟨hreg, hwaiting, hentries, hnet, hstore⟩ :=
    ((s.resetSheet cause stub).countModule (cause == 1)).restarted_restart (some cause) false
  exact ⟨hreg, hwaiting, hentries, hnet,
    hstore.trans (State.store_eq ((State.work_countModule _ _).trans (s.work_resetSheet cause stub)))⟩

/-- What brings a module reset about, where it does. -/
theorem State.restarts {c : Instr}
    (h : (c = .resetN true ∧ s.boot.powered = true) ∨ (c = .pllUnlock ∧ s.clocked = true) ∨
      (c = .moduleReset ∧ s.inReset = true) ∨
      (c = .stubTimeout ∧ s.bit SCU_WDT_STATUS SCU_WDT_STATUS.stub_active = true ∧ s.wdt.firedAt + 10000000 ≤ s.tb)) :
    ∃ t, exec c s = .next t ∧ s.restarted t := by
  obtain ⟨rfl, hpowered⟩ | ⟨rfl, hclock⟩ | ⟨rfl, hreset⟩ | ⟨rfl, hstub, htime⟩ := h
  · have hexec : exec (.resetN true) s =
        .next { s.moduleReset 1 false with boot := { (s.moduleReset 1 false).boot with resetHeld := true } } := by
      rw [exec_resetN, execResetN, if_pos ⟨rfl, hpowered⟩]
    exact ⟨_, hexec, s.restarted_moduleReset 1 false⟩
  · exact ⟨_, congrArg Host.Outcome.next (if_pos hclock), s.restarted_moduleReset 9 false⟩
  · exact ⟨_, congrArg Host.Outcome.next (if_pos hreset), s.restarted_moduleReset 6 false⟩
  · exact ⟨_, congrArg Host.Outcome.next (if_pos (by simp [hstub, htime])), s.restarted_moduleReset 8 true⟩

/-! ## The end of a compute reset (R410) -/

/-- The registers that a change of the health map's publication writes. -/
def publishRegs : List Nat := [HLTH_SUMMARY, HLTH_ROT_STATUS, HLTH_ID, SCU_EVT_LOST, TL_DRDY]

theorem State.regsBut_publish (s : State) : s.regsBut s.publish publishRegs := by
  have hsummary : HLTH_SUMMARY ∈ publishRegs := by simp [publishRegs]
  have hrot : HLTH_ROT_STATUS ∈ publishRegs := by simp [publishRegs]
  have hid : HLTH_ID ∈ publishRegs := by simp [publishRegs]
  have hview : s.regsBut s.summaryView publishRegs :=
    (((((State.regsBut_refl s _).setFld hsummary _ _).setFld hsummary _ _).setFld hsummary _ _).setFld hsummary _ _).setFld hrot
      _ _
  exact (hview.setFld hid _ _).trans ((State.regsBut_event _ _ _ _).mono (by simp [eventRegs, publishRegs]))

/-- What a compute reset reports once its steps are through: the map where something failed, the event, the sideband's result,
and the replies to those who asked for it. -/
def State.resetReport (s : State) (quiet : Bool) : State :=
  let s := if quiet then s else s.publish
  let a := SCU_RESET_STATUS
  let s := s.event 0x0011 0xFF
    (fieldsFrom 0 [(1, s.fld a SCU_RESET_STATUS.last_cause), (4, s.fld a SCU_RESET_STATUS.compute_resets)])
  let s := { s with sb := { s.sb with result := if s.sb.code = 0x30 ∧ s.sb.result = 1 then 0 else s.sb.result } }
  s.complete (fun w => w.op == 0x0004) (fun s w => s.ok w.cmd [])

theorem State.waiting_resetReport (s : State) (quiet : Bool) :
    (s.resetReport quiet).waiting.all (fun w => w.op != 0x0004) = true := by
  rw [State.resetReport, State.waiting_eq ((replies_ok []).complete _ _).1, List.all_eq_true]
  intro w hw
  have hop := (List.mem_filter.1 hw).2
  simpa using hop

theorem State.resetReport_fld (s : State) (quiet : Bool) (f : Field) :
    (s.resetReport quiet).fld SCU_RESET_STATUS f = s.fld SCU_RESET_STATUS f := by
  have hpublish : s.regsBut (if quiet then s else s.publish) publishRegs :=
    ite_k (s.regsBut · publishRegs) (s.regsBut_refl _) s.regsBut_publish
  rw [State.resetReport, ((replies_ok []).complete _ _).2.fld_eq (by decide), State.fld_upd,
    (State.regsBut_event _ _ _ _).fld_eq (by decide), hpublish.fld_eq (by decide)]

theorem State.smpEnables_fld (s : State) {a : Nat} (f : Field) (h : ∀ p < 256, a ≠ MU_CTRL p) :
    s.smpEnables.fld a f = s.fld a f := by
  have hfold : ∀ (g : Nat → Bool) (l : List Nat) (t : State), (∀ p ∈ l, p < 256) →
      (l.foldl (fun s p => if s.bit (MU_CTRL p) MU_CTRL.sampler_en = g p then s
        else s.setBit (MU_CTRL p) MU_CTRL.sampler_en (g p)) t).fld a f = t.fld a f := by
    intro g l
    induction l with
    | nil => exact fun t _ => rfl
    | cons p l ih =>
      intro t hl
      rw [List.foldl_cons, ih _ (fun q hq => hl q (List.mem_cons_of_mem _ hq))]
      exact ite_k (fun (u : State) => u.fld a f = t.fld a f) rfl
        (State.fld_setBit_ne (h p (hl p (List.mem_cons_self ..))))
  exact hfold _ _ _ (fun p hp => List.mem_range.1 hp)

/-- The steps 2 to 7 of a compute reset, before `step` returns to 0. -/
def State.resetSteps (s : State) (tiles ports : Nat) : State :=
  let t := s.cancelCommands.dropWork
  let t := (t.computeClear.bistFailed tiles ports).refence.fillAfterReset
  let t := (List.range 16).foldl (fun s c => s.endCtx c) t.dropFrames
  (s.testedWork.foldl (fun s e => s.returnWork e.2 e.1) t).remapsAgain s.mu

/-- The compute reset that is under way ends. -/
def State.resetEnded (s : State) (tiles : BitVec 256) (ports : BitVec 2048) : State :=
  (((s.resetSteps tiles.toNat ports.toNat).setFld SCU_RESET_STATUS SCU_RESET_STATUS.step 0).smpEnables).resetReport
    (decide (tiles = 0 ∧ ports = 0))

theorem State.execComputeReset_eq (h : s.inReset = true) (tiles : BitVec 256) (ports : BitVec 2048) :
    exec (.computeReset tiles ports) s = .next (s.resetEnded tiles ports).estopHeldActs := by
  rw [exec_computeReset, execComputeReset, if_neg (by simp [h])]
  by_cases hquiet : tiles = 0 ∧ ports = 0
  · simp only [State.resetEnded, State.resetReport, State.resetSteps, hquiet, and_self, decide_true, if_true]
  · simp only [State.resetEnded, State.resetReport, State.resetSteps, hquiet, decide_false, if_false, Bool.false_eq_true]

theorem State.resetEnded_inReset (s : State) (tiles : BitVec 256) (ports : BitVec 2048) :
    (s.resetEnded tiles ports).inReset = false := by
  have hctrl : ∀ p < 256, SCU_RESET_STATUS ≠ MU_CTRL p := fun p hp => by
    unfold SCU_RESET_STATUS MU_CTRL
    omega
  rw [State.inReset, State.resetEnded, State.resetReport_fld, State.smpEnables_fld _ _ hctrl, State.fld_setFld_lt (by decide) (by decide)]
  rfl

/-! ## The watchdog and the heartbeat (R416, R417, R436) -/

/-- The watchdog has fired, before the stub writes its sheet. -/
def State.wdtFired (s : State) : State :=
  let a := SCU_WDT_STATUS
  let s := (s.setBit a SCU_WDT_STATUS.fired true).addSat a SCU_WDT_STATUS.fires 1
  let s := (s.setFld a SCU_WDT_STATUS.since_write_ms 20).setBit a SCU_WDT_STATUS.stub_active true
  { s with wdt := { s.wdt with firedAt := s.tb } }

theorem State.wdtFired_fired (s : State) : s.wdtFired.bit SCU_WDT_STATUS SCU_WDT_STATUS.fired = true := by
  rw [State.wdtFired, State.bit_upd, State.bit_setBit_beside (by decide) (by decide) (by decide),
    State.bit_setFld_beside (by decide) (by decide) (by decide), State.addSat,
    State.bit_setFld_beside (by decide) (by decide) (by decide), State.bit_setBit_self (by decide) rfl]

theorem State.lastWrite_stamp (t : State) :
    ({ t with wdt := { t.wdt with lastWrite := t.tb } } : State).wdt.lastWrite = t.tb := rfl

theorem State.firedAt_stamp (t : State) : ({ t with wdt := { t.wdt with firedAt := t.tb } } : State).wdt.firedAt = t.tb := rfl

/-- The registers of a heartbeat. -/
def beatRegs : List Nat := [BELFRY_COUNT, SCU_WDT_STATUS]

/-- A heartbeat before its time is noted. -/
def State.beatMark (s : State) : State :=
  ((s.addMod BELFRY_COUNT BELFRY_COUNT.count 1).setBit SCU_WDT_STATUS SCU_WDT_STATUS.armed true).setFld SCU_WDT_STATUS
    SCU_WDT_STATUS.since_write_ms 0

theorem State.beat_eq (s : State) :
    s.beat = { s.beatMark with wdt := { s.beatMark.wdt with lastWrite := s.beatMark.tb } } := rfl

theorem State.regsBut_beatMark (s : State) : s.regsBut s.beatMark beatRegs :=
  (((State.regsBut_refl s _).addMod (by simp [beatRegs]) _ _).setBit (by simp [beatRegs]) _ _).setFld (by simp [beatRegs]) _ _

theorem State.beatMark_count (s : State) : s.beatMark.fld BELFRY_COUNT BELFRY_COUNT.count =
    (s.fld BELFRY_COUNT BELFRY_COUNT.count + 1) % 2 ^ BELFRY_COUNT.count.width := by
  rw [State.beatMark, State.fld_setFld_ne (by decide), State.fld_setBit_ne (by decide), State.addMod, State.fld_setFld_self (by decide)]

theorem State.beatMark_armed (s : State) : s.beatMark.bit SCU_WDT_STATUS SCU_WDT_STATUS.armed = true := by
  rw [State.beatMark, State.bit_setFld_beside (by decide) (by decide) (by decide), State.bit_setBit_self (by decide) rfl]

/-- What a heartbeat writes: the count, modulo its width, and the watchdog's status and time. -/
theorem State.beat_effect (s : State) :
    s.beat.fld BELFRY_COUNT BELFRY_COUNT.count = (s.fld BELFRY_COUNT BELFRY_COUNT.count + 1) % 2 ^ BELFRY_COUNT.count.width ∧
      s.beat.bit SCU_WDT_STATUS SCU_WDT_STATUS.armed = true ∧ s.beat.wdt.lastWrite = s.tb ∧ s.sameMem s.beat ∧
      s.regsBut s.beat beatRegs := by
  rw [State.beat_eq, State.fld_upd, State.bit_upd, State.lastWrite_stamp, State.sameMem_upd]
  refine ⟨s.beatMark_count, s.beatMark_armed, s.regsBut_beatMark.fld_eq (by decide) _, s.sameMem_refl, ?_⟩
  exact s.regsBut_beatMark

theorem State.wdtFired_stub (s : State) : s.wdtFired.bit SCU_WDT_STATUS SCU_WDT_STATUS.stub_active = true := by
  rw [State.wdtFired, State.bit_upd, State.bit_setBit_self (by decide) rfl]

theorem State.wdtFired_firedAt (s : State) : s.wdtFired.wdt.firedAt = s.tb := by
  rw [State.wdtFired, State.firedAt_stamp, State.tb, State.fld_setBit_ne (by decide), State.fld_setFld_ne (by decide),
    State.fld_addSat_ne (by decide), State.fld_setBit_ne (by decide), State.tb]

theorem State.exec_watchdogFire_eq (harmed : s.bit SCU_WDT_STATUS SCU_WDT_STATUS.armed = true) (hup : s.fwUp = true)
    (hclock : s.clocked = true) (htime : s.wdt.lastWrite + 2000000 ≤ s.tb) (sections : Fin 8) (excerpts : BitVec 16) :
    exec (.watchdogFire sections excerpts) s = .next (s.wdtFired.writeSheet 2 sections.val excerpts.toNat) :=
  congrArg Host.Outcome.next (if_pos (by simp [harmed, hup, hclock, htime]))

/-- Settles O49: a module reset clears all but the always-on domain whatever has brought it about, a compute reset's end reports
after step 0 is written, and the watchdog's sheet leaves its status register alone. -/
theorem resets : Obligations.Resets := by
  unfold Obligations.Resets
  intro s tiles ports sections excerpts
  have hidle : s.inReset = false → exec (.computeReset tiles ports) s = .next s ∧ exec .moduleReset s = .next s := fun h =>
    ⟨congrArg Host.Outcome.next (if_pos (by simp [h])), congrArg Host.Outcome.next (if_neg (by simp [h]))⟩
  refine ⟨hidle, fun h => ?_, fun c h => State.restarts h, ?_, fun h => ?_, fun harmed hup hclock htime => ?_, fun h => ?_,
    fun hstub hsheet => ⟨fun hcopy => ?_, fun hcopy => ?_⟩, fun h => ?_, fun hup hclock => ?_, fun h => ?_⟩
  · exact ⟨_, s.resetEnded_inReset tiles ports, State.waiting_resetReport _ _, State.execComputeReset_eq h tiles ports⟩
  · rfl
  · exact congrArg Host.Outcome.next (if_neg (by simp [h]))
  · have hsheet := s.wdtFired.sheetOnly_writeSheet 2 sections.val excerpts.toNat
    refine ⟨_, State.exec_watchdogFire_eq harmed hup hclock htime sections excerpts, ?_, ?_, ?_⟩
    · rw [hsheet.2.bit_eq (by decide)]
      exact s.wdtFired_fired
    · rw [hsheet.2.bit_eq (by decide)]
      exact s.wdtFired_stub
    · exact (congrArg Wdt.firedAt (State.wdt_eq hsheet.1)).trans s.wdtFired_firedAt
  · exact congrArg Host.Outcome.next (if_neg (by simp [Nat.not_le.2 h]))
  · have hexec : exec .warmRestart s = .next (s.setBit SEC_FAULT SEC_FAULT.fw_copy_mismatch true) :=
      congrArg Host.Outcome.next ((if_neg (by simp [hstub, hsheet])).trans (if_pos hcopy))
    exact ⟨_, hexec, State.bit_setBit_self (by decide) rfl, s.onlyRegs_setBit _ _ _⟩
  · rw [exec_warmRestart, execWarmRestart, if_neg (by simp [hstub, hsheet]), if_neg (not_not_intro hcopy)]
    have hnow : (s.setBit SCU_WDT_STATUS SCU_WDT_STATUS.stub_active false).tb = s.tb := State.fld_setBit_ne (by decide)
    dsimp only
    rw [hnow]
    rfl
  · exact ⟨congrArg Host.Outcome.next (if_pos (by simp [h])), congrArg Host.Outcome.next (if_neg (by simp [h]))⟩
  · exact ⟨_, congrArg Host.Outcome.next (if_pos (by simp [hup, hclock])), s.beat_effect⟩
  · exact congrArg Host.Outcome.next (if_neg (by simp [h]))

end Sys2Proof.Machine
end

section
/-! Boot (R428 to R435): what firmware's initialisation leaves of a register, and the boot ROM's ends. -/
namespace Sys2Proof.Machine

variable {s t u : State} {a : Nat}

/-! ## One register and a held stop through firmware's initialisation -/

/-- The register at `a` and whether an emergency stop is held are the same in both states. -/
def State.keepsAt (a : Nat) (s t : State) : Prop := t.reg a = s.reg a ∧ t.sb.estopHeld = s.sb.estopHeld

theorem State.keepsAt_refl (a : Nat) (s : State) : State.keepsAt a s s := ⟨rfl, rfl⟩

theorem State.keepsAt.trans (h : State.keepsAt a s t) (h' : State.keepsAt a t u) : State.keepsAt a s u :=
  ⟨h'.1.trans h.1, h'.2.trans h.2⟩

theorem State.keepsAt.setReg (h : State.keepsAt a s t) {b : Nat} (hne : a ≠ b) (v : Word) : State.keepsAt a s (t.setReg b v) :=
  ⟨(State.reg_setReg_ne hne).trans h.1, h.2⟩

theorem State.keepsAt.setFld (h : State.keepsAt a s t) {b : Nat} (hne : a ≠ b) (f : Field) (v : Nat) :
    State.keepsAt a s (t.setFld b f v) := h.setReg hne _

theorem State.keepsAt.setBit (h : State.keepsAt a s t) {b : Nat} (hne : a ≠ b) (f : Field) (v : Bool) :
    State.keepsAt a s (t.setBit b f v) := h.setReg hne _

theorem State.keepsAt_foldl {α : Type} {f : State → α → State} {l : List α} (hf : ∀ x ∈ l, ∀ t, State.keepsAt a t (f t x))
    (s : State) : State.keepsAt a s (l.foldl f s) := by
  induction l generalizing s with
  | nil => exact State.keepsAt_refl a s
  | cons x l ih =>
    exact (hf x (List.mem_cons_self ..) s).trans (ih (fun y hy => hf y (List.mem_cons_of_mem _ hy)) _)

theorem State.keepsAt_of_work (hwork : t.work = s.work) (hreg : t.reg a = s.reg a) : State.keepsAt a s t :=
  ⟨hreg, congrArg Sideband.estopHeld (State.sb_eq hwork)⟩

theorem State.keepsAt.event (h : State.keepsAt a s t) (ha : a ∉ eventRegs) (typ ctx : Nat) (data : List Byte) :
    State.keepsAt a s (t.event typ ctx data) :=
  h.trans (State.keepsAt_of_work State.work_event (t.regsBut_event typ ctx data a ha))

theorem State.keepsAt.setDigestRegs (h : State.keepsAt a s t) {b : Nat → Nat} (hne : ∀ i < 4, a ≠ b i) (l : List Byte) :
    State.keepsAt a s (t.setDigestRegs b l) :=
  h.trans (State.keepsAt_foldl (fun i hi t => (State.keepsAt_refl a t).setReg (hne i (List.mem_range.1 hi)) _) t)

theorem State.keepsAt.powerView (h : State.keepsAt a s t) (hctx : ∀ c < 16, a ≠ PWR_CTX c) (hstatus : a ≠ PWR_STATUS) :
    State.keepsAt a s t.powerView :=
  (h.trans (State.keepsAt_foldl (fun c hc t => ((State.keepsAt_refl a t).setFld (hctx c (List.mem_range.1 hc)) _ _).setBit
    (hctx c (List.mem_range.1 hc)) _ _) t)).setFld hstatus _ _

/-! ## The escalation register through items 1 to 6 -/

/-- The register of the escalation is that of no health record. -/
theorem aonEsc_ne_tile (p : Nat) : SCU_AON_ESC ≠ HLTH_TILE p := by unfold SCU_AON_ESC HLTH_TILE; omega
theorem aonEsc_ne_port (p : Nat) : SCU_AON_ESC ≠ HLTH_PORT p := by unfold SCU_AON_ESC HLTH_PORT; omega
theorem aonEsc_ne_bridge (e : Nat) : SCU_AON_ESC ≠ HLTH_BRIDGE e := by unfold SCU_AON_ESC HLTH_BRIDGE; omega
theorem aonEsc_ne_remap (p q : Nat) : SCU_AON_ESC ≠ HLTH_REMAP p q := by unfold SCU_AON_ESC HLTH_REMAP; omega

theorem State.keepsAt_setHealth (s : State) (p : Nat) (f : Field) (v : Nat) :
    State.keepsAt SCU_AON_ESC s (s.setHealth p f v) :=
  (State.keepsAt_refl _ s).setFld (aonEsc_ne_tile p) f v

theorem State.keepsAt_remapView (s : State) (p bank : Nat) : State.keepsAt SCU_AON_ESC s (s.remapView p bank) :=
  ((State.keepsAt_refl _ s).setFld (aonEsc_ne_remap p _) _ _).trans (State.keepsAt_setHealth _ p _ _)

theorem State.keepsAt_recordFence (s : State) (p cause : Nat) (perm : Bool) :
    State.keepsAt SCU_AON_ESC s (s.recordFence p cause perm) := by
  have hrecord : State.keepsAt SCU_AON_ESC s
      (((s.setHealth p HLTH_TILE.state 3).setHealth p HLTH_TILE.cause cause).setHealth p HLTH_TILE.permanent (b2n perm)) :=
    ((s.keepsAt_setHealth p _ _).trans (State.keepsAt_setHealth _ p _ _)).trans (State.keepsAt_setHealth _ p _ _)
  exact ite_k (State.keepsAt SCU_AON_ESC s) hrecord hrecord

theorem State.keepsAt_passTile (s : State) (p : Nat) : State.keepsAt SCU_AON_ESC s (s.passTile p) :=
  (s.keepsAt_setHealth p _ _).trans (State.keepsAt_setHealth _ p _ _)

theorem State.keepsAt_firstTiles (s : State) : State.keepsAt SCU_AON_ESC s s.firstTiles := by
  unfold State.firstTiles
  dsimp only
  refine State.keepsAt.trans (State.keepsAt_foldl (fun e _ t => ?_) s) (State.keepsAt_foldl (fun p _ t => ?_) _)
  · exact t.keepsAt_remapView e.1 e.2
  split
  · exact ((t.keepsAt_setHealth p _ _).trans (State.keepsAt_setHealth _ p _ _)).trans (State.keepsAt_setHealth _ p _ _)
  · exact ite_k (State.keepsAt SCU_AON_ESC t) (t.keepsAt_recordFence p 0x0F false) (t.keepsAt_passTile p)

theorem State.keepsAt_portRecord (s : State) (p k cause : Nat) : State.keepsAt SCU_AON_ESC s (s.portRecord p k cause) := by
  unfold State.portRecord
  dsimp only
  have hport := (State.keepsAt_refl _ s).setFld (aonEsc_ne_port p) ⟨4 * k, 4⟩ (3 + cause * 4)
  split
  · exact hport.setFld (aonEsc_ne_bridge _) _ _
  · exact hport

theorem State.keepsAt_bistFailed (s : State) (tiles ports : Nat) : State.keepsAt SCU_AON_ESC s (s.bistFailed tiles ports) := by
  unfold State.bistFailed
  dsimp only
  refine State.keepsAt.trans ?_ (State.keepsAt_foldl (fun p _ t => ?_) _)
  · refine State.keepsAt_foldl (fun i _ t => ?_) s
    split
    · exact State.keepsAt_refl _ t
    · refine ite_k (State.keepsAt SCU_AON_ESC t) ?_ (t.keepsAt_portRecord _ _ _)
      exact (t.keepsAt_portRecord _ _ _).trans (State.keepsAt_portRecord _ _ _ _)
  · exact ite_k (State.keepsAt SCU_AON_ESC t) (t.keepsAt_recordFence p 0x06 true) (State.keepsAt_refl _ t)

theorem State.keepsAt_firstPorts (s : State) : State.keepsAt SCU_AON_ESC s s.firstPorts := by
  unfold State.firstPorts
  dsimp only
  refine State.keepsAt.trans (State.keepsAt.trans (State.keepsAt_foldl (fun p _ t => ?_) s)
    (State.keepsAt_foldl (fun e _ t => ?_) _)) (State.keepsAt_bistFailed _ _ _)
  · exact (State.keepsAt_refl _ t).setReg (aonEsc_ne_port p) _
  · exact (State.keepsAt_refl _ t).setFld (aonEsc_ne_bridge e) _ _

theorem State.keepsAt_summaryView (s : State) : State.keepsAt SCU_AON_ESC s s.summaryView :=
  (((((State.keepsAt_refl _ s).setFld (by decide) _ _).setFld (by decide) _ _).setFld (by decide) _ _).setFld (by decide) _ _).setFld
    (by decide) _ _

theorem State.sheetOnly_sheetPartial (s : State) : s.sheetOnly s.sheetPartial :=
  State.sheetOnly.view (ite_k s.sheetOnly (s.memOnly_setNum _ _ _).sheetOnly s.memOnly_refl.sheetOnly)

theorem State.keepsAt_firstMap (s : State) : State.keepsAt SCU_AON_ESC s s.firstMap := by
  have hpartial : ∀ t : State, State.keepsAt SCU_AON_ESC t t.sheetPartial := fun t =>
    State.keepsAt_of_work t.sheetOnly_sheetPartial.1 (t.sheetOnly_sheetPartial.2 SCU_AON_ESC (by decide))
  exact (((s.keepsAt_firstTiles.trans (State.keepsAt_firstPorts _)).trans (State.keepsAt_summaryView _)).setFld (by decide) _ _).trans
    (hpartial _)

/-! ## Tiles -/

theorem State.keepsAt_onAlternate (s : State) {p : Nat} (_ : p < 256) : State.keepsAt SCU_AON_ESC s (s.onAlternate p) := by
  refine State.keepsAt_foldl (fun i hi t => ?_) s
  have hi := List.mem_range.1 hi
  have hne : SCU_AON_ESC ≠ RT_ENTRY p i := by unfold SCU_AON_ESC RT_ENTRY; omega
  exact ite_k (State.keepsAt SCU_AON_ESC t) ((State.keepsAt_refl _ t).setBit hne _ _) (State.keepsAt_refl _ t)

theorem State.keepsAt_setFence (s : State) {p k : Nat} (hp : p < 256) (_ : k < 8) (b : Bool) :
    State.keepsAt SCU_AON_ESC s (s.setFence p k b) := by
  have hstatus : SCU_AON_ESC ≠ RT_STATUS p := by unfold SCU_AON_ESC RT_STATUS; omega
  have hlink : SCU_AON_ESC ≠ RT_LINK_ERR p k := by unfold SCU_AON_ESC RT_LINK_ERR; omega
  have hdnc : SCU_AON_ESC ≠ RT_DNC_ERR p (k - 4) := by unfold SCU_AON_ESC RT_DNC_ERR; omega
  refine ite_k (State.keepsAt SCU_AON_ESC s) ?_ ?_
  · exact (((State.keepsAt_refl _ s).setFld hstatus _ _).setFld hlink _ _).trans (State.keepsAt_onAlternate _ hp)
  · exact ((State.keepsAt_refl _ s).setFld hstatus _ _).setFld hdnc _ _

theorem State.keepsAt_lanesView (s : State) {p : Nat} (hp : p < 256) : State.keepsAt SCU_AON_ESC s (s.lanesView p) := by
  have hlane : SCU_AON_ESC ≠ VSP_LANE_DISABLE p := by unfold SCU_AON_ESC VSP_LANE_DISABLE; omega
  have hstatus : SCU_AON_ESC ≠ VSP_STATUS p := by unfold SCU_AON_ESC VSP_STATUS; omega
  exact ite_k (State.keepsAt SCU_AON_ESC s) (State.keepsAt_refl _ s)
    ((((State.keepsAt_refl _ s).setFld hlane _ _).setFld hstatus _ _).setBit hstatus _ _)

theorem State.keepsAt_refence (s : State) : State.keepsAt SCU_AON_ESC s s.refence := by
  refine State.keepsAt_foldl (fun p hp t => ?_) s
  have hp := List.mem_range.1 hp
  have hfence : SCU_AON_ESC ≠ TILE_FENCE p := by unfold SCU_AON_ESC TILE_FENCE; omega
  have hstatus : SCU_AON_ESC ≠ RT_STATUS p := by unfold SCU_AON_ESC RT_STATUS; omega
  dsimp only
  have hports := State.keepsAt_foldl (a := SCU_AON_ESC) (l := List.range 8)
    (f := fun s k => if s.portHealth p k = 3 then s.setFence p k true else s)
    (fun k hk t => ite_k (State.keepsAt SCU_AON_ESC t) (t.keepsAt_setFence hp (List.mem_range.1 hk) true) (State.keepsAt_refl _ t)) t
  have hlanes := hports.trans (State.keepsAt_lanesView _ hp)
  exact ite_k (State.keepsAt SCU_AON_ESC t) (((hlanes.setBit hfence _ _).setFld hfence _ _).setBit hstatus _ _) hlanes

theorem State.keepsAt_initTiles (s : State) : State.keepsAt SCU_AON_ESC s s.initTiles := by
  refine s.keepsAt_refence.trans (State.keepsAt_foldl (fun p hp t => ?_) _)
  have hp := List.mem_range.1 hp
  have hcrc : SCU_AON_ESC ≠ TILE_CFG_CRC p := by unfold SCU_AON_ESC TILE_CFG_CRC; omega
  refine ite_k (State.keepsAt SCU_AON_ESC t) (State.keepsAt_refl _ t) ?_
  have hdraw : ∀ (s : State) (w : Nat), State.keepsAt SCU_AON_ESC s (s.draw w).2 := fun _ _ => ⟨rfl, rfl⟩
  refine ((State.keepsAt_foldl (fun k hk t => ?_) t).trans (hdraw _ _)).setFld hcrc _ _
  have hk := List.mem_range.1 hk
  have htree : SCU_AON_ESC ≠ RT_MCAST p k := by unfold SCU_AON_ESC RT_MCAST; omega
  exact (hdraw t 5).setReg htree _

/-! ## The rest of firmware's initialisation -/

theorem State.keepsAt_store (a : Nat) (s : State) (x : Store) : State.keepsAt a s { s with store := x } := ⟨rfl, rfl⟩

theorem State.keepsAt_secView (s : State) : State.keepsAt SCU_AON_ESC s s.secView := by
  have hids : ∀ k < 16, ∀ i < 4, SCU_AON_ESC ≠ SEC_ENROLL k i := fun k _ i _ => by unfold SCU_AON_ESC SEC_ENROLL; omega
  have hmeas : ∀ i < 4, SCU_AON_ESC ≠ SEC_CFG_MEAS i := fun i _ => by unfold SCU_AON_ESC SEC_CFG_MEAS; omega
  unfold State.secView
  dsimp only
  refine State.keepsAt.setDigestRegs (State.keepsAt.trans ((State.keepsAt_refl _ s).setFld (by decide) _ _)
    (State.keepsAt_foldl (fun k hk t => ?_) _)) hmeas _
  exact (State.keepsAt_refl _ t).setDigestRegs (hids k (List.mem_range.1 hk)) _

theorem State.keepsAt_commitSvn (s : State) (ok : Bool) : State.keepsAt SCU_AON_ESC s (s.commitSvn ok) := by
  unfold State.commitSvn
  split
  · exact State.keepsAt_refl _ s
  · refine ite_k (State.keepsAt SCU_AON_ESC s) ?_ ((State.keepsAt_refl _ s).setBit (by decide) _ _)
    exact (((State.keepsAt_store _ s _).setFld (by decide) _ _).setBit (by decide) _ _).trans (State.keepsAt_secView _)

theorem State.keepsAt_openAs (s : State) {r : Nat} (b n : Nat) (rd wr coh : Bool) :
    State.keepsAt SCU_AON_ESC s (s.openAs r b n rd wr coh) := by
  have hbase : SCU_AON_ESC ≠ TL_OPEN_BASE r := by unfold SCU_AON_ESC TL_OPEN_BASE; omega
  have hlimit : SCU_AON_ESC ≠ TL_OPEN_LIMIT r := by unfold SCU_AON_ESC TL_OPEN_LIMIT; omega
  exact ((((((State.keepsAt_refl _ s).setFld hbase _ _).setFld hlimit _ _).setBit hlimit _ _).setBit hlimit _ _).setBit hlimit
    _ _).setBit hlimit _ _

theorem State.keepsAt_boot (a : Nat) (s : State) (x : Boot) : State.keepsAt a s { s with boot := x } := ⟨rfl, rfl⟩

theorem State.keepsAt.drdy (h : State.keepsAt a s t) (hne : a ≠ TL_DRDY) : State.keepsAt a s t.drdy :=
  ((h.setFld hne _ _).setFld hne _ _).setBit hne _ _

theorem State.keepsAt_openWindows (s : State) : State.keepsAt SCU_AON_ESC s s.openWindows := by
  unfold State.openWindows
  dsimp only
  refine State.keepsAt.trans (State.keepsAt.drdy (State.keepsAt.trans (State.keepsAt.trans ?_ (State.keepsAt_openAs _ _ _ _ _ _))
    (State.keepsAt_openAs _ _ _ _ _ _)) (by decide)) (State.keepsAt_boot _ _ _)
  exact ⟨rfl, rfl⟩

end Sys2Proof.Machine
end

section
/-! Boot (R428 to R438): stages, the mailbox, firmware's last item, and the input supply. -/
namespace Sys2Proof.Machine

variable {s t u : State} {a : Nat}

/-! ## Stages -/

theorem State.regs_setStage (s : State) (n : Nat) :
    (s.setStage n).regs = (s.setFld SCU_BOOT_STATUS SCU_BOOT_STATUS.stage n).regs := by
  have hline : (s.stageLine n).regs = (s.setFld SCU_BOOT_STATUS SCU_BOOT_STATUS.stage n).regs :=
    ite_k (fun (t : State) => t.regs = (s.setFld SCU_BOOT_STATUS SCU_BOOT_STATUS.stage n).regs) State.regs_put rfl
  rw [State.setStage_eq]
  exact ite_k (fun (t : State) => t.regs = (s.setFld SCU_BOOT_STATUS SCU_BOOT_STATUS.stage n).regs) hline hline

theorem State.fld_setStage (s : State) (n b : Nat) (f : Field) :
    (s.setStage n).fld b f = (s.setFld SCU_BOOT_STATUS SCU_BOOT_STATUS.stage n).fld b f := by
  rw [State.fld, State.fld, State.reg, State.reg, State.regs_setStage]

/-- The boot is in the stage that it enters. -/
theorem State.stage_setStage (s : State) {n : Nat} (hn : n < 256) : (s.setStage n).stage = n := by
  rw [State.stage, State.fld_setStage, State.fld_setFld_lt (by decide) hn]

theorem State.work_setStage_of (s : State) (n : Nat) :
    (s.setStage n).boot.mailbox = s.boot.mailbox ∧ (s.setStage n).sb.estopHeld = s.sb.estopHeld := by
  have hline : (s.stageLine n).work = (s.stageMark n).work :=
    ite_k (fun (t : State) => t.work = (s.stageMark n).work) State.work_put rfl
  have hboth : (s.stageLine n).boot.mailbox = s.boot.mailbox ∧ (s.stageLine n).sb.estopHeld = s.sb.estopHeld :=
    ⟨(congrArg Boot.mailbox (State.boot_eq hline)).trans rfl, (congrArg Sideband.estopHeld (State.sb_eq hline)).trans rfl⟩
  rw [State.setStage_eq]
  exact ite_k (fun (t : State) => t.boot.mailbox = s.boot.mailbox ∧ t.sb.estopHeld = s.sb.estopHeld) hboth hboth

theorem State.keepsAt.setStage (h : State.keepsAt a s t) (hne : a ≠ SCU_BOOT_STATUS) (n : Nat) :
    State.keepsAt a s (t.setStage n) :=
  h.trans ⟨t.regsBut_setStage n a (by simp [hne]), (t.work_setStage_of n).2⟩

/-- A boot that halts: the stage, its code, and SB_ALERT_N. -/
theorem State.bootHalt_effect (s : State) {code : Nat} (hcode : code < 256) :
    (s.bootHalt code).stage = 0x0F ∧ (s.bootHalt code).fld SCU_BOOT_STATUS SCU_BOOT_STATUS.fail = code ∧
      (s.bootHalt code).sb.alert = true := by
  refine ⟨State.stage_setStage _ (by decide), ?_, ?_⟩
  · rw [State.bootHalt, State.fld_setStage, State.fld_setFld_beside (by decide) (by decide) (by decide),
      State.fld_setFld_lt (by decide) hcode]
  · rw [State.bootHalt, State.setStage_eq]
    rfl

theorem State.refuseImage_effect (s : State) {code : Nat} (hcode : code < 256) :
    (s.refuseImage code).stage = 6 ∧ (s.refuseImage code).boot.mailbox = 1 ∧
      (s.refuseImage code).fld SCU_BOOT_STATUS SCU_BOOT_STATUS.fail = code := by
  refine ⟨State.stage_setStage _ (by decide), (State.work_setStage_of _ 6).1, ?_⟩
  rw [State.refuseImage, State.fld_setStage, State.fld_setFld_beside (by decide) (by decide) (by decide), State.fld_upd,
    State.fld_setFld_lt (by decide) hcode]

/-! ## The last items of firmware's initialisation (R434, R435) -/

/-- The registers that the end of the boot writes once the stage is entered. -/
def readyRegs : List Nat := [HLTH_OLDEST, BELFRY_COUNT, SCU_WDT_STATUS, SCU_EVT_LOST, TL_DRDY, SCU_RESET_STATUS, HLTH_LOUPE_STATUS]

theorem State.keepsAt_oldestView (s : State) (ha : a ∉ readyRegs) : State.keepsAt a s s.oldestView := by
  have hne : a ≠ HLTH_OLDEST := fun h => ha (by simp [readyRegs, h])
  unfold State.oldestView
  split
  · exact (State.keepsAt_refl a s).setReg hne _
  · exact ((State.keepsAt_refl a s).setFld hne _ _).setFld hne _ _

theorem State.keepsAt_beat (s : State) (ha : a ∉ readyRegs) : State.keepsAt a s s.beat :=
  ⟨s.regsBut_beatMark a (fun h => ha (by simp [beatRegs, readyRegs] at h ⊢; tauto)), rfl⟩

/-- What firmware posts once the stage is entered: READY, OUT_OF_SERVICE where it is, RESET after a module reset. -/
def State.readyPosts (s : State) (oos : Bool) : State :=
  let s := s.oldestView.beat
  let g := fun f => s.fld SCU_CMD_VERSION f
  let s := s.event 0x0001 0xFF (fieldsFrom 0 [(1, g SCU_CMD_VERSION.minor), (1, g SCU_CMD_VERSION.major),
    (4, g SCU_CMD_VERSION.fw_version), (4, s.fld HLTH_ID HLTH_ID.generation)])
  let n := s.fld SCU_RESET_STATUS SCU_RESET_STATUS.compute_resets
  let s := if oos then
      s.event 0x0013 0xFF (fieldsFrom 0 [(4, s.fld SCU_AON_ESC SCU_AON_ESC.module_resets), (4, n)])
    else s
  match s.boot.cause with
  | none => s
  | some c =>
    let s := (s.setFld SCU_RESET_STATUS SCU_RESET_STATUS.last_cause c).setBit SCU_RESET_STATUS SCU_RESET_STATUS.last_module true
    let s := { s with boot := { s.boot with cause := none } }
    s.event 0x0011 0xFF (fieldsFrom 0 [(1, c + 0x80), (4, n)])

/-- The state that the stage is entered in, once the boot is done. -/
def State.readyStage (s : State) : State :=
  (s.setFld SCU_BOOT_READY SCU_BOOT_READY.tb_count s.tb).setStage
    (if s.bit SCU_AON_ESC SCU_AON_ESC.out_of_service then 0x0A else 0x09)

theorem State.postReady_eq (s : State) :
    s.postReady = s.readyStage.readyPosts (s.bit SCU_AON_ESC SCU_AON_ESC.out_of_service) := rfl

theorem State.keepsAt_readyPosts (s : State) (oos : Bool) (ha : a ∉ readyRegs) : State.keepsAt a s (s.readyPosts oos) := by
  have hevents : a ∉ eventRegs := fun h => ha (by simp [eventRegs, readyRegs] at h ⊢; tauto)
  have hreset : a ≠ SCU_RESET_STATUS := fun h => ha (by simp [readyRegs, h])
  have hready := ((s.keepsAt_oldestView ha).trans (State.keepsAt_beat _ ha)).event hevents 0x0001 0xFF
  unfold State.readyPosts
  dsimp only
  have hservice : ∀ d d', State.keepsAt a s (if oos then (s.oldestView.beat.event 0x0001 0xFF d).event 0x0013 0xFF d'
      else s.oldestView.beat.event 0x0001 0xFF d) := fun d d' =>
    ite_k (State.keepsAt a s) ((hready d).event hevents 0x0013 0xFF d') (hready d)
  split
  · exact hservice _ _
  · exact ((((hservice _ _).setFld hreset _ _).setBit hreset _ _).trans (State.keepsAt_boot a _ _)).event hevents _ _ _

theorem State.keepsAt_queueRetest (s : State) (p : Nat) (ha : a ∉ readyRegs) : State.keepsAt a s (s.queueRetest p) := by
  have hne : a ≠ HLTH_LOUPE_STATUS := fun h => ha (by simp [readyRegs, h])
  have hqueue : ∀ x : Health, State.keepsAt a s { s with health := x } := fun _ => ⟨rfl, rfl⟩
  exact ite_k (State.keepsAt a s) ((((hqueue _).setFld hne _ _).setFld hne _ _).setBit hne _ _) (State.keepsAt_refl a s)

/-- Firmware's initialisation before P_base is measured. -/
def State.fwItems (s : State) (ok : Bool) : State :=
  let s := (s.setDigestRegs SEC_FW_MEAS (sha256 s.fwCopy)).setDigestRegs SEC_ID_KEY (sha256 identityPublic)
  let s := s.firstMap.initTiles
  let oos := s.bit SCU_AON_ESC SCU_AON_ESC.out_of_service
  let s := (s.setBit SCU_RESET_STATUS SCU_RESET_STATUS.out_of_service oos).setBit SCU_CMD_STATUS SCU_CMD_STATUS.out_of_service oos
  let s := (s.commitSvn ok).openWindows
  s.setFld SCU_CMD_VERSION SCU_CMD_VERSION.fw_version s.boot.version

theorem State.keepsAt_fwItems (s : State) (ok : Bool) : State.keepsAt SCU_AON_ESC s (s.fwItems ok) := by
  have hmeas : ∀ i < 4, SCU_AON_ESC ≠ SEC_FW_MEAS i := fun i _ => by unfold SCU_AON_ESC SEC_FW_MEAS; omega
  have hkey : ∀ i < 4, SCU_AON_ESC ≠ SEC_ID_KEY i := fun i _ => by unfold SCU_AON_ESC SEC_ID_KEY; omega
  unfold State.fwItems
  dsimp only
  refine State.keepsAt.setFld (State.keepsAt.trans (State.keepsAt.trans (State.keepsAt.setBit (State.keepsAt.setBit
    (State.keepsAt.trans (State.keepsAt.trans ?_ (State.keepsAt_firstMap _)) (State.keepsAt_initTiles _)) (by decide) _ _)
    (by decide) _ _) (State.keepsAt_commitSvn _ ok)) (State.keepsAt_openWindows _)) (by decide) _ _
  exact ((State.keepsAt_refl _ s).setDigestRegs hmeas _).setDigestRegs hkey _

/-- P_base is measured. -/
def State.fwPower (s : State) (w : Nat) : State := (s.setFld PWR_BASE PWR_BASE.base_w w).powerView

/-- Every tile's retest is queued where it has one. -/
def State.queueRetests (s : State) : State := (List.range 256).foldl (fun s p => s.queueRetest p) s

theorem State.execFwInit_eq (h : s.stage = 8) (w : BitVec 12) (ok : Bool) :
    exec (.fwInit w ok) s =
      (let t := ((s.fwItems ok).fwPower w.toNat).postReady.queueRetests
       .next (if t.sb.estopHeld then t.alert.estopHeldActs else t)) := by
  rw [exec_fwInit, execFwInit, if_neg (not_not_intro h)]
  dsimp only [State.fwItems, State.fwPower, State.queueRetests]

/-- Firmware's initialisation ends in the stage of its service and with its base power. -/
theorem State.fwInit_effect (h : s.stage = 8) (hstop : s.sb.estopHeld = false) (w : BitVec 12) (ok : Bool) :
    ∃ t, exec (.fwInit w ok) s = .next t ∧
      t.stage = (if s.bit SCU_AON_ESC SCU_AON_ESC.out_of_service then 0x0A else 0x09) ∧
      t.fld PWR_BASE PWR_BASE.base_w = w.toNat := by
  have hctx : ∀ b, (b = SCU_AON_ESC ∨ b = PWR_BASE) → ∀ c < 16, b ≠ PWR_CTX c := fun b hb c _ => by
    obtain rfl | rfl := hb
    · unfold SCU_AON_ESC PWR_CTX; omega
    · unfold PWR_BASE PWR_CTX; omega
  have hpower : State.keepsAt SCU_AON_ESC s ((s.fwItems ok).fwPower w.toNat) :=
    ((s.keepsAt_fwItems ok).setFld (by decide) _ _).powerView (hctx _ (.inl rfl)) (by decide)
  have hbase : ((s.fwItems ok).fwPower w.toNat).fld PWR_BASE PWR_BASE.base_w = w.toNat := by
    rw [State.fwPower, State.fld, ((State.keepsAt_refl PWR_BASE _).powerView (hctx _ (.inr rfl)) (by decide)).1]
    exact State.fld_setFld_lt (by decide) w.isLt
  have hexec := State.execFwInit_eq h w ok
  generalize (s.fwItems ok).fwPower w.toNat = p at hpower hbase hexec
  have hqueue : ∀ b, b ∉ readyRegs → State.keepsAt b p.readyStage p.postReady.queueRetests := fun b hb => by
    rw [State.postReady_eq]
    exact (State.keepsAt_readyPosts _ _ hb).trans (State.keepsAt_foldl (fun q _ t => t.keepsAt_queueRetest q hb) _)
  have hready : State.keepsAt PWR_BASE p p.readyStage :=
    ((State.keepsAt_refl _ p).setFld (by decide) _ _).setStage (by decide) _
  have hstage : p.readyStage.stage = if s.bit SCU_AON_ESC SCU_AON_ESC.out_of_service then 0x0A else 0x09 := by
    have hoos : p.bit SCU_AON_ESC SCU_AON_ESC.out_of_service = s.bit SCU_AON_ESC SCU_AON_ESC.out_of_service := by
      rw [State.bit, State.fld, hpower.1, State.bit, State.fld]
    rw [State.readyStage, hoos]
    exact State.stage_setStage _ (by split <;> decide)
  have hheld : p.postReady.queueRetests.sb.estopHeld = false :=
    (hqueue PWR_BASE (by decide)).2.trans (hready.2.trans (hpower.2.trans hstop))
  refine ⟨_, hexec.trans (congrArg Host.Outcome.next (if_neg (by simp [hheld]))), ?_, ?_⟩
  · rw [State.stage, State.fld, (hqueue SCU_BOOT_STATUS (by decide)).1]
    exact hstage
  · rw [State.fld, (hqueue PWR_BASE (by decide)).1, hready.1]
    exact hbase

/-! ## The input supply (R438, R455) -/

/-- The voltages and the current as the input shows them. -/
theorem State.readInput_effect (s : State) {a b iin : Nat} (hv : min a b < 65536) (hiin : iin < 65536) :
    let t := s.readInput a b iin
    t.fld PWR_INPUT PWR_INPUT.vin_mv = min a b ∧ t.fld PWR_INPUT PWR_INPUT.iin_10ma = iin ∧
      t.bit PWR_INPUT PWR_INPUT.uv_warn = decide (min a b < 40000) ∧ t.bit PWR_INPUT PWR_INPUT.ov_warn = decide (52000 < min a b) := by
  dsimp only
  refine ⟨?_, ?_, ?_, ?_⟩
  · rw [State.readInput, State.fld_setBit_beside (by decide) (by decide) (by decide),
      State.fld_setBit_beside (by decide) (by decide) (by decide), State.fld_setFld_beside (by decide) (by decide) (by decide),
      State.fld_setFld_lt (by decide) hv]
  · rw [State.readInput, State.fld_setBit_beside (by decide) (by decide) (by decide),
      State.fld_setBit_beside (by decide) (by decide) (by decide), State.fld_setFld_lt (by decide) hiin]
  · rw [State.readInput, State.bit_setBit_beside (by decide) (by decide) (by decide), State.bit_setBit_self (by decide) rfl]
  · rw [State.readInput, State.bit_setBit_self (by decide) rfl]

theorem State.regsBut_readInput (s : State) (a b iin : Nat) : s.regsBut (s.readInput a b iin) [PWR_INPUT] := by
  have hin := List.mem_singleton_self PWR_INPUT
  have hpower : ∀ x : Power, s.regsBut { s with power := x } [PWR_INPUT] := fun _ _ _ => rfl
  exact ((((hpower _).setFld hin _ _).setFld hin _ _).setBit hin _ _).setBit hin _ _

/-- The module is powered. -/
def State.railsOn (s : State) : State := { s with boot := { s.boot with powered := true } }

/-- A cold boot's mark, and the timebase where it starts. -/
def State.coldMark (s : State) : State :=
  (s.railsOn.setBit SCU_BOOT_STATUS SCU_BOOT_STATUS.cold true).setFld TB_COUNT TB_COUNT.count s.railsOn.startTb

/-- The rails are up, before the input is read. -/
def State.railsUp (s : State) : State := { s.coldMark with boot := { s.coldMark.boot with tbStage := s.coldMark.tb } }

theorem State.regsBut_coldMark (s : State) : s.regsBut s.coldMark [SCU_BOOT_STATUS, TB_COUNT, PWR_INPUT] := by
  have hon : s.regsBut s.railsOn [SCU_BOOT_STATUS, TB_COUNT, PWR_INPUT] := fun _ _ => rfl
  exact (hon.setBit (by simp) _ _).setFld (by simp) _ _

theorem State.regsBut_railsUp (s : State) : s.regsBut s.railsUp [SCU_BOOT_STATUS, TB_COUNT, PWR_INPUT] :=
  s.regsBut_coldMark.of_regs_eq rfl

theorem State.railsUp_cold (s : State) : s.railsUp.bit SCU_BOOT_STATUS SCU_BOOT_STATUS.cold = true := by
  rw [State.railsUp, State.bit_upd, State.coldMark, State.bit_setFld_ne (by decide), State.bit_setBit_self (by decide) rfl]

@[simp] theorem State.sameMem_readInput {a b iin : Nat} : s.sameMem (t.readInput a b iin) ↔ s.sameMem t := Iff.rfl

theorem State.boot_readInput (s : State) (a b iin : Nat) : (s.readInput a b iin).boot = s.boot := rfl

theorem State.powerOn_eq (hoff : s.boot.powered = false) (x y : BitVec 16) (hrange : inOperating (min x.toNat y.toNat) = true) :
    exec (.powerOn x y) s = .next (s.railsUp.readInput x.toNat y.toNat 0) := by
  rw [exec_powerOn, execPowerOn, if_neg (by simp [hoff]), if_pos hrange]
  dsimp only [State.railsUp, State.coldMark, State.railsOn]

theorem State.powerOn_effect (hoff : s.boot.powered = false) (x y : BitVec 16) (hmin : 40000 ≤ min x.toNat y.toNat)
    (hmax : min x.toNat y.toNat ≤ 52000) :
    ∃ t, exec (.powerOn x y) s = .next t ∧ t.boot.powered = true ∧ t.bit SCU_BOOT_STATUS SCU_BOOT_STATUS.cold = true ∧
      t.fld PWR_INPUT PWR_INPUT.vin_mv = min x.toNat y.toNat ∧ s.sameMem t ∧ s.regsBut t [SCU_BOOT_STATUS, TB_COUNT, PWR_INPUT] := by
  have hrange : inOperating (min x.toNat y.toNat) = true := by
    rw [inOperating, Bool.and_eq_true, decide_eq_true_eq, decide_eq_true_eq]
    exact ⟨hmin, hmax⟩
  have hv : min x.toNat y.toNat < 65536 := lt_of_le_of_lt (Nat.min_le_left _ _) x.isLt
  have hread := s.railsUp.regsBut_readInput x.toNat y.toNat 0
  refine ⟨_, State.powerOn_eq hoff x y hrange, ?_, ?_, (State.readInput_effect _ hv (by decide)).1, ?_,
    s.regsBut_railsUp.trans (hread.mono (by simp))⟩
  · rw [State.boot_readInput]
    rfl
  · rw [hread.bit_eq (by decide)]
    exact s.railsUp_cold
  · rw [State.sameMem_readInput, State.railsUp, State.sameMem_upd, State.coldMark, State.sameMem_setFld, State.sameMem_setBit,
      State.railsOn, State.sameMem_upd]
    exact s.sameMem_refl

/-- Since when the input lies outside the shutdown range. -/
def State.inputSince (s : State) (v : Nat) : State :=
  let since := if decide (v < 38000) || decide (v > 56000) then some (s.power.badSince.getD s.tb) else none
  { s with power := { s.power with badSince := since } }

/-- A change of the warnings is reported. -/
def State.inputMark (s : State) (v : Nat) (was : Bool) : State :=
  let s := s.inputSince v
  if was != !inOperating v && s.fwUp && s.clocked then s.powerEvent 1 else s

/-- SB_ALERT_N goes low on entry to a range that is warned of. -/
def State.alertIf (s : State) (b : Bool) : State := if b then s.alert else s

theorem State.regs_alertIf (s : State) (b : Bool) : (s.alertIf b).regs = s.regs := by cases b <;> rfl
theorem State.power_alertIf (s : State) (b : Bool) : (s.alertIf b).power = s.power := by cases b <;> rfl

/-- Whether a measurement finds the input newly out of its operating range. -/
def State.entersWarn (s : State) (v : Nat) : Bool :=
  !inOperating v && !(s.bit PWR_INPUT PWR_INPUT.uv_warn || s.bit PWR_INPUT PWR_INPUT.ov_warn)

theorem State.inputRange_eq (hon : s.boot.powered = true) (x y iin : BitVec 16) :
    exec (.inputRange x y iin) s =
      (let v := min x.toNat y.toNat
       let was := s.bit PWR_INPUT PWR_INPUT.uv_warn || s.bit PWR_INPUT PWR_INPUT.ov_warn
       .next (((s.readInput x.toNat y.toNat iin.toNat).inputMark v was).alertIf (s.entersWarn v))) :=
  congrArg Host.Outcome.next (if_neg (by simp [hon]))

theorem State.inputSince_bad (s : State) (v : Nat) :
    (s.inputSince v).power.badSince.isSome = true ↔ v < 38000 ∨ 56000 < v := by
  unfold State.inputSince
  dsimp only
  split <;> simp_all

theorem State.inputMark_effect (s : State) (v : Nat) (was : Bool) :
    s.regsBut (s.inputMark v was) eventRegs ∧ (s.inputMark v was).work = (s.inputSince v).work := by
  unfold State.inputMark
  dsimp only
  have hsince : s.regsBut (s.inputSince v) eventRegs := fun _ _ => rfl
  split
  · exact ⟨hsince.trans (State.regsBut_event _ _ _ _), State.work_event⟩
  · exact ⟨hsince, rfl⟩

theorem State.inputRange_effect (hon : s.boot.powered = true) (x y iin : BitVec 16) :
    let v := min x.toNat y.toNat
    ∃ t, exec (.inputRange x y iin) s = .next t ∧ t.fld PWR_INPUT PWR_INPUT.vin_mv = v ∧
      t.fld PWR_INPUT PWR_INPUT.iin_10ma = iin.toNat ∧
      t.bit PWR_INPUT PWR_INPUT.uv_warn = decide (v < 40000) ∧ t.bit PWR_INPUT PWR_INPUT.ov_warn = decide (52000 < v) ∧
      (t.power.badSince.isSome = true ↔ v < 38000 ∨ 56000 < v) ∧
      ((v < 40000 ∨ 52000 < v) → s.bit PWR_INPUT PWR_INPUT.uv_warn = false → s.bit PWR_INPUT PWR_INPUT.ov_warn = false →
        t.sb.alert = true) := by
  intro v
  have hv : v < 65536 := lt_of_le_of_lt (Nat.min_le_left _ _) x.isLt
  obtain ⟨hvin, hiin, huv, hov⟩ := s.readInput_effect (a := x.toNat) (b := y.toNat) hv iin.isLt
  obtain ⟨hregs, hwork⟩ := (s.readInput x.toNat y.toNat iin.toNat).inputMark_effect v
    (s.bit PWR_INPUT PWR_INPUT.uv_warn || s.bit PWR_INPUT PWR_INPUT.ov_warn)
  have hreg := hregs.of_regs_eq (State.regs_alertIf _ (s.entersWarn v))
  refine ⟨_, State.inputRange_eq hon x y iin, ?_, ?_, ?_, ?_, ?_, fun hout hnuv hnov => ?_⟩
  · exact (hreg.fld_eq (by decide) _).trans hvin
  · exact (hreg.fld_eq (by decide) _).trans hiin
  · exact (hreg.bit_eq (by decide) _).trans huv
  · exact (hreg.bit_eq (by decide) _).trans hov
  · rw [State.power_alertIf, State.power_eq hwork]
    exact State.inputSince_bad _ v
  · have hwarn : s.entersWarn v = true := by
      rw [State.entersWarn, hnuv, hnov, inOperating]
      simp only [Bool.or_self, Bool.not_false, Bool.and_true, Bool.not_eq_true', Bool.and_eq_false_iff, decide_eq_false_iff_not]
      omega
    rw [hwarn]
    rfl

/-- Every rail is off. -/
def State.inputOff (s : State) : State :=
  { s with boot := { s.boot with powered := false }, power := { s.power with badSince := none } }

/-! ## The boot ROM and the mailbox (R429 to R433) -/

theorem State.bootSequence_eq (hon : s.boot.powered = true) (hheld : s.boot.resetHeld = false) (hstage : s.stage = 1)
    (hpower : s.fld PWR_STATUS PWR_STATUS.state ≠ 4) (x : BootRun) : exec (.bootSequence x) s = .next (s.bootRom x) :=
  congrArg Host.Outcome.next (if_pos (by simp [hon, hheld, hstage, hpower]))

/-- The request line is read and closed, before the image is checked. -/
def State.imageTaken (s : State) : State :=
  { s with boot := { s.boot with mailbox := 2, tag := s.num (requestLine + 8) 4 } }

/-- The image that the request line names, as the boot ROM reads it in stage 7. -/
def State.imageRead (s : State) : List Byte :=
  (s.imageTaken.setStage 7).bytes loadArea (min (s.num requestLine 8) loadBytes)

/-- What the check of the requested image finds. -/
def State.imageVerdict (s : State) : Option Nat :=
  (s.imageTaken.setStage 7).imageFault (s.num requestLine 8) s.imageRead

theorem State.imageFault_empty (s : State) (img : List Byte) : s.imageFault 0 img = some 9 := by
  rw [State.imageFault, if_pos (Or.inl rfl)]

theorem State.imageVerdict_empty (h : s.num requestLine 8 = 0) : s.imageVerdict = some 9 := by
  rw [State.imageVerdict, h]
  exact State.imageFault_empty _ _

theorem State.imageLoadRequest_refused (hstage : s.stage = 6) (hbox : s.boot.mailbox = 1)
    (hfired : s.tl.fired.contains requestLine = true) {code : Nat} (h : (s.unfire requestLine).imageVerdict = some code) :
    exec .imageLoadRequest s = .next (((s.unfire requestLine).imageTaken.setStage 7).refuseImage code) := by
  rw [exec_imageLoadRequest, execImageLoadRequest, if_pos ⟨hstage, hbox, hfired⟩]
  dsimp only [State.imageVerdict, State.imageRead, State.imageTaken] at h ⊢
  rw [h]

theorem State.imageLoadRequest_accepted (hstage : s.stage = 6) (hbox : s.boot.mailbox = 1)
    (hfired : s.tl.fired.contains requestLine = true) (h : (s.unfire requestLine).imageVerdict = none) :
    exec .imageLoadRequest s = .next (((s.unfire requestLine).imageTaken.setStage 7).acceptImage
      ((s.unfire requestLine).num requestLine 8) (s.unfire requestLine).imageRead) := by
  rw [exec_imageLoadRequest, execImageLoadRequest, if_pos ⟨hstage, hbox, hfired⟩]
  dsimp only [State.imageVerdict, State.imageRead, State.imageTaken] at h ⊢
  rw [h]

/-- Settles O50: the boot ROM's halt and the mailbox by what a stage writes, firmware's initialisation by the registers that none
of its items writes, and the input by what a measurement sets. -/
theorem bootAndInput : Obligations.BootAndInput := by
  unfold Obligations.BootAndInput
  intro s a b iin x w ok
  refine ⟨fun hoff => ⟨fun hmin hmax => ?_, fun hout => ?_, ?_, ?_, ?_⟩, fun hon => ⟨⟨?_, ?_⟩, ?_, fun since hsince => ⟨fun htime => ?_,
    fun htime => ?_⟩, fun hheld hstage hpower => ⟨?_, fun hpll => ?_⟩⟩, fun hstage hbox hfired => ⟨?_, fun hn => ?_⟩, fun hstage => ?_,
    fun hstage => ⟨fun hstop => ?_, fun htime => ?_⟩, fun hstage => ⟨?_, ?_⟩⟩
  · exact State.powerOn_effect hoff a b hmin hmax
  · have hrange : inOperating (min a.toNat b.toNat) = false := by
      rw [inOperating, Bool.and_eq_false_iff, decide_eq_false_iff_not, decide_eq_false_iff_not]
      omega
    exact congrArg Host.Outcome.next ((if_neg (by simp [hoff])).trans (if_neg (by simp [hrange])))
  · exact congrArg Host.Outcome.next (if_pos (by simp [hoff]))
  · have hexec : exec .vbatLoss s = .next (s.resetRegs alwaysOn) := congrArg Host.Outcome.next (if_neg (by simp [hoff]))
    exact ⟨_, hexec, fun a ha => State.reg_resetRegs.trans (if_pos ha), fun a ha => State.reg_resetRegs.trans (if_neg (by simp [ha])),
      fun _ => rfl, rfl⟩
  · exact congrArg Host.Outcome.next (if_neg (by simp [hoff]))
  · exact congrArg Host.Outcome.next (if_pos hon)
  · exact congrArg Host.Outcome.next (if_pos hon)
  · exact State.inputRange_effect hon a b iin
  · have hexec : exec .inputShutdown s = .next ((s.restart none true).inputOff) := by
      rw [exec_inputShutdown, execInputShutdown, hsince]
      exact congrArg Host.Outcome.next (if_pos ⟨hon, htime⟩)
    exact ⟨_, hexec, rfl, fun r hr hout => s.restart_reg none true hr hout⟩
  · rw [exec_inputShutdown, execInputShutdown, hsince]
    exact congrArg Host.Outcome.next (if_neg (by simp [Nat.not_le.2 htime]))
  · exact State.bootSequence_eq hon hheld hstage hpower x
  · obtain ⟨hhalt, hfail, halert⟩ := s.bootHalt_effect (code := 1) (by decide)
    have hrom : s.bootRom x = s.bootHalt 1 := if_pos (by simp [hpll])
    exact ⟨_, (State.bootSequence_eq hon hheld hstage hpower x).trans (congrArg Host.Outcome.next hrom), hhalt, hfail, halert⟩
  · split
    · next code h => exact State.imageLoadRequest_refused hstage hbox hfired h
    · next h => exact State.imageLoadRequest_accepted hstage hbox hfired h
  · have hempty := State.imageVerdict_empty hn
    exact ⟨_, State.imageLoadRequest_refused hstage hbox hfired hempty, State.refuseImage_effect _ (by decide)⟩
  · exact congrArg Host.Outcome.next (if_neg (by simp [hstage]))
  · exact State.fwInit_effect hstage hstop w ok
  · exact congrArg Host.Outcome.next (if_pos ⟨hstage, htime⟩)
  · exact congrArg Host.Outcome.next (if_pos hstage)
  · exact congrArg Host.Outcome.next (if_neg (by simp [hstage]))

end Sys2Proof.Machine
end

section
/-! Time and the sampler (R453 to R456, R466 to R471, R475). -/
namespace Sys2Proof.Machine

variable {s t u : State}

/-! ## Slews (R453, R456) -/

theorem State.setSlew_effect (s : State) (ns : Int) :
    (s.setSlew ns).time.slew = ns ∧ s.sameMem (s.setSlew ns) ∧ s.regsBut (s.setSlew ns) [TB_SLEW] := by
  have hin := List.mem_singleton_self TB_SLEW
  have htime : ∀ x : Time, s.regsBut { s with time := x } [TB_SLEW] := fun _ _ _ => rfl
  exact ⟨rfl, fun _ => rfl, ((htime _).setFld hin _ _).setBit hin _ _⟩

/-- A slew of the timebase that is due moves its count by `n` and what is left of it to `left`. -/
theorem State.tbSlew_effect (s : State) {u : State} {n : Nat} {left : Int}
    (hcount : u.fld TB_COUNT TB_COUNT.count = n) (hmem : s.sameMem u) (hregs : s.regsBut u [TB_COUNT]) :
    (u.setSlew left).fld TB_COUNT TB_COUNT.count = n ∧ (u.setSlew left).time.slew = left ∧ s.sameMem (u.setSlew left) ∧
      s.regsBut (u.setSlew left) [TB_COUNT, TB_SLEW] := by
  obtain ⟨hslew, hsame, hbut⟩ := u.setSlew_effect left
  exact ⟨(hbut.fld_eq (by decide) _).trans hcount, hslew, hmem.trans hsame, (hregs.mono (by simp)).trans (hbut.mono (by simp))⟩

theorem State.tbSlewStep_up (hdue : s.time.slewAt + 10000 ≤ s.tb) (hslew : 10 ≤ s.time.slew) :
    exec .tbSlewStep s = .next ((s.addMod TB_COUNT TB_COUNT.count 2).setSlew (s.time.slew - 10)) := by
  rw [exec_tbSlewStep, execTbSlewStep, if_neg (by omega)]
  dsimp only
  rw [if_pos hslew, if_pos hslew]

theorem State.tbSlewStep_down (hdue : s.time.slewAt + 10000 ≤ s.tb) (hslew : s.time.slew ≤ -10) :
    exec .tbSlewStep s = .next (s.setSlew (s.time.slew + 10)) := by
  rw [exec_tbSlewStep, execTbSlewStep, if_neg (by omega)]
  dsimp only
  have hnot : ¬ s.time.slew ≥ 10 := by omega
  rw [if_neg hnot, if_pos hslew, if_neg hnot, if_pos hslew]

theorem State.calAdd_frame (s : State) (ns : Int) : s.sameMem (s.calAdd ns) ∧ s.regsBut (s.calAdd ns) [CAL_NS, CAL_SECONDS] := by
  unfold State.calAdd
  dsimp only
  generalize ((_ : Nat) : Int) + ns = now
  generalize now.toNat / 1000000000 = seconds
  exact ⟨s.sameMem_refl, ((State.regsBut_refl s _).setFld (by simp) _ _).setFld (by simp) _ _⟩

theorem State.calAdd_ns (s : State) (h : s.fld CAL_NS CAL_NS.ns + 10 < 1000000000) :
    (s.calAdd 10).fld CAL_NS CAL_NS.ns = s.fld CAL_NS CAL_NS.ns + 10 := by
  have hsum : (((s.fld CAL_SECONDS CAL_SECONDS.seconds * 1000000000 + s.fld CAL_NS CAL_NS.ns : Nat) : Int) + 10).toNat % 1000000000 =
      s.fld CAL_NS CAL_NS.ns + 10 := by omega
  rw [State.calAdd, hsum, State.fld_setFld_lt (by decide) (lt_trans h (by decide))]

theorem State.calSlewStep_up (hdue : s.time.calAt + 2000 ≤ s.tb) (hslew : 10 ≤ s.time.calSlew) :
    exec .calSlewStep s = .next ((s.calAdd 10).setCalSlew (s.time.calSlew - 10)) := by
  rw [exec_calSlewStep, execCalSlewStep, if_neg (by omega)]
  dsimp only
  have hstep : (if s.time.calSlew > 10 then (10 : Int) else if s.time.calSlew < -10 then -10 else s.time.calSlew) = 10 := by
    split
    · rfl
    · rw [if_neg (by omega)]
      omega
  rw [hstep]

theorem State.calSlew_effect (s : State) (left : Int) :
    ((s.calAdd 10).setCalSlew left).time.calSlew = left ∧
      (s.fld CAL_NS CAL_NS.ns + 10 < 1000000000 →
        ((s.calAdd 10).setCalSlew left).fld CAL_NS CAL_NS.ns = s.fld CAL_NS CAL_NS.ns + 10) ∧
      s.sameMem ((s.calAdd 10).setCalSlew left) ∧ s.regsBut ((s.calAdd 10).setCalSlew left) [CAL_NS, CAL_SECONDS] := by
  obtain ⟨hmem, hregs⟩ := s.calAdd_frame 10
  have hns := s.calAdd_ns
  generalize s.calAdd 10 = u at hregs hmem hns ⊢
  have hfld : (u.setCalSlew left).fld CAL_NS CAL_NS.ns = u.fld CAL_NS CAL_NS.ns := State.fld_upd
  have hsame : s.sameMem (u.setCalSlew left) := by
    rw [State.setCalSlew, State.sameMem_upd]
    exact hmem
  exact ⟨rfl, fun h => hfld.trans (hns h), hsame, hregs.of_regs_eq rfl⟩

/-! ## SYNC_IN (R455, R475) -/

/-- An edge of SYNC_IN latches the timebase and its fraction. -/
def State.syncLatch (s : State) (frac : Nat) : State :=
  (s.setReg TB_SYNC_LATCH (BitVec.ofNat 64 s.tb)).setFld TB_SYNC_CFG TB_SYNC_CFG.frac frac

theorem State.syncInEdge_eq (hon : s.bit TB_SYNC_CFG TB_SYNC_CFG.enable = true) (halign : s.time.align = none) (frac : BitVec 6) :
    exec (.syncInEdge frac) s = .next (s.syncLatch frac.toNat) := by
  have hnone : (s.syncLatch frac.toNat).time.align = none := halign
  rw [exec_syncInEdge, execSyncInEdge, if_neg (by simp [hon])]
  unfold State.syncLatch at hnone ⊢
  dsimp only
  rw [hnone]

theorem State.syncLatch_effect (s : State) {frac : Nat} (h : frac < 64) :
    (s.syncLatch frac).reg TB_SYNC_LATCH = BitVec.ofNat 64 s.tb ∧ (s.syncLatch frac).fld TB_SYNC_CFG TB_SYNC_CFG.frac = frac ∧
      s.onlyRegs (s.syncLatch frac) [TB_SYNC_LATCH, TB_SYNC_CFG] := by
  refine ⟨?_, State.fld_setFld_lt (by decide) h, ((State.onlyRegs_refl s _).setReg (by simp) _).setFld (by simp) _ _⟩
  rw [State.syncLatch, State.reg_setFld_ne (by decide), State.reg_setReg_self]

/-- Settles O52: each step of a slew is one branch of its row, and SYNC_IN's latch writes two registers. -/
theorem timeEvents : Obligations.TimeEvents := by
  unfold Obligations.TimeEvents
  intro s frac low
  refine ⟨fun h => ?_, fun hdue => ⟨fun hslew => ?_, fun hslew => ?_⟩, fun h => ?_, fun hdue hslew => ?_, fun h => ?_, fun hon halign => ?_,
    fun a halign hsource htime => ?_, fun halign => ?_, ?_⟩
  · exact congrArg Host.Outcome.next (if_pos h)
  · have hcount := State.fld_setFld_self (s := s) (a := TB_COUNT) (f := TB_COUNT.count)
      (x := s.fld TB_COUNT TB_COUNT.count + 2) (by decide)
    exact ⟨_, State.tbSlewStep_up hdue hslew,
      s.tbSlew_effect hcount (fun _ => rfl) ((State.regsBut_refl s _).addMod (List.mem_singleton_self _) _ _)⟩
  · exact ⟨_, State.tbSlewStep_down hdue hslew, s.tbSlew_effect rfl s.sameMem_refl (State.regsBut_refl s _)⟩
  · exact congrArg Host.Outcome.next (if_pos h)
  · exact ⟨_, State.calSlewStep_up hdue hslew, s.calSlew_effect _⟩
  · exact congrArg Host.Outcome.next (if_pos (by simp [h]))
  · exact ⟨_, State.syncInEdge_eq hon halign frac, s.syncLatch_effect frac.isLt⟩
  · rw [exec_noSync, execNoSync, halign]
    exact congrArg Host.Outcome.next (if_pos ⟨hsource, htime⟩)
  · rw [exec_noSync, execNoSync, halign]
  · exact ⟨_, rfl, State.bit_setBit_self (by decide) rfl, s.onlyRegs_setBit _ _ _⟩

end Sys2Proof.Machine
end

section
/-! The sampler, register writes, the signing queue and the sideband's mirror (R7, R388 to R390, R466 to R471, R480). -/
namespace Sys2Proof.Machine

variable {s t u : State}

/-! ## Start and stop (R466, R469, R470) -/

/-- The sampler's marks alone differ. -/
def State.marksOnly (s t : State) : Prop :=
  t.regs = s.regs ∧ t.smp.t0 = s.smp.t0 ∧ t.smp.k = s.smp.k

theorem State.marksOnly_refl (s : State) : s.marksOnly s := ⟨rfl, rfl, rfl⟩

theorem State.marksOnly.trans (h : s.marksOnly t) (h' : t.marksOnly u) : s.marksOnly u := by
  obtain ⟨hregs, ht0, hk⟩ := h
  obtain ⟨hregs', ht0', hk'⟩ := h'
  exact ⟨hregs'.trans hregs, ht0'.trans ht0, hk'.trans hk⟩

theorem State.marksOnly_notePeak (s : State) (i v : Nat) : s.marksOnly (s.notePeak i v) := by
  unfold State.notePeak
  exact ite_k s.marksOnly ⟨rfl, rfl, rfl⟩ s.marksOnly_refl

theorem State.marksOnly_smpMark (s : State) (n : Nat) : s.marksOnly (s.smpMark n) := by
  unfold State.smpMark
  dsimp only
  split
  · exact s.marksOnly_refl
  · split
    · exact s.marksOnly_notePeak _ _
    · exact s.marksOnly_notePeak _ _
    · split
      · exact ⟨rfl, rfl, rfl⟩
      · exact s.marksOnly_refl
    · exact s.marksOnly_refl

theorem State.marksOnly_foldl (l : List Nat) (s : State) : s.marksOnly (l.foldl (fun s n => s.smpMark n) s) := by
  induction l generalizing s with
  | nil => exact s.marksOnly_refl
  | cons n l ih => exact (s.marksOnly_smpMark n).trans (ih _)

/-- Sampling of tiles is switched by one bit of each tile's memory unit. -/
theorem State.smpEnables_frame (s : State) :
    s.smpEnables.work = s.work ∧ s.sameMem s.smpEnables ∧ ∀ a, (∀ p < 256, a ≠ MU_CTRL p) → s.smpEnables.reg a = s.reg a := by
  have hfold : ∀ (g : Nat → Bool) (l : List Nat) (t : State), (∀ p ∈ l, p < 256) →
      let u := l.foldl (fun s p => if s.bit (MU_CTRL p) MU_CTRL.sampler_en = g p then s
        else s.setBit (MU_CTRL p) MU_CTRL.sampler_en (g p)) t
      u.work = t.work ∧ t.sameMem u ∧ ∀ a, (∀ p < 256, a ≠ MU_CTRL p) → u.reg a = t.reg a := by
    intro g l
    induction l with
    | nil => exact fun t _ => ⟨rfl, t.sameMem_refl, fun _ _ => rfl⟩
    | cons p l ih =>
      intro t hl
      obtain ⟨hwork, hmem, hreg⟩ := ih (if t.bit (MU_CTRL p) MU_CTRL.sampler_en = g p then t
        else t.setBit (MU_CTRL p) MU_CTRL.sampler_en (g p)) (fun q hq => hl q (List.mem_cons_of_mem _ hq))
      refine ⟨hwork.trans (ite_k (fun (u : State) => u.work = t.work) rfl rfl),
        State.sameMem.trans (ite_k t.sameMem t.sameMem_refl (State.sameMem_setBit.2 t.sameMem_refl)) hmem, fun a ha => (hreg a ha).trans ?_⟩
      exact ite_k (fun (u : State) => u.reg a = t.reg a) rfl (State.reg_setBit_ne (ha p (hl p (List.mem_cons_self ..))))
  exact hfold _ _ s (fun p hp => List.mem_range.1 hp)

/-- No register of the sampler is a memory unit's. -/
theorem smp_ne_muCtrl {a : Nat} (ha : 0x2F000000000 ≤ a) : ∀ p < 256, a ≠ MU_CTRL p := fun p hp => by
  unfold MU_CTRL
  omega

theorem State.smpStop_effect (s : State) :
    s.smpStop.bit SMP_STATUS SMP_STATUS.running = false ∧ s.sameMem s.smpStop ∧
      ∀ a, a ≠ SMP_STATUS → (∀ p < 256, a ≠ MU_CTRL p) → s.smpStop.reg a = s.reg a := by
  obtain ⟨_, hmem, hreg⟩ := (s.setBit SMP_STATUS SMP_STATUS.running false).smpEnables_frame
  refine ⟨?_, hmem, fun a hstatus ha => (hreg a ha).trans (State.reg_setBit_ne hstatus)⟩
  rw [State.smpStop, State.bit, State.fld, hreg _ (smp_ne_muCtrl (by decide))]
  exact State.bit_setBit_self (by decide) rfl

/-- The sampler is started: its first instant, and its status. -/
def State.smpRunning (s : State) : State :=
  let t := s.fld SMP_START SMP_START.start_tb
  let s := { s with smp := { t0 := if t = 0 then s.tb + 10001 else t, seen := s.smp.seen } }
  s.setBit SMP_STATUS SMP_STATUS.running true

theorem State.samplerStart_effect (hfree : s.restricted = false) (hidle : s.bit SMP_STATUS SMP_STATUS.running = false) :
    ∃ t, exec .samplerStart s = .next t ∧ t.bit SMP_STATUS SMP_STATUS.running = true ∧
      t.smp.t0 = (if s.fld SMP_START SMP_START.start_tb = 0 then s.tb + 10001 else s.fld SMP_START SMP_START.start_tb) := by
  have hexec : exec .samplerStart s = .next (s.smpRunning.smpSels.foldl (fun s n => s.smpMark n) s.smpRunning).smpEnables :=
    congrArg Host.Outcome.next (if_neg (by simp [hfree, hidle]))
  obtain ⟨hregs, ht0, _⟩ := State.marksOnly_foldl s.smpRunning.smpSels s.smpRunning
  generalize s.smpRunning.smpSels.foldl (fun s n => s.smpMark n) s.smpRunning = u at hexec hregs ht0
  obtain ⟨hwork, _, hreg⟩ := u.smpEnables_frame
  refine ⟨_, hexec, ?_, ?_⟩
  · rw [State.bit, State.fld, hreg _ (smp_ne_muCtrl (by decide)), State.reg, hregs]
    exact State.bit_setBit_self (s := { s with smp := _ }) (by decide) rfl
  · exact (congrArg (fun (t : State) => t.smp.t0) hwork).trans ht0

/-! ## An instant (R467, R468, R471) -/

theorem State.memOnly_smpValue (s : State) (n : Nat) : s.memOnly (s.smpValue n).2 := by
  unfold State.smpValue
  dsimp only
  split
  · exact s.memOnly_draw 96
  · split
    · exact s.memOnly_draw 64
    · refine ite_k (fun (x : (Nat × Nat × Nat × Nat) × State) => s.memOnly x.2) (s.memOnly_draw 96) ?_
      split
      · exact s.memOnly_refl
      · exact s.memOnly_refl
      · split
        · exact s.memOnly_draw 96
        · exact s.memOnly_refl
      · exact s.memOnly_draw 96

theorem State.memOnly_smpRecord (s : State) (tk n : Nat) : s.memOnly (s.smpRecord tk n).2 := by
  unfold State.smpRecord
  exact s.memOnly_smpValue n

theorem State.memOnly.reg_eq (h : s.memOnly t) (a : Nat) : t.reg a = s.reg a := by rw [State.reg, State.reg, h.2]

theorem State.reg_put (s : State) (b : Nat) (l : List Byte) (a : Nat) : (s.put b l).reg a = s.reg a := by
  rw [State.reg, State.reg, State.regs_put]

theorem State.smpWrite_frame (tk i : Nat) (l : List Nat) (s : State) :
    (s.smpWrite tk i l).work = s.work ∧ ∀ a, (∀ n ∈ l, a ≠ SMP_SEL n) → (s.smpWrite tk i l).reg a = s.reg a := by
  induction l generalizing s i with
  | nil => exact ⟨rfl, fun _ _ => rfl⟩
  | cons n l ih =>
    have hrecord := s.memOnly_smpRecord tk n
    rw [State.smpWrite]
    obtain ⟨hwork', hreg'⟩ := ih (i + 1) (((s.smpRecord tk n).2.put ((s.smpRecord tk n).2.fld SMP_RING SMP_RING.base + 128 +
      (i % 2 ^ (s.smpRecord tk n).2.fld SMP_RING SMP_RING.log2_depth) * 32) (s.smpRecord tk n).1).setBit (SMP_SEL n)
      SMP_SEL.moved false)
    refine ⟨hwork'.trans (State.work_setBit.trans (State.work_put.trans hrecord.1)), fun a ha => ?_⟩
    rw [hreg' a (fun m hm => ha m (List.mem_cons_of_mem _ hm)), State.reg_setBit_ne (ha n (List.mem_cons_self ..)),
      State.reg_put, hrecord.reg_eq]

/-- No register of the sampler's own is a selection's. -/
theorem smp_ne_sel {a : Nat} (ha : a < 0x2F000C00100) {l : List Nat} : ∀ n ∈ l, a ≠ SMP_SEL n := fun n _ => by
  unfold SMP_SEL
  omega

/-- What the host has read of the ring, as an instant takes it. -/
def State.smpSeen (s : State) : Nat :=
  seenIndex (s.num (s.fld SMP_RING SMP_RING.base + 64) 8) (s.modNum (s.fld SMP_RING SMP_RING.base) 8) s.smp.seen

/-- The host's index is taken. -/
def State.smpTaken (s : State) : State := { s with smp := { s.smp with seen := s.smpSeen } }

/-- The records of an instant from ring index `prod` on and the producer index behind them, with `lost` overwritten. -/
def State.smpStored (s : State) (tk b prod lost : Nat) : State :=
  ((s.addMod SMP_LOST SMP_LOST.count lost).smpWrite tk prod s.smpSels).put b (leBytes 8 (prod + s.smpSels.length))

/-- The next instant is due, with its peaks new. -/
def State.smpNext (s : State) : State := { s with smp := { s.smp with k := s.smp.k + 1, peaks := [] } }

/-- An instant that is due, with `used` records of the ring unread. -/
def State.smpInstant (s : State) (tk b prod depth used : Nat) : State :=
  if used + s.smpSels.length > depth ∧ !s.bit SMP_CFG SMP_CFG.mode then s.smpStop.setBit SMP_STATUS SMP_STATUS.stopped_full true
  else s.smpSels.foldl (fun s n => s.smpMark n)
    ((s.smpStored tk b prod (used + s.smpSels.length - depth)).addMod SMP_WRITTEN SMP_WRITTEN.count s.smpSels.length).smpNext

theorem State.smpSels_smpTaken (s : State) : s.smpTaken.smpSels = s.smpSels := by
  unfold State.smpSels
  exact List.filter_congr (fun n _ => by rw [State.smpTaken, State.bit_upd])

theorem State.sampleInstant_due (hrun : s.bit SMP_STATUS SMP_STATUS.running = true)
    (hdue : s.smp.t0 + s.smp.k * s.fld SMP_CFG SMP_CFG.interval ≤ s.tb) :
    exec .sampleInstant s = .next (s.smpTaken.smpInstant (s.smp.t0 + s.smp.k * s.fld SMP_CFG SMP_CFG.interval)
      (s.fld SMP_RING SMP_RING.base) (s.modNum (s.fld SMP_RING SMP_RING.base) 8)
      (2 ^ s.smpTaken.fld SMP_RING SMP_RING.log2_depth) (min (2 ^ s.smpTaken.fld SMP_RING SMP_RING.log2_depth)
        (unread (s.modNum (s.fld SMP_RING SMP_RING.base) 8) s.smpSeen))) := by
  rw [exec_sampleInstant, execSampleInstant, if_neg (by simp [hrun, hdue])]
  dsimp only [State.smpInstant, State.smpStored, State.smpNext, State.smpTaken, State.smpSeen]

/-- A due instant with room, or one that overwrites: its number and the count of records. -/
theorem State.smpInstant_stored (s : State) (tk b prod depth used : Nat)
    (hroom : used + s.smpSels.length ≤ depth ∨ s.bit SMP_CFG SMP_CFG.mode = true) :
    (s.smpInstant tk b prod depth used).smp.k = s.smp.k + 1 ∧
      (s.smpInstant tk b prod depth used).fld SMP_WRITTEN SMP_WRITTEN.count =
        (s.fld SMP_WRITTEN SMP_WRITTEN.count + s.smpSels.length) % 2 ^ SMP_WRITTEN.count.width := by
  have hkept : ¬ (used + s.smpSels.length > depth ∧ (!s.bit SMP_CFG SMP_CFG.mode) = true) := fun ⟨hfull, hmode⟩ => by
    obtain hle | hover := hroom
    · omega
    · rw [hover] at hmode
      exact Bool.noConfusion hmode
  rw [State.smpInstant, if_neg hkept]
  obtain ⟨hregs, _, hk⟩ := State.marksOnly_foldl s.smpSels
    ((s.smpStored tk b prod (used + s.smpSels.length - depth)).addMod SMP_WRITTEN SMP_WRITTEN.count s.smpSels.length).smpNext
  obtain ⟨hwork, hreg⟩ := State.smpWrite_frame tk prod s.smpSels
    (s.addMod SMP_LOST SMP_LOST.count (used + s.smpSels.length - depth))
  have hstored : (s.smpStored tk b prod (used + s.smpSels.length - depth)).reg SMP_WRITTEN = s.reg SMP_WRITTEN := by
    rw [State.smpStored, State.reg_put, hreg _ (smp_ne_sel (by decide)), State.addMod, State.reg_setFld_ne (by decide)]
  have hstored_k : (s.smpStored tk b prod (used + s.smpSels.length - depth)).smp.k = s.smp.k :=
    congrArg Sampler.k (State.smp_eq (State.work_put.trans hwork))
  refine ⟨?_, ?_⟩
  · rw [hk, State.smpNext, ← hstored_k]
    rfl
  · rw [State.fld, State.reg, hregs, ← State.reg, ← State.fld, State.smpNext, State.fld_upd, State.addMod,
      State.fld_setFld_self (by decide), State.fld, hstored, State.fld]

/-- The records of the ring that the host has not read. -/
def State.smpUsed (s : State) : Nat :=
  min (2 ^ s.fld SMP_RING SMP_RING.log2_depth) (unread (s.modNum (s.fld SMP_RING SMP_RING.base) 8) s.smpSeen)

theorem State.fld_smpTaken (s : State) (a : Nat) (f : Field) : s.smpTaken.fld a f = s.fld a f := State.fld_upd

theorem State.bit_smpTaken (s : State) (a : Nat) (f : Field) : s.smpTaken.bit a f = s.bit a f := State.bit_upd

theorem State.sampleInstant_eq (hrun : s.bit SMP_STATUS SMP_STATUS.running = true)
    (hdue : s.smp.t0 + s.smp.k * s.fld SMP_CFG SMP_CFG.interval ≤ s.tb) :
    exec .sampleInstant s = .next (s.smpTaken.smpInstant (s.smp.t0 + s.smp.k * s.fld SMP_CFG SMP_CFG.interval)
      (s.fld SMP_RING SMP_RING.base) (s.modNum (s.fld SMP_RING SMP_RING.base) 8) (2 ^ s.fld SMP_RING SMP_RING.log2_depth)
      s.smpUsed) := by
  rw [State.sampleInstant_due hrun hdue, State.fld_smpTaken, State.smpUsed]

theorem State.k_seen (s : State) (x : Nat) : ({ s with smp := { s.smp with seen := x } } : State).smp.k = s.smp.k := rfl

theorem State.sampleInstant_stored (hrun : s.bit SMP_STATUS SMP_STATUS.running = true)
    (hdue : s.smp.t0 + s.smp.k * s.fld SMP_CFG SMP_CFG.interval ≤ s.tb)
    (hroom : s.smpUsed + s.smpSels.length ≤ 2 ^ s.fld SMP_RING SMP_RING.log2_depth ∨ s.bit SMP_CFG SMP_CFG.mode = true) :
    ∃ t, exec .sampleInstant s = .next t ∧ t.smp.k = s.smp.k + 1 ∧ t.fld SMP_WRITTEN SMP_WRITTEN.count =
      (s.fld SMP_WRITTEN SMP_WRITTEN.count + s.smpSels.length) % 2 ^ SMP_WRITTEN.count.width := by
  rw [← s.smpSels_smpTaken, ← s.bit_smpTaken] at hroom
  obtain ⟨hk, hwritten⟩ := s.smpTaken.smpInstant_stored (s.smp.t0 + s.smp.k * s.fld SMP_CFG SMP_CFG.interval)
    (s.fld SMP_RING SMP_RING.base) (s.modNum (s.fld SMP_RING SMP_RING.base) 8) _ _ hroom
  have hkept : s.smpTaken.smp.k = s.smp.k := s.k_seen s.smpSeen
  rw [hkept] at hk
  rw [s.smpSels_smpTaken, s.fld_smpTaken] at hwritten
  exact ⟨_, State.sampleInstant_eq hrun hdue, hk, hwritten⟩

theorem State.sampleInstant_full (hrun : s.bit SMP_STATUS SMP_STATUS.running = true)
    (hdue : s.smp.t0 + s.smp.k * s.fld SMP_CFG SMP_CFG.interval ≤ s.tb)
    (hfull : 2 ^ s.fld SMP_RING SMP_RING.log2_depth < s.smpUsed + s.smpSels.length) (hmode : s.bit SMP_CFG SMP_CFG.mode = false) :
    ∃ t, exec .sampleInstant s = .next t ∧ t.bit SMP_STATUS SMP_STATUS.running = false ∧
      t.bit SMP_STATUS SMP_STATUS.stopped_full = true ∧ s.sameMem t := by
  rw [← s.smpSels_smpTaken] at hfull
  rw [← s.bit_smpTaken] at hmode
  obtain ⟨hrun', hmem, _⟩ := s.smpTaken.smpStop_effect
  have hstopped := (State.sampleInstant_eq hrun hdue).trans (congrArg Host.Outcome.next (if_pos ⟨hfull, by rw [hmode]; rfl⟩))
  have hsame : s.sameMem s.smpTaken := by
    rw [State.smpTaken, State.sameMem_upd]
    exact s.sameMem_refl
  exact ⟨_, hstopped, (State.bit_setBit_beside (by decide) (by decide) (by decide)).trans hrun',
    State.bit_setBit_self (by decide) rfl, State.sameMem_setBit.2 (hsame.trans hmem)⟩

/-! ## The signing queue (R388 to R390) -/

/-- The request at the front of the queue is taken, with its leaves reserved. -/
def State.signTaken (s : State) (rest : List SignReq) : State :=
  ({ s with sec := { s.sec with queue := rest } } : State).signView.reserveLeaves

theorem State.signingQueue_waits {r : SignReq} {rest : List SignReq} (hqueue : s.sec.queue = r :: rest)
    (hleft : s.bit SEC_STATUS SEC_STATUS.exhausted = false) (hlimit : s.maySign = false) (journalOk : Bool) :
    exec (.signingQueue journalOk) s = .next s := by
  rw [exec_signingQueue, execSigningQueue, hqueue]
  exact congrArg Host.Outcome.next ((if_neg (by simp [hleft])).trans (if_pos (by simp [hlimit])))

theorem State.signingQueue_unjournalled {r : SignReq} {rest : List SignReq} (hqueue : s.sec.queue = r :: rest)
    (hleft : s.bit SEC_STATUS SEC_STATUS.exhausted = false) (hlimit : s.maySign = true)
    (hend : s.fld SEC_LEAVES_RESV SEC_LEAVES_RESV.reserved_end ≤ s.fld SEC_LEAVES_USED SEC_LEAVES_USED.used) :
    exec (.signingQueue false) s = .next (s.setBit SEC_FAULT SEC_FAULT.journal_fault true) := by
  rw [exec_signingQueue, execSigningQueue, hqueue]
  exact congrArg Host.Outcome.next ((if_neg (by simp [hleft])).trans ((if_neg (by simp [hlimit])).trans (if_pos ⟨rfl, hend⟩)))

theorem State.signingQueue_attests {r : SignReq} {rest : List SignReq} (hqueue : s.sec.queue = r :: rest)
    (hleft : s.bit SEC_STATUS SEC_STATUS.exhausted = false) (hlimit : s.maySign = true) (hcmd : r.handshake = false) :
    exec (.signingQueue true) s =
      .next (({ s.signTaken rest with waiting := (s.signTaken rest).waiting.erase r.cmd } : State).finishAttest r) := by
  rw [exec_signingQueue, execSigningQueue, hqueue]
  exact congrArg Host.Outcome.next ((if_neg (by simp [hleft])).trans ((if_neg (by simp [hlimit])).trans
    ((if_neg (by simp)).trans (if_neg (by simp [hcmd])))))

/-! ## The mirror (R480) -/

/-- The health fields that the mirror holds. -/
def State.mirrorFields (s : State) : List Nat :=
  [s.fld HLTH_SUMMARY HLTH_SUMMARY.good, s.fld HLTH_SUMMARY HLTH_SUMMARY.degraded, s.fld HLTH_SUMMARY HLTH_SUMMARY.fenced,
    s.fld HLTH_SUMMARY HLTH_SUMMARY.untested, s.fld HLTH_ID HLTH_ID.generation]

/-- The mirror is refreshed from what the registers hold. -/
def State.mirrored (s : State) : State :=
  { s with sb := { s.sb with mirror := s.mirrorFields ++ [min 0xFFFF (s.fld HLTH_OLDEST HLTH_OLDEST.age_ms / 3600000)],
                             mirrorTb := s.tb } }

theorem State.oldestView_frame (s : State) : s.sameMem s.oldestView ∧ s.regsBut s.oldestView [HLTH_OLDEST] := by
  have hin := List.mem_singleton_self HLTH_OLDEST
  unfold State.oldestView
  split
  · exact ⟨s.sameMem_refl, (State.regsBut_refl s _).setReg hin _⟩
  · exact ⟨s.sameMem_refl, ((State.regsBut_refl s _).setFld hin _ _).setFld hin _ _⟩

theorem State.mirrorRefresh_eq (h : s.takesCommands = true) : exec .mirrorRefresh s = .next s.oldestView.mirrored :=
  congrArg Host.Outcome.next (if_pos h)

theorem State.mirrorRefresh_effect (h : s.takesCommands = true) :
    ∃ t, exec .mirrorRefresh s = .next t ∧ t.sb.mirrorTb = s.tb ∧ t.sb.mirror.take 5 = s.mirrorFields ∧ s.sameMem t ∧
      s.regsBut t [HLTH_OLDEST] := by
  obtain ⟨hmem, hregs⟩ := s.oldestView_frame
  refine ⟨_, State.mirrorRefresh_eq h, hregs.fld_eq (by decide) _, ?_, ?_, hregs.of_regs_eq rfl⟩
  · have hfields : s.oldestView.mirrorFields = s.mirrorFields := by
      rw [State.mirrorFields, hregs.fld_eq (by decide), hregs.fld_eq (by decide), hregs.fld_eq (by decide), hregs.fld_eq (by decide),
        hregs.fld_eq (by decide), State.mirrorFields]
    rw [← hfields]
    rfl
  · rw [State.mirrored, State.sameMem_upd]
    exact hmem

/-! ## Settled -/

/-- Settles O53: a start and a stop by what the sampler's marks and enables write, an instant by its two ends, the signing queue by
its branches and the mirror by the one register that follows the oldest pass. -/
theorem samplerAndRegisterWrites : Obligations.SamplerAndRegisterWrites := by
  unfold Obligations.SamplerAndRegisterWrites
  intro s addr v
  refine ⟨fun h => congrArg Host.Outcome.next (if_pos h), fun hfree hidle => State.samplerStart_effect hfree hidle,
    ⟨_, rfl, s.smpStop_effect⟩, fun h => ?_, fun hrun hdue => ⟨fun hroom => ?_, fun hfull hmode => ?_⟩, ?_, fun h => ?_, fun h => ?_,
    fun h => ?_, fun journalOk h => ?_, fun journalOk r rest hqueue hleft => ⟨fun hlimit => ?_, fun hlimit hjournal hend => ?_,
      fun hlimit hjournal hcmd => ?_⟩, fun h => ?_, fun h => State.mirrorRefresh_effect h⟩
  · exact congrArg Host.Outcome.next (if_pos (by simpa using h))
  · exact State.sampleInstant_stored hrun hdue hroom
  · exact State.sampleInstant_full hrun hdue hfull hmode
  · exact congrArg Host.Outcome.next (if_neg (by simp))
  · exact congrArg Host.Outcome.next (if_neg (by simp [h]))
  · by_cases haligned : addr.toNat % 8 = 0
    · have hnone : s.regWrite addr.toNat v.toNat = s := by rw [State.regWrite, h, Option.elim_none]
      exact congrArg Host.Outcome.next ((if_pos ⟨rfl, haligned⟩).trans hnone)
    · exact congrArg Host.Outcome.next (if_neg (by simp [haligned]))
  · exact congrArg Host.Outcome.next (if_pos ⟨rfl, h⟩)
  · rw [exec_signingQueue, execSigningQueue, h]
  · exact State.signingQueue_waits hqueue hleft hlimit journalOk
  · subst hjournal
    exact ⟨_, State.signingQueue_unjournalled hqueue hleft hlimit hend, State.bit_setBit_self (by decide) rfl, s.onlyRegs_setBit _ _ _⟩
  · subst hjournal
    exact State.signingQueue_attests hqueue hleft hlimit hcmd
  · exact congrArg Host.Outcome.next (if_neg (by simp [h]))

end Sys2Proof.Machine
end

section
/-! What time and the wire do to a Lanel port (R355, R358 to R364, R367). -/
namespace Sys2Proof.Machine

variable {s t u : State} {n : Nat}

/-! ## Ports as a table -/

@[simp] theorem State.port_setPort_self {x : Port} : (s.setPort n x).port n = x := tget_tset_self

theorem State.regsBut.setPort {l : List Nat} (h : s.regsBut t l) (n : Nat) (x : Port) : s.regsBut (t.setPort n x) l := h.of_regs_eq rfl

@[simp] theorem State.sameMem_setPort {x : Port} : s.sameMem (t.setPort n x) ↔ s.sameMem t := by
  rw [State.setPort, State.sameMem_upd]

theorem State.ports_eq (h : t.work = s.work) : t.ports = s.ports := show t.work.ports = s.work.ports from congrArg State.ports h

theorem State.port_eq (h : t.ports = s.ports) (n : Nat) : t.port n = s.port n := by rw [State.port, State.port, h]

/-- The registers that belong to a port are none of those that a reply writes. -/
theorem lnStatus_not_mem_reply (n : Nat) : LN_STATUS n ∉ replyRegs := by
  simp only [replyRegs, List.mem_cons, List.not_mem_nil, or_false]
  unfold LN_STATUS SCU_CMD_STATUS SCU_EVT_LOST TL_DRDY
  omega

theorem lnStatus_ne_retry (n : Nat) : LN_STATUS n ≠ LN_RETRY n := by unfold LN_STATUS LN_RETRY; omega

/-! ## Leaving service (R360, R361) -/

/-- What leaves a port's count of failed handshakes as it is. -/
def State.keepsFails (n : Nat) (s t : State) : Prop := (t.port n).hsFails = (s.port n).hsFails

theorem State.keepsFails_of_ports (h : t.ports = s.ports) : State.keepsFails n s t := congrArg Port.hsFails (State.port_eq h n)

theorem State.keepsFails.trans (h : State.keepsFails n s t) (h' : State.keepsFails n t u) : State.keepsFails n s u := Eq.trans h' h

theorem State.ports_complete_refuse (s : State) (f : Waiting → Bool) (detail : Nat) :
    (s.complete f (fun t w => t.refuse w.cmd detail)).ports = s.ports :=
  (State.ports_eq ((replies_refuse detail).complete f s).1).trans rfl

theorem State.ports_lnLost (s : State) (n : Nat) : (s.lnLost n).ports = s.ports := by
  have hjoins : ∀ (l : List Nat) (t : State), (l.foldl (fun s c =>
      match s.joins.find? (fun e => e.1 == c && e.2.port == n && !e.2.imported) with
      | none => s
      | some _ =>
        ({ s with joins := s.joins.filter (fun e => e.1 != c) } : State).complete (fun w => w.op == 0x0A04 && w.ctx == c)
          (fun s w => s.refuse w.cmd 0x07)) t).ports = t.ports := by
    intro l
    induction l with
    | nil => exact fun _ => rfl
    | cons c l ih =>
      intro t
      rw [List.foldl_cons, ih]
      split
      · rfl
      · exact State.ports_complete_refuse _ _ _
  unfold State.lnLost
  dsimp only
  refine (hjoins _ _).trans ?_
  split
  · exact ite_k (fun (t : State) => t.ports = s.ports) (State.ports_complete_refuse _ _ _) rfl
  · rfl

/-- The keys and the handshake of a port are gone. -/
def State.lnKeyless (s : State) (n : Nat) : State :=
  s.setPort n { s.port n with hs := {}, tx := {}, rx := {}, nextTx := none, nextRx := none, credits := [0, 0, 0, 0],
                              failedReplays := 0 }

/-- No signature is asked for a handshake of the port. -/
def State.lnUnsigned (s : State) (n : Nat) : State :=
  ({ s with sec := { s.sec with queue := s.sec.queue.filter (fun r => !(r.handshake && r.port == n)) } } : State).signView

theorem State.lnClear_eq (s : State) (n : Nat) : s.lnClear n = (((s.lnDrop n).lnKeyless n).lnUnsigned n).lnLost n := rfl

theorem State.keepsFails_lnClear (s : State) (n : Nat) : State.keepsFails n s (s.lnClear n) := by
  have hdrop : State.keepsFails n s (s.lnDrop n) := by
    rw [State.keepsFails, State.lnDrop, State.port_setPort_self]
  have hkeys : ∀ t : State, State.keepsFails n t (t.lnKeyless n) := fun t => by
    rw [State.keepsFails, State.lnKeyless, State.port_setPort_self]
  have hunsigned : ∀ t : State, (t.lnUnsigned n).ports = t.ports := fun _ => rfl
  rw [State.lnClear_eq]
  exact (hdrop.trans (hkeys _)).trans (State.keepsFails_of_ports ((State.ports_lnLost _ n).trans (hunsigned _)))

theorem State.keepsFails_setLn (s : State) (n v : Nat) : State.keepsFails n s (s.setLn n v) := by
  rw [State.keepsFails, State.setLn, State.port_setPort_self]

theorem State.lnState_setLn (s : State) {v : Nat} (hv : v < 8) : (s.setLn n v).lnState n = v := by
  rw [State.lnState, State.setLn, State.setPort, State.fld_upd, State.fld_setFld_lt (by decide) hv]

/-- A port that goes DOWN, before the link error's event. -/
def State.lnDownMark (s : State) (n reason : Nat) : State :=
  (((s.lnClear n).setLn n 5).setFld (LN_STATUS n) LN_STATUS.down_reason reason).addSat (LN_RETRY n) LN_RETRY.downs 1

theorem State.lnDownMark_effect (s : State) (n : Nat) {reason : Nat} (hr : reason < 16) :
    (s.lnDownMark n reason).lnState n = 5 ∧ (s.lnDownMark n reason).fld (LN_STATUS n) LN_STATUS.down_reason = reason := by
  refine ⟨?_, ?_⟩
  · rw [State.lnState, State.lnDownMark, State.fld_addSat_ne (lnStatus_ne_retry n),
      State.fld_setFld_beside (by decide) (by decide) (by decide)]
    exact State.lnState_setLn _ (by decide)
  · rw [State.lnDownMark, State.fld_addSat_ne (lnStatus_ne_retry n), State.fld_setFld_lt (by decide) hr]

theorem State.linkError_frame (s : State) (link kind tag addr : Nat) :
    (s.linkError link kind tag addr).ports = s.ports ∧ s.regsBut (s.linkError link kind tag addr) eventRegs :=
  ⟨State.ports_eq State.work_event, s.regsBut_event _ _ _⟩

theorem State.lnDown_eq (s : State) (n reason : Nat) :
    s.lnDown n reason = (((s.lnDownMark n reason).draw 88).2).linkError n (bits ((s.lnDownMark n reason).draw 88).1 0 8)
      (bits ((s.lnDownMark n reason).draw 88).1 8 16) (bits ((s.lnDownMark n reason).draw 88).1 24 64) := by
  rw [State.lnDown, State.lnDownMark]

theorem State.lnDown_frame (s : State) (n reason : Nat) :
    (s.lnDown n reason).ports = (s.lnDownMark n reason).ports ∧ (s.lnDownMark n reason).regsBut (s.lnDown n reason) eventRegs := by
  rw [State.lnDown_eq]
  generalize s.lnDownMark n reason = u
  have hdraw : u.regsBut (u.draw 88).2 eventRegs := fun _ _ => rfl
  obtain ⟨hports, hregs⟩ := (u.draw 88).2.linkError_frame n (bits (u.draw 88).1 0 8) (bits (u.draw 88).1 8 16)
    (bits (u.draw 88).1 24 64)
  exact ⟨hports, hdraw.trans hregs⟩

/-- A port that goes DOWN says why. -/
theorem State.lnDown_effect (s : State) (n : Nat) {reason : Nat} (hr : reason < 16) :
    (s.lnDown n reason).lnState n = 5 ∧ (s.lnDown n reason).fld (LN_STATUS n) LN_STATUS.down_reason = reason ∧
      State.keepsFails n s (s.lnDown n reason) := by
  obtain ⟨hports, hregs⟩ := s.lnDown_frame n reason
  obtain ⟨hstate, hreason⟩ := s.lnDownMark_effect n hr
  have hin : LN_STATUS n ∉ eventRegs := by
    simp only [eventRegs, List.mem_cons, List.not_mem_nil, or_false]
    unfold LN_STATUS SCU_EVT_LOST TL_DRDY
    omega
  refine ⟨(hregs.fld_eq hin _).trans hstate, (hregs.fld_eq hin _).trans hreason, ?_⟩
  have hmark : (s.lnDownMark n reason).ports = ((s.lnClear n).setLn n 5).ports := by
    rw [State.lnDownMark, State.addSat, State.setFld_ports, State.setFld_ports]
  have hset := (s.keepsFails_lnClear n).trans ((s.lnClear n).keepsFails_setLn n 5)
  exact hset.trans (State.keepsFails_of_ports (hports.trans hmark))

theorem State.lnRefused_frame (s : State) (n detail : Nat) :
    (s.lnRefused n detail).ports = s.ports ∧ s.regsBut (s.lnRefused n detail) replyRegs :=
  ⟨State.ports_complete_refuse s _ detail, ((replies_refuse detail).complete _ s).2⟩

theorem State.lnState_lnRefused (s : State) (n detail : Nat) (f : Field) :
    (s.lnRefused n detail).fld (LN_STATUS n) f = s.fld (LN_STATUS n) f :=
  (s.lnRefused_frame n detail).2.fld_eq (lnStatus_not_mem_reply n) f

theorem State.lnFence_effect (s : State) (n : Nat) {cause : Nat} (hc : cause < 16) :
    (s.lnFence n cause).lnState n = 6 ∧ (s.lnFence n cause).fld (LN_STATUS n) LN_STATUS.fence_cause = cause ∧
      State.keepsFails n s (s.lnFence n cause) := by
  refine ⟨?_, ?_, ?_⟩
  · rw [State.lnState, State.lnFence, State.lnState_lnRefused, State.fld_setFld_beside (by decide) (by decide) (by decide)]
    exact State.lnState_setLn _ (by decide)
  · rw [State.lnFence, State.lnState_lnRefused, State.fld_setFld_lt (by decide) hc]
  · have hmark : ((((s.lnClear n).setLn n 6).setFld (LN_STATUS n) LN_STATUS.fence_cause cause)).ports =
        ((s.lnClear n).setLn n 6).ports := State.setFld_ports
    have hset := (s.keepsFails_lnClear n).trans ((s.lnClear n).keepsFails_setLn n 6)
    exact hset.trans (State.keepsFails_of_ports ((State.lnRefused_frame _ n 0x03).1.trans hmark))

/-- The third failed handshake in a row fences the port; an earlier one takes it DOWN. -/
theorem State.lnFail_effect (s : State) (n : Nat) :
    ((s.lnFail n).port n).hsFails = (s.port n).hsFails + 1 ∧
      ((s.port n).hsFails < 2 → (s.lnFail n).lnState n = 5 ∧ (s.lnFail n).fld (LN_STATUS n) LN_STATUS.down_reason = 6) ∧
      (2 ≤ (s.port n).hsFails → (s.lnFail n).lnState n = 6 ∧ (s.lnFail n).fld (LN_STATUS n) LN_STATUS.fence_cause = 2) := by
  have hcount : ((s.setPort n { s.port n with hsFails := (s.port n).hsFails + 1 }).port n).hsFails = (s.port n).hsFails + 1 := by
    rw [State.port_setPort_self]
  unfold State.lnFail
  dsimp only
  generalize s.setPort n { s.port n with hsFails := (s.port n).hsFails + 1 } = v at hcount
  obtain ⟨hfence, hcause, hfenced⟩ := v.lnFence_effect n (cause := 2) (by decide)
  obtain ⟨hdown, hreason, hkept⟩ := v.lnDown_effect n (reason := 6) (by decide)
  split
  · next hthird => exact ⟨Eq.trans hfenced hcount, fun h => absurd h (by omega), fun _ => ⟨hfence, hcause⟩⟩
  · next hearly =>
    refine ⟨Eq.trans (Eq.trans (State.keepsFails_of_ports (State.lnRefused_frame _ n 0x02).1) hkept) hcount, fun _ => ⟨?_, ?_⟩,
      fun h => absurd h (by omega)⟩
    · rw [State.lnState, State.lnState_lnRefused]
      exact hdown
    · rw [State.lnState_lnRefused]
      exact hreason

end Sys2Proof.Machine
end

section
/-! The rows of a Lanel port that time and the wire bring about (R355, R358 to R364, R367). -/
namespace Sys2Proof.Machine

variable {s t u : State} {n : LnPort}

theorem lnStatus_ne_ctrl (n : Nat) : LN_STATUS n ≠ LN_CTRL n := by unfold LN_STATUS LN_CTRL; omega

/-- A port that is OFF is not in service. -/
theorem State.lnUp_of_off (h : s.lnState n = 0) : s.lnUp n = false := by
  rw [State.lnUp, h]
  rfl

/-! ## Limits of time (R360, R361) -/

/-- A limit that takes a port DOWN with reason `r`. -/
theorem State.downs {c : Instr} {r : Nat} (hr : r < 16) (h : exec c s = .next (s.lnDown n r)) :
    ∃ t, exec c s = .next t ∧ t.lnState n = 5 ∧ t.fld (LN_STATUS n) LN_STATUS.down_reason = r := by
  obtain ⟨hdown, hreason, _⟩ := s.lnDown_effect n hr
  exact ⟨_, h, hdown, hreason⟩

theorem State.trainTimeout_downs (hstate : s.lnState n = 1)
    (htime : (s.port n).since + s.fld (LN_TIMERS n) LN_TIMERS.train_timeout_ms * 100000 ≤ s.tb) :
    ∃ t, exec (.trainTimeout n) s = .next t ∧ t.lnState n = 5 ∧ t.fld (LN_STATUS n) LN_STATUS.down_reason = 0 := by
  obtain ⟨hdown, hreason, _⟩ := s.lnDown_effect n (reason := 0) (by decide)
  refine ⟨_, congrArg Host.Outcome.next (if_pos ⟨hstate, htime⟩), ?_, ?_⟩
  · rw [State.lnState, State.lnState_lnRefused]
    exact hdown
  · rw [State.lnState_lnRefused]
    exact hreason

theorem State.creditTimeout_downs (hup : s.lnUp n = true) {b : Nat} (hb : some b ∈ (s.port n).stalled)
    (htime : b + s.fld (LN_TIMERS n) LN_TIMERS.credit_timeout_ms * 100000 ≤ s.tb) :
    exec (.creditTimeout n) s = .next (s.lnDown n 2) := by
  rw [exec_creditTimeout, execCreditTimeout, if_pos]
  rw [Bool.and_eq_true, List.any_eq_true]
  exact ⟨hup, some b, hb, decide_eq_true htime⟩

/-! ## Enabling and disabling (R360, R364) -/

theorem State.setLn_frame (s : State) (n v : Nat) : s.sameMem (s.setLn n v) ∧ s.regsBut (s.setLn n v) [LN_STATUS n] := by
  refine ⟨?_, ((State.regsBut_refl s _).setFld (List.mem_singleton_self _) _ _).setPort n _⟩
  rw [State.setLn, State.sameMem_setPort, State.sameMem_setFld]
  exact s.sameMem_refl

theorem State.lnPortEnable_alone (h : s.lnState n = 0) :
    ∃ t, exec (.lnPortEnable n none) s = .next t ∧ t.lnState n = 1 ∧ s.sameMem t ∧ s.regsBut t [LN_STATUS n] :=
  ⟨s.setLn n 1, congrArg Host.Outcome.next (if_pos h), State.lnState_setLn s (by decide), s.setLn_frame n 1⟩

theorem State.lnDisableReq_off (h : s.lnState n = 0) :
    ∃ t, exec (.lnDisableReq n 0) s = .next t ∧ t.fld (LN_CTRL n) LN_CTRL.disable_mode = 0 ∧ s.onlyRegs t [LN_CTRL n] := by
  have hoff : (s.setFld (LN_CTRL n) LN_CTRL.disable_mode 0).lnState n = 0 :=
    (State.fld_setFld_ne (lnStatus_ne_ctrl n)).trans h
  exact ⟨_, congrArg Host.Outcome.next (if_pos (Or.inl hoff)), State.fld_setFld_lt (by decide) (by decide),
    (State.onlyRegs_refl s _).setFld (List.mem_singleton_self _) _ _⟩

theorem State.lnDisableReq_on (h : s.lnState n ≠ 0) {mode : BitVec 2} (hmode : mode.toNat < 2) :
    exec (.lnDisableReq n mode) s =
      .next ((s.setFld (LN_CTRL n) LN_CTRL.disable_mode mode.toNat).lnDisable n (mode == 1)) := by
  have hon : (s.setFld (LN_CTRL n) LN_CTRL.disable_mode mode.toNat).lnState n = s.lnState n :=
    State.fld_setFld_ne (lnStatus_ne_ctrl n)
  exact congrArg Host.Outcome.next (if_neg (not_or.2 ⟨fun hoff => h (hon.symm.trans hoff), Nat.not_le.2 hmode⟩))

/-! ## Link flits (R358, R359) -/

/-- A link flit that is not corrected is counted, and the port notes `x`. -/
def State.flitMark (s : State) (n : Nat) (x : Port) : State :=
  ((s.addSat (LN_ERR n) LN_ERR.fec_uncorrected 1).addSat (LN_RETRY n) LN_RETRY.replays 1).setPort n x

theorem State.lnReplay_failed (hup : s.lnUp n = true) (lane : Fin 4) :
    exec (.lnReplay n lane .failed) s =
      .next (s.flitMark n { s.port n with failedReplays := (s.port n).failedReplays + 1 }) :=
  congrArg Host.Outcome.next (if_neg (by simp [hup]))

theorem State.lnReplay_replayed (hup : s.lnUp n = true) (lane : Fin 4) :
    exec (.lnReplay n lane .replayed) s = .next (s.flitMark n { s.port n with failedReplays := 0 }) :=
  congrArg Host.Outcome.next (if_neg (by simp [hup]))

theorem State.lnReplay_corrected (hup : s.lnUp n = true) (lane : Fin 4) :
    exec (.lnReplay n lane .corrected) s = .next (((s.addSat (LN_ERR n) LN_ERR.fec_corrected 1).addSat (LN_LANE n lane)
      LN_LANE.corrected 1).addSat (HLTH_LANE (4 * n + lane)) HLTH_LANE.corrected 1) :=
  congrArg Host.Outcome.next (if_neg (by simp [hup]))

theorem State.flitMark_effect (s : State) (n : Nat) (x : Port) :
    (s.flitMark n x).port n = x ∧ s.sameMem (s.flitMark n x) ∧ s.regsBut (s.flitMark n x) [LN_ERR n, LN_RETRY n] := by
  refine ⟨State.port_setPort_self, ?_, (((State.regsBut_refl s _).addSat (by simp) _ _).addSat (by simp) _ _).setPort n x⟩
  rw [State.flitMark, State.sameMem_setPort, State.sameMem_addSat, State.sameMem_addSat]
  exact s.sameMem_refl

/-- A retrain is counted and noted. -/
def State.retrainMark (s : State) (n : Nat) (l : List Nat) : State :=
  (s.addSat (LN_RETRY n) LN_RETRY.retrains 1).setPort n { s.port n with retrains := l, failedReplays := 0 }

/-- The retrains of the last second, with one that comes now. -/
def State.retrainsNow (s : State) (n : Nat) : List Nat :=
  (s.port n).retrains.filter (fun b => decide (s.tb < b + 100000000)) ++ [s.tb]

theorem State.lnRetrain_eq (hup : s.lnUp n = true) :
    exec (.lnRetrain n true) s = .next (if (s.retrainsNow n).length ≥ 3 then (s.retrainMark n (s.retrainsNow n)).lnDown n 3
      else s.retrainMark n (s.retrainsNow n)) := by
  rw [exec_lnRetrain, execLnRetrain, if_neg (by simp [hup])]
  rfl

theorem State.retrainMark_effect (s : State) (n : Nat) (l : List Nat) :
    ((s.retrainMark n l).port n).retrains = l ∧ (s.retrainMark n l).lnState n = s.lnState n ∧ s.sameMem (s.retrainMark n l) ∧
      s.regsBut (s.retrainMark n l) [LN_RETRY n] := by
  have hregs : s.regsBut (s.retrainMark n l) [LN_RETRY n] :=
    ((State.regsBut_refl s _).addSat (List.mem_singleton_self _) _ _).setPort n _
  refine ⟨?_, hregs.fld_eq (by simp [lnStatus_ne_retry]) _, ?_, hregs⟩
  · rw [State.retrainMark, State.port_setPort_self]
  · rw [State.retrainMark, State.sameMem_setPort, State.sameMem_addSat]
    exact s.sameMem_refl

theorem State.lnRetrain_first (hup : s.lnUp n = true) (hold : ∀ b ∈ (s.port n).retrains, b + 100000000 ≤ s.tb) :
    ∃ t, exec (.lnRetrain n true) s = .next t ∧ (t.port n).retrains = [s.tb] ∧ t.lnState n = s.lnState n ∧ s.sameMem t ∧
      s.regsBut t [LN_RETRY n] := by
  have hnow : s.retrainsNow n = [s.tb] := by
    have hnone : (s.port n).retrains.filter (fun b => decide (s.tb < b + 100000000)) = [] :=
      List.filter_eq_nil_iff.2 (fun b hb => by simpa using hold b hb)
    rw [State.retrainsNow, hnone, List.nil_append]
  have hexec := State.lnRetrain_eq hup
  rw [hnow, if_neg (by simp)] at hexec
  exact ⟨_, hexec, s.retrainMark_effect n [s.tb]⟩

theorem State.lnRetrain_third (hup : s.lnUp n = true) {a b : Nat} (h : (s.port n).retrains = [a, b]) (ha : s.tb < a + 100000000)
    (hb : s.tb < b + 100000000) :
    ∃ t, exec (.lnRetrain n true) s = .next t ∧ t.lnState n = 5 ∧ t.fld (LN_STATUS n) LN_STATUS.down_reason = 3 := by
  have hnow : s.retrainsNow n = [a, b, s.tb] := by simp [State.retrainsNow, h, ha, hb]
  have hexec := State.lnRetrain_eq hup
  rw [hnow, if_pos (by simp)] at hexec
  obtain ⟨hdown, hreason, _⟩ := (s.retrainMark n [a, b, s.tb]).lnDown_effect n (reason := 3) (by decide)
  exact ⟨_, hexec, hdown, hreason⟩

/-! ## Credits (R367) -/

theorem State.lnPump_idle (n : Nat) (h : (s.port n).queue = []) : s.lnPump n = s.setPort n ((s.port n).stalls s.tb) := by
  rw [State.lnPump, h]
  rfl

theorem State.lnDrained_idle (n : Nat) (h : (s.port n).draining = false) : s.lnDrained n = s := by
  rw [State.lnDrained, h]
  rfl

/-- A port to whose LVC credits have come back. -/
def Port.credit (p : Port) (lane units : Nat) : Port := { p with credits := p.credits.set lane (p.credits.getD lane 0 + units) }

theorem State.lvcCredit_eq (hup : s.lnUp n = true) (hqueue : (s.port n).queue = []) (hrun : (s.port n).draining = false)
    (lane : Fin 4) (units : BitVec 16) :
    exec (.lvcCredit n lane units) s = .next ((s.setPort n ((s.port n).credit lane units.toNat)).setPort n
      (((s.port n).credit lane units.toNat).stalls (s.setPort n ((s.port n).credit lane units.toNat)).tb)) := by
  have hport : (s.setPort n ((s.port n).credit lane units.toNat)).port n = (s.port n).credit lane units.toNat :=
    State.port_setPort_self
  have hidle : ((s.setPort n ((s.port n).credit lane units.toNat)).lnPump n).lnDrained n =
      (s.setPort n ((s.port n).credit lane units.toNat)).setPort n
        (((s.port n).credit lane units.toNat).stalls (s.setPort n ((s.port n).credit lane units.toNat)).tb) := by
    rw [State.lnPump_idle n (by rw [hport]; exact hqueue), hport, State.lnDrained_idle n]
    rw [State.port_setPort_self]
    exact hrun
  rw [exec_lvcCredit, execLvcCredit, if_pos (by simp [hup])]
  exact congrArg Host.Outcome.next hidle

theorem State.lvcCredit_effect (hup : s.lnUp n = true) (hqueue : (s.port n).queue = []) (hrun : (s.port n).draining = false)
    (lane : Fin 4) (units : BitVec 16) :
    ∃ t, exec (.lvcCredit n lane units) s = .next t ∧ s.sameMem t ∧ s.regsBut t [] ∧
      (∀ l < 4, (s.port n).credits.length = 4 → (t.port n).credits.getD l 0 =
        (s.port n).credits.getD l 0 + if l = lane.val then units.toNat else 0) := by
  refine ⟨_, State.lvcCredit_eq hup hqueue hrun lane units, ?_, ((State.regsBut_refl s _).setPort n _).setPort n _, fun l hl hlen => ?_⟩
  · rw [State.sameMem_setPort, State.sameMem_setPort]
    exact s.sameMem_refl
  · rw [State.port_setPort_self]
    have hcredits : (((s.port n).credit lane units.toNat).stalls (s.setPort n ((s.port n).credit lane units.toNat)).tb).credits =
        (s.port n).credits.set lane ((s.port n).credits.getD lane 0 + units.toNat) := rfl
    rw [hcredits]
    by_cases hlane : l = lane.val
    · subst hlane
      simp [List.getD, hlen]
    · simp [List.getD, hlane, List.getElem?_set_ne (Ne.symm hlane)]

/-- A port that is OFF takes no notice of time and of the wire. -/
theorem State.off_ignores (hoff : s.lnState n = 0) (lane : Fin 4) (x : Option LnTrain) {c : Instr}
    (hc : c ∈ [Instr.trainTimeout n, .keepaliveTimeout n, .creditTimeout n, .rekeyTimeout n, .handshakeTimeout n, .keepaliveSend n,
      .downRetry n x, .lnRetrain n true, .rekey n none, .lnReplay n lane .failed, .lvcCredit n lane 1]) : exec c s = .next s := by
  have hdown := State.lnUp_of_off hoff
  simp only [List.mem_cons, List.not_mem_nil, or_false] at hc
  obtain rfl | rfl | rfl | rfl | rfl | rfl | rfl | rfl | rfl | rfl | rfl := hc
  case inr.inr.inr.inr.inr.inr.inr.inl | inr.inr.inr.inr.inr.inr.inr.inr.inr.inl =>
    exact congrArg Host.Outcome.next (if_pos (by simp [hdown, hoff]))
  all_goals exact congrArg Host.Outcome.next (if_neg (by simp [hdown, hoff]))

/-! ## Settled -/

/-- Settles O55: what takes a port DOWN by the two fields that `lnDown` sets after it has cleared the port, the rest by the branch
of its row. -/
theorem linkEvents : Obligations.LinkEvents := by
  unfold Obligations.LinkEvents
  intro s n lane x
  refine ⟨fun c r hc htrain hkeep hcredit hrekey => ?_, fun hoff => ⟨fun c hc => ?_, ?_, ?_, ?_⟩, fun hon => ⟨?_, fun mode hmode => ?_⟩,
    fun hstate htime => ?_, fun hstate htime hrun => ?_, fun hup => ⟨fun htime => ?_, fun htime => ?_, ?_, ?_, ?_, fun hfew => ?_,
      fun hold => ?_, fun a b hab ha hb => ?_⟩, fun units hup hqueue hrun => ?_, fun hdrain htime => ?_, fun hrun => ?_,
    fun hstate hdue => ?_, fun hstate hdue => ?_⟩
  · simp only [List.mem_cons, List.not_mem_nil, or_false, Prod.mk.injEq] at hc
    obtain ⟨rfl, rfl⟩ | ⟨rfl, rfl⟩ | ⟨rfl, rfl⟩ | ⟨rfl, rfl⟩ := hc
    · obtain ⟨hstate, htime⟩ := htrain rfl
      exact State.trainTimeout_downs hstate htime
    · exact State.downs (by decide) (congrArg Host.Outcome.next (if_pos (hkeep rfl)))
    · obtain ⟨hup, b, hb, htime⟩ := hcredit rfl
      exact State.downs (by decide) (State.creditTimeout_downs hup hb htime)
    · exact State.downs (by decide) (congrArg Host.Outcome.next (if_pos (hrekey rfl)))
  · exact State.off_ignores hoff lane x hc
  · exact congrArg Host.Outcome.next (if_pos hoff)
  · exact State.lnPortEnable_alone hoff
  · exact State.lnDisableReq_off hoff
  · exact congrArg Host.Outcome.next (if_neg hon)
  · exact State.lnDisableReq_on hon hmode
  · exact ⟨_, congrArg Host.Outcome.next (if_pos ⟨hstate, htime⟩), s.lnFail_effect n⟩
  · exact congrArg Host.Outcome.next (if_pos ⟨hstate, htime, by simp [hrun]⟩)
  · exact congrArg Host.Outcome.next (if_pos ⟨hup, htime⟩)
  · exact congrArg Host.Outcome.next (if_neg (by simp [Nat.not_le.2 htime]))
  · obtain ⟨hport, hmem, hregs⟩ := s.flitMark_effect n { s.port n with failedReplays := (s.port n).failedReplays + 1 }
    exact ⟨_, State.lnReplay_failed hup lane, congrArg Port.failedReplays hport, hmem, hregs⟩
  · obtain ⟨hport, hmem, hregs⟩ := s.flitMark_effect n { s.port n with failedReplays := 0 }
    exact ⟨_, State.lnReplay_replayed hup lane, congrArg Port.failedReplays hport, hmem, hregs⟩
  · exact ⟨_, State.lnReplay_corrected hup lane,
      (((State.onlyRegs_refl s _).addSat (by simp) _ _).addSat (by simp) _ _).addSat (by simp) _ _⟩
  · exact congrArg Host.Outcome.next (if_pos (by simp [Nat.not_le.2 hfew]))
  · exact State.lnRetrain_first hup hold
  · exact State.lnRetrain_third hup hab ha hb
  · exact State.lvcCredit_effect hup hqueue hrun lane units
  · exact congrArg Host.Outcome.next (if_pos ⟨hdrain, htime⟩)
  · exact congrArg Host.Outcome.next (if_neg (by simp [hrun]))
  · exact congrArg Host.Outcome.next (if_pos ⟨hstate, hdue⟩)
  · exact congrArg Host.Outcome.next (if_neg (by simp [hdue]))

end Sys2Proof.Machine
end

section
/-! Handshake messages, routed frames, egress proxies and joins (R362, R363, R366, R370 to R377, R381, R382). -/
namespace Sys2Proof.Machine

variable {s t u : State} {n : LnPort} {f : LnFrame}

/-! ## Messages of a handshake (R363, R365) -/

/-- A handshake message that a port waits for is counted. -/
def State.lnTaken (s : State) (n : Nat) : State := s.addWrap (LN_FRAMES_RX n) 1

theorem State.ports_lnTaken (s : State) (n : Nat) : (s.lnTaken n).ports = s.ports :=
  ite_k (fun (t : State) => t.ports = s.ports) State.setFld_ports (State.setFld_ports.trans State.setFld_ports)

theorem State.port_lnTaken (s : State) (n m : Nat) : (s.lnTaken n).port m = s.port m := State.port_eq (s.ports_lnTaken n) m

theorem State.lnClearDue_of {k : Nat} (hstate : s.lnState n = 2) (hactive : (s.port n).hs.active = true) (hwhole : fWhole f = true)
    (hkind : fKind f = k) : s.lnClearDue n k f = true := by
  rw [State.lnClearDue, hstate, hactive, hwhole, hkind]
  simp

theorem State.lnClearDue_other {k : Nat} (h : s.lnState n ≠ 2) : s.lnClearDue n k f = false := by
  simp [State.lnClearDue, h]

/-- A part of the partner's HELLO is kept. -/
def State.helloPart (s : State) (n : Nat) (f : LnFrame) : State :=
  (s.lnTaken n).setPort n { s.port n with hs := { (s.port n).hs with
    parts := tset [] (s.port n).hs.parts (fNum f 45 1) (fSigned f) } }

theorem State.hello_fails (hdue : s.lnClearDue n fHELLO f = true)
    (hbad : (s.port n).hs.haveHello = true ∨ fNum f 46 1 ≤ fNum f 45 1) :
    exec (.hello n f) s = .next ((s.helloPart n f).lnFail n) :=
  congrArg Host.Outcome.next ((if_neg (by simp [hdue])).trans (if_pos hbad))

/-- A frame that is as long as its header says has one. -/
theorem fSigned_ne_nil (h : fWhole f = true) : fSigned f ≠ [] := by
  rw [fWhole, Bool.and_eq_true, beq_iff_eq] at h
  obtain ⟨_, hlen⟩ := h
  intro hnil
  have hzero : (f.take 64).length = 0 := by
    rw [fSigned, List.append_eq_nil_iff] at hnil
    rw [hnil.1, List.length_nil]
  rw [List.length_take] at hzero
  omega

/-- The first entry of an empty table is listed. -/
theorem tset_nil_zero {x : List Byte} (h : x ≠ []) : tset [] [] 0 x = [(0, x)] := by
  simp [tset, Sparse.set, Sparse.drop, Sparse.insert, h]

theorem State.hello_whole (hdue : s.lnClearDue n fHELLO f = true) (hwhole : fWhole f = true)
    (hnew : (s.port n).hs.haveHello = false) (hpart : fNum f 45 1 = 0) (hparts : fNum f 46 1 = 1) (hnone : (s.port n).hs.parts = []) :
    exec (.hello n f) s = .next ((s.helloPart n f).lnHelloDone n ((tget [] (tset [] [] 0 (fSigned f)) 0).drop 64)) := by
  have hlist := tset_nil_zero (fSigned_ne_nil hwhole)
  rw [exec_hello, execHello, if_neg (by simp [hdue])]
  dsimp only
  rw [if_neg (by simp [hnew, hpart, hparts]), hparts, if_pos (by simp [hnone, hpart, hlist])]
  rw [hpart, hnone]
  simp [State.helloPart, State.lnTaken, hpart, hnone]

theorem State.kem_handshake (hdue : s.lnClearDue n fKEM f = true) (hhello : (s.port n).hs.haveHello = true) :
    exec (.kem n f) s = .next ((s.lnTaken n).lnKem n (fSigned f) true (fun s => s.lnFail n)) := by
  have hkept : ((s.lnTaken n).port n).hs.haveHello = true := by rw [State.port_lnTaken, hhello]
  exact congrArg Host.Outcome.next ((if_pos hdue).trans (if_neg (by simp [State.lnTaken] at hkept; simp [hkept])))

theorem State.kem_early (hdue : s.lnClearDue n fKEM f = true) (hhello : (s.port n).hs.haveHello = false) :
    exec (.kem n f) s = .next ((s.lnTaken n).lnFail n) := by
  have hkept : ((s.lnTaken n).port n).hs.haveHello = false := by rw [State.port_lnTaken, hhello]
  exact congrArg Host.Outcome.next ((if_pos hdue).trans (if_pos (by simp [State.lnTaken] at hkept; simp [hkept])))

/-! ## Routed frames (R362, R366, R370 to R372) -/

theorem State.lnRouted_closed (hup : s.lnUp n = true) (g : List Byte → State → State) (h : s.lnOpen n f = (none, t)) :
    s.lnRouted n f true g = t := by
  rw [State.lnRouted, if_neg (by simp [hup]), h]

theorem State.lnRouted_opened (hup : s.lnUp n = true) (g : List Byte → State → State) {b : List Byte}
    (h : s.lnOpen n f = (some b, t)) :
    s.lnRouted n f true g = if fNum b 2 1 = 0 ∨ fNum b 2 1 > fNum b 3 1 then t.lnUnknown n else g b t := by
  rw [State.lnRouted, if_neg (by simp [hup]), h]

/-! ## Egress proxies (R371, R374) -/

theorem State.egressSend_waits {die : Fin 2} {proxy : Fin 64} {m : Msg} {y : Nat} {rest : List (Msg × Nat)}
    (hbuf : (s.eg (die * 64 + proxy)).buf = (m, y) :: rest)
    (hcredit : s.fld (LN_EGRESS_W3 die proxy) LN_EGRESS_W3.credits < m.units) : exec (.egressSend die proxy) s = .next s := by
  rw [exec_egressSend, execEgressSend, hbuf]
  exact congrArg Host.Outcome.next (if_neg (by simp [Nat.not_le.2 hcredit]))

theorem lnEgress_ne (d i : Nat) : LN_EGRESS_W0 d i ≠ LN_EGRESS_W3 d i := by unfold LN_EGRESS_W0 LN_EGRESS_W3; omega

/-- The head message of an egress proxy leaves it, for its credits. -/
def State.egressTaken (s : State) (d i : Nat) (m : Msg) (rest : List (Msg × Nat)) : State :=
  (s.setFld (LN_EGRESS_W3 d i) LN_EGRESS_W3.credits (s.fld (LN_EGRESS_W3 d i) LN_EGRESS_W3.credits - m.units)).setEg (d * 64 + i)
    { s.eg (d * 64 + i) with buf := rest }

theorem State.egressSend_sends {die : Fin 2} {proxy : Fin 64} {m : Msg} {y : Nat} {rest : List (Msg × Nat)}
    (hbuf : (s.eg (die * 64 + proxy)).buf = (m, y) :: rest) (hup : s.lnUp (s.egPort die proxy) = true)
    (hrun : (s.port (s.egPort die proxy)).draining = false)
    (hcredit : m.units ≤ s.fld (LN_EGRESS_W3 die proxy) LN_EGRESS_W3.credits) :
    exec (.egressSend die proxy) s = .next ((s.egressTaken die proxy m rest).lnQueue (s.egPort die proxy)
      (s.fld (LN_EGRESS_W0 die proxy) LN_EGRESS_W0.lvc) false (s.egFrame die proxy m)) := by
  rw [exec_egressSend, execEgressSend, hbuf]
  dsimp only
  rw [if_pos (by simp [hup, hrun, hcredit]), State.fld_setFld_ne (lnEgress_ne _ _)]
  rfl

/-! ## Joins (R381, R382) -/

/-- A joined context is open, and has made `k` gathers. -/
def State.joinOpen (s : State) (c k : Nat) : State :=
  ((s.dropJoin c).setCtx c { s.ctx c with gathers := k }).setBit (SCU_STR_STATE c) SCU_STR_STATE.admission_open true

/-- Gathering begins at a joined context. -/
def State.joinBegun (s : State) (c k : Nat) : State :=
  (s.joinOpen c k).setBit (SCU_STR_STATE c) SCU_STR_STATE.gather_paused false

theorem strState_not_mem_reply {c : Nat} (hc : c < 16) : SCU_STR_STATE c ∉ replyRegs := by
  simp only [replyRegs, List.mem_cons, List.not_mem_nil, or_false]
  unfold SCU_STR_STATE SCU_CMD_STATUS SCU_EVT_LOST TL_DRDY
  omega

theorem State.complete_of_none {f : Waiting → Bool} {g : State → Waiting → State} (h : s.waiting = []) :
    s.complete f g = (s.unwait f).cmdView := by
  rw [State.complete, State.unwait, h]
  rfl

/-- The gathers that a joined context has made by now. -/
def State.joinGathers (s : State) (x : Join) : Nat := if x.period = 0 ∨ s.tb < x.t0 then 0 else (s.tb - x.t0) / x.period + 1

theorem State.joinStepReached_eq {c : Fin 16} {x : Join} (hjoin : s.joinOf c = some x) (himported : x.imported = true)
    (hreached : s.joinReached c x = true) (hheals : s.health.heals = []) :
    exec (.joinStepReached c) s = .next ((s.joinBegun c (s.joinGathers x)).joinReply c (fun s w => s.ok w [])) := by
  have hheal : ((s.joinOpen c (s.joinGathers x)).health.heals.any (fun h => h.ctx == c.val)) = false := by
    rw [State.joinOpen, State.setBit_health, State.setCtx, State.dropJoin, hheals]
    rfl
  have hgate : (if (s.joinOpen c (s.joinGathers x)).health.heals.any (fun h => h.ctx == c.val) then s.joinOpen c (s.joinGathers x)
      else (s.joinOpen c (s.joinGathers x)).setBit (SCU_STR_STATE c) SCU_STR_STATE.gather_paused false) =
      s.joinBegun c (s.joinGathers x) := by
    rw [hheal]
    rfl
  rw [exec_joinStepReached, execJoinStepReached, hjoin, ← hgate]
  exact congrArg Host.Outcome.next (if_neg (by simp [himported, hreached]))

theorem State.joinOf_dropJoin (s : State) (c : Nat) : (s.dropJoin c).joinOf c = none := by
  have hnone : (s.joins.filter (fun e => e.1 != c)).find? (fun e => e.1 == c) = none :=
    List.find?_eq_none.2 (fun e he => by simpa using (List.mem_filter.1 he).2)
  rw [State.joinOf, State.dropJoin, hnone]
  rfl

/-- Replies where no command waits: the count of commands in progress alone is written. -/
theorem State.answered_frame (u : State) (f : Waiting → Bool) :
    (u.unwait f).cmdView.joins = u.joins ∧ (u.unwait f).cmdView.ctxs = u.ctxs ∧ u.sameMem (u.unwait f).cmdView ∧
      u.regsBut (u.unwait f).cmdView replyRegs := by
  refine ⟨rfl, rfl, ?_, State.regsBut.setFld (fun _ _ => rfl) (by simp [replyRegs]) _ _⟩
  rw [State.cmdView, State.sameMem_setFld, State.unwait, State.sameMem_upd]
  exact u.sameMem_refl

theorem State.joinBegun_frame (s : State) (c k : Nat) :
    (s.joinBegun c k).joinOf c = none ∧ (s.joinBegun c k).ctx c = { s.ctx c with gathers := k } ∧ s.sameMem (s.joinBegun c k) := by
  refine ⟨s.joinOf_dropJoin c, State.ctx_setCtx_self, ?_⟩
  rw [State.joinBegun, State.sameMem_setBit, State.joinOpen, State.sameMem_setBit, State.sameMem_setCtx, State.dropJoin,
    State.sameMem_upd]
  exact s.sameMem_refl

theorem State.joinBegun_effect (s : State) {c : Nat} (hc : c < 16) (k : Nat) (hwaiting : s.waiting = []) :
    let t := (s.joinBegun c k).joinReply c (fun s w => s.ok w [])
    t.joinOf c = none ∧ t.bit (SCU_STR_STATE c) SCU_STR_STATE.admission_open = true ∧
      t.bit (SCU_STR_STATE c) SCU_STR_STATE.gather_paused = false ∧ (t.ctx c).gathers = k ∧ s.sameMem t := by
  have hin := strState_not_mem_reply hc
  have hnone : (s.joinBegun c k).waiting = [] := hwaiting
  have hreply : (s.joinBegun c k).joinReply c (fun s w => s.ok w []) =
      ((s.joinBegun c k).unwait (fun w => w.op == 0x0A04 && w.ctx == c)).cmdView := State.complete_of_none hnone
  obtain ⟨hjoins, hctxs, hmem, hregs⟩ := (s.joinBegun c k).answered_frame (fun w => w.op == 0x0A04 && w.ctx == c)
  obtain ⟨hjoin, hctx, hsame⟩ := s.joinBegun_frame c k
  rw [hreply]
  refine ⟨?_, ?_, ?_, ?_, hsame.trans hmem⟩
  · rw [State.joinOf, hjoins]
    exact hjoin
  · rw [hregs.bit_eq hin, State.joinBegun, State.bit_setBit_beside (by decide) (by decide) (by decide), State.joinOpen,
      State.bit_setBit_self (by decide) rfl]
  · rw [hregs.bit_eq hin, State.joinBegun, State.bit_setBit_self (by decide) rfl]
  · rw [State.ctx, hctxs]
    exact congrArg Ctx.gathers hctx

end Sys2Proof.Machine
end

section
/-! The Lanel rows of handshakes, routed frames, proxies and joins settled (R362, R363, R366, R370 to R377, R381, R382). -/
namespace Sys2Proof.Machine

variable {s t u : State} {n : LnPort} {f : LnFrame}

/-- A port that does not wait for a handshake takes none of its messages. -/
theorem State.handshake_ignored (h : s.lnState n ≠ 2) {c : Instr} (hc : c ∈ [Instr.hello n f, .sign n f, .finished n f]) :
    exec c s = .next s := by
  simp only [List.mem_cons, List.not_mem_nil, or_false] at hc
  obtain rfl | rfl | rfl := hc
  · exact congrArg Host.Outcome.next (if_pos (by simp [State.lnClearDue_other h]))
  · exact congrArg Host.Outcome.next (if_pos (by simp [State.lnClearDue_other h]))
  · exact congrArg Host.Outcome.next (if_pos (Or.inl h))

theorem State.sign_due (hdue : s.lnClearDue n fSIGN f = true) :
    exec (.sign n f) s = .next
      (if !(s.port n).hs.digest.isEmpty && Config.chainOk (s.port n).hs.chain (s.port n).hs.partnerKey &&
          Config.hssVerify (s.port n).hs.partnerKey (s.port n).hs.digest (fPayload f) then
        ((s.lnTaken n).setPort n { s.port n with hs := { (s.port n).hs with verified := true } }).lnFinish n
      else (s.lnTaken n).lnFail n) :=
  congrArg Host.Outcome.next (if_neg (by simp [hdue]))

theorem State.finished_early (hstate : s.lnState n = 2) (hkind : fKind f = fFINISHED) (hdigest : (s.port n).hs.digest = []) :
    exec (.finished n f) s = .next (s.lnFail n) :=
  congrArg Host.Outcome.next ((if_neg (by simp [hstate, hkind])).trans (if_pos (by rw [hdigest]; rfl)))

theorem State.finished_closed (hstate : s.lnState n = 2) (hkind : fKind f = fFINISHED) (hdigest : (s.port n).hs.digest ≠ [])
    (h : s.lnOpen n f = (none, t)) :
    exec (.finished n f) s = .next (if t.lnState n = 2 then t.lnFail n else t) := by
  rw [exec_finished, execFinished, if_neg (by simp [hstate, hkind]), if_neg (by simp [hdigest]), h]

theorem State.finished_opened (hstate : s.lnState n = 2) (hkind : fKind f = fFINISHED) (hdigest : (s.port n).hs.digest ≠ [])
    {b : List Byte} (h : s.lnOpen n f = (some b, t)) :
    exec (.finished n f) s =
      .next ((t.setPort n { t.port n with hs := { (t.port n).hs with finGot := true } }).lnFinish n) := by
  rw [exec_finished, execFinished, if_neg (by simp [hstate, hkind]), if_neg (by simp [hdigest]), h]

/-- A frame with a bad hop, and one with no way on, go the same way. -/
theorem ite_or_unknown {α : Type} (p q : Prop) [Decidable p] [Decidable q] (x y : α) :
    (if p ∨ q then x else y) = if p then x else if q then x else y := by
  by_cases hp : p
  · rw [if_pos (Or.inl hp), if_pos hp]
  · rw [if_neg hp]
    exact if_congr (or_iff_right hp) rfl rfl

/-- The return route's length is no part of what a proxy holds. -/
theorem InProxy.held_return (x : InProxy) (hops : Nat) :
    (if x.returnHops = 0 then { x with returnHops := hops } else x).held = x.held := by
  split <;> rfl

/-- The return route is in words of its own. -/
theorem State.fld_return (t : State) (c : Prop) [Decidable c] (d i : Nat) (v w : Word) (g : Field) :
    (if c then (t.setReg (LN_INGRESS_W2 d i) v).setReg (LN_INGRESS_W3 d i) w else t).fld (LN_INGRESS_W1 d i) g =
      t.fld (LN_INGRESS_W1 d i) g := by
  have hlow : LN_INGRESS_W1 d i ≠ LN_INGRESS_W2 d i := by unfold LN_INGRESS_W1 LN_INGRESS_W2; omega
  have hhigh : LN_INGRESS_W1 d i ≠ LN_INGRESS_W3 d i := by unfold LN_INGRESS_W1 LN_INGRESS_W3; omega
  split
  · rw [State.fld_setReg_ne hhigh, State.fld_setReg_ne hlow]
  · rfl

/-- Settles O56: each message of a handshake by the branch of its row, a routed frame by whether it opens, and a join by what its
end writes. -/
theorem linkHandshakesAndProxies : Obligations.LinkHandshakesAndProxies := by
  unfold Obligations.LinkHandshakesAndProxies
  intro s n f
  refine ⟨fun hstate hactive hwhole => ⟨fun hkind hbad => ?_, fun hkind hnew hpart hparts hnone => ?_, fun hkind hhello => ?_,
      fun hkind hhello => ?_, fun hkind => ?_⟩, fun hstate hkind => ⟨fun hdigest => ?_, fun hdigest => ?_⟩,
    fun hstate c hc => State.handshake_ignored hstate hc, fun hup => ⟨fun hrouted hfinal => ?_, fun hkind hfinal => ?_,
      fun hrouted hkind hfinal => ?_⟩, fun die proxy => ⟨fun hbuf => ?_, fun m y rest hbuf => ⟨fun hcredit => ?_,
        fun hup hrun hcredit => ?_⟩⟩, fun c => ⟨fun hjoin => ?_, fun x hjoin => ⟨fun himported => ?_,
          fun himported hreached hheals hwaiting => ?_⟩⟩⟩
  · have hport := s.port_lnTaken n n
    have hfail := State.hello_fails (State.lnClearDue_of hstate hactive hwhole hkind) hbad
    rw [State.helloPart, ← hport] at hfail
    rw [← hport]
    exact hfail
  · have hport := s.port_lnTaken n n
    have hdone := State.hello_whole (State.lnClearDue_of hstate hactive hwhole hkind) hwhole hnew hpart hparts hnone
    rw [State.helloPart, hpart, hnone, ← hport] at hdone
    rw [← hport]
    exact hdone
  · exact State.kem_handshake (State.lnClearDue_of hstate hactive hwhole hkind) hhello
  · exact State.kem_early (State.lnClearDue_of hstate hactive hwhole hkind) hhello
  · exact State.sign_due (State.lnClearDue_of hstate hactive hwhole hkind)
  · exact State.finished_early hstate hkind hdigest
  · rcases hopen : s.lnOpen n f with ⟨_ | b, t⟩
    · exact State.finished_closed hstate hkind hdigest hopen
    · exact State.finished_opened hstate hkind hdigest hopen
  · rw [exec_transitFrame, execTransitFrame, hrouted, hfinal, Bool.not_false, Bool.true_and]
    rcases hopen : s.lnOpen n f with ⟨_ | b, t⟩
    · exact congrArg Host.Outcome.next (State.lnRouted_closed hup _ hopen)
    · refine congrArg Host.Outcome.next ((State.lnRouted_opened hup _ hopen).trans ?_)
      exact (ite_or_unknown _ _ _ _).symm
  · rw [exec_proxyCredit, execProxyCredit, hfinal, Bool.and_true, beq_iff_eq.2 hkind]
    rcases hopen : s.lnOpen n f with ⟨_ | b, t⟩
    · exact congrArg Host.Outcome.next (State.lnRouted_closed hup _ hopen)
    · refine congrArg Host.Outcome.next ((State.lnRouted_opened hup _ hopen).trans (ite_congr rfl (fun _ => rfl) (fun _ => ?_)))
      dsimp only
      generalize (List.range 64).find? _ = proxy
      cases proxy <;> rfl
  · rw [exec_ingressFrame, execIngressFrame, hrouted, hfinal, Bool.true_and, Bool.and_true, bne_iff_ne.2 hkind]
    rcases hopen : s.lnOpen n f with ⟨_ | b, t⟩
    · exact congrArg Host.Outcome.next (State.lnRouted_closed hup _ hopen)
    · refine congrArg Host.Outcome.next ((State.lnRouted_opened hup _ hopen).trans (ite_congr rfl (fun _ => rfl) (fun _ => ?_)))
      dsimp only
      generalize (List.range 64).find? _ = proxy
      cases proxy with
      | none => rfl
      | some i =>
        dsimp only
        rw [InProxy.held_return, State.fld_return]
        rfl
  · rw [exec_egressSend, execEgressSend, hbuf]
  · exact State.egressSend_waits hbuf hcredit
  · exact State.egressSend_sends hbuf hup hrun hcredit
  · rw [exec_joinStepReached, execJoinStepReached, hjoin]
  · rw [exec_joinStepReached, execJoinStepReached, hjoin]
    exact congrArg Host.Outcome.next (if_pos (by simp [himported]))
  · obtain ⟨hnone, hopen, hpaused, hgathers, hmem⟩ := s.joinBegun_effect c.isLt (s.joinGathers x) hwaiting
    exact ⟨_, State.joinStepReached_eq hjoin himported hreached hheals, hnone, hopen, hpaused, hgathers, hmem⟩

end Sys2Proof.Machine
end

section
/-! The steering unit's GATE and REPEAT, remote accesses, and errors of mesh links (R100, R113, R142, R153, R154). -/
namespace Sys2Proof.Machine

variable {s t u : State} {p : Tile}

/-! ## The steering unit (R98 to R100, R103) -/

/-- A queue that presents no stale entry is not purged. -/
theorem State.purge_of_fresh {p r : Nat} (h : ∀ x ∈ s.rEnts p r, s.waitsPop p r x = true → s.stale p x.hdr = false) :
    s.purge p r = s := by
  have hnone : (s.rEnts p r).filter (fun e => s.waitsPop p r e && s.stale p e.hdr) = [] :=
    List.filter_eq_nil_iff.2 (fun x hx => by
      rw [Bool.and_eq_true]
      exact fun ⟨hpop, hstale⟩ => Bool.noConfusion ((h x hx hpop).symm.trans hstale))
  rw [State.purge, hnone]
  rfl

theorem State.foldl_purge {p : Nat} {l : List Nat} (h : ∀ r ∈ l, s.purge p r = s) : l.foldl (fun s r => s.purge p r) s = s := by
  induction l with
  | nil => rfl
  | cons r l ih =>
    rw [List.foldl_cons, h r (List.mem_cons_self ..)]
    exact ih (fun q hq => h q (List.mem_cons_of_mem _ hq))

/-- What is noted of a firing of an operator. -/
def State.opFired (s : State) (p j : Nat) : State := (s.suWaiting p j false).suFired p

/-- An operator that may be evaluated and fires. -/
theorem State.suStep_fires {p j k : Nat} (hready : s.suReady p j k) (hk : k ≤ 6) {fire : State → SuRes} (h : fire s = .fired t) :
    s.suStep p j k fire = t.opFired p j := by
  obtain ⟨hstart, hrun, hkind, hqueues, hfresh⟩ := hready
  have hall : ((s.suQueues p j k).1 ++ (s.suQueues p j k).2).all (fun r => s.isQueue p r) = true := List.all_eq_true.2 hqueues
  have hpurge := State.foldl_purge (fun r hr => State.purge_of_fresh (hfresh r hr))
  unfold State.suStep
  dsimp only
  rw [if_neg (by simp [hstart, hrun]), if_neg (by omega), if_neg (by simp [hkind]), if_neg (by simp [hall]), hpurge, h]
  rfl

section Operator

variable {j : Fin 8} {c d : Ent}

theorem State.fireGate_passes (hctl : s.suHead p (s.suCfg p j SU_OP_CFG.ctl) = some c) (hend : c.hdr.isEnd = false)
    (hin : s.suHead p (s.suCfg p j SU_OP_CFG.in0) = some d) (hroom : s.hasRoom p (s.suCfg p j SU_OP_CFG.out0) = true)
    (hval : c.hdr.offVal ≠ 0) :
    s.fireGate p j = .fired ((((s.pushIn p (s.suCfg p j SU_OP_CFG.out0) d.hdr).suPop p (s.suCfg p j SU_OP_CFG.in0) d).suPop p
      (s.suCfg p j SU_OP_CFG.ctl) c).suEob p d.hdr) := by
  rw [State.fireGate, hctl]
  dsimp only
  rw [if_neg (by simp [hend]), hin]
  dsimp only
  rw [if_neg (by simp [hroom]), if_pos (by simp [hval])]

theorem State.fireGate_discards (hctl : s.suHead p (s.suCfg p j SU_OP_CFG.ctl) = some c) (hend : c.hdr.isEnd = false)
    (hin : s.suHead p (s.suCfg p j SU_OP_CFG.in0) = some d) (hdata : d.hdr.typ = tData)
    (hroom : s.hasRoom p (s.suCfg p j SU_OP_CFG.out0) = true) (hval : c.hdr.offVal = 0) :
    s.fireGate p j = .fired ((s.suDiscard p (s.suCfg p j SU_OP_CFG.in0) d).suPop p (s.suCfg p j SU_OP_CFG.ctl) c) := by
  rw [State.fireGate, hctl]
  dsimp only
  rw [if_neg (by simp [hend]), hin]
  dsimp only
  rw [if_neg (by simp [hroom]), if_neg (by simp [hdata, hval])]

/-- REPEAT of a data token, by what its count says. -/
theorem State.fireRepeat_data (hctl : s.suHead p (s.suCfg p j SU_OP_CFG.ctl) = some c) (hend : c.hdr.isEnd = false)
    (hin : s.suHead p (s.suCfg p j SU_OP_CFG.in0) = some d) (hdata : d.hdr.typ = tData)
    (hroom : s.hasRoom p (s.suCfg p j SU_OP_CFG.out0) = true) :
    let st := SU_OP_STATE p (s.slot p) j
    let n := c.hdr.offVal % 2 ^ 16
    let k := s.fld st SU_OP_STATE.repeat_count + 1
    let t := s.pushIn p (s.suCfg p j SU_OP_CFG.out0) d.hdr
    s.fireRepeat p j =
      if n = 0 then .fired ((s.suDiscard p (s.suCfg p j SU_OP_CFG.in0) d).suPop p (s.suCfg p j SU_OP_CFG.ctl) c)
      else if k ≥ n then .fired (((t.setFld st SU_OP_STATE.repeat_count 0).suPop p (s.suCfg p j SU_OP_CFG.in0) d).suPop p
        (s.suCfg p j SU_OP_CFG.ctl) c)
      else .fired (t.setFld st SU_OP_STATE.repeat_count k) := by
  rw [State.fireRepeat, hctl]
  dsimp only
  rw [if_neg (by simp [hend]), hin]
  dsimp only
  rw [if_neg (by simp [hroom]), if_neg (by simp [hdata])]

end Operator

/-- Settles O24: a ready operator's evaluation is its rule's firing, and each rule's branch is the one its control value picks. -/
theorem gateAndRepeat : Obligations.GateAndRepeat := by
  unfold Obligations.GateAndRepeat
  intro s p j c d ctl r out st n fired hctl hend hin hdata hroom
  have hrepeat := State.fireRepeat_data hctl hend hin hdata hroom
  refine ⟨fun hready hval => ?_, fun hready hval => ?_, fun hready hzero => ?_, fun hready hless => ?_, fun hready hpos hlast => ?_⟩
  · exact congrArg Host.Outcome.next (State.suStep_fires hready (by decide) (State.fireGate_passes hctl hend hin hroom hval))
  · exact congrArg Host.Outcome.next (State.suStep_fires hready (by decide) (State.fireGate_discards hctl hend hin hdata hroom hval))
  · exact congrArg Host.Outcome.next (State.suStep_fires hready (by decide) (hrepeat.trans (if_pos hzero)))
  · exact congrArg Host.Outcome.next (State.suStep_fires hready (by decide)
      (hrepeat.trans ((if_neg (by omega)).trans (if_neg (Nat.not_le.2 hless)))))
  · exact congrArg Host.Outcome.next (State.suStep_fires hready (by decide)
      (hrepeat.trans ((if_neg hpos).trans (if_pos hlast))))

/-! ## Remote accesses (R113, R142) -/

theorem State.remoteWrite_arrived {at_ : MeshPlace} {i : Nat} {x : NetMsg} (h : s.arrivedAt at_ [kRemoteWrite] = some (i, x)) :
    exec (.remoteWrite at_) s =
      .next (if s.mapped x.msg.addr then (s.netDrop i).agentPut x.msg.addr x.msg.payload else s.netDrop i) := by
  rw [exec_remoteWrite, execRemoteWrite, h]
  rfl

/-- The answer to a remote read that has arrived. -/
def State.readAnswer (s : State) (at_ : MeshPlace) (x : NetMsg) : NetMsg :=
  let m := x.msg
  let bad := s.ue.any (fun w => decide (w.2 ≠ 0) && decide (w.1 < m.addr + m.operand) && decide (m.addr < w.1 + eccWord w.1))
  { msg := { kind := kReadResp, vc := m.vc, ctx := m.ctx, destTile := m.srcTile, destEp := m.srcEp, srcTile := m.destTile,
             srcVtile := m.srcVtile, addr := m.addr, operand := m.operand, tok := { mark := bad },
             payload := if s.mapped m.addr then s.bytes m.addr m.operand else [] },
    loc := if at_.val < 256 then at_.val else m.destTile, inPort := if at_.val < 256 then 4 else x.inPort }

theorem State.remoteRead_arrived {at_ : MeshPlace} {i : Nat} {x : NetMsg} (h : s.arrivedAt at_ [kRemoteRead] = some (i, x))
    (hfree : s.homeBusy x.msg.addr x.msg.operand false = []) :
    exec (.remoteRead at_) s = .next { s with net := s.net.eraseIdx i ++ [s.readAnswer at_ x] } := by
  rw [exec_remoteRead, execRemoteRead, h]
  exact congrArg Host.Outcome.next (if_neg (not_not_intro hfree))

theorem State.readResp_delivered {i : Nat} {x : NetMsg} (h : s.arrivedAt p [kReadResp] = some (i, x))
    (hwaits : (s.agP p (x.msg.destEp % 4) (s.slot p)).awaiting = true) (hdata : x.msg.payload ≠ []) (hmark : x.msg.tok.mark = false)
    (hroom : s.agDeliver p (x.msg.destEp % 4) (x.msg.payload.map (fun b => { b := b, mark := false })) = some t) :
    exec (.readResp p) s = .next ((t.netDrop i).agAdvance p (x.msg.destEp % 4)) := by
  rw [exec_readResp, execReadResp, h]
  dsimp only
  rw [if_neg (by simp [hwaits]), if_neg (by simp [hdata]), hmark, hroom]
  rfl

/-- Settles O31: each row on the message that has arrived, by the one branch that its conditions leave. -/
theorem remoteAccesses : Obligations.RemoteAccesses := by
  unfold Obligations.RemoteAccesses
  intro s at_ p i x
  refine ⟨State.remoteWrite_arrived, fun h hfree => ⟨_, s.readAnswer at_ x, State.remoteRead_arrived h hfree, rfl, rfl, rfl, rfl, rfl,
    rfl, rfl⟩, fun t h hwaits hdata hmark hroom => State.readResp_delivered h hwaits hdata hmark hroom⟩

/-! ## Errors of mesh links (R153, R154) -/

theorem errReg_link {p : Nat} {k : Fin 8} (hk : k.val < 4) : errReg p k = RT_LINK_ERR p k := by
  rw [errReg, if_pos hk]

/-- The register of a link port after a flit: a count saturates, the failures in a row and the state follow. -/
def State.linkNote (s : State) (a : Nat) (f : Field) (fails : Nat) : State :=
  (s.addSat a f 1).setFld a RT_LINK_ERR.consec_fail fails

theorem State.linkNote_effect (s : State) (a : Nat) {f : Field} (hf : f.lo + f.width ≤ 64)
    (hbeside : f.lo + f.width ≤ RT_LINK_ERR.consec_fail.lo ∨ RT_LINK_ERR.consec_fail.lo + RT_LINK_ERR.consec_fail.width ≤ f.lo)
    {fails : Nat} (hfails : fails < 16) :
    (s.linkNote a f fails).fld a RT_LINK_ERR.consec_fail = fails ∧
      (s.linkNote a f fails).fld a f = min (s.fld a f + 1) (2 ^ f.width - 1) ∧ s.onlyRegs (s.linkNote a f fails) [a] := by
  have hin := List.mem_singleton_self a
  refine ⟨State.fld_setFld_lt (by decide) hfails, ?_, ((State.onlyRegs_refl s _).addSat hin _ _).setFld hin _ _⟩
  rw [State.linkNote, State.fld_setFld_beside (by decide) hf hbeside, State.fld_addSat_self hf]

/-- The state field, set behind the others. -/
theorem State.linkState_effect (s : State) (a : Nat) {f : Field} (hf : f.lo + f.width ≤ RT_LINK_ERR.state.lo) (v : Nat) :
    (s.setFld a RT_LINK_ERR.state v).fld a f = s.fld a f :=
  State.fld_setFld_beside (by decide) (hf.trans (by decide)) (.inl hf)

section Port

variable {k : Fin 8} (hk : k.val < 4) (hopen : s.portFenced p k = false) (hplain : bridgeOf p k = none)

include hk hopen hplain

theorem State.linkRetry_corrected :
    exec (.linkRetry p k .corrected) s = .next (s.linkNote (RT_LINK_ERR p k) RT_LINK_ERR.corrected 0) := by
  rw [exec_linkRetry, execLinkRetry, if_neg (by simp [Fin.lt_def, hk, hopen]), Nat.mod_eq_of_lt hk, hplain, errReg_link hk]
  rfl

theorem State.linkRetry_replayed :
    exec (.linkRetry p k .replayed) s =
      .next ((s.linkNote (RT_LINK_ERR p k) RT_LINK_ERR.retries 0).setFld (RT_LINK_ERR p k) RT_LINK_ERR.state 0) := by
  rw [exec_linkRetry, execLinkRetry, if_neg (by simp [Fin.lt_def, hk, hopen]), Nat.mod_eq_of_lt hk, hplain, errReg_link hk]
  rfl

theorem State.linkRetry_failed :
    exec (.linkRetry p k .failed) s = .next ((s.linkNote (RT_LINK_ERR p k) RT_LINK_ERR.retries
      (min 8 (s.fld (RT_LINK_ERR p k) RT_LINK_ERR.consec_fail + 1))).setFld (RT_LINK_ERR p k) RT_LINK_ERR.state 1) := by
  have hfails : (s.addSat (RT_LINK_ERR p k) RT_LINK_ERR.retries 1).fld (RT_LINK_ERR p k) RT_LINK_ERR.consec_fail =
      s.fld (RT_LINK_ERR p k) RT_LINK_ERR.consec_fail := State.fld_setFld_beside (by decide) (by decide) (by decide)
  rw [exec_linkRetry, execLinkRetry, if_neg (by simp [Fin.lt_def, hk, hopen]), Nat.mod_eq_of_lt hk, hplain, errReg_link hk]
  dsimp only
  rw [hfails]
  rfl

end Port

theorem State.linkRetry_fenced {k : Fin 8} (hk : k.val < 4) (h : s.portFenced p k = true) (flit : LinkFlit) :
    exec (.linkRetry p k flit) s = .next s := by
  exact congrArg Host.Outcome.next (if_pos (by simp [Fin.lt_def, hk, h]))

/-- Settles O32: a flit's counts are those of the port's one register, and a hop fails by the count of failures in a row. -/
theorem linkErrors : Obligations.LinkErrors := by
  unfold Obligations.LinkErrors
  intro s p k hk a
  have hin := List.mem_singleton_self a
  refine ⟨fun hopen hplain => ⟨?_, ?_, ?_⟩, fun h => State.linkRetry_fenced hk h, fun caught h => ?_, fun caught h => ?_⟩
  · obtain ⟨hfails, hcount, honly⟩ := s.linkNote_effect a (f := RT_LINK_ERR.corrected) (fails := 0) (by decide) (by decide) (by decide)
    exact ⟨_, State.linkRetry_corrected hk hopen hplain, hfails, hcount, honly⟩
  · obtain ⟨hfails, hcount, honly⟩ := s.linkNote_effect a (f := RT_LINK_ERR.retries) (fails := 0) (by decide) (by decide) (by decide)
    exact ⟨_, State.linkRetry_replayed hk hopen hplain, (State.linkState_effect _ a (by decide) 0).trans hfails,
      (State.linkState_effect _ a (by decide) 0).trans hcount, honly.setFld hin _ _⟩
  · obtain ⟨hfails, hcount, honly⟩ := s.linkNote_effect a (f := RT_LINK_ERR.retries)
      (fails := min 8 (s.fld a RT_LINK_ERR.consec_fail + 1)) (by decide) (by decide) (by omega)
    exact ⟨_, State.linkRetry_failed hk hopen hplain, (State.linkState_effect _ a (by decide) 1).trans hfails,
      (State.linkState_effect _ a (by decide) 1).trans hcount, honly.setFld hin _ _⟩
  · rw [exec_hopDeclaredFailed, execHopDeclaredFailed, errReg_link hk, if_pos h]
  · rw [exec_hopDeclaredFailed, execHopDeclaredFailed, errReg_link hk, if_neg (Nat.not_le.2 h)]

end Sys2Proof.Machine
end

section
/-! SUPPORT. The sideband management bus (R479 to R483) and the test access port (R484, R485). -/
namespace Sys2Proof.Machine

variable {s : State}

/-! ## Block reads (R479, R480) -/

theorem State.length_bootBytes (s : State) : s.bootBytes.length = 64 := by
  simp [State.bootBytes]

theorem State.bootBytes_from_stage (s : State) :
    (s.bootBytes.drop 8).take 2 = leBytes 1 s.stage ++ leBytes 1 (s.fld SCU_BOOT_STATUS SCU_BOOT_STATUS.fail) := rfl

theorem exec_status_of_powered (h : s.boot.powered = true) : exec .status s = .next { s with sb := { s.sb with
    answer := leBytes 1 s.stage ++ leBytes 1 (s.fld SCU_BOOT_STATUS SCU_BOOT_STATUS.fail) ++
      leBytes 1 (s.fld PWR_STATUS PWR_STATUS.state) ++ leBytes 1 s.sbFlags ++ leBytes 1 s.sb.code ++ leBytes 1 s.sb.result ++ [0, 0]
    alert := false } } :=
  congrArg Host.Outcome.next (if_neg (by simp [h]))

/-- The block reads but STATUS put their bytes in place where the module is powered. -/
theorem State.block_read (h : s.boot.powered = true) (l : List Byte) :
    (Host.Outcome.next (if !s.boot.powered then s else s.sbAnswer l) : Host.Outcome State Fault Refusal) = .next (s.sbAnswer l) :=
  congrArg Host.Outcome.next (if_neg (by simp [h]))

/-- Settles O57: each block read is `sbAnswer` of the bytes of R480. -/
theorem sidebandReads : Obligations.SidebandReads := by
  unfold Obligations.SidebandReads
  intro s
  refine ⟨fun hpow => ⟨?_, ?_, ?_, ?_⟩, fun hpow c hc => ?_⟩
  · exact ⟨_, exec_status_of_powered hpow, rfl, rfl, rfl, by simp⟩
  · exact ⟨_, State.block_read hpow _, rfl, rfl, by simp [State.sbAnswer], rfl⟩
  · refine ⟨_, State.block_read hpow _, rfl, rfl, by simp [State.sbAnswer], fun i hi => ?_⟩
    interval_cases i <;> rfl
  · exact ⟨_, State.block_read hpow _, rfl, rfl, by simp [State.sbAnswer, State.length_bootBytes], by
      rw [State.sbAnswer, List.take_take]; exact s.bootBytes_from_stage⟩
  · have hoff : (!s.boot.powered) = true := by simp [hpow]
    simp only [List.mem_cons, List.not_mem_nil, or_false] at hc
    obtain rfl | rfl | rfl | rfl := hc <;> exact congrArg Host.Outcome.next (if_pos hoff)

/-! ## Writes (R480 to R482) -/

theorem State.sbWrite_of_off (h : s.boot.powered = false) (pec : Bool) (f : State → State) : s.sbWrite pec f = s :=
  if_pos (by simp [h])

theorem State.sbWrite_of_wrong_pec (h : s.boot.powered = true) (f : State → State) :
    s.sbWrite false f = { s with sb := { s.sb with pecFaults := s.sb.pecFaults + 1 } } :=
  (if_neg (by simp [h])).trans (if_pos rfl)

theorem State.sbWrite_of_powered (h : s.boot.powered = true) (f : State → State) : s.sbWrite true f = f s :=
  (if_neg (by simp [h])).trans (if_neg (by simp))

/-- `t` has the sideband's state of `s`, and its values of the fields of `l`. -/
def State.keepsFlds (l : List (Nat × Field)) (s t : State) : Prop :=
  t.sb = s.sb ∧ ∀ x ∈ l, t.fld x.1 x.2 = s.fld x.1 x.2

/-- The gates that a stop shuts, but the tiles' own. -/
def gateFlds : List (Nat × Field) := [(PWR_GATE, PWR_GATE.host_gate), (PWR_GATE, PWR_GATE.unprot_gate)]

/-- The fields by which firmware serves and takes commands. -/
def serveFlds : List (Nat × Field) := [(PWR_STATUS, PWR_STATUS.state), (SCU_BOOT_STATUS, SCU_BOOT_STATUS.stage),
  (SCU_WDT_STATUS, SCU_WDT_STATUS.stub_active), (SCU_RESET_STATUS, SCU_RESET_STATUS.step)]

/-- The fields of `l` lie beside the field `f` of the register at `a`. -/
abbrev besideAll (l : List (Nat × Field)) (a : Nat) (f : Field) : Prop :=
  ∀ x ∈ l, a ≠ x.1 ∨ x.2.lo + x.2.width ≤ 64 ∧ (x.2.lo + x.2.width ≤ f.lo ∨ f.lo + f.width ≤ x.2.lo)

section Keeps
variable {l : List (Nat × Field)} {t u : State}

theorem State.keepsFlds_of_reg (hsb : t.sb = s.sb) (hreg : ∀ x ∈ l, t.reg x.1 = s.reg x.1) : State.keepsFlds l s t :=
  ⟨hsb, fun x hx => congrArg _ (hreg x hx)⟩

theorem State.keepsFlds.trans (h : State.keepsFlds l s t) (h' : State.keepsFlds l t u) : State.keepsFlds l s u := by
  obtain ⟨hsb, hfld⟩ := h
  obtain ⟨hsb', hfld'⟩ := h'
  exact ⟨hsb'.trans hsb, fun x hx => (hfld' x hx).trans (hfld x hx)⟩

theorem State.keepsFlds_setFld (s : State) {a : Nat} {f : Field} (hw : f.lo + f.width ≤ 64) (h : besideAll l a f) (v : Nat) :
    State.keepsFlds l s (s.setFld a f v) := by
  refine ⟨rfl, fun x hx => ?_⟩
  obtain ⟨b, g⟩ := x
  by_cases hab : a = b
  · subst hab
    obtain hne | ⟨hg, hbeside⟩ := h _ hx
    · exact absurd rfl hne
    · exact State.fld_setFld_beside hw hg hbeside
  · exact State.fld_setFld_ne (Ne.symm hab)

end Keeps

/-- The fields of `l` that a view of the gates leaves as they are. -/
structure GateFree (l : List (Nat × Field)) : Prop where
  ms : besideAll l PWR_GATE PWR_GATE.throttle_ms
  least : besideAll l PWR_GATE PWR_GATE.prot_gate_min
  throttled : besideAll l PWR_STATUS PWR_STATUS.throttled
  event : ∀ x ∈ l, x.1 ∉ eventRegs

theorem gateFree_gateFlds : GateFree gateFlds := ⟨by decide, by decide, by decide, by decide⟩

theorem gateFree_serveFlds : GateFree serveFlds := ⟨by decide, by decide, by decide, by decide⟩

section GateView
variable {l : List (Nat × Field)} (hl : GateFree l)
include hl

theorem State.keepsFlds_powerNote (s : State) (k : Nat) : State.keepsFlds l s (s.powerNote k) :=
  ite_k (State.keepsFlds l s)
    (State.keepsFlds_of_reg (State.sb_eq State.work_event) (fun x hx => State.regsBut_event s _ _ _ _ (hl.event x hx)))
    ⟨rfl, fun _ _ => rfl⟩

theorem State.keepsFlds_gateShown (s : State) (m : Nat) (now : Bool) : State.keepsFlds l s
    ((s.setFld PWR_GATE PWR_GATE.prot_gate_min m).setBit PWR_STATUS PWR_STATUS.throttled now).fullView :=
  ((s.keepsFlds_setFld (by decide) hl.least m).trans (State.keepsFlds_setFld _ (by decide) hl.throttled _)).trans
    (State.keepsFlds_of_reg rfl fun _ _ => rfl)

/-- Raising or lowering gates moves the view of them, and nothing that a stop or a release asks about. -/
theorem State.keepsFlds_gateView (s : State) : State.keepsFlds l s s.gateView := by
  unfold State.gateView
  dsimp only
  have htimed : ∀ n w w', State.keepsFlds l s (if s.bit PWR_STATUS PWR_STATUS.throttled = true then
      { s.addSat PWR_GATE PWR_GATE.throttle_ms n with power := w } else { s with power := w' }) :=
    fun n _ _ => ite_k (State.keepsFlds l s) (s.keepsFlds_setFld (by decide) hl.ms _) ⟨rfl, fun _ _ => rfl⟩
  refine ite_k (State.keepsFlds l s) (State.keepsFlds.trans ?_ (State.keepsFlds_powerNote hl _ _)) ?_
  · exact (htimed _ _ _).trans (State.keepsFlds_gateShown hl _ _ _)
  · exact (htimed _ _ _).trans (State.keepsFlds_gateShown hl _ _ _)

end GateView

/-- The two gates of R444 at 0. -/
def State.gatesDown (s : State) : State := (s.setFld PWR_GATE PWR_GATE.host_gate 0).setFld PWR_GATE PWR_GATE.unprot_gate 0

theorem State.shutGates_eq (s : State) : s.shutGates = { s.gatesDown with power := s.shutGates.power } := rfl

theorem State.fld_shutGates {a : Nat} {f : Field} : s.shutGates.fld a f = s.gatesDown.fld a f := by
  rw [State.shutGates_eq, State.fld_upd]

theorem State.shutGates_gates (s : State) :
    s.shutGates.fld PWR_GATE PWR_GATE.host_gate = 0 ∧ s.shutGates.fld PWR_GATE PWR_GATE.unprot_gate = 0 := by
  rw [State.fld_shutGates, State.fld_shutGates]
  exact ⟨(State.fld_setFld_beside (by decide) (by decide) (by decide)).trans (State.fld_setFld_self (by decide)),
    State.fld_setFld_self (by decide)⟩

theorem State.keepsFlds_shutGates (s : State) : State.keepsFlds serveFlds s s.shutGates := by
  refine ⟨by rw [State.shutGates_eq]; rfl, fun x hx => State.fld_shutGates.trans ?_⟩
  obtain ⟨-, hfld⟩ := (s.keepsFlds_setFld (l := serveFlds) (a := PWR_GATE) (f := PWR_GATE.host_gate) (by decide) (by decide) 0).trans
    (State.keepsFlds_setFld _ (a := PWR_GATE) (f := PWR_GATE.unprot_gate) (by decide) (by decide) 0)
  exact hfld x hx

theorem State.keepsFlds.serves {t : State} (h : State.keepsFlds serveFlds s t) :
    t.takesCommands = s.takesCommands ∧ t.inReset = s.inReset := by
  obtain ⟨-, hfld⟩ := h
  have hstate := hfld (PWR_STATUS, PWR_STATUS.state) (by decide)
  have hstage := hfld (SCU_BOOT_STATUS, SCU_BOOT_STATUS.stage) (by decide)
  have hstub := hfld (SCU_WDT_STATUS, SCU_WDT_STATUS.stub_active) (by decide)
  have hstep := hfld (SCU_RESET_STATUS, SCU_RESET_STATUS.step) (by decide)
  dsimp only at hstate hstage hstub hstep
  exact ⟨by rw [State.takesCommands, State.takesCommands, State.fwUp, State.fwUp, State.bit, State.bit, hstate, hstage, hstub],
    by rw [State.inReset, State.inReset, hstep]⟩

/-- The state of the hardware's part of a stop, before firmware's. -/
def State.stopped (s : State) : State := ({ s with sb := { s.sb with estop := true } } : State).shutGates.gateView.sbResult 0x20 0

theorem State.stopped_effect (s : State) : s.stopped.sb.estop = true ∧ s.stopped.fld PWR_GATE PWR_GATE.host_gate = 0 ∧
    s.stopped.fld PWR_GATE PWR_GATE.unprot_gate = 0 := by
  obtain ⟨hsb, hfld⟩ := State.keepsFlds_gateView gateFree_gateFlds ({ s with sb := { s.sb with estop := true } } : State).shutGates
  obtain ⟨hhost, hunprot⟩ := State.shutGates_gates { s with sb := { s.sb with estop := true } }
  exact ⟨congrArg (·.estop) (hsb.trans (State.keepsFlds_shutGates _).1),
    (hfld (PWR_GATE, PWR_GATE.host_gate) (by decide)).trans hhost,
    (hfld (PWR_GATE, PWR_GATE.unprot_gate) (by decide)).trans hunprot⟩

theorem State.stopped_serves (s : State) : s.stopped.takesCommands = s.takesCommands ∧ s.stopped.inReset = s.inReset :=
  ((State.keepsFlds_shutGates { s with sb := { s.sb with estop := true } }).trans
    (State.keepsFlds_gateView gateFree_serveFlds _)).serves

/-- A stop that firmware does not act on yet is held, and its result is pending. -/
def State.holdStop (s : State) : State := ({ s with sb := { s.sb with estopHeld := true } } : State).sbResult 0x20 1

theorem State.holdStop_effect (s : State) : s.holdStop.sb.estop = s.sb.estop ∧ s.holdStop.sb.estopHeld = true ∧
    s.holdStop.sb.code = 0x20 ∧ s.holdStop.sb.result = 1 ∧ ∀ a f, s.holdStop.fld a f = s.fld a f :=
  ⟨rfl, rfl, rfl, rfl, fun _ _ => rfl⟩

/-- What a release does, by what `gateView` keeps. -/
def State.released (s : State) : State :=
  (({ s with sb := { s.sb with estop := false, estopHeld := false } } : State).sbResult 0x21 0).gateView

theorem State.released_sb (s : State) :
    s.released.sb = { s.sb with estop := false, estopHeld := false, code := 0x21, result := 0 } :=
  (State.keepsFlds_gateView gateFree_gateFlds _).1

section Write
variable (hpow : s.boot.powered = true) {v : BitVec 8}
include hpow

/-- The first stop on the bus, up to whether firmware acts on it. -/
theorem exec_estop_first (h : s.sb.estop = false) : exec (.estop 0xE5 true) s = .next
    (if !s.stopped.takesCommands then s.stopped.holdStop
     else if s.stopped.inReset then s.stopped.holdStop.alert
     else s.stopped.alert.estopAct) :=
  congrArg Host.Outcome.next ((State.sbWrite_of_powered hpow _).trans ((if_neg (not_not_intro rfl)).trans (if_neg (by simp [h]))))

theorem exec_estop_held (h : s.sb.estop = false) (hserve : s.takesCommands = false) :
    exec (.estop 0xE5 true) s = .next s.stopped.holdStop := by
  obtain ⟨htakes, -⟩ := s.stopped_serves
  rw [exec_estop_first hpow h, if_pos (by simp [htakes, hserve])]

theorem exec_estop_acts (h : s.sb.estop = false) (hserve : s.takesCommands = true) (hreset : s.inReset = false) :
    exec (.estop 0xE5 true) s = .next s.stopped.alert.estopAct := by
  obtain ⟨htakes, hin⟩ := s.stopped_serves
  rw [exec_estop_first hpow h, if_neg (by simp [htakes, hserve]), if_neg (by simp [hin, hreset])]

theorem exec_powerReq_eq : exec (.powerReq v true) s = .next
    (if bits v.toNat 0 3 = 0 ∧ (s.fld PWR_STATUS PWR_STATUS.state = 3 ∨ s.fld PWR_STATUS PWR_STATUS.state = 4) then s.wake.sbResult 0x10 0
     else if s.sbRefused (bits v.toNat 0 3) then s.sbResult 0x10 2
     else if s.powerOver (bits v.toNat 0 3) (bits v.toNat 3 1 == 1) then (s.sbResult 0x10 1).powerOvertake (bits v.toNat 0 3)
     else if s.power.target.isSome ∨ s.inReset then
       ({ s with sb := { s.sb with queue := s.sb.queue ++ [(bits v.toNat 0 3, bits v.toNat 3 1)] } } : State).sbResult 0x10 1
     else s.sbPower (bits v.toNat 0 3) (bits v.toNat 3 1)) :=
  congrArg Host.Outcome.next (State.sbWrite_of_powered hpow _)

end Write

theorem State.powerOver_of_none (h : s.power.target = none) (st : Nat) (abort : Bool) : s.powerOver st abort = false := by
  simp [State.powerOver, h]

theorem State.powerOver_of_other {e : Nat × Nat} {st form : Nat} (h : s.power.target = some e) (hform : form = 0 ∨ e ≠ (st, 0)) :
    s.powerOver st (form == 1) = false := by
  obtain rfl | hne := hform <;> simp_all [State.powerOver]

/-- Settles O58: the guards of `sbWrite`, then each write's own. -/
theorem sidebandWrites : Obligations.SidebandWrites := by
  unfold Obligations.SidebandWrites
  intro s v
  refine ⟨fun c hc => ?_, fun hpow => ⟨fun h => ?_, fun h => ?_, fun h => ?_, fun hno hserve => ?_, fun hno hserve hreset => ?_, ?_,
    fun hstage hserve hin => ?_, fun hstage => ?_, fun hst hstate => ?_, fun hst href => ?_, fun hst href htarget hreset => ?_,
    fun e hst href htarget hform => ?_⟩⟩
  · simp only [List.mem_cons, List.not_mem_nil, or_false] at hc
    obtain rfl | rfl | rfl | rfl := hc <;>
      exact ⟨fun hoff pec => congrArg Host.Outcome.next (State.sbWrite_of_off hoff pec _),
        fun hpow => congrArg Host.Outcome.next (State.sbWrite_of_wrong_pec hpow _)⟩
  · exact congrArg Host.Outcome.next ((State.sbWrite_of_powered hpow _).trans (if_pos h))
  · exact congrArg Host.Outcome.next ((State.sbWrite_of_powered hpow _).trans (if_pos h))
  · exact congrArg Host.Outcome.next ((State.sbWrite_of_powered hpow _).trans (if_pos h))
  · obtain ⟨hstop, hhost, hunprot⟩ := s.stopped_effect
    obtain ⟨hkept, hheld, hcode, hresult, hfld⟩ := s.stopped.holdStop_effect
    exact ⟨_, exec_estop_held hpow hno hserve, hkept.trans hstop, hheld, hcode, hresult, (hfld _ _).trans hhost,
      (hfld _ _).trans hunprot⟩
  · exact exec_estop_acts hpow hno hserve hreset
  · have hrun : exec (.estopRelease 0x5E true) s = .next s.released :=
      congrArg Host.Outcome.next ((State.sbWrite_of_powered hpow _).trans (if_neg (not_not_intro rfl)))
    refine ⟨_, hrun, ?_⟩
    rw [s.released_sb]
    exact ⟨rfl, rfl, rfl, rfl⟩
  · exact congrArg Host.Outcome.next ((State.sbWrite_of_powered hpow _).trans ((if_neg (not_not_intro rfl)).trans
      (if_pos ⟨hstage, hserve, by simp [hin]⟩)))
  · exact congrArg Host.Outcome.next ((State.sbWrite_of_powered hpow _).trans ((if_neg (not_not_intro rfl)).trans
      (if_neg fun h => hstage h.1)))
  · rw [exec_powerReq_eq hpow, if_pos ⟨hst, hstate⟩]
  · rw [exec_powerReq_eq hpow, if_neg fun h => hst h.1, if_pos href]
  · rw [exec_powerReq_eq hpow, if_neg fun h => hst h.1, if_neg (by simp [href]),
      if_neg (by simp [State.powerOver_of_none htarget]), if_neg (by simp [htarget, hreset]), State.sbPower, if_neg hst]
  · rw [exec_powerReq_eq hpow, if_neg fun h => hst h.1, if_neg (by simp [href]),
      if_neg (by simp [State.powerOver_of_other htarget hform]), if_pos (by simp [htarget])]

/-! ## The test access port (R484, R485) -/

theorem State.tapLoad_of_powered (h : s.boot.powered = true) (ir tdo : Nat) : s.tapLoad ir tdo = { s with tap := { ir := ir, tdo := tdo } } :=
  if_pos h

theorem State.tapLoad_of_off (h : s.boot.powered = false) (ir tdo : Nat) : s.tapLoad ir tdo = s := if_neg (by simp [h])

/-- The state after a value is drawn that the spec does not state. -/
theorem State.scan_true (ir : Nat) : s.scan ir true = ({ s with freeCtr := s.freeCtr + 1 } : State).tapLoad ir (s.draw 64).1 := if_pos rfl

theorem State.scan_false (ir : Nat) : s.scan ir false = s.tapLoad ir 0 := if_neg (by simp)

/-- A boundary instruction that is available loads itself and draws what TDO shows. -/
theorem State.scan_of_may (h : s.boot.powered = true) (ir : Nat) : s.scan ir true =
    { s with tap := { ir := ir, tdo := (s.draw 64).1 }, freeCtr := s.freeCtr + 1 } :=
  (State.scan_true ir).trans (State.tapLoad_of_powered (s := { s with freeCtr := s.freeCtr + 1 }) h ir _)

theorem State.scan_of_bypass (h : s.boot.powered = true) (ir : Nat) : s.scan ir false = { s with tap := { ir := ir, tdo := 0 } } :=
  (State.scan_false ir).trans (State.tapLoad_of_powered h ir 0)

theorem State.scan_of_off (h : s.boot.powered = false) (ir : Nat) (may : Bool) :
    s.scan ir may = { s with freeCtr := (s.scan ir may).freeCtr } := by
  cases may with
  | false => rw [State.scan_false, State.tapLoad_of_off h]
  | true => rw [State.scan_true, State.tapLoad_of_off (s := { s with freeCtr := s.freeCtr + 1 }) h]

section Debug
variable (hpow : s.boot.powered = true)
include hpow

theorem exec_debug_restricted (h : s.tapRestricted = true) (x : DebugAccess) :
    exec (.debug x) s = .next { s with tap := { ir := 0x20, tdo := 0 } } :=
  (if_pos (by simp [h])).trans (congrArg Host.Outcome.next (State.tapLoad_of_powered hpow _ _))

end Debug

/-- Settles O59: each instruction is `tapLoad` of its opcode and of what TDO shows. -/
theorem tapInstructions : Obligations.TapInstructions := by
  unfold Obligations.TapInstructions
  intro s
  refine ⟨fun hpow => ⟨fun c ir tdo hc => ?_, fun hres => ⟨?_, exec_debug_restricted hpow hres⟩, fun hmay => ?_,
    fun hopen => ⟨?_, fun hheld => ?_, fun a hin hheld hclk hreach => ?_, fun a hcut v => ?_⟩⟩, fun hoff c hc => ?_⟩
  · simp only [List.mem_cons, Prod.mk.injEq, List.not_mem_nil, or_false] at hc
    obtain ⟨rfl, rfl, rfl⟩ | ⟨rfl, rfl, rfl⟩ | ⟨rfl, rfl, rfl⟩ | ⟨rfl, rfl, rfl⟩ | ⟨rfl, rfl, rfl⟩ := hc <;>
      exact congrArg Host.Outcome.next (State.tapLoad_of_powered hpow _ _)
  · exact congrArg Host.Outcome.next ((congrArg (s.scan 2) (by simp [hres])).trans (State.scan_of_bypass hpow 2))
  · exact congrArg Host.Outcome.next ((congrArg (s.scan 3) hmay).trans (State.scan_of_bypass hpow 3))
  · exact ⟨_, congrArg Host.Outcome.next ((congrArg (s.scan 2) (by simp [hopen])).trans (State.scan_of_may hpow 2)), rfl, rfl⟩
  · exact ⟨_, congrArg Host.Outcome.next ((congrArg (s.scan 3) (by simp [State.mayDrive, hopen, hheld])).trans
      (State.scan_of_may hpow 3)), rfl, rfl⟩
  · have hnot : ¬ (s.tapRestricted || !s.boot.powered) = true := by simp [hopen, hpow]
    have hcut : ¬ (s.inReset || s.boot.resetHeld) = true := by simp [hin, hheld]
    have hgo : (s.clocked && s.debugReaches a.toNat) = true := by simp [hclk, hreach]
    refine ⟨(if_neg hnot).trans ((if_neg hcut).trans ((if_pos hgo).trans ?_)), fun v =>
      (if_neg hnot).trans ((if_neg hcut).trans (if_pos hgo))⟩
    exact congrArg Host.Outcome.next (State.tapLoad_of_powered hpow _ _)
  · have hnot : ¬ (s.tapRestricted || !s.boot.powered) = true := by simp [hopen, hpow]
    have hcuts : (s.inReset || s.boot.resetHeld) = true := by simp [hcut]
    have hones := congrArg (Host.Outcome.next (φ := Fault) (ρ := Refusal)) (State.tapLoad_of_powered hpow 0x20 allOnes)
    exact ⟨(if_neg hnot).trans ((if_pos hcuts).trans hones), (if_neg hnot).trans ((if_pos hcuts).trans hones)⟩
  · simp only [List.mem_cons, List.not_mem_nil, or_false] at hc
    obtain rfl | rfl | rfl | rfl | rfl | rfl | rfl := hc
    · exact ⟨s, congrArg Host.Outcome.next (State.tapLoad_of_off hoff _ _), rfl⟩
    · exact ⟨s, congrArg Host.Outcome.next (State.tapLoad_of_off hoff _ _), rfl⟩
    · exact ⟨s, congrArg Host.Outcome.next (State.tapLoad_of_off hoff _ _), rfl⟩
    · exact ⟨_, rfl, State.scan_of_off hoff 2 _⟩
    · exact ⟨_, rfl, State.scan_of_off hoff 3 _⟩
    · exact ⟨s, congrArg Host.Outcome.next (State.tapLoad_of_off hoff _ _), rfl⟩
    · exact ⟨s, congrArg Host.Outcome.next (State.tapLoad_of_off hoff _ _), rfl⟩

end Sys2Proof.Machine
end

section
/-! SUPPORT. Frames that reach a Lanel port in service (R357 to R369, R381). -/
namespace Sys2Proof.Machine

variable {s t : State} {n : LnPort} {f : LnFrame}

/-! ## The opening of a frame -/

section Got
variable {k : Nat} {g : List Byte → State → State}

theorem State.lnGot_other (h : fKind f ≠ k) : s.lnGot n k f g = s := if_pos (by simp [h])

variable (hup : s.lnUp n = true) (hkind : fKind f = k)
include hup hkind

theorem State.lnGot_closed (h : s.lnOpen n f = (none, t)) : s.lnGot n k f g = t := by
  rw [State.lnGot, if_neg (by simp [hup, hkind]), h]

theorem State.lnGot_opened {b : List Byte} (h : s.lnOpen n f = (some b, t)) : s.lnGot n k f g = g b t := by
  rw [State.lnGot, if_neg (by simp [hup, hkind]), h]

/-- A frame whose plaintext leaves the opened state as it is. -/
theorem State.lnGot_inert (h : ∀ b t, s.lnOpen n f = (some b, t) → g b t = t) : s.lnGot n k f g = (s.lnOpen n f).2 := by
  rcases hopen : s.lnOpen n f with ⟨_ | b, t⟩
  · exact State.lnGot_closed hup hkind hopen
  · exact (State.lnGot_opened hup hkind hopen).trans (h b t hopen)

end Got

/-- A frame that fails its checks where no other did within a second: it is counted, and nothing else happens. -/
def State.authCounted (s : State) (n : Nat) : State :=
  (s.addSat (LN_AUTH n) LN_AUTH.auth_failures 1).setFld (LN_AUTH n) LN_AUTH.last_second 1

theorem State.lnAuthFail_first (n : Nat) (h : (s.port n).authTimes = []) :
    s.lnAuthFail n = (s.authCounted n).setPort n { s.port n with authTimes := [s.tb] } := by
  unfold State.lnAuthFail
  dsimp only
  rw [h]
  exact if_neg (by simp)

theorem State.authCounted_effect (s : State) (n : Nat) :
    (s.fld (LN_AUTH n) LN_AUTH.auth_failures + 1 < 2 ^ LN_AUTH.auth_failures.width →
      (s.authCounted n).fld (LN_AUTH n) LN_AUTH.auth_failures = s.fld (LN_AUTH n) LN_AUTH.auth_failures + 1) ∧
    (s.authCounted n).fld (LN_AUTH n) LN_AUTH.last_second = 1 ∧ s.onlyRegs (s.authCounted n) [LN_AUTH n] := by
  have hin := List.mem_singleton_self (LN_AUTH n)
  refine ⟨fun h => ?_, State.fld_setFld_lt (by decide) (by decide), ((s.onlyRegs_refl _).addSat hin _ _).setFld hin _ _⟩
  rw [State.authCounted, State.fld_setFld_beside (by decide) (by decide) (by decide), State.fld_addSat_self (by decide)]
  exact Nat.min_eq_left (by omega)

theorem State.lnOpen_of_cut (h : fWhole f = false) : s.lnOpen n f = (none, s.lnAuthFail n) := if_pos (by simp [h])

/-- A frame that is opened leaves alignment and joins as they are. -/
theorem State.lnOpen_opened {b : List Byte} (h : s.lnOpen n f = (some b, t)) : t.time = s.time ∧ t.joins = s.joins := by
  unfold State.lnOpen at h
  dsimp only at h
  split at h
  · cases h
  · split at h
    · cases h
    · obtain ⟨-, rfl⟩ := Prod.mk.injEq .. ▸ h
      unfold State.addWrap
      exact ite_k (fun u : State => u.time = s.time ∧ u.joins = s.joins) ⟨rfl, rfl⟩ ⟨rfl, rfl⟩

/-! ## The frames -/

/-- A KEM frame in service is one of a rekey. -/
def State.kemTaken (n : Nat) (b : List Byte) (s : State) : State :=
  let s := if s.lnState n = 3 ∧ !s.bit (LN_STATUS n) LN_STATUS.initiator then s.lnRekey n else s
  if s.lnState n = 4 then s.lnKem n b false (fun s => s.lnDown n 6) else s

theorem State.kem_in_service (h : s.lnUp n = true) : exec (.kem n f) s = .next (s.lnGot n fKEM f (State.kemTaken n)) := by
  have hstate : s.lnState n ≠ 2 := fun h2 => by simp [State.lnUp, h2] at h
  exact congrArg Host.Outcome.next (if_neg (by simp [State.lnClearDue_other hstate]))

/-- A frame that is cut short is counted as one that fails its checks. -/
theorem keepalive_cut (hup : s.lnUp n = true) (hcut : fWhole f = false) (hkind : fKind f = fKEEPALIVE) (hfirst : (s.port n).authTimes = []) :
    ∃ t, exec (.keepalive n f) s = .next t ∧
      (s.fld (LN_AUTH n) LN_AUTH.auth_failures + 1 < 2 ^ LN_AUTH.auth_failures.width →
        t.fld (LN_AUTH n) LN_AUTH.auth_failures = s.fld (LN_AUTH n) LN_AUTH.auth_failures + 1) ∧
      t.fld (LN_AUTH n) LN_AUTH.last_second = 1 ∧ s.sameMem t ∧ s.regsBut t [LN_AUTH n] := by
  have hrun := State.lnGot_closed (g := fun _ t => t) hup hkind (State.lnOpen_of_cut hcut)
  rw [State.lnAuthFail_first n hfirst] at hrun
  obtain ⟨hcount, hlast, honly⟩ := s.authCounted_effect n
  refine ⟨_, congrArg Host.Outcome.next hrun, fun hroom => ?_, ?_, ?_, ?_⟩
  · rw [State.setPort, State.fld_upd]
    exact hcount hroom
  · rw [State.setPort, State.fld_upd]
    exact hlast
  · exact State.sameMem_setPort.2 honly.sameMem
  · exact honly.regsBut.setPort _ _

/-- Settles O54: each kind's effect is the last argument of `lnGot`. -/
theorem linkFrames : Obligations.LinkFrames := by
  unfold Obligations.LinkFrames
  intro s n f
  refine ⟨fun k c g hc hup => ?_, fun hup hcut hkind hfirst => ?_, fun hup hkind hnone => ?_, fun hup hkind hnone => ?_, fun hdown c hc => ?_⟩
  · have hgot : exec c s = .next (s.lnGot n k f g) := by
      simp only [List.mem_cons, Prod.mk.injEq, List.not_mem_nil, or_false] at hc
      obtain ⟨rfl, rfl, rfl⟩ | ⟨rfl, rfl, rfl⟩ | ⟨rfl, rfl, rfl⟩ | ⟨rfl, rfl, rfl⟩ | ⟨rfl, rfl, rfl⟩ | ⟨rfl, rfl, rfl⟩ |
        ⟨rfl, rfl, rfl⟩ | ⟨rfl, rfl, rfl⟩ := hc
      · rfl
      · rfl
      · rfl
      · refine congrArg (fun g => Host.Outcome.next (s.lnGot n fSWITCH f g)) (funext fun _ => funext fun t => ?_)
        generalize (t.port n).nextRx = o
        cases o <;> rfl
      · rfl
      · refine congrArg (fun g => Host.Outcome.next (s.lnGot n fJOINREQ f g)) (funext fun b => funext fun t => ?_)
        generalize (List.range 16).find? _ = o
        cases o <;> rfl
      · refine congrArg (fun g => Host.Outcome.next (s.lnGot n fJOINEND f g)) (funext fun b => funext fun t => ?_)
        generalize t.importing n = o
        cases o <;> rfl
      · refine (State.kem_in_service hup).trans
          (congrArg (fun g => Host.Outcome.next (s.lnGot n fKEM f g)) (funext fun b => funext fun t => ?_))
        simp only [State.kemTaken, Bool.not_eq_true']
    refine ⟨fun hkind => hgot.trans ?_, fun hkind => hgot.trans (congrArg Host.Outcome.next (State.lnGot_other hkind))⟩
    rcases hopen : s.lnOpen n f with ⟨_ | b, t⟩
    · exact congrArg Host.Outcome.next (State.lnGot_closed hup hkind hopen)
    · exact congrArg Host.Outcome.next (State.lnGot_opened hup hkind hopen)
  · exact keepalive_cut hup hcut hkind hfirst
  · refine congrArg Host.Outcome.next (State.lnGot_inert hup hkind fun b t hopen => ?_)
    obtain ⟨htime, -⟩ := State.lnOpen_opened hopen
    have halign : t.time.align = none := (congrArg (·.align) htime).trans hnone
    rw [halign]
  · refine congrArg Host.Outcome.next (State.lnGot_inert hup hkind fun b t hopen => ?_)
    obtain ⟨-, hjoins⟩ := State.lnOpen_opened hopen
    have himp : t.importing n = none := by rw [State.importing, hjoins, hnone]; rfl
    rw [himp]
  · simp only [List.mem_cons, List.not_mem_nil, or_false] at hc
    obtain rfl | rfl | rfl | rfl | rfl | rfl | rfl | rfl | rfl | rfl | rfl | rfl := hc <;>
      exact congrArg Host.Outcome.next (if_pos (by simp [hdown]))

end Sys2Proof.Machine
end

section
/-! SUPPORT. Events that complete a context's change of state, and those of the health manager. -/
namespace Sys2Proof.Machine

variable {s : State} {c : Fin 16}

/-! ## Contexts (R181, R211, R220 to R222, R288, R405) -/

/-- Settles O47: each event's guard is the state that it completes. -/
theorem contextEvents : Obligations.ContextEvents := by
  unfold Obligations.ContextEvents
  intro s c
  refine ⟨fun hstop hmode => ⟨fun hempty hafter => ?_, fun hempty hafter => ?_, fun hlate hagain => ?_, fun hlate hagain => ?_,
    fun hearly => ?_⟩, fun hstop hagain hlate => ?_, fun hload => ⟨fun hgood => ?_, fun r hbad => ?_⟩, fun hzero hwait => ?_,
    fun hidle e he => ?_, fun hround hhashes hqueue => ?_, fun hround => ?_⟩
  · exact congrArg Host.Outcome.next ((if_pos ⟨hstop, hmode, hempty⟩).trans (if_neg hafter))
  · exact congrArg Host.Outcome.next ((if_pos ⟨hstop, hmode, hempty⟩).trans (if_pos hafter))
  · exact congrArg Host.Outcome.next ((if_pos ⟨hstop, hmode, hlate⟩).trans (if_pos hagain))
  · exact congrArg Host.Outcome.next ((if_pos ⟨hstop, hmode, hlate⟩).trans (if_neg (by simp [hagain])))
  · exact congrArg Host.Outcome.next (if_neg fun ⟨_, _, hlate⟩ => Nat.not_le.2 hearly hlate)
  · exact congrArg Host.Outcome.next (if_pos ⟨hstop, hagain, hlate⟩)
  · rw [exec_loadReady, execLoadReady, if_neg (not_not_intro hload), hgood]
  · rw [exec_loadReady, execLoadReady, if_neg (not_not_intro hload), hbad]
  · rw [exec_zeroiseComplete, execZeroiseComplete, if_neg (not_not_intro hzero), hwait]
    rfl
  · have hstate : ∀ n, n ≠ 1 → ¬ s.cState c = n := fun n hn h => hn (h.symm.trans hidle)
    simp only [List.mem_cons, List.not_mem_nil, or_false] at he
    obtain rfl | rfl | rfl | rfl | rfl := he
    · exact congrArg Host.Outcome.next (if_neg fun ⟨hst, _⟩ => hstate 5 (by decide) hst)
    · exact congrArg Host.Outcome.next (if_neg fun ⟨hst, _⟩ => hstate 5 (by decide) hst)
    · exact congrArg Host.Outcome.next (if_neg fun ⟨hst, _⟩ => hstate 5 (by decide) hst)
    · exact congrArg Host.Outcome.next (if_pos (hstate 2 (by decide)))
    · exact congrArg Host.Outcome.next (if_pos (hstate 7 (by decide)))
  · exact congrArg Host.Outcome.next ((if_pos ⟨hround, by simp [hhashes]⟩).trans (if_neg (by simp [hqueue])))
  · exact congrArg Host.Outcome.next (if_neg fun ⟨h, _⟩ => by simp [hround] at h)

/-! ## The health manager (R254, R260, R261, R267, R271, R273, R279, R291, R403) -/

/-- The watchdog's report of unit `k` (R261). -/
def State.hung (s : State) (p : Tile) (k : Fin 8) : State := s.setFld (TILE_WD_STATUS p) ⟨TILE_WD_STATUS.hung_units.lo + k, 1⟩ 1

theorem State.hung_effect (s : State) (p : Tile) (k : Fin 8) :
    bitOf ((s.hung p k).fld (TILE_WD_STATUS p) TILE_WD_STATUS.hung_units) k = true ∧ s.onlyRegs (s.hung p k) [TILE_WD_STATUS p] := by
  have hk := k.isLt
  refine ⟨?_, (s.onlyRegs_refl _).setFld (List.mem_singleton_self _) _ _⟩
  rw [State.bitOf_fld hk, State.bit, State.hung, State.fld_setFld_lt]
  · rfl
  · simp only [TILE_WD_STATUS.hung_units]
    omega
  · exact Nat.one_lt_two

theorem hlthTile_ne_oldest {p : Nat} (hp : p < 256) : HLTH_TILE p ≠ HLTH_OLDEST := by
  unfold HLTH_TILE HLTH_OLDEST
  omega

theorem State.health_oldestView (s : State) : s.oldestView.health = s.health := by
  unfold State.oldestView
  split <;> rfl

theorem State.hState_oldestView {p : Nat} (hp : p < 256) : s.oldestView.hState p = s.hState p :=
  (s.oldestView_frame).2.fld_eq (by simpa using hlthTile_ne_oldest hp) _

/-- A walk over a list each of whose members is passed over changes nothing. -/
theorem State.foldl_of_skip {l : List Nat} {f : State → Nat → State} (h : ∀ p ∈ l, f s p = s) : l.foldl f s = s := by
  induction l with
  | nil => rfl
  | cons p l ih =>
    rw [List.foldl_cons, h p List.mem_cons_self]
    exact ih fun q hq => h q (List.mem_cons_of_mem p hq)

/-- Settles O48: each event's row, under its guard. -/
theorem healthEvents : Obligations.HealthEvents := by
  unfold Obligations.HealthEvents
  intro s p c v
  refine ⟨fun x rest hsig => ?_, fun hsig => ?_, fun k hon hopen hwait => ?_, fun h q u hheal htarget hmove => ?_, fun h hheals hctx htarget => ?_,
    fun hup hrot hpaused hloupe hnone => ?_, fun hup hfew => ?_, fun hup hall => ?_, fun d hfenced hlease hconf => ?_, fun hopen => ?_⟩
  · rw [exec_faultSignal, execFaultSignal, hsig]
  · rw [exec_faultSignal, execFaultSignal, hsig]
  · obtain ⟨hbit, honly⟩ := s.hung_effect p k
    refine ⟨_, congrArg Host.Outcome.next (if_pos (by simp [hon, hopen, hwait])), hbit, rfl, ?_, ?_⟩
    · exact State.sameMem_upd.2 honly.sameMem
    · exact honly.regsBut.of_regs_eq rfl
  · rw [exec_heal, execHeal, hheal]
    dsimp only
    rw [htarget]
    dsimp only
    rw [hmove]
  · have hmine : s.health.heals.filter (fun x => x.ctx == c.val) = [h] := by simp [hheals, hctx]
    have hothers : s.health.heals.filter (fun x => x.ctx != c.val) = [] := by simp [hheals, hctx]
    rw [exec_healComplete, execHealComplete, hmine, hothers, if_neg (by simp [Option.isNone_iff_eq_none, Option.isSome_iff_ne_none.1 htarget])]
    rfl
  · exact congrArg Host.Outcome.next (if_neg (by simp [hup, hrot, hpaused, hloupe, hnone]))
  · exact congrArg Host.Outcome.next (if_neg (by simp [hup, hfew]))
  · refine congrArg Host.Outcome.next ((if_neg (by simp [hup])).trans (State.foldl_of_skip fun q hq => if_pos ?_))
    rw [State.hState_oldestView (List.mem_range.1 hq), State.health_oldestView]
    obtain hfenced | hreported := hall q (List.mem_range.1 hq)
    · exact .inl hfenced
    · exact .inr (.inl hreported)
  · rw [exec_secPurge, execSecPurge, hlease]
    exact congrArg Host.Outcome.next (if_pos (by simp [hfenced, hconf]))
  · rw [exec_secPurge, execSecPurge, if_neg (by simp [hopen])]

end Sys2Proof.Machine
end

section
/-! SUPPORT. The commands of the device, power, time and diagnostics groups, where they pass their checks. -/
namespace Sys2Proof.Machine

variable {s : State} {h : CmdHdr}

/-- A command that a queue outside does not hold back, and that passes its checks. -/
theorem State.held_command_runs {held : Prop} [Decidable held] {r : Row} {params : Bool} (f : Cmd → State → State) (hfree : ¬ held)
    (hruns : s.runs h r) (hparams : params = true) :
    (if held then s else s.command h r params f) = f (cmdOf h r.op) (s.takeCmd h.tag.toNat r.op) :=
  (if_neg hfree).trans (State.command_runs f hruns hparams)

theorem State.runs.inReset {r : Row} (hruns : s.runs h r) : s.inReset = false := by
  obtain ⟨-, hreset, -⟩ := hruns
  exact hreset

theorem keepOr_kept (n : Nat) : keepOr 8 (0xFF : BitVec 8).toNat n = n := if_pos (by decide)

/-- DEVICE_CONFIG that keeps every value. -/
theorem deviceConfig_kept (hruns : s.runs h { op := 0x0003 }) :
    let u := s.takeCmd h.tag.toNat 3
    exec (.deviceConfig h 0xFF 0xFF 0xFF 0xFF) s = .next
      ((((u.setFld HBM_ILV HBM_ILV.mode (u.fld HBM_ILV HBM_ILV.mode)).setFld SCU_AON_ESC SCU_AON_ESC.compute_reset_limit
        (s.fld SCU_AON_ESC SCU_AON_ESC.compute_reset_limit)).setFld SCU_AON_ESC SCU_AON_ESC.module_reset_limit
        (s.fld SCU_AON_ESC SCU_AON_ESC.module_reset_limit)).ok (cmdOf h 3) []) := by
  dsimp only
  rw [exec_deviceConfig, execDeviceConfig]
  dsimp only
  rw [State.command_runs _ hruns (by simp), keepOr_kept, keepOr_kept, keepOr_kept, if_neg (fun hne => hne.1 rfl), if_pos (by decide)]

section Diag
variable {window tile : BitVec 8} (hwindow : window.toNat ≤ 2)
include hwindow

theorem diagOpen_runs {r : Nat} (hruns : s.runs h { op := 0x0801 })
    (hconf : window.toNat < 2 → (s.takeCmd h.tag.toNat 0x0801).confTile tile.toNat = false)
    (hnew : (s.takeCmd h.tag.toNat 0x0801).diagRange (diagWindow window.toNat tile.toNat).1 = none)
    (hfew : (s.takeCmd h.tag.toNat 0x0801).diagCount < 8) (hfree : (s.takeCmd h.tag.toNat 0x0801).freeRange 0 64 = some r) :
    exec (.diagOpen h window tile) s = .next
      (((s.takeCmd h.tag.toNat 0x0801).openAs r (diagWindow window.toNat tile.toNat).1 (diagWindow window.toNat tile.toNat).2
        true false false).ok (cmdOf h 0x0801) []) := by
  refine congrArg Host.Outcome.next ((State.held_command_runs _ (by simp [hruns.inReset]) hruns (by simp [hwindow])).trans
    ((if_neg fun ⟨hlow, hin⟩ => by simp [hconf hlow] at hin).trans ?_))
  dsimp only
  rw [hnew]
  dsimp only
  rw [if_neg (Nat.not_le.2 hfew), hfree]

theorem diagClose_runs {r : Nat} (hruns : s.runs h { op := 0x0802 })
    (hopen : (s.takeCmd h.tag.toNat 0x0802).diagRange (diagWindow window.toNat tile.toNat).1 = some r) :
    exec (.diagClose h window tile) s = .next (((s.takeCmd h.tag.toNat 0x0802).closeRange r).ok (cmdOf h 0x0802) []) := by
  refine congrArg Host.Outcome.next ((State.command_runs _ hruns (by simp [hwindow])).trans ?_)
  dsimp only
  rw [hopen]

end Diag

/-- Settles O42: each command's effect on the state in which it is taken. -/
theorem deviceCommands : Obligations.DeviceCommands := by
  unfold Obligations.DeviceCommands
  intro s h
  refine ⟨deviceConfig_kept, fun hruns => ?_, fun hruns => ?_, fun seconds ns hruns hns => ?_,
    fun offset trim hruns htrim => ⟨fun hslew => ?_, fun hstep => ?_⟩, fun hruns halign => ?_, fun limit hruns htarget hneed hmost => ?_,
    fun st hruns htarget hqueue hne hst hover => ?_, fun window tile hruns hwindow hconf hnew hfew r hfree => ?_,
    fun window tile r hruns hwindow hopen => ?_, fun tile buffer hruns ha hin hconf => ?_,
    fun buffer offset length hruns ha hlen hin hnone hone => ?_⟩
  · exact congrArg Host.Outcome.next (State.command_runs _ hruns rfl)
  · exact congrArg Host.Outcome.next (State.command_runs _ hruns rfl)
  · exact congrArg Host.Outcome.next (State.command_runs _ hruns (by simp [hns]))
  · refine congrArg Host.Outcome.next ((State.command_runs _ hruns (by simp [htrim])).trans ?_)
    dsimp only
    rw [if_pos hslew]
  · refine congrArg Host.Outcome.next ((State.command_runs _ hruns (by simp [htrim])).trans ?_)
    dsimp only
    rw [if_neg (Nat.not_le.2 hstep)]
  · refine congrArg Host.Outcome.next ((State.held_command_runs _ (by simp [halign]) hruns (by decide)).trans
      ((if_neg fun hport => absurd hport.1 (by decide)).trans (if_neg (by decide))))
  · refine congrArg Host.Outcome.next ((State.held_command_runs _ (by simp [htarget]) hruns rfl).trans (if_neg ?_))
    exact not_or.2 ⟨Nat.not_lt.2 hneed, Nat.not_lt.2 hmost⟩
  · have hst0 : st.toNat ≠ 0 := fun h0 => hne (BitVec.eq_of_toNat_eq h0)
    refine congrArg Host.Outcome.next ((State.held_command_runs _ (by simp [htarget, hqueue]) hruns ?_).trans
      ((if_neg (by omega)).trans ((if_neg (by simpa using hover)).trans ((if_neg hst0).trans ?_))))
    · simp [Nat.le_of_lt_succ (Nat.lt_succ_of_lt hst), aligned64]
    · dsimp only
      rw [if_neg (by simp)]
  · exact diagOpen_runs hwindow hruns hconf hnew hfew hfree
  · exact diagClose_runs hwindow hruns hopen
  · exact congrArg Host.Outcome.next ((State.command_runs _ hruns ha).trans
      ((if_neg (by simp [hconf])).trans (if_neg (by simp [hin]))))
  · refine congrArg Host.Outcome.next ((State.command_runs _ hruns (by simp [ha, hlen])).trans ((if_neg (by simp [hin])).trans ?_))
    have hno : ¬ ((s.takeCmd h.tag.toNat 0x0803).sheetState = 2 ∨ (s.takeCmd h.tag.toNat 0x0803).sheetState = 3) := not_or.2 ⟨hnone, hone⟩
    dsimp only
    rw [decide_eq_false hno, if_neg (by simp)]
    rfl

end Sys2Proof.Machine
end

section
/-! SUPPORT. The commands of contexts, plates, streams and proof rounds, where they pass their checks. -/
namespace Sys2Proof.Machine

variable {s : State} {h : CmdHdr}

/-- A setting of a value that is not the one that keeps the old. -/
theorem keepOr_of_lt {w v : Nat} (old : Nat) (hv : v < 2 ^ w - 1) : keepOr w v old = v := if_neg (Nat.ne_of_lt hv)

/-- The form of a command is its flags' bit 0 (R345). -/
theorem form_of_bit {op : Nat} : (cmdOf h op).form = b2n (bitOf h.flags.toNat 0) := rfl

section Context
variable (hfree : s.ctxBusy h.ctx.toNat = false)
include hfree

theorem ctxTiming_sets {d p : BitVec 16} {w : BitVec 8} (hruns : s.runs h { op := 0x0103, need := .exists }) (hd : 1 ≤ d.toNat)
    (hd' : d.toNat ≤ 1000) (hp : 32 ≤ p.toNat) (hp' : p ≠ 0xFFFF) (hw : 1 ≤ w.toNat) (hw' : w.toNat ≤ 16) :
    exec (.ctxTiming h d p w) s = .next
      (((((s.takeCmd h.tag.toNat 0x0103).setFld (SCU_CTX_TIMING h.ctx.toNat) SCU_CTX_TIMING.drain_timeout_ms d.toNat).setFld
        (SCU_CTX_TIMING h.ctx.toNat) SCU_CTX_TIMING.progress_timeout_us p.toNat).setFld (SCU_CTX_TIMING h.ctx.toNat)
        SCU_CTX_TIMING.spill_width w.toNat).ok (cmdOf h 0x0103) []) := by
  have hp16 : p.toNat < 2 ^ 16 - 1 := by
    have hlt := p.isLt
    have hne : p.toNat ≠ 65535 := fun h => hp' (BitVec.eq_of_toNat_eq h)
    omega
  refine congrArg Host.Outcome.next ((State.ctxCommand_runs _ (.inl hfree) hruns (by simp [hd, hd', hp, hw, hw'])).trans ?_)
  dsimp only
  rw [keepOr_of_lt _ (by omega), keepOr_of_lt _ hp16, keepOr_of_lt _ (by omega)]
  rfl

theorem ctxDestroy_zeroises (hruns : s.runs h { op := 0x0102, need := .exists, forms := true })
    (hstate : (s.takeCmd h.tag.toNat 0x0102).cState h.ctx.toNat ∈ [1, 3, 6, 7]) : exec (.ctxDestroy h) s = .next
      ((((s.takeCmd h.tag.toNat 0x0102).endJoin h.ctx.toNat).setCState h.ctx.toNat 7).await (cmdOf h 0x0102) 0 0) := by
  refine congrArg Host.Outcome.next ((State.ctxCommand_runs _ (.inl hfree) hruns rfl).trans ?_)
  simp only [List.mem_cons, List.not_mem_nil, or_false] at hstate
  dsimp only [cmdOf]
  obtain h1 | h1 | h1 | h1 := hstate <;> (rw [h1]; rfl)

theorem ctxStart_launches {launch : BitVec 64} (hruns : s.runs h { op := 0x0104, need := .exists }) (hne : launch ≠ 0)
    (hlate : s.tb ≤ launch.toNat) (hstop : (s.takeCmd h.tag.toNat 0x0104).sb.estop = false)
    (hstate : (s.takeCmd h.tag.toNat 0x0104).cState h.ctx.toNat = 3) : exec (.ctxStart h launch) s = .next
      ((((s.takeCmd h.tag.toNat 0x0104).endJoin h.ctx.toNat).commandStart h.ctx.toNat launch.toNat).ok (cmdOf h 0x0104)
        [(8, launch.toNat)]) := by
  have hl : launch.toNat ≠ 0 := fun h0 => hne (BitVec.eq_of_toNat_eq h0)
  refine congrArg Host.Outcome.next ((State.ctxCommand_runs _ (.inl hfree) hruns (by simp [hlate])).trans
    ((if_neg (by simp [hstop])).trans ?_))
  dsimp only [cmdOf]
  rw [hstate, if_neg hl]
  rfl

theorem ctxStop_stops (hruns : s.runs h { op := 0x0105, need := .exists, forms := true })
    (hstate : (s.takeCmd h.tag.toNat 0x0105).cState h.ctx.toNat = 4) : exec (.ctxStop h) s = .next
      (if bitOf h.flags.toNat 0 then ((s.takeCmd h.tag.toNat 0x0105).await (cmdOf h 0x0105) 0 0).abortCtx h.ctx.toNat
        else ((s.takeCmd h.tag.toNat 0x0105).await (cmdOf h 0x0105) 0 0).drainCtx h.ctx.toNat .ready) := by
  refine congrArg Host.Outcome.next ((State.ctxCommand_runs _ (.inl hfree) hruns rfl).trans ?_)
  cases hbit : bitOf h.flags.toNat 0 with
  | true =>
    have hform : (cmdOf h 0x0105).form = 1 := by rw [form_of_bit, hbit]; rfl
    rw [if_pos rfl]
    exact if_pos ⟨hform, .inl hstate⟩
  | false =>
    have hform : (cmdOf h 0x0105).form = 0 := by rw [form_of_bit, hbit]; rfl
    rw [if_neg Bool.false_ne_true]
    exact (if_neg fun ⟨hone, _⟩ => absurd (hform.symm.trans hone) (by decide)).trans (if_pos ⟨hform, hstate⟩)

section Plate
variable {image length : BitVec 64} (ha : aligned64 image.toNat = true) (hin : inHost image.toNat length.toNat = true)
include ha hin

theorem plateReconfigure_drains (hruns : s.runs h { op := 0x0203, need := .exists })
    (hstate : (s.takeCmd h.tag.toNat 0x0203).cState h.ctx.toNat = 4) :
    let v := (s.takeCmd h.tag.toNat 0x0203).setBit (SCU_CTX_STATE h.ctx.toNat) SCU_CTX_STATE.reconfiguring true
    exec (.plateReconfigure h image length) s = .next
      (((v.setCtx h.ctx.toNat { v.ctx h.ctx.toNat with newImg := image.toNat, newLen := length.toNat }).await (cmdOf h 0x0203) 0 0).drainCtx
        h.ctx.toNat .reconfigure) :=
  congrArg Host.Outcome.next ((State.ctxCommand_runs _ (.inl hfree) hruns ha).trans
    ((if_neg (by simp [hin])).trans (if_neg (not_not_intro hstate))))

/-- A plate that is checked is staged or refused. -/
theorem plateLoad_checks (hruns : s.runs h { op := 0x0201, need := .exists })
    (hstate : (s.takeCmd h.tag.toNat 0x0201).cState h.ctx.toNat = 1) :
    let u := s.takeCmd h.tag.toNat 0x0201
    let got := u.checkPlate h.ctx.toNat image.toNat length.toNat (fun pl => u.remoteBad h.ctx.toNat pl)
    (∀ r, got = .inl r → exec (.plateLoad h image length) s =
      .next ((u.setReason h.ctx.toNat r.1 r.2.1 r.2.2).refuse (cmdOf h 0x0201) r.1)) ∧
    ∀ pl, got = .inr pl → exec (.plateLoad h image length) s =
      .next (((u.setCState h.ctx.toNat 2).await (cmdOf h 0x0201) 0 0).stageLoad h.ctx.toNat pl) := by
  dsimp only
  refine ⟨fun r hgot => ?_, fun pl hgot => ?_⟩
  all_goals
    refine congrArg Host.Outcome.next ((State.ctxCommand_runs _ (.inl hfree) hruns ha).trans
      ((if_neg (by simp [hin])).trans ((if_neg (not_not_intro hstate)).trans ?_)))
    dsimp only [cmdOf]
    rw [hgot]

end Plate

end Context

theorem streamConfig_places {d : BitVec 8} {r1 r2 : Nat} (hruns : s.runs h { op := 0x0302, need := .exists }) (hd : 10 ≤ d.toNat)
    (hd' : d.toNat ≤ 20) (hstate : (s.takeCmd h.tag.toNat 0x0302).cState h.ctx.toNat = 3) :
    let x := h.ctx.toNat
    let u := s.takeCmd h.tag.toNat 0x0302
    let m := u.smap x
    let stride := roundUp (128 + m.inDepth * m.inRecord) 4096
    let out := roundUp (128 + 2 ^ d.toNat * m.outRecord) 4096
    let t := u.closeStreams x
    out + m.slots * stride ≤ (u.ctx x).lpBytes → t.freeRange 0 64 = some r1 →
    (t.openAs r1 (u.ctx x).lpBase out true true true).freeRange 0 64 = some r2 →
    exec (.streamConfig h d) s = .next ((t.placeRings x (u.ctx x).lpBase out stride d.toNat r1 r2).ok (cmdOf h 0x0302)
      [(8, (u.ctx x).lpBase), (8, (u.ctx x).lpBase + out), (4, stride)]) := by
  dsimp only
  intro hroom h1 h2
  refine congrArg Host.Outcome.next ((State.command_runs _ hruns (by simp [hd, hd'])).trans
    ((if_neg (not_not_intro hstate)).trans ((if_neg (Nat.not_lt.2 hroom)).trans ?_)))
  dsimp only [cmdOf]
  rw [h1]
  dsimp only
  rw [h2]

theorem proofConfig_sets {steps : BitVec 16} {ms : BitVec 32} {en au : BitVec 8} (hruns : s.runs h { op := 0x0601, need := .exists })
    (hsteps : steps ≠ 0) (hsteps' : steps ≠ 0xFFFF) (hms : 100 ≤ ms.toNat) (hms' : ms.toNat ≤ 3600000) (hen : en.toNat ≤ 1)
    (hau : au.toNat ≤ 1) : exec (.proofConfig h steps ms en au) s = .next
      ((((((s.takeCmd h.tag.toNat 0x0601).setFld (SCU_PROOF_CFG h.ctx.toNat) SCU_PROOF_CFG.interval_steps steps.toNat).setFld
        (SCU_PROOF_CFG h.ctx.toNat) SCU_PROOF_CFG.interval_ms ms.toNat).setFld (SCU_PROOF_CFG h.ctx.toNat) SCU_PROOF_CFG.enable
        en.toNat).setFld (SCU_PROOF_CFG h.ctx.toNat) SCU_PROOF_CFG.auto_loupe au.toNat).ok (cmdOf h 0x0601) []) := by
  have hsteps16 : steps.toNat < 2 ^ 16 - 1 := by
    have hlt := steps.isLt
    have hne : steps.toNat ≠ 65535 := fun h => hsteps' (BitVec.eq_of_toNat_eq h)
    omega
  have hsteps0 : ¬ steps = 0#16 := hsteps
  refine congrArg Host.Outcome.next ((State.command_runs _ hruns (by simp [hsteps0, hms, hms', hen, hau])).trans ?_)
  dsimp only
  rw [keepOr_of_lt _ hsteps16, keepOr_of_lt _ (by omega), keepOr_of_lt _ (by omega), keepOr_of_lt _ (by omega)]
  rfl

theorem streamClose_drains {id : BitVec 32} (hruns : s.runs h { op := 0x0304, need := .exists, forms := true })
    (hcurrent : s.isCurrent h.ctx.toNat id.toNat = true)
    (hphase : ((s.takeCmd h.tag.toNat 0x0304).slotOf h.ctx.toNat (id.toNat % 4096)).phase = 1) (hform : bitOf h.flags.toNat 0 = false) :
    exec (.streamClose h id) s = .next (((s.takeCmd h.tag.toNat 0x0304).beginClose h.ctx.toNat (id.toNat % 4096) false 0).okForm
      (cmdOf h 0x0304) 0 [(4, ((s.takeCmd h.tag.toNat 0x0304).slotOf h.ctx.toNat (id.toNat % 4096)).lastSeq)]) := by
  have hdrain : ((cmdOf h 0x0304).form == 1) = false := by rw [form_of_bit, hform]; rfl
  have hctx : (cmdOf h 0x0304).ctx = h.ctx.toNat := rfl
  refine congrArg Host.Outcome.next ((State.command_runs _ hruns hcurrent).trans ?_)
  dsimp only
  rw [hdrain, hctx, hphase, if_pos (.inl rfl), if_neg Bool.false_ne_true, if_neg (by decide)]

theorem ctxCreate_creates {hbm lp spill : BitVec 32} {t : State} (hruns : s.runs h { op := 0x0101, need := .free }) (hx : h.ctx.toNat < 16)
    (hcreate : (s.takeCmd h.tag.toNat 0x0101).createCtx h.ctx.toNat hbm.toNat lp.toNat spill.toNat = some t) :
    exec (.ctxCreate h hbm lp spill 0) s = .next (t.ok (cmdOf h 0x0101) [(1, h.ctx.toNat)]) := by
  have hctx : (cmdOf h 0x0101).ctx = h.ctx.toNat := rfl
  have hconf : ¬ (0 : BitVec 8) = 1 := by decide
  rw [exec_ctxCreate, execCtxCreate, State.command_runs _ hruns (by decide)]
  dsimp only
  rw [hctx, if_neg fun ⟨h0, _⟩ => hconf h0, if_neg (by omega), hcreate]
  dsimp only
  rw [if_neg hconf]

theorem classSet_sets {cls on : BitVec 8} {b j : BitVec 32} (hruns : s.runs h { op := 0x0301 }) (hcls : cls.toNat < 4)
    (hon : on.toNat ≤ 1) (hb : 1000 ≤ b.toNat) (hb' : b.toNat ≤ 60000000) (hj : j.toNat + 1000 ≤ b.toNat)
    (hused : (s.takeCmd h.tag.toNat 0x0301).classUsed cls.toNat = false) : exec (.classSet h cls on b j) s = .next
      ((((((s.takeCmd h.tag.toNat 0x0301).setFld (SCU_CLASS cls.toNat) SCU_CLASS.bound_us b.toNat).setFld (SCU_CLASS cls.toNat)
        SCU_CLASS.jitter_us j.toNat).setFld (SCU_CLASS cls.toNat) SCU_CLASS.admit_on on.toNat).setBit (SCU_CLASS cls.toNat)
        SCU_CLASS.valid true).ok (cmdOf h 0x0301) []) :=
  congrArg Host.Outcome.next ((State.command_runs _ hruns (by simp [hcls, hon, hb, hb', hj])).trans (if_neg (by simp [hused])))

theorem streamOpen_admits {cls shadow : BitVec 8} {k need : Nat} (hruns : s.runs h { op := 0x0303, need := .exists })
    (hcls : cls.toNat < 4) (hshadow : shadow.toNat ≤ 1)
    (hadmit : (s.takeCmd h.tag.toNat 0x0303).admission h.ctx.toNat cls.toNat (shadow == 1) = .inr (k, need)) :
    let t := (s.takeCmd h.tag.toNat 0x0303).openStream h.ctx.toNat k cls.toNat (shadow == 1)
    exec (.streamOpen h cls shadow) s = .next (t.ok (cmdOf h 0x0303)
      [(4, streamId h.ctx.toNat k (t.slotOf h.ctx.toNat k).gen), (4, need)]) := by
  refine congrArg Host.Outcome.next ((State.command_runs _ hruns (by simp [hcls, hshadow])).trans ?_)
  dsimp only [cmdOf]
  rw [hadmit]

theorem proofRound_begins (hruns : s.runs h { op := 0x0602, need := .exists })
    (hstate : (s.takeCmd h.tag.toNat 0x0602).cState h.ctx.toNat ∈ [3, 4, 6])
    (hloaded : ((s.takeCmd h.tag.toNat 0x0602).ctx h.ctx.toNat).loaded = true)
    (hnone : (s.takeCmd h.tag.toNat 0x0602).bit (SCU_PROOF_STATUS h.ctx.toNat) SCU_PROOF_STATUS.round_active = false) :
    exec (.proofRound h) s = .next (((s.takeCmd h.tag.toNat 0x0602).beginRound h.ctx.toNat
      ((s.takeCmd h.tag.toNat 0x0602).fld (SCU_STR_STEP h.ctx.toNat) SCU_STR_STEP.gather) (s.takeCmd h.tag.toNat 0x0602).tb).ok
        (cmdOf h 0x0602) [(4, ((s.takeCmd h.tag.toNat 0x0602).ctx h.ctx.toNat).roundNo + 1)]) := by
  simp only [List.mem_cons, List.not_mem_nil, or_false] at hstate
  refine congrArg Host.Outcome.next ((State.command_runs _ hruns rfl).trans ((if_neg ?_).trans (if_neg (Bool.eq_false_iff.1 hnone))))
  have hin : (!((s.takeCmd h.tag.toNat 0x0602).ctx h.ctx.toNat).loaded) = false := congrArg Bool.not hloaded
  rintro (⟨h3, h4, h6⟩ | hout)
  · obtain hstate | hstate | hstate := hstate
    · exact h3 hstate
    · exact h4 hstate
    · exact h6 hstate
  · exact Bool.false_ne_true (hin.symm.trans hout)

theorem proofRead_empty (hruns : s.runs h { op := 0x0603, need := .exists })
    (hlast : ((s.takeCmd h.tag.toNat 0x0603).ctx h.ctx.toNat).lastRound = 0) :
    exec (.proofRead h) s = .next ((s.takeCmd h.tag.toNat 0x0603).ok (cmdOf h 0x0603) []) :=
  congrArg Host.Outcome.next ((State.command_runs _ hruns rfl).trans (if_pos hlast))

theorem proofRegions_writes {buffer : BitVec 64} (hruns : s.runs h { op := 0x0604, need := .exists }) (ha : buffer.toNat % 64 = 0) :
    let u := s.takeCmd h.tag.toNat 0x0604
    let l := (u.ctx h.ctx.toNat).lastRegions
    inHost buffer.toNat (l.flatMap (fun y => y.bytes)).length = true → exec (.proofRegions h buffer) s = .next
      ((u.hostPut buffer.toNat (l.flatMap (fun y => y.bytes))).ok (cmdOf h 0x0604)
        [(4, l.length), (4, (u.ctx h.ctx.toNat).lastRound)]) := fun hin =>
  congrArg Host.Outcome.next ((State.command_runs _ hruns (by simp [ha])).trans (if_neg (Bool.eq_false_iff.1 (congrArg Bool.not hin))))

theorem plateUnload_zeroises (hfree : s.ctxBusy h.ctx.toNat = false) (hruns : s.runs h { op := 0x0202, need := .exists })
    (hstate : (s.takeCmd h.tag.toNat 0x0202).cState h.ctx.toNat = 3 ∨ (s.takeCmd h.tag.toNat 0x0202).cState h.ctx.toNat = 6) :
    exec (.plateUnload h) s = .next
      ((((s.takeCmd h.tag.toNat 0x0202).endJoin h.ctx.toNat).setCState h.ctx.toNat 7).await (cmdOf h 0x0202) 0 0) :=
  congrArg Host.Outcome.next ((State.ctxCommand_runs _ (.inl hfree) hruns rfl).trans (if_pos hstate))

/-- Settles O43: each command's effect on the state in which it is taken. -/
theorem contextCommands : Obligations.ContextCommands := by
  unfold Obligations.ContextCommands
  intro s h
  refine ⟨fun _ _ _ _ => ctxCreate_creates, fun hfree => ⟨fun d p w hruns hd hd' hp hp' hw hw' =>
      ctxTiming_sets hfree hruns hd hd' hp hp' hw hw', ctxDestroy_zeroises hfree, fun launch => ctxStart_launches hfree, ctxStop_stops hfree,
      fun image length ha hin => ⟨fun hruns hstate => ?_, plateReconfigure_drains hfree ha hin⟩, plateUnload_zeroises hfree⟩,
    fun _ _ _ _ => classSet_sets, fun d r1 r2 hruns hd hd' hstate => streamConfig_places hruns hd hd' hstate, fun _ _ _ _ => streamOpen_admits,
    fun id => streamClose_drains, fun steps ms en au => proofConfig_sets, proofRound_begins, proofRead_empty, fun _ => proofRegions_writes⟩
  obtain ⟨hbad, hgood⟩ := plateLoad_checks hfree ha hin hruns hstate
  rcases hgot : (s.takeCmd h.tag.toNat 0x0201).checkPlate h.ctx.toNat image.toNat length.toNat
    (fun pl => (s.takeCmd h.tag.toNat 0x0201).remoteBad h.ctx.toNat pl) with r | pl
  · exact hbad r hgot
  · exact hgood pl hgot

end Sys2Proof.Machine
end

section
/-! SUPPORT. The commands of the health map, the tests, memory and the transfer engines, where they pass their checks. -/
namespace Sys2Proof.Machine

variable {s t : State} {h : CmdHdr}

/-! ## Writes of the module into host memory (R339) -/

/-- The registers that a posted write on a DOWN link writes. -/
def tlLogRegs : List Nat := [TL_ERR_LOG, TL_ERR_TIME]

theorem State.regsBut_dropWrite (s : State) (a : Nat) : s.regsBut (s.dropWrite a) tlLogRegs :=
  State.regsBut.tlLog (fun _ _ => rfl) (by decide) (by decide) _ _ _ _

/-- What a posted write does on a link that is not DOWN leaves every register. -/
theorem State.regsBut_sendTl_up (h : s.linkDown = false) (o : TlOut) (l : List Nat) : s.regsBut (s.sendTl o) l := by
  unfold State.sendTl
  rw [if_neg (by simp [h])]
  exact ite_k (s.regsBut · l) (fun _ _ => rfl) (fun _ _ => rfl)

theorem State.regsBut_sendTl_write (s : State) (a n : Nat) : s.regsBut (s.sendTl (.write a n)) tlLogRegs := by
  cases hdown : s.linkDown with
  | true =>
    rw [State.sendTl, if_pos hdown]
    exact s.regsBut_dropWrite a
  | false => exact State.regsBut_sendTl_up hdown _ _

theorem State.regsBut_sendTl_masked (s : State) (a n : Nat) : s.regsBut (s.sendTl (.masked a n)) tlLogRegs := by
  cases hdown : s.linkDown with
  | true =>
    rw [State.sendTl, if_pos hdown]
    exact s.regsBut_dropWrite a
  | false => exact State.regsBut_sendTl_up hdown _ _

theorem State.regsBut_postWrites (s : State) (fuel a n : Nat) : s.regsBut (s.postWrites fuel a n) tlLogRegs := by
  induction fuel generalizing s a n with
  | zero => exact State.regsBut_refl s _
  | succ f ih =>
    rw [State.postWrites]
    exact ite_k (s.regsBut · tlLogRegs) (State.regsBut_refl s _)
      (ite_k (s.regsBut · tlLogRegs) ((s.regsBut_sendTl_masked _ _).trans (ih _ _ _)) ((s.regsBut_sendTl_write _ _).trans (ih _ _ _)))

theorem State.regsBut_hostPut (s : State) (a : Nat) (l : List Byte) : s.regsBut (s.hostPut a l) tlLogRegs := by
  have hbytes : s.regsBut (if s.linkDown then s else s.setBytes a l) tlLogRegs :=
    ite_k (s.regsBut · tlLogRegs) (State.regsBut_refl s _) (fun _ _ => rfl)
  exact hbytes.trans (State.regsBut_postWrites _ _ _ _)

/-! ## The health map's commands (R254, R260, R264, R280, R290, R294) -/

theorem healthRead_runs {buffer : BitVec 64} (hruns : s.runs h { op := 0x0501, served := true }) (ha : buffer.toNat % 64 = 0)
    (hin : inHost buffer.toNat 23168 = true) :
    let u := s.takeCmd h.tag.toNat 0x0501
    let t := u.hostPut buffer.toNat u.healthImage
    exec (.healthRead h buffer) s = .next (t.ok (cmdOf h 0x0501) [(4, t.fld HLTH_ID HLTH_ID.generation), (4, 23168)]) := by
  dsimp only
  rw [(State.regsBut_hostPut _ _ _).fld_eq (a := HLTH_ID) (by decide)]
  exact congrArg Host.Outcome.next ((State.command_runs _ hruns (by simp [ha])).trans (if_neg (by simp [hin])))

theorem State.loupeTiles_one (s : State) (c : Nat) (tile : BitVec 8) :
    s.loupeTiles c 0 1 0 0 (BitVec.zeroExtend 128 tile).toNat = some [tile.toNat] := by
  have htile : bits (BitVec.zeroExtend 128 tile).toNat 0 8 = tile.toNat := by
    have hlt : tile.toNat < 256 := tile.isLt
    have hwide : (BitVec.zeroExtend 128 tile).toNat = tile.toNat % 2 ^ 128 := BitVec.toNat_setWidth 128 tile
    rw [bits, hwide, Nat.shiftRight_zero]
    omega
  rw [State.loupeTiles, if_neg (by decide)]
  exact congrArg (fun n => some [n]) htile

theorem loupeRequest_one {tile : BitVec 8} (hruns : s.runs h { op := 0x0502 }) (hfree : (s.takeCmd h.tag.toNat 0x0502).health.loupe = []) :
    exec (.loupeRequest h 0 1 0 0 (BitVec.zeroExtend 128 tile)) s = .next
      (((s.takeCmd h.tag.toNat 0x0502).loupeQueue [tile.toNat]).2.ok (cmdOf h 0x0502)
        [(4, ((s.takeCmd h.tag.toNat 0x0502).loupeQueue [tile.toNat]).1), (1, 1)]) := by
  have htiles : (s.takeCmd h.tag.toNat 0x0502).loupeTiles (cmdOf h 0x0502).ctx (0 : BitVec 8).toNat (1 : BitVec 8).toNat
      (0 : BitVec 16).toNat (0 : BitVec 8).toNat (BitVec.zeroExtend 128 tile).toNat = some [tile.toNat] := State.loupeTiles_one _ _ tile
  have hone : [tile.toNat].eraseDups = [tile.toNat] := rfl
  refine congrArg Host.Outcome.next ((State.command_runs _ hruns (by decide)).trans ?_)
  dsimp only
  rw [htiles]
  dsimp only
  rw [hone, hfree]
  exact if_neg (by simp)

theorem loupeStop_idle (hruns : s.runs h { op := 0x0503, forms := true }) (hfree : (s.takeCmd h.tag.toNat 0x0503).health.loupe = [])
    (hform : bitOf h.flags.toNat 0 = false) :
    exec (.loupeStop h) s = .next ((s.takeCmd h.tag.toNat 0x0503).ok (cmdOf h 0x0503) [(1, 0)]) := by
  have hdrain : ¬ (cmdOf h 0x0503).form = 1 := by rw [form_of_bit, hform]; decide
  refine congrArg Host.Outcome.next ((State.command_runs _ hruns rfl).trans ?_)
  dsimp only
  rw [hfree, List.filter_nil, List.foldl_nil, hfree, if_neg hdrain]
  rfl

theorem rotationPause_idle (hruns : s.runs h { op := 0x0504, forms := true })
    (hfree : (s.takeCmd h.tag.toNat 0x0504).health.rotation = none) (hform : bitOf h.flags.toNat 0 = false) :
    exec (.rotationPause h) s = .next (((s.takeCmd h.tag.toNat 0x0504).setBit HLTH_CFG HLTH_CFG.paused true).ok (cmdOf h 0x0504) []) := by
  have hdrain : ¬ (cmdOf h 0x0504).form = 1 := by rw [form_of_bit, hform]; decide
  have hnone : ((s.takeCmd h.tag.toNat 0x0504).setBit HLTH_CFG HLTH_CFG.paused true).health.rotation = none := hfree
  refine congrArg Host.Outcome.next ((State.command_runs _ hruns rfl).trans ?_)
  dsimp only
  rw [hnone]
  exact if_neg hdrain

theorem tileFence_idle {tile : BitVec 8} (hruns : s.runs h { op := 0x0506 })
    (hstate : (s.takeCmd h.tag.toNat 0x0506).hState tile.toNat ≠ 3) :
    let t := ((s.takeCmd h.tag.toNat 0x0506).abandonTest tile.toNat).testsDone false
    t.workOn tile.toNat = none →
    exec (.tileFence h tile) s = .next ((t.fenceRecord tile.toNat 0x0D true t.tb).ok (cmdOf h 0x0506) []) := by
  intro t hnone
  refine congrArg Host.Outcome.next ((State.command_runs _ hruns rfl).trans ((if_neg hstate).trans ?_))
  dsimp only
  rw [hnone]

theorem tileRetest_queues {tile : BitVec 8} (hruns : s.runs h { op := 0x0507 })
    (hstate : (s.takeCmd h.tag.toNat 0x0507).hState tile.toNat = 3)
    (hperm : (s.takeCmd h.tag.toNat 0x0507).bit (HLTH_TILE tile.toNat) HLTH_TILE.permanent = false)
    (hnew : (s.takeCmd h.tag.toNat 0x0507).inLoupe tile.toNat = false) (hfree : (s.takeCmd h.tag.toNat 0x0507).lease tile.toNat = none) :
    let u := s.takeCmd h.tag.toNat 0x0507
    exec (.tileRetest h tile) s = .next (({ u with health := { u.health with
      loupe := u.health.loupe ++ [({ tile := tile.toNat, retest := true } : LoupeTile)] } } : State).loupeView.ok (cmdOf h 0x0507) []) :=
  congrArg Host.Outcome.next ((State.command_runs _ hruns rfl).trans
    ((if_neg (by simp [hstate, hperm])).trans (if_neg (by simp [hnew, hfree]))))

/-! ## HEALTH_CONFIG: a tile that is not GOOD is only marked (R257) -/

/-- `t` has the health configuration of `s`, and its states of the tiles' records. -/
def State.keepsHealth (s t : State) : Prop := t.reg HLTH_CFG = s.reg HLTH_CFG ∧ ∀ p < 256, t.hState p = s.hState p

theorem State.keepsHealth.trans {u : State} (h : s.keepsHealth t) (h' : t.keepsHealth u) : s.keepsHealth u := by
  obtain ⟨hcfg, hstate⟩ := h
  obtain ⟨hcfg', hstate'⟩ := h'
  exact ⟨hcfg'.trans hcfg, fun p hp => (hstate' p hp).trans (hstate p hp)⟩

theorem hlthCfg_ne_tile (p : Nat) : HLTH_CFG ≠ HLTH_TILE p := by
  unfold HLTH_CFG HLTH_TILE
  omega

theorem hlthTile_inj {p q : Nat} (h : p ≠ q) : HLTH_TILE q ≠ HLTH_TILE p := by
  unfold HLTH_TILE
  omega

theorem State.keepsHealth_why (s : State) (p w : Nat) : s.keepsHealth (s.setHealth p HLTH_TILE.degraded_why w) := by
  refine ⟨State.reg_setReg_ne (hlthCfg_ne_tile p), fun q _ => ?_⟩
  by_cases hpq : p = q
  · subst hpq
    exact State.fld_setFld_beside (by decide) (by decide) (by decide)
  · exact State.fld_setFld_ne (hlthTile_inj hpq)

theorem State.keepsHealth_degrade {p : Nat} (hgood : s.hState p ≠ 1) : s.keepsHealth (s.degrade p) := by
  unfold State.degrade
  rw [if_neg fun ⟨h, _⟩ => hgood h]
  exact s.keepsHealth_why p _

theorem State.keepsHealth_degradeAll (hgood : ∀ p < 256, s.hState p ≠ 1) {l : List Nat} (hl : ∀ p ∈ l, p < 256) :
    s.keepsHealth (l.foldl (fun s p => s.degrade p) s) := by
  induction l generalizing s with
  | nil => exact ⟨rfl, fun _ _ => rfl⟩
  | cons p l ih =>
    have hfirst := State.keepsHealth_degrade (hgood p (hl p List.mem_cons_self))
    have hstate := hfirst.2
    exact hfirst.trans (ih (fun q hq => by rw [hstate q hq]; exact hgood q hq) fun q hq => hl q (List.mem_cons_of_mem p hq))

/-- The three settings of HEALTH_CONFIG. -/
def State.healthSet (s : State) (w a l : Nat) : State :=
  ((s.setFld HLTH_CFG HLTH_CFG.remap_warn w).setFld HLTH_CFG HLTH_CFG.age_action a).setFld HLTH_CFG HLTH_CFG.test_age_limit_h l

theorem State.healthSet_fields {w a l : Nat} (hw : w < 32) (ha : a < 2) (hl : l < 256) :
    (s.healthSet w a l).fld HLTH_CFG HLTH_CFG.remap_warn = w ∧ (s.healthSet w a l).fld HLTH_CFG HLTH_CFG.age_action = a ∧
      (s.healthSet w a l).fld HLTH_CFG HLTH_CFG.test_age_limit_h = l := by
  refine ⟨?_, ?_, State.fld_setFld_lt (by decide) hl⟩
  · exact (State.fld_setFld_beside (by decide) (by decide) (by decide)).trans
      ((State.fld_setFld_beside (by decide) (by decide) (by decide)).trans (State.fld_setFld_lt (by decide) hw))
  · exact (State.fld_setFld_beside (by decide) (by decide) (by decide)).trans (State.fld_setFld_lt (by decide) ha)

theorem State.hState_healthSet {w a l p : Nat} : (s.healthSet w a l).hState p = s.hState p := by
  have hne := (hlthCfg_ne_tile p).symm
  rw [State.hState, State.healthSet, State.fld_setFld_ne hne, State.fld_setFld_ne hne, State.fld_setFld_ne hne, State.hState]

/-- The map after HEALTH_CONFIG, published where a record changed. -/
def State.healthConfigured (s : State) : State :=
  let t := (List.range 256).foldl (fun s p => s.degrade p) s
  if (List.range 256).any (fun p => s.reg (HLTH_TILE p) != t.reg (HLTH_TILE p)) then t.publish else t

theorem State.healthConfigured_cfg (hgood : ∀ p < 256, s.hState p ≠ 1) (f : Field) :
    s.healthConfigured.fld HLTH_CFG f = s.fld HLTH_CFG f := by
  obtain ⟨hcfg, -⟩ := State.keepsHealth_degradeAll hgood (l := List.range 256) fun p => List.mem_range.1
  unfold State.healthConfigured
  generalize (List.range 256).foldl (fun s p => s.degrade p) s = t at hcfg
  rw [State.fld, State.fld]
  exact congrArg f.get (ite_k (fun x : State => x.reg HLTH_CFG = s.reg HLTH_CFG)
    ((t.regsBut_publish HLTH_CFG (by decide)).trans hcfg) hcfg)

/-- The settings of HEALTH_CONFIG as the command gives them, each with "keep". -/
def State.healthPut (s : State) (f : Field) (v : BitVec 8) : State := s.setFld HLTH_CFG f (keepOr 8 v.toNat (s.fld HLTH_CFG f))

theorem State.healthPut_of_lt {f : Field} {v : BitVec 8} (hv : v.toNat < 255) : s.healthPut f v = s.setFld HLTH_CFG f v.toNat :=
  congrArg (s.setFld HLTH_CFG f) (keepOr_of_lt _ hv)

theorem healthConfig_puts {w a l : BitVec 8} (hruns : s.runs h { op := 0x0508 }) (hw : 4 ≤ w.toNat) (hw' : w.toNat ≤ 16)
    (ha : a.toNat ≤ 1) (hl : 4 ≤ l.toNat) (hl' : l.toNat ≤ 168) : exec (.healthConfig h w a l) s = .next
      (((((s.takeCmd h.tag.toNat 0x0508).healthPut HLTH_CFG.remap_warn w).healthPut HLTH_CFG.age_action a).healthPut
        HLTH_CFG.test_age_limit_h l).healthConfigured.ok (cmdOf h 0x0508) []) :=
  congrArg Host.Outcome.next (State.command_runs _ hruns (by simp [hw, hw', ha, hl, hl']))

theorem healthConfig_runs {w a l : BitVec 8} (hruns : s.runs h { op := 0x0508 }) (hw : 4 ≤ w.toNat) (hw' : w.toNat ≤ 16)
    (ha : a.toNat ≤ 1) (hl : 4 ≤ l.toNat) (hl' : l.toNat ≤ 168) : exec (.healthConfig h w a l) s = .next
      (((s.takeCmd h.tag.toNat 0x0508).healthSet w.toNat a.toNat l.toNat).healthConfigured.ok (cmdOf h 0x0508) []) := by
  rw [healthConfig_puts hruns hw hw' ha hl hl', State.healthPut_of_lt (by omega), State.healthPut_of_lt (by omega),
    State.healthPut_of_lt (by omega), State.healthSet]

/-! ## Memory and transfer engines (R311, R319) -/

theorem memAlloc_device {kind : BitVec 8} {pages : BitVec 32} {a : Nat} (hruns : s.runs h { op := 0x0401, need := .orDevice })
    (hctx : h.ctx = 0xFF) (hkind : kind.toNat ≤ 2) (hpages : pages ≠ 0)
    (hspace : (s.takeCmd h.tag.toNat 0x0401).findSpace kind.toNat (pages.toNat * pageBytes) = some a) :
    let u := s.takeCmd h.tag.toNat 0x0401
    exec (.memAlloc h kind 0 pages) s = .next ((u.openAlloc 16 { addr := a, bytes := pages.toNat * pageBytes, owner := 16 }).elim
      (u.reply (cmdOf h 0x0401) stNO_MEMORY 0) (fun t => t.ok (cmdOf h 0x0401) [(8, a)])) := by
  have hpages0 : ¬ pages = 0#32 := hpages
  have hdev : (cmdOf h 0x0401).ctx = 0xFF := congrArg BitVec.toNat hctx
  refine congrArg Host.Outcome.next ((State.command_runs _ hruns (by simp [hkind, hpages0])).trans ?_)
  dsimp only
  rw [hspace, if_pos hdev]
  exact if_pos rfl

theorem memFree_device {address : BitVec 64} {x : Alloc} (hruns : s.runs h { op := 0x0402 })
    (hfound : (s.takeCmd h.tag.toNat 0x0402).allocs.find? (fun y => y.addr == address.toNat && !y.created) = some x) (howner : x.owner = 16)
    (hrange : x.range = none) :
    let u := s.takeCmd h.tag.toNat 0x0402
    exec (.memFree h address) s = .next ((({ u with allocs := u.allocs.erase x } : State).followXts 16).ok (cmdOf h 0x0402) []) := by
  refine congrArg Host.Outcome.next ((State.command_runs _ hruns rfl).trans ?_)
  dsimp only
  rw [hfound]
  dsimp only
  rw [howner, hrange, if_neg fun ⟨hlt, _⟩ => absurd hlt (by decide)]

section Engine
variable {e : BitVec 8} (he : e.toNat < 32) (hn : 8 ≤ e.toNat % 16)
include he hn

theorem hostEngine_of : hostEngine e.toNat = true := by simp [hostEngine, he, hn]

theorem xeStop_runs (hruns : s.runs h { op := 0x0404, forms := true })
    (hgoes : (s.takeCmd h.tag.toNat 0x0404).bit (XE_ENG_STATUS (e.toNat / 16) (e.toNat % 16)) XE_ENG_STATUS.halted = false) :
    exec (.xeStop h e) s = .next (((s.takeCmd h.tag.toNat 0x0404).await (cmdOf h 0x0404) e.toNat 0).xeHalt (e.toNat / 16) (e.toNat % 16)
      (cmdOf h 0x0404).form) :=
  congrArg Host.Outcome.next ((State.command_runs _ hruns (hostEngine_of he hn)).trans (if_neg (by simp [hgoes])))

theorem xeResume_runs (hruns : s.runs h { op := 0x0405 })
    (hhalt : (s.takeCmd h.tag.toNat 0x0405).bit (XE_ENG_STATUS (e.toNat / 16) (e.toNat % 16)) XE_ENG_STATUS.halted = true) :
    exec (.xeResume h e) s = .next (((s.takeCmd h.tag.toNat 0x0405).xeResume (e.toNat / 16) (e.toNat % 16)).ok (cmdOf h 0x0405) []) :=
  congrArg Host.Outcome.next ((State.command_runs _ hruns (hostEngine_of he hn)).trans (if_neg (by simp [hhalt])))

end Engine

/-- The registers of an engine that is assigned to the device. -/
def State.engineRegs (s : State) (g n ring cpl : Nat) : State :=
  let s := ((s.setBit (XE_ENG_CFG g n) XE_ENG_CFG.assigned true).setBit (XE_ENG_CFG g n) XE_ENG_CFG.device_use true).setFld (XE_ENG_CFG g n)
    XE_ENG_CFG.ctx 0
  (s.setReg (XE_ENG_RING g n) (BitVec.ofNat 64 ring)).setReg (XE_ENG_CPL g n) (BitVec.ofNat 64 cpl)

theorem xeEngCfg_ne_ring (g n : Nat) : XE_ENG_CFG g n ≠ XE_ENG_RING g n := by
  unfold XE_ENG_CFG XE_ENG_RING
  omega

theorem xeEngCfg_ne_cpl (g n : Nat) : XE_ENG_CFG g n ≠ XE_ENG_CPL g n := by
  unfold XE_ENG_CFG XE_ENG_CPL
  omega

theorem xeEngRing_ne_cpl (g n : Nat) : XE_ENG_RING g n ≠ XE_ENG_CPL g n := by
  unfold XE_ENG_RING XE_ENG_CPL
  omega

theorem xeEngStatus_ne (g n : Nat) : XE_ENG_CFG g n ≠ XE_ENG_STATUS g n ∧ XE_ENG_RING g n ≠ XE_ENG_STATUS g n := by
  unfold XE_ENG_CFG XE_ENG_RING XE_ENG_STATUS
  omega

theorem State.engineRegs_effect (s : State) (g n ring cpl : Nat) :
    (s.engineRegs g n ring cpl).fld (XE_ENG_CFG g n) XE_ENG_CFG.assigned = 1 ∧
    (s.engineRegs g n ring cpl).fld (XE_ENG_CFG g n) XE_ENG_CFG.device_use = 1 ∧
    (s.engineRegs g n ring cpl).fld (XE_ENG_RING g n) XE_ENG_RING.base = ring % 2 ^ XE_ENG_RING.base.width := by
  have hcfg : ∀ f, (s.engineRegs g n ring cpl).fld (XE_ENG_CFG g n) f = (((s.setBit (XE_ENG_CFG g n) XE_ENG_CFG.assigned true).setBit
      (XE_ENG_CFG g n) XE_ENG_CFG.device_use true).setFld (XE_ENG_CFG g n) XE_ENG_CFG.ctx 0).fld (XE_ENG_CFG g n) f := fun f => by
    rw [State.engineRegs, State.fld, State.reg_setReg_ne (xeEngCfg_ne_cpl g n), State.reg_setReg_ne (xeEngCfg_ne_ring g n), State.fld]
  refine ⟨?_, ?_, ?_⟩
  · rw [hcfg]
    exact (State.fld_setFld_beside (by decide) (by decide) (by decide)).trans
      ((State.fld_setFld_beside (by decide) (by decide) (by decide)).trans (State.fld_setFld_lt (by decide) (by decide)))
  · rw [hcfg]
    exact (State.fld_setFld_beside (by decide) (by decide) (by decide)).trans (State.fld_setFld_lt (by decide) (by decide))
  · rw [State.engineRegs, State.fld, State.reg_setReg_ne (xeEngRing_ne_cpl g n), State.reg_setReg_self, Field.get, BitVec.toNat_ofNat]
    exact Nat.mod_mod_of_dvd ring (Nat.pow_dvd_pow 2 (by decide))

/-- An engine whose rings start at index 0, and its view. -/
def State.engineFresh (s : State) (g n : Nat) : State := (s.setEng g n { last := (s.eng g n).last }).engView g n

theorem State.engView_of_nothing_due {g n : Nat} (h : (s.eng g n).due = []) : s.engView g n =
    (s.setFld (XE_ENG_STATUS g n) XE_ENG_STATUS.in_progress (s.eng g n).prog.length).setBit (XE_ENG_STATUS g n) XE_ENG_STATUS.cpl_full false := by
  unfold State.engView
  dsimp only
  rw [h, List.isEmpty_nil, if_pos rfl, h]
  rfl

theorem State.engineFresh_effect (s : State) (g n : Nat) :
    s.regsBut (s.engineFresh g n) [XE_ENG_STATUS g n] ∧ (s.engineFresh g n).eng g n = { last := (s.eng g n).last } := by
  have hin := List.mem_singleton_self (XE_ENG_STATUS g n)
  have hself : (s.setEng g n { last := (s.eng g n).last }).eng g n = { last := (s.eng g n).last } := State.eng_setEng_self
  rw [State.engineFresh, State.engView_of_nothing_due (by rw [hself])]
  refine ⟨State.regsBut.setBit (State.regsBut.setFld ?_ hin _ _) hin _ _, ?_⟩
  · exact fun _ _ => rfl
  · exact State.eng_setEng_self

/-- An assigned engine, its rings' indices at 0. -/
def State.engineAssigned (s : State) (g n ring rl cpl cl : Nat) : State :=
  (((s.engineRegs g n (ring + rl * 2 ^ 52) (cpl + cl * 2 ^ 52)).engineFresh g n).putNum (ring + 64) 8 0).putNum cpl 8 0

theorem State.engines_eq (h : t.work = s.work) : t.engines = s.engines := show t.work.engines = s.work.engines from congrArg State.engines h

theorem State.engineAssigned_effect (s : State) (g n ring rl cpl cl : Nat) :
    let t := s.engineAssigned g n ring rl cpl cl
    t.bit (XE_ENG_CFG g n) XE_ENG_CFG.assigned = true ∧ t.bit (XE_ENG_CFG g n) XE_ENG_CFG.device_use = true ∧
      t.fld (XE_ENG_RING g n) XE_ENG_RING.base = (ring + rl * 2 ^ 52) % 2 ^ XE_ENG_RING.base.width ∧
      (t.eng g n).next = 0 ∧ (t.eng g n).prog = [] := by
  obtain ⟨hassigned, hdevice, hbase⟩ := s.engineRegs_effect g n (ring + rl * 2 ^ 52) (cpl + cl * 2 ^ 52)
  obtain ⟨hregs, heng⟩ := (s.engineRegs g n (ring + rl * 2 ^ 52) (cpl + cl * 2 ^ 52)).engineFresh_effect g n
  obtain ⟨hcfg, hring⟩ := xeEngStatus_ne g n
  dsimp only
  unfold State.engineAssigned
  generalize s.engineRegs g n (ring + rl * 2 ^ 52) (cpl + cl * 2 ^ 52) = u at *
  generalize u.engineFresh g n = v at *
  have hfld : ∀ a f, ((v.putNum (ring + 64) 8 0).putNum cpl 8 0).fld a f = v.fld a f := fun a f => by
    rw [State.fld, State.reg, State.putNum, State.regs_put, State.putNum, State.regs_put, State.fld, State.reg]
  have hwork : ((v.putNum (ring + 64) 8 0).putNum cpl 8 0).eng g n = v.eng g n :=
    congrArg (fun m => tget ({} : Engine) m (g * 16 + n)) (State.engines_eq (State.work_put.trans State.work_put))
  refine ⟨?_, ?_, ?_, ?_, ?_⟩
  · rw [State.bit, hfld, hregs.fld_eq (by simpa using hcfg), hassigned]
    rfl
  · rw [State.bit, hfld, hregs.fld_eq (by simpa using hcfg), hdevice]
    rfl
  · rw [hfld, hregs.fld_eq (by simpa using hring), hbase]
  · rw [hwork, heng]
  · rw [hwork, heng]

theorem xeAssign_runs {e rl cl : BitVec 8} {ring cpl : BitVec 64} (he : e.toNat < 32) (hn : 8 ≤ e.toNat % 16)
    (hruns : s.runs h { op := 0x0403, need := .orDevice }) (hctx : h.ctx = 0xFF) (hrl : 6 ≤ rl.toNat) (hrl' : rl.toNat ≤ 16)
    (hcl : 6 ≤ cl.toNat) (hcl' : cl.toNat ≤ 16) (hring : ring.toNat % 4096 = 0) (hcpl : cpl.toNat % 4096 = 0)
    (hhalt : (s.takeCmd h.tag.toNat 0x0403).bit (XE_ENG_STATUS (e.toNat / 16) (e.toNat % 16)) XE_ENG_STATUS.halted = true)
    (hrok : (s.takeCmd h.tag.toNat 0x0403).ringOk 16 ring.toNat (128 + 2 ^ rl.toNat * 64) = true)
    (hcok : (s.takeCmd h.tag.toNat 0x0403).ringOk 16 cpl.toNat (128 + 2 ^ cl.toNat * 32) = true) :
    exec (.xeAssign h e rl cl ring cpl) s = .next (((s.takeCmd h.tag.toNat 0x0403).engineAssigned (e.toNat / 16) (e.toNat % 16)
      ring.toNat rl.toNat cpl.toNat cl.toNat).ok (cmdOf h 0x0403) []) := by
  have hdev : (cmdOf h 0x0403).ctx = 0xFF := congrArg BitVec.toNat hctx
  refine congrArg Host.Outcome.next ((State.command_runs _ hruns (by simp [he, hn, hrl, hrl', hcl, hcl', hring, hcpl])).trans
    ((if_neg (by simp [hhalt])).trans ?_))
  dsimp only
  rw [if_pos hdev, if_neg (by simp [hrok, hcok]), if_pos rfl]
  rfl

/-- Settles O44: each command's effect on the state in which it is taken. -/
theorem healthAndMemoryCommands : Obligations.HealthAndMemoryCommands := by
  unfold Obligations.HealthAndMemoryCommands
  intro s h
  refine ⟨fun buffer => healthRead_runs, fun tile tiles hruns hfree htiles => ?_, loupeStop_idle, rotationPause_idle,
    fun hruns => congrArg Host.Outcome.next (State.command_runs _ hruns rfl), fun tile => tileFence_idle, fun tile => tileRetest_queues,
    fun w a l hruns hw hw' ha hl hl' hgood => ⟨_, healthConfig_runs hruns hw hw' ha hl hl', ?_⟩, fun kind pages a => memAlloc_device,
    fun address x => memFree_device, fun e he hn => ⟨xeStop_runs he hn, xeResume_runs he hn,
      fun rl cl ring cpl hruns hctx hrl hrl' hcl hcl' hring hcpl hhalt hrok hcok => ?_⟩⟩
  · rw [htiles]
    exact loupeRequest_one hruns hfree
  · have hcfg := State.healthConfigured_cfg (s := (s.takeCmd h.tag.toNat 0x0508).healthSet w.toNat a.toNat l.toNat)
      (fun p hp => by rw [State.hState_healthSet]; exact hgood p hp)
    obtain ⟨hwarn, hage, hlimit⟩ := State.healthSet_fields (s := s.takeCmd h.tag.toNat 0x0508) (w := w.toNat) (a := a.toNat)
      (l := l.toNat) (by omega) (by omega) (by omega)
    exact ⟨(hcfg _).trans hwarn, (hcfg _).trans hage, (hcfg _).trans hlimit⟩
  · have hrun := xeAssign_runs he hn hruns hctx hrl hrl' hcl hcl' hring hcpl hhalt hrok hcok
    have heffect := (s.takeCmd h.tag.toNat 0x0403).engineAssigned_effect (e.toNat / 16) (e.toNat % 16) ring.toNat rl.toNat cpl.toNat cl.toNat
    exact ⟨_, hrun, heffect⟩

end Sys2Proof.Machine
end

section
/-! SUPPORT. The commands of the links and of security, where they pass their checks. -/
namespace Sys2Proof.Machine

variable {s : State} {h : CmdHdr}

/-! ## Links (R360, R364, R381) -/

section Port
variable {port : BitVec 8} (hport : port.toNat < 12)
include hport

theorem lnEnable_trains {train : Option LnTrain} (hruns : s.runs h { op := 0x0A01 })
    (hoff : (s.takeCmd h.tag.toNat 0x0A01).lnState port.toNat = 0) (hlane : (s.takeCmd h.tag.toNat 0x0A01).lnWidth port.toNat ≠ none) :
    exec (.lnEnable h port train) s = .next
      (((s.takeCmd h.tag.toNat 0x0A01).await (cmdOf h 0x0A01) port.toNat 0).lnTrain port.toNat train) :=
  congrArg Host.Outcome.next ((State.command_runs _ hruns (decide_eq_true hport)).trans
    ((if_neg (by simp [hoff])).trans ((if_neg (not_not_intro hoff)).trans (if_neg (by simp [Option.isNone_iff_eq_none, hlane])))))

theorem lnEnable_fenced {train : Option LnTrain} (hruns : s.runs h { op := 0x0A01 })
    (hfenced : (s.takeCmd h.tag.toNat 0x0A01).lnState port.toNat = 6) :
    exec (.lnEnable h port train) s = .next ((s.takeCmd h.tag.toNat 0x0A01).refuse (cmdOf h 0x0A01) 0x03) :=
  congrArg Host.Outcome.next ((State.command_runs _ hruns (decide_eq_true hport)).trans (if_pos hfenced))

theorem lnDisable_runs (hruns : s.runs h { op := 0x0A02, forms := true })
    (hon : (s.takeCmd h.tag.toNat 0x0A02).lnState port.toNat ≠ 0) (hup : (s.takeCmd h.tag.toNat 0x0A02).lnUp port.toNat = true) :
    exec (.lnDisable h port) s = .next
      (((s.takeCmd h.tag.toNat 0x0A02).await (cmdOf h 0x0A02) port.toNat 0).lnDisable port.toNat (bitOf h.flags.toNat 0)) := by
  have hform : ((cmdOf h 0x0A02).form == 1) = bitOf h.flags.toNat 0 := by
    rw [form_of_bit]
    cases bitOf h.flags.toNat 0 <;> rfl
  refine congrArg Host.Outcome.next ((State.command_runs _ hruns (decide_eq_true hport)).trans
    ((if_neg hon).trans ((if_neg (by simp [hup])).trans ?_)))
  rw [hform]

/-- A READY context, its remotes up, that joins nothing yet asks on an ACTIVE port. -/
theorem lnJoin_asks {vid : BitVec 8} {step : BitVec 64} (hruns : s.runs h { op := 0x0A04, need := .exists }) :
    let v := s.takeCmd h.tag.toNat 0x0A04
    let pl := (v.ctx h.ctx.toNat).plate
    v.cState h.ctx.toNat = 3 → (pl.remotes.filter (fun r => r.role == 1)).all (fun r => v.lnState (nibble r.nibbles 0) == 3) = true →
    v.joinOf h.ctx.toNat = none → v.sb.estop = false → v.bit (XE_VMAP 0 h.ctx.toNat vid.toNat) XE_VMAP.valid = true →
    v.lnState port.toNat = 3 → exec (.lnJoin h port vid step) s = .next
      (((v.await (cmdOf h 0x0A04) port.toNat 0).setJoin h.ctx.toNat { port := port.toNat, vid := vid.toNat, step := step.toNat }).lnManage
        port.toNat false { kind := fJOINREQ } (leBytes 8 pl.plateId ++ padTo 32 pl.proof)) := by
  intro v pl hready hup hnone hstop hvid hactive
  refine congrArg Host.Outcome.next ((State.command_runs _ hruns (decide_eq_true hport)).trans
    ((if_neg ?_).trans ((if_neg (Bool.eq_false_iff.1 (congrArg Bool.not hvid))).trans (if_neg (not_not_intro hactive)))))
  rintro (hstate | hdown | hjoined | hstopped)
  · exact hstate hready
  · exact Bool.false_ne_true ((congrArg Bool.not hup).symm.trans hdown)
  · exact Bool.false_ne_true ((congrArg Option.isSome hnone).symm.trans hjoined)
  · exact Bool.false_ne_true (hstop.symm.trans hstopped)

end Port

/-! ## Security (R389, R391, R396, R398) -/

section Buffer
variable {buffer : BitVec 64} (ha : aligned64 buffer.toNat = true)
include ha

theorem attest_queues {nonce : BitVec 256} (hruns : s.runs h { op := 0x0701, need := .orDevice, served := true })
    (hroom : (s.takeCmd h.tag.toNat 0x0701).bit SEC_STATUS SEC_STATUS.exhausted = false) :
    let u := s.takeCmd h.tag.toNat 0x0701
    let t := u.await (cmdOf h 0x0701) 0 0
    exec (.attest h nonce buffer) s = .next (if inHost buffer.toNat (u.attestLength h.ctx.toNat) then
        t.queueSign { cmd := (t.waiting.getLast?).getD {}, nonce := leBytes 32 nonce.toNat, buffer := buffer.toNat }
      else u.reply (cmdOf h 0x0701) stACCESS 0) := by
  dsimp only
  refine congrArg Host.Outcome.next ((State.command_runs _ hruns ha).trans ?_)
  cases hin : inHost buffer.toNat ((s.takeCmd h.tag.toNat 0x0701).attestLength h.ctx.toNat) with
  | true => exact (if_neg (Bool.eq_false_iff.1 (congrArg Bool.not hin))).trans ((if_neg (by simp [hroom])).trans (if_pos rfl).symm)
  | false => exact (if_pos (congrArg Bool.not hin)).trans (if_neg Bool.false_ne_true).symm

/-- The checks of KEY_IMPORT before the unwrapping of the key. -/
theorem keyImport_unwraps {slot : BitVec 16} (hruns : s.runs h { op := 0x0702, need := .exists })
    (hin : inHost buffer.toNat 1692 = true) :
    let v := s.takeCmd h.tag.toNat 0x0702
    let b := v.bytes buffer.toNat 1692
    ofBytes (b.take 4) = 0x4B4B5255 → ofBytes ((b.drop 4).take 2) = 1 → ofBytes ((b.drop 6).take 2) = 0 →
    v.isConf h.ctx.toNat = true → slot.toNat ≤ 15 → ofBytes ((b.drop 0x30).take 16) = 0 → v.cState h.ctx.toNat = 1 →
    (unwrapKey b = none → exec (.keyImport h slot buffer 1692) s = .next ((v.importNote true).reply (cmdOf h 0x0702) stAUTH 0)) ∧
    ∀ key, unwrapKey b = some key → exec (.keyImport h slot buffer 1692) s =
      let w : WeightKey := { key := padTo 32 key, signer := (b.drop 0x10).take 32, plateId := ofBytes ((b.drop 8).take 8) }
      let t : State := { v with weightKeys := tset {} v.weightKeys (h.ctx.toNat * 16 + slot.toNat) w }
      .next (((t.slotsView h.ctx.toNat).importNote false).ok (cmdOf h 0x0702) []) := by
  intro v b hmagic hversion hzero hconf hslot hany hidle
  have hidle' : ∀ k, k ≠ 1 → ¬ v.cState (cmdOf h 0x0702).ctx = k := fun k hk hst => hk (hst.symm.trans hidle)
  refine ⟨fun hbad => ?_, fun key hgood => ?_⟩
  all_goals
    refine congrArg Host.Outcome.next ((State.command_runs _ hruns (by simp [ha])).trans
      ((if_neg (Bool.eq_false_iff.1 (congrArg Bool.not hin))).trans ((if_neg ?_).trans ((if_neg (Bool.eq_false_iff.1 (congrArg Bool.not hconf))).trans
        ((if_neg (Nat.not_lt.2 hslot)).trans ((if_neg fun hnot => hnot.1 hany).trans ((if_neg ?_).trans ?_)))))))
    · exact not_or.2 ⟨not_not_intro hmagic, not_or.2 ⟨not_not_intro hversion, not_not_intro hzero⟩⟩
    · rintro ⟨-, hst | hst | hst | hst⟩
      · exact hidle' 2 (by decide) hst
      · exact hidle' 4 (by decide) hst
      · exact hidle' 5 (by decide) hst
      · exact hidle' 7 (by decide) hst
  · dsimp only
    rw [show unwrapKey ((s.takeCmd h.tag.toNat 0x0702).bytes buffer.toNat 1692) = none from hbad]
  · dsimp only
    rw [show unwrapKey ((s.takeCmd h.tag.toNat 0x0702).bytes buffer.toNat 1692) = some key from hgood]
    rfl

section Enroll
variable {k : Nat} (hruns : s.runs h { op := 0x0703 }) (hin : inHost buffer.toNat 64 = true)
include hruns hin

theorem keyEnroll_enrolls :
    let v := s.takeCmd h.tag.toNat 0x0703
    let key := v.bytes (buffer.toNat + 4) 60
    v.num buffer.toNat 4 = 0 → v.slotOfKey key = none → v.emptySlot = some k →
      exec (.keyEnroll h buffer 64) s = .next ((v.setEnrolled k key).ok (cmdOf h 0x0703) [(32, ofBytes (sha256 key))]) := by
  intro v key hop hnew hfree
  refine congrArg Host.Outcome.next ((State.command_runs _ hruns (by simp [ha])).trans
    ((if_neg (Bool.eq_false_iff.1 (congrArg Bool.not hin))).trans ?_))
  dsimp only
  rw [hop]
  rw [hnew, hfree]
  rfl

theorem keyEnroll_removes :
    let v := s.takeCmd h.tag.toNat 0x0703
    let key := v.bytes (buffer.toNat + 4) 60
    v.num buffer.toNat 4 = 1 → v.slotOfKey key = some k → v.keyNamed key = false →
      exec (.keyEnroll h buffer 64) s = .next ((v.setEnrolled k []).ok (cmdOf h 0x0703) [(32, ofBytes (sha256 key))]) := by
  intro v key hop hold hnamed
  refine congrArg Host.Outcome.next ((State.command_runs _ hruns (by simp [ha])).trans
    ((if_neg (Bool.eq_false_iff.1 (congrArg Bool.not hin))).trans ?_))
  dsimp only
  rw [hop]
  rw [hold]
  exact if_neg (Bool.eq_false_iff.1 hnamed)

end Enroll

end Buffer

/-- Settles O45: each command's effect on the state in which it is taken. -/
theorem linkAndSecurityCommands : Obligations.LinkAndSecurityCommands := by
  unfold Obligations.LinkAndSecurityCommands
  intro s h
  refine ⟨fun port train hport => ⟨lnEnable_trains hport, lnEnable_fenced hport, lnDisable_runs hport, fun vid step => lnJoin_asks hport⟩,
    fun buffer ha => ⟨fun nonce => attest_queues ha, fun slot hruns hin => ?_,
      fun hruns hin => ⟨fun k => keyEnroll_enrolls ha hruns hin, fun k => keyEnroll_removes ha hruns hin⟩⟩⟩
  intro v b hmagic hversion hzero hconf hslot hany hidle
  obtain ⟨hbad, hgood⟩ := keyImport_unwraps ha hruns hin hmagic hversion hzero hconf hslot hany hidle
  rcases hkey : unwrapKey b with _ | key
  · exact hbad hkey
  · exact hgood key hkey

end Sys2Proof.Machine
end
